-- ==== Sys2Proof/Word.lean ====
section
/-! DEFINITION. The words of the module: octets, 32-bit registers (R2) and the 64-bit words of event
packets (R395). -/
namespace Sys2Proof

/-- An octet. -/
abbrev Byte := BitVec 8

/-- A register word: every register is 32 bits wide (R2). -/
abbrev Word := BitVec 32

/-- A word of an event queue (R395). -/
abbrev Word64 := BitVec 64

/-- The field `[hi:lo]` of a register word, as a number (R4). -/
def Word.field (w : Word) (hi lo : Nat) : Nat := (w.toNat / 2 ^ lo) % 2 ^ (hi - lo + 1)

/-- Bit `b` of a register word (R4). -/
def Word.bit (w : Word) (b : Nat) : Bool := w.getLsbD b

end Sys2Proof
end

