-- ==== Sys2Proof/Syntax/Cmd.lean ====
section
/-! DEFINITION. Operand types of the commands that are not configuration data: stations, clock sources,
the fields of a VTP request (R457, R458) and the messages that reach the module over its ports. -/
namespace Sys2Proof

/-- The thirteen stations (R11). -/
inductive Stn where
  | sys | cfg | tim | rtc | rad | sec | lgt | crs | mtr | eth | pwr | upd | evq
  deriving DecidableEq, Repr

/-- The station's index (R11). -/
def Stn.idx : Stn → Nat
  | .sys => 0 | .cfg => 1 | .tim => 2 | .rtc => 3 | .rad => 4 | .sec => 5 | .lgt => 6
  | .crs => 7 | .mtr => 8 | .eth => 9 | .pwr => 10 | .upd => 11 | .evq => 12

/-- Every station, in ascending index (R11). -/
def Stn.all : List Stn :=
  [.sys, .cfg, .tim, .rtc, .rad, .sec, .lgt, .crs, .mtr, .eth, .pwr, .upd, .evq]

/-- The station of an index, or none at or above 13 (R11, R12). -/
def Stn.ofIdx (n : Nat) : Option Stn := Stn.all[n]?

/-- A VTP request as received (R457, R458): header fields and data octets as words and octets; `record` the number of the DTLS record that carried it
(R453), none for the one after the newest. -/
structure VtpReq where
  record : Option Nat := none
  session : Nat := 0
  tid : Nat := 0
  version : Nat := 1
  typ : Nat := 1
  station : Nat := 0
  offset : Nat := 0
  length : Nat := 0
  words : List Word := []
  args : List Byte := []
  deadline : Nat := 0
  deriving DecidableEq, Repr

/-- A guard-code error that an initiator's read of main SRAM or, when `beat`, a fabric beat met (R64, R66): the word's index or the fabric port, its
erroneous positions, the owner of the word or of the beat's source, and the VTP request whose transaction a beat belongs to, if any. With `stage`
it is a stage of an event queue (R395, R398): the queue and the place of the packet among the visible ones, oldest 0. -/
structure GuardHit where
  beat : Bool := false
  word : Nat := 0
  bad : List Nat := []
  owner : Option Stn := none
  req : Option VtpReq := none
  stage : Option (Nat × Nat) := none
  deriving DecidableEq, Repr

/-- A clock source that can lose lock (R14, R18). The TCXO and the crystal have commands of their own. -/
inductive ClockSrc where
  | pllA | pllB | pllC | pllD
  | serdes (port : Nat)
  deriving DecidableEq, Repr

/-- The fields of a VTP request that do not belong to one row (R453, R457): the number of the DTLS record that carried it, none for the one after the
newest, the session it came in on, TID, VERSION and TYPE. A TYPE that R457 does not list is refused; a listed one is the row's own. -/
structure VtpMeta where
  record : Option Nat := none
  session : Nat := 0
  tid : Nat := 0
  version : Nat := 1
  typ : Nat := 1
  deriving DecidableEq, Repr

/-- What every CALL carries beside its arguments (R458): its request fields and DEADLINE in ns of
network time, none when it is zero. -/
structure CallMeta where
  vtp : VtpMeta := {}
  deadline : Option Nat := none
  deriving DecidableEq, Repr

/-- An Announce message (R332), in the fields the data-set comparison and R330 use. -/
structure AnnounceMsg where
  port : Nat := 0
  domain : Nat := 0
  clockId : Nat := 0
  gmId : Nat := 0
  portNum : Nat := 1
  priority1 : Nat := 128
  clockClass : Nat := 6
  accuracy : Nat := 0x20
  variance : Nat := 0
  priority2 : Nat := 128
  stepsRemoved : Nat := 0
  utcOffset : Int := 37
  utcValid : Bool := true
  leap61 : Bool := false
  leap59 : Bool := false
  deriving DecidableEq, Repr

/-- The source of an event or general PTP message: port of arrival, domain, sender and sequence id. -/
structure PtpSrc where
  port : Nat := 0
  domain : Nat := 0
  clockId : Nat := 0
  portNum : Nat := 1
  seq : Nat := 0
  deriving DecidableEq, Repr

/-- What arrives at an Ethernet port (R307, R316, R318, R319): a frame with an SFD as its octets from destination address up to the FCS and the
verdict on the FCS; an mPacket that starts a preemptable frame with SMD-S `smd`, or continues one with SMD-C `smd` and a frag_count, its data up
to its CRC, whether that is the frame's last, and the verdict on its mCRC or FCS; a verify or respond mPacket; or something with a bad SMD. -/
inductive EthRx where
  | frame (octets : List Byte) (fcsOk : Bool)
  | mStart (smd : Nat) (data : List Byte) (last crcOk : Bool)
  | mCont (smd frag : Nat) (data : List Byte) (last crcOk : Bool)
  | verify
  | respond
  | badSmd
  deriving DecidableEq, Repr

/-- The header of a received radio frame (R209, R216, R276, R279), with what its reception measured: frame control, destination PAN and address,
source address with its form, key index, the link sequence number or explicit counter, RSSI and LQI. -/
structure RxHead where
  fcf : Nat := 0xAB69
  destPan : Nat := 0
  dest : Nat := 0
  destExt : Bool := false
  src : Nat := 0
  srcExt : Bool := false
  keyIndex : Nat := 0x20
  explicit_ : Bool := false
  counter : Nat := 0
  rssi : Int := -60
  lqi : Nat := 0
  deriving DecidableEq, Repr

/-- A radio frame as it streams in (R210 to R212): its header, the port of arrival, the captured edge of RADn_SFD in ns of network time, PSDU
length, and the verdicts on FCS and MIC. -/
structure RxFrame extends RxHead where
  port : Nat := 0
  edge : Nat := 0
  psdu : Nat := 33
  fcsOk : Bool := true
  micOk : Bool := true
  deriving DecidableEq, Repr

/-- The kinds of shared resources (R57): NAT entries, key-store slots (three of each NAT entry, for its device key and its link keys, then the 64
shared ones) and frame buffers. -/
inductive Resource where
  | natEntry | keySlot | frameBuffer
  deriving DecidableEq, Repr

/-- What a fabric time-out ends (R44): the target, and the VTP request whose register access went unanswered, none when a station issued it. -/
structure FabricWait where
  station : Stn := .sys
  req : Option VtpReq := none
  deriving DecidableEq, Repr

/-- The word that a scrub reads (R64, R65): its erroneous positions and the station that owns it, none for unallocated memory. -/
structure Scrubbed where
  bad : List Nat := []
  owner : Option Stn := none
  deriving DecidableEq, Repr

/-- What lies ahead outside the module, for the rows that have no operands: whether the boot of the next start meets an uncorrectable guard-code error
(R64), the banks in mV as the next reset of the PMU measures them (R76), and after how many µs PFI rises above 1.05 V again, none where that is not
known yet (R86). -/
structure Ahead where
  bootUe : Bool := false
  bankA : Nat := 3300
  bankB : Nat := 3300
  pfiRise : Option Nat := none
  deriving DecidableEq, Repr

/-- A unit of work that acquires shared resources (R57): a radio frame being received, or a VTP request. -/
inductive Work where
  | frame (f : RxFrame)
  | request (q : VtpReq)
  deriving DecidableEq, Repr

/-- The body of a lantern report (R296): raw fields. -/
structure LanternBody where
  flags : Nat := 0
  temp : Int := -32768
  tAge : Nat := 0
  codes : List Nat := [0, 0, 0, 0]
  lfCtr : Nat := 0
  power : Nat := 0
  energy : Nat := 0
  vmains : Nat := 0
  fw : Nat := 0
  fwdDrop : Nat := 0
  deriving DecidableEq, Repr

end Sys2Proof
end

