-- ==== Sys2Proof/Syntax/Rig.lean ====
section
/-! DEFINITION. What the attached flash holds beside the images: the Rig with its thirteen sections
(R115, R116), the Trims (R123), binning records (R142), metering calibration (R393) and firmware
images (R430). The byte layout of the Rig's sections is not in the spec, so a Rig is held as the
values its sections give; a signature is held as the key that made it. -/
namespace Sys2Proof

/-- A public key, by number: two keys are the same key when the numbers are equal. -/
abbrev KeyId := Nat

/-- The level of an I/O bank (R76). -/
inductive BankLevel where
  | v18 | v33 | notValid
  deriving DecidableEq, Repr

/-- One rule of the time-zone table (R164). Minutes and months as the table gives them. -/
structure TzRule where
  fromYear : Nat := 2000
  stdOffset : Int := 0
  dstDelta : Nat := 0
  startMonth : Nat := 3
  startWeek : Nat := 5
  startWday : Nat := 6
  startUtc : Nat := 60
  endMonth : Nat := 10
  endWeek : Nat := 5
  endWday : Nat := 6
  endUtc : Nat := 60
  deriving DecidableEq, Repr

/-- IDENTITY (R116): segment name, coordinates in 10^-6 degree, segment id and time-zone rules. -/
structure IdentitySec where
  name : List Byte := []
  lat : Int := 0
  lon : Int := 0
  segId : Nat := 0
  tz : List TzRule := []
  deriving DecidableEq, Repr

/-- One port of BACKHAUL (R303, R316, R452). -/
structure EthPortCfg where
  enabled : Bool := false
  anEn : Bool := false
  phy : Bool := false
  phyAd : Nat := 0
  defaultQ : Nat := 0
  preemptEn : Bool := false
  verifyDis : Bool := false
  addFrag : Nat := 0
  verifyTime : Nat := 10
  vid : Option Nat := none
  ipv4 : Option Nat := none
  ipv6 : Option Nat := none
  plen4 : Nat := 24
  gate4 : Option Nat := none
  plen6 : Nat := 64
  gate6 : Option Nat := none
  rqSize : Nat := 16
  tqSize : Nat := 16
  deriving DecidableEq, Repr

/-- A receive rule (R309, ETH_RULEr). -/
structure EthRule where
  valid : Bool := false
  ports : Nat := 0
  tag : Nat := 0
  vid : Nat := 0
  etypeAny : Bool := false
  etype : Nat := 0
  action : Nat := 0
  queue : Nat := 0
  police : Bool := false
  policer : Nat := 0
  deriving DecidableEq, Repr

/-- A perfect-match address entry (R308): PORTS and the 48-bit address. -/
structure EthAddr where
  valid : Bool := false
  ports : Nat := 0
  addr : Nat := 0
  deriving DecidableEq, Repr

/-- A policer (R311): RATE in kbit/s and BURST in octets. -/
structure PolicerCfg where
  rate : Nat := 0
  burst : Nat := 0
  deriving DecidableEq, Repr

/-- BACKHAUL (R116). `transport` of PTP (R332): 0 IEEE 802.3, 4 IPv4, 6 IPv6; `burst` is the
worst-case express burst on a port in octets, as the Rigger finds it for the section (R320). -/
structure BackhaulSec where
  ports : List EthPortCfg := []
  rules : List EthRule := []
  addrs : List EthAddr := []
  policers : List PolicerCfg := []
  tcEn : Bool := false
  domain : Nat := 0
  transport : Nat := 0
  p2p : Bool := false
  pdelayMs : Nat := 1000
  vtpPort : Nat := 50150
  cityCert : KeyId := 0
  idle : Nat := 300
  wakeEn : Bool := false
  wakePort : Nat := 0
  wakeTagged : Bool := false
  wakeVid : Nat := 0
  wakeEtype : Nat := 0x88B5
  wakePat : List Byte := []
  burst : Nat := 2020
  deriving DecidableEq, Repr

/-- Relay hops and repeats of a radio port, with their reference values (R46). -/
structure Tier where
  hUp : Nat := 3
  hDn : Nat := 3
  rUp : Nat := 2
  rDn : Nat := 2
  deriving DecidableEq, Repr

/-- GUARANTEE: the Rig parameters of R46, times in microseconds; `tiers` by radio port. The slot length is set by RADIO (R200). -/
structure GuaranteeSec where
  tDet : Nat := 40000
  pEv : Nat := 200000
  tiers : List Tier := List.replicate 4 {}
  nP : Nat := 106
  tLf : Nat := 10000
  bExp : Nat := 65536
  rS : Nat := 1
  tSrep : Nat := 9000
  nOut : Nat := 64
  hLead : Nat := 2000000
  lTarget : Nat := 400000
  deriving DecidableEq, Repr

/-- A temperature sensor of BOARD (R83, R484): its SPI mode, 0 or 3. -/
structure SensorCfg where
  mode : Nat := 0
  deriving DecidableEq, Repr

/-- The use of a GPIO pin (R94, R416): driven by the module or read, its level and, when it has one, its level in EASY. -/
structure GpioUse where
  pin : Nat := 0
  out : Bool := false
  level : Bool := false
  easy : Option Bool := none
  deriving DecidableEq, Repr

/-- BOARD (R116): delays in ps (R85, R321); `sensors` by SBUS_CSn_N. -/
structure BoardSec where
  vioa : BankLevel := .v33
  viob : BankLevel := .v33
  phyAds : List Nat := []
  trgDelay : List Nat := []
  capDelay : List Nat := []
  latTx : List Nat := []
  latRx : List Nat := []
  sensors : List SensorCfg := []
  gpioUsed : List GpioUse := []
  deriving DecidableEq, Repr

/-- An entry of a transceiver template (R198). -/
structure TemplateEntry where
  kind : Nat := 0
  data : Nat := 0
  deriving DecidableEq, Repr

/-- A template of a transceiver profile (R198): its COUNT entries. -/
structure Template where
  op : Nat := 0
  checkIdx : Nat := 0
  checkMask : Nat := 0
  checkVal : Nat := 0
  polls : Nat := 0
  entries : List TemplateEntry := []
  deriving DecidableEq, Repr

/-- What a transceiver profile declares (R197). -/
structure TrxFields where
  spiDiv : Nat := 2
  irqMode : Nat := 0
  rate : Nat := 300
  preamble : Nat := 8
  fcs : Nat := 2
  tRst : Nat := 1000
  tTxLat : Nat := 30000
  tSfdLat : Nat := 10000
  jitter : Nat := 100
  tByte : Nat := 10
  tTurn : Nat := 200
  tCmd : Nat := 400
  rxFifo : Nat := 64
  txBuf : Nat := 2048
  channels : List Nat := [0, 0, 0, 0]
  templates : List Template := []
  deriving DecidableEq, Repr

/-- A transceiver profile as the octets of its record (R197). -/
structure TrxProfile where
  octets : List Byte := []
  deriving DecidableEq, Repr

/-- A cell of the slot plan (R202): slot, offset and the fields of its cell word. -/
structure PlanCell where
  slot : Nat := 0
  ofs : Nat := 0
  kind : Nat := 0
  ref : Nat := 0xFFF
  attempt : Nat := 0
  depth : Nat := 0
  deriving DecidableEq, Repr

/-- One radio port of RADIO (R195, R200 to R204). -/
structure RadioPortCfg where
  enabled : Bool := false
  slot10 : Bool := false
  upmax : Nat := 45
  open0 : Nat := 1
  open1 : Nat := 0
  profile : TrxProfile := {}
  plan : List PlanCell := []
  account : Nat := 0
  deriving DecidableEq, Repr

/-- A radio port with its values of GUARANTEE (R46). -/
structure PortCfg extends RadioPortCfg, Tier where
  deriving DecidableEq, Repr

/-- A drift class (R245): PPM in 0.1 ppm, HB_MAX in seconds and the maker's declared drift. -/
structure DriftClass where
  ppm : Nat := 0
  hbMax : Nat := 0
  declared : Nat := 0
  deriving DecidableEq, Repr

/-- RADIO (R116). -/
structure RadioSec where
  panId : Nat := 0
  planId : Nat := 0
  ports : List RadioPortCfg := []
  drift : List DriftClass := []
  g0 : Nat := 50
  pendSlots : Nat := 4
  fullWtMax : Nat := 4
  lostHold : Nat := 900
  refresh : Nat := 10
  deriving DecidableEq, Repr

/-- A node entry of NODES (R116), with the fields R224 names. ROLE codes are those of R221. -/
structure NodeCfg where
  index : Nat := 0
  ext : Nat := 0
  short : Nat := 1
  role : Nat := 1
  port : Nat := 0
  depth : Nat := 0
  parent : Nat := 0xFFF
  channel : Nat := 0
  keyIndex : Nat := 0x20
  driftClass : Nat := 0
  rejoinRank : Nat := 0
  eventGroup : Nat := 0xFF
  lplMs : Nat := 0
  upmax : Nat := 45
  upSlot : Nat := 0
  upOfs : Nat := 0
  upPeriod : Nat := 1
  upPhase : Nat := 0
  deriving DecidableEq, Repr

/-- A duty account of DUTY (R259 to R263): BUDGET in 1/10,000, LF_RESERVE in ms, limits in percent. -/
structure DutyCfg where
  valid : Bool := false
  budget : Nat := 1000
  reserve : Nat := 0
  corrRate : Nat := 0
  shedT : Nat := 70
  shedW : Nat := 85
  shedR : Nat := 95
  deriving DecidableEq, Repr

/-- A colour class (R145): raw table words of nine points each. -/
structure ColourClass where
  relf : List Nat := []
  drift : List (Int × Int) := []
  droop : List (Nat × Nat) := []
  maint : List (Nat × Nat) := []
  tFold : Int := 0
  tMax : Int := 0
  foldMin : Nat := 0
  staleT : Int := 0
  nomX : Nat := 0
  nomY : Nat := 0
  nomZ : Nat := 0
  deriving DecidableEq, Repr

/-- The overlay of a light group for one mode (R136): flux scale u2.14, optional chromaticity,
floor, ceiling and corridor enable. -/
structure Overlay where
  scale : Nat := 0x4000
  corrEn : Bool := true
  chromaSet : Bool := false
  form : Bool := false
  chroma : Word := 0
  floor : Nat := 0
  ceil : Nat := 0xFFFE
  deriving DecidableEq, Repr

/-- A lantern channel of LIGHT (R130, R136, R144). -/
structure ChanCfg where
  chan : Nat := 0
  strings : Nat := 1
  classes : List Nat := []
  group : Nat := 0
  feeder : Nat := 0
  floor : Nat := 0
  ceil : Nat := 0xFFFE
  heldFrac : Nat := 0
  fbTarget : Word := 0
  fbChroma : Word := 0
  pcOn : Nat := 0
  pcOff : Nat := 0
  deriving DecidableEq, Repr

/-- LIGHT (R116): channels, classes by index, and overlays by group then mode. -/
structure LightSec where
  channels : List ChanCfg := []
  classes : List (Nat × ColourClass) := []
  overlays : List (List Overlay) := []
  deadband : Nat := 2
  deriving DecidableEq, Repr

/-- A link of a course end (R179). -/
structure CourseLink where
  valid : Bool := false
  rev : Bool := false
  nbr : Nat := 0
  course : Nat := 0
  gap : Nat := 0
  entry : Nat := 0
  deriving DecidableEq, Repr

/-- A course (R179). -/
structure CourseCfg where
  valid : Bool := false
  enable : Bool := false
  classMask : Nat := 0
  pass : Word := 0
  lead : Nat := 0
  dwell : Nat := 0
  rampDn : Nat := 0
  vMin : Nat := 100
  vDef : Nat := 100
  vMax : Nat := 6000
  back : Nat := 0
  tHor : Nat := 100
  linkLo : CourseLink := {}
  linkHi : CourseLink := {}
  entries : List (Nat × Nat) := []
  deriving DecidableEq, Repr

/-- A detector binding (R180). -/
structure DetectorCfg where
  nat : Nat := 0
  course : Nat := 0
  chainage : Nat := 0
  reverse : Bool := false
  deriving DecidableEq, Repr

/-- A neighbour entry (R189, R191). -/
structure NeighbourCfg where
  segId : Nat := 0
  ipv6 : Bool := false
  port : Nat := 0
  keySlot : Nat := 10
  udpPort : Nat := 50151
  addr : Nat := 0
  deriving DecidableEq, Repr

/-- COURSES (R116). -/
structure CoursesSec where
  courses : List CourseCfg := []
  detectors : List DetectorCfg := []
  neighbours : List NeighbourCfg := []
  deriving DecidableEq, Repr

/-- A schedule step: trigger, target and chromaticity words (R169). -/
structure StepCfg where
  trig : Word := 0
  tgt : Word := 0
  chroma : Word := 0
  deriving DecidableEq, Repr

/-- SCHEDULES (R116): programs, mode program, channel assignment, special dates (year 0: every year). -/
structure SchedulesSec where
  programs : List (List StepCfg) := []
  modeProgram : Nat := 0
  assign : List (Nat × Nat) := []
  special : List (Nat × Nat × Nat) := []
  stagger : Nat := 8
  deriving DecidableEq, Repr

/-- A metering channel of METER (R369). -/
structure MeterChanCfg where
  used : Bool := false
  cls : Nat := 0
  sensor : Nat := 0
  deriving DecidableEq, Repr

/-- A feeder of METER (R369, R390, R392): PHASES bit 0 L1 to bit 3 N. -/
structure FeederCfg where
  used : Bool := false
  reconEn : Bool := false
  phases : Nat := 0
  run : Nat := 2
  rEff : Nat := 0
  rEffN : Nat := 0
  absTh : Nat := 0
  relTh : Nat := 0
  pOther : Int := 0
  deriving DecidableEq, Repr

/-- METER (R116). -/
structure MeterSec where
  minutes : Nat := 15
  net60 : Bool := false
  channels : List MeterChanCfg := []
  feeders : List FeederCfg := []
  residual : List (Nat × Nat) := []
  deriving DecidableEq, Repr

/-- A capture unit of TIME (R346, R347): EDGE code and HOLDOFF in microseconds. -/
structure CaptureCfg where
  enabled : Bool := false
  edge : Nat := 1
  holdoff : Nat := 100
  deriving DecidableEq, Repr

/-- TIME (R116): limits in ns. -/
structure TimeSec where
  captures : List CaptureCfg := []
  captureQueue : Nat := 4
  taiUtc : Int := 37
  stepLimit : Nat := 50000
  lockLimit : Nat := 1000
  holdLimit : Nat := 1000000
  holdPpb : Nat := 100
  asym : Nat := 20
  deriving DecidableEq, Repr

/-- POWER (R116, R412, R415): times in seconds, WAKE_LOCAL a local minute. -/
structure PowerSec where
  easyEn : Bool := false
  switched : Bool := false
  frameEn : Bool := false
  detectors : Nat := 0
  wakeLead : Nat := 600
  grace : Nat := 5
  cmpK : Nat := 8
  wakeLocal : Nat := 960
  featherEn : Bool := false
  deriving DecidableEq, Repr

/-- A directory entry of a Rig (R115): TYPE, VERSION, OFFSET, SIZE, whether its CRC is right and whether the firmware supports the section's
VERSION (R118 stage 4; the range is not stated). -/
structure RigDirEntry where
  typ : Nat := 0
  version : Nat := 0
  offset : Nat := 0
  size : Nat := 0
  crc : Nat := 0
  crcOk : Bool := true
  versionOk : Bool := true
  deriving DecidableEq, Repr

/-- A migration block (R121): the hash of the source Rig and the identity key that signed it. -/
structure Migration where
  srcHash : Nat := 0
  signedBy : KeyId := 0
  deriving DecidableEq, Repr

/-- A Rig (R115): header, directory, signature block and the values of its sections (R116). -/
structure Rig where
  magic : List Byte := [0x56, 0x52, 0x49, 0x47]
  format : Nat := 0x0100
  length : Nat := 0
  serial : Nat := 0
  built : Nat := 0
  segment : List Byte := List.replicate 16 0
  flags : Nat := 0
  reserved : Nat := 0
  headerCrc : Nat := 0
  hash : Nat := 0
  certKey : KeyId := 0
  signedBy : KeyId := 0
  migration : Option Migration := none
  dir : List RigDirEntry := []
  identity : Option IdentitySec := none
  backhaul : Option BackhaulSec := none
  guarantee : Option GuaranteeSec := none
  board : Option BoardSec := none
  radio : Option RadioSec := none
  nodes : Option (List NodeCfg) := none
  duty : Option (List DutyCfg) := none
  light : Option LightSec := none
  courses : Option CoursesSec := none
  schedules : Option SchedulesSec := none
  meter : Option MeterSec := none
  time : Option TimeSec := none
  power : Option PowerSec := none
  deriving DecidableEq, Repr

/-- A field a Trim entry names: the fields the chapters mark trimmable, or any other (R124). -/
inductive TrimField where
  | deadband
  | heldFrac (chan : Nat)
  | stagger
  | radRefresh
  | featherEn
  | courseEnable (course : Nat)
  | courseClassMask (course : Nat)
  | coursePass (course : Nat)
  | courseLead (course : Nat)
  | courseDwell (course : Nat)
  | courseRampDn (course : Nat)
  | overlayScale (group mode : Nat)
  | overlayCorr (group mode : Nat)
  | overlayChroma (group mode : Nat) (form : Bool)
  | overlayFloor (group mode : Nat)
  | overlayCeil (group mode : Nat)
  | untrimmable (section_ : Nat) (item : Nat)
  deriving DecidableEq, Repr

/-- A Trim (R123). BINDING is a mode code or 0xFF for special; ENTRIES is the number of `entries`, LENGTH is `length`. -/
structure Trim where
  magic : List Byte := [0x56, 0x54, 0x52, 0x4D]
  length : Nat := 0
  index : Nat := 0
  binding : Nat := 0
  rigSerial : Nat := 0
  rigHash : Nat := 0
  crcOk : Bool := true
  signedBy : KeyId := 0
  entries : List (TrimField × Nat) := []
  deriving DecidableEq, Repr

/-- A string of a binning record (R142): X, Y, Z per mA as u16.16, CEIL_CODE and I_LSB. -/
structure BinString where
  x : Nat := 0
  y : Nat := 0
  z : Nat := 0
  ceilCode : Nat := 0
  iLsb : Nat := 0
  deriving DecidableEq, Repr

/-- A binning record as its 37 words (R142). -/
structure BinRecord where
  words : List Word := []
  deriving DecidableEq, Repr

/-- The calibration of a metering channel (R373, R393). -/
structure MeterCal where
  gain : Nat := 0
  offset : Int := 0
  delay : Int := 0
  deriving DecidableEq, Repr

/-- A sensor class (R373, R393): SHIFT and 16 points of TGAIN (u1.15) and TPHASE (10 ns). -/
structure SensorClass where
  valid : Bool := false
  current : Bool := false
  shift : Nat := 0
  points : List (Nat × Int) := []
  deriving DecidableEq, Repr

/-- The metering calibration record as its 517 words (R393). -/
structure MeterRecord where
  words : List Word := []
  deriving DecidableEq, Repr

/-- A half of the calibration archive (R440): octets 0x00 to 0x3B of its header, none where erased, its CRC, and the records as they stand. -/
structure CalHalf where
  head : List Byte := []
  crc : Nat := 0
  binning : List (Nat × BinRecord) := []
  meter : Option MeterRecord := none
  deriving DecidableEq, Repr

/-- A firmware image (R430) as its octets, and the key under which each of its two signatures verifies, none where it verifies under no key. -/
structure Image where
  data : List Byte := []
  siravoBy : Option KeyId := none
  cityBy : Option KeyId := none
  deriving DecidableEq, Repr

/-- The keys under which the signatures of an image verify that a transfer or a build has just completed (R430). -/
structure ImageSigs where
  siravoBy : Option KeyId := none
  cityBy : Option KeyId := none
  deriving DecidableEq, Repr

/-- A Rig set (R438): the Rig, and at position k what a Trim position holds that does not begin with erased bytes. -/
structure RigSet where
  rig : Rig := {}
  trims : List (Nat × Trim) := []
  deriving DecidableEq, Repr

/-- What an entry of a key batch meets (R443): the octets of the ECDH with its EPH, and the key under which its SIG verifies. -/
structure KeySecret where
  z : List Byte := []
  signedBy : Option KeyId := none
  deriving DecidableEq, Repr

end Sys2Proof
end

