-- ==== Sys2Proof/Syntax.lean ====
section
/-! DEFINITION. The commands of the module: one constructor per row of the table of commands, in its order. The table gives no bits.
Operands that come in over a bus are given as fields; verdicts on cryptographic checks are given with the message they judge. -/
namespace Sys2Proof

inductive Instr where
/-- STROKE_BOUNDARY (R19): `samples` are the metering samples of the stroke that ends, by channel, as (value, quadrature); `misalign` is how
  far in ns MCLK lies from a second boundary (R368). -/
  | strokeBoundary (samples : List (List (Int × Int))) (misalign : Int)
/-- DRIVE (R20). -/
  | drive
/-- FINISH (R24): `hits` are the guard-code errors that reads and beats met in the stroke (R64), `word` is what the scrub reads, `temps` are
  readings of the temperature sensors in s8.8, and `ahead` is what lies ahead outside the module from then on. -/
  | finish (hits : List GuardHit) (word : Scrubbed) (temps : List (Option Int)) (ahead : Ahead)
/-- SLOT_START (R200): a radio port. -/
  | slotStart (port : Nat)
/-- STEP_DONE (R21): `cyc` is in SYS cycles from the boundary. -/
  | stepDone (station : Stn) (cyc : Nat)
/-- STATION_RESET_START (R33). -/
  | stationResetStart
/-- STATION_READY (R33). -/
  | stationReady (station : Stn)
/-- PLL_LOCK_LOSS (R18). -/
  | pllLockLoss (source : ClockSrc)
/-- PLL_LOCK_REGAINED (R18). -/
  | pllLockRegained (source : ClockSrc)
/-- TCXO_FAILURE (R18). -/
  | tcxoFailure
/-- FABRIC_TMO (R44): what went unanswered. -/
  | fabricTmo (wait : FabricWait)
/-- RESOURCE_TMO (R57): the unit of work and the resource that it could not acquire in time, by its kind and number. -/
  | resourceTmo (work : Work) (kind : Resource) (index : Nat)
/-- LEDGER_FAIL (R58): the station whose next ledger write has failed. -/
  | ledgerFail (station : Stn)
/-- FLASH_TMO (R58): the station whose next flash operation has failed. -/
  | flashTmo (station : Stn)
/-- POWER_ON_RESET (R77): the banks measured in mV; `aonLost` when VIN has been below 1.8 V; what lies ahead outside the module. -/
  | powerOnReset (bankA : Nat) (bankB : Nat) (aonLost : Bool) (ahead : Ahead)
/-- TIME_INIT (R340). -/
  | timeInit
/-- FIRST_STROKE (R101). -/
  | firstStroke
/-- BANK_NOT_VALID (R77): the bank that is not valid, and both in mV. -/
  | bankNotValid (bankB : Bool) (bankAmV : Nat) (bankBmV : Nat) (aonLost : Bool)
/-- BANK_FAULT (R78): the bank. -/
  | bankFault (bankB : Bool)
/-- RESET_N (R90). -/
  | resetN
/-- BROWNOUT (R489). -/
  | brownout
/-- WATCHDOG (R106). -/
  | watchdog
/-- STEADY_TMO (R127). -/
  | steadyTmo
/-- STEADY (R127). -/
  | steady
/-- RIG_MIGRATION_WRITE (R121). -/
  | rigMigrationWrite
/-- SPECIAL_TRIM_ENABLE (R125): the index of the Trim. -/
  | specialTrimEnable (index : Nat)
/-- SRV_EN_RISE (R456). -/
  | srvEnRise
/-- SRV_EN_FALL (R91). -/
  | srvEnFall
/-- WAKE_CMP (R88). -/
  | wakeCmp
/-- PFI_TRIP (R86, R388). -/
  | pfiTrip
/-- PF_MODE_END (R388). -/
  | pfModeEnd
/-- VBAT_APPLIED (R360). -/
  | vbatApplied
/-- OSCILLATOR_STOP (R360). -/
  | oscillatorStop
/-- VBAT_LOW (R360). -/
  | vbatLow
/-- LGT_CMD_ISSUE (R139): a WRITE from CTRL on; STATE is taken as 0x1. -/
  | lgtCmdIssue (req : VtpMeta) (slot : Nat) (ctrl : Word) (rest : List Word)
/-- LGT_CMD_CANCEL (R139). -/
  | lgtCmdCancel (req : VtpMeta) (slot : Nat)
/-- LGT_FORCE (R155). -/
  | lgtForce (req : VtpMeta) (value : Word)
/-- TEMP_STALE (R157). -/
  | tempStale (chan : Nat)
/-- HOURS_SAVE (R153). -/
  | hoursSave
/-- SCHEDULE_STEP_WRITE (R170): a WRITE from pair `part` of the step on: 0 trigger, 1 target, 2 chromaticity. -/
  | scheduleStepWrite (req : VtpMeta) (program : Nat) (step : Nat) (part : Nat) (words : List Word)
/-- MREQ_ISSUE (R174): a WRITE from CTRL on. -/
  | mreqIssue (req : VtpMeta) (slot : Nat) (mode : Nat) (rest : List Word)
/-- MREQ_CANCEL (R174). -/
  | mreqCancel (req : VtpMeta) (slot : Nat)
/-- HANDOFF_REPEAT (R189): the handoff sent to a neighbour. -/
  | handoffRepeat (nbr : Nat) (counter : Nat)
/-- HANDOFF_ACK (R190, R193): the octets of the datagram: its header up to COUNTER, COUNTER, the encrypted body, the tag. -/
  | handoffAck (head : List Byte) (counter : List Byte) (body : List Byte) (tag : List Byte)
/-- HANDOFF_UNCONFIRMED (R193). -/
  | handoffUnconfirmed (nbr : Nat) (counter : Nat)
/-- HANDOFF_RECEIVE (R192): the octets of the datagram. -/
  | handoffReceive (data : List Byte)
/-- TRX_TMO (R240). -/
  | trxTmo (port : Nat)
/-- TRANSCEIVER_RESET_DONE (R80). -/
  | transceiverResetDone (port : Nat)
/-- PORT_INIT_RETRY (R240). -/
  | portInitRetry (port : Nat)
/-- RX_WINDOW_CLOSE (R255). -/
  | rxWindowClose (node : Nat)
/-- ACK_TXGO (R215). -/
  | ackTxgo (port : Nat)
/-- LANTERN_REPORT (R296). -/
  | lanternReport (frame : RxFrame) (body : LanternBody)
/-- DETECTOR_EVENT (R210): the six octets of R181. -/
  | detectorEvent (frame : RxFrame) (payload : List Byte)
/-- SENSOR_HEARTBEAT (R249). -/
  | sensorHeartbeat (frame : RxFrame) (flags : Nat) (batt : Nat) (data : List Byte)
/-- ENROLMENT_REQUEST (R297). -/
  | enrolmentRequest (frame : RxFrame)
/-- REJOIN_REQUEST (R300): the CRC of the record the lantern holds. -/
  | rejoinRequest (frame : RxFrame) (recCrc : Nat)
/-- BINNING_RECORD_PART (R299): the number of the part and its record octets. -/
  | binningRecordPart (frame : RxFrame) (part : Nat) (data : List Byte)
/-- UNLISTED_MTYPE (R209). -/
  | unlistedMtype (frame : RxFrame) (mtype : Nat)
/-- ENHANCED_ACK_RECEIVE (R219). -/
  | enhancedAckReceive (port : Nat) (edge : Nat) (psdu : Nat) (head : RxHead) (fcsOk : Bool) (micOk : Bool)
/-- RECORD_UPLOAD_TIMEOUT (R299). -/
  | recordUploadTimeout (node : Nat)
/-- DOWNLINK_UNCONFIRMED (R254). -/
  | downlinkUnconfirmed (node : Nat)
/-- LIGHT_OUTCOME_TIMEOUT (R291). -/
  | lightOutcomeTimeout (chan : Nat)
/-- DUTY_BIN_ROLL (R261). -/
  | dutyBinRoll
/-- NAT_FIND (R241). -/
  | natFind (req : VtpMeta)
/-- NAT_CMD_CLEAR (R241). -/
  | natCmdClear (req : VtpMeta) (node : Nat)
/-- NAT_CMD_EVICT (R241). -/
  | natCmdEvict (req : VtpMeta) (node : Nat)
/-- LINK_KEY_AGE (R283). -/
  | linkKeyAge (node : Nat)
/-- BEACON_KEY_AGE (R284). -/
  | beaconKeyAge
/-- KEY_SWITCH (R284): a shared slot. -/
  | keySwitch (slot : Nat)
/-- OLD_KEY_ERASE (R284): a shared slot. -/
  | oldKeyErase (slot : Nat)
/-- REKEY_LINK (R302). -/
  | rekeyLink (req : VtpMeta) (node : Nat)
/-- RENEW_GROUP_KEY (R302). -/
  | renewGroupKey (req : VtpMeta) (port : Nat)
/-- RENEW_BEACON_KEY (R302). -/
  | renewBeaconKey (req : VtpMeta)
/-- FORGET_LINK (R302). -/
  | forgetLink (req : VtpMeta) (node : Nat)
/-- ERASE_DEVICE_KEY (R302). -/
  | eraseDeviceKey (req : VtpMeta) (node : Nat)
/-- LINK_CHANGE (R304): the conditions of R304 as they are now. -/
  | linkChange (port : Nat) (los : Bool) (sync : Bool) (an : Bool) (phy : Bool)
/-- MDIO_POLL (R305): the link bit of each PHY by port. -/
  | mdioPoll (links : List Bool)
/-- MDIO_TMO (R58). -/
  | mdioTmo (port : Nat) (headEnd : Bool)
/-- MDIO_CMD (R305): `data` is what the PHY answers to a read. -/
  | mdioCmd (req : VtpMeta) (value : Word) (data : Nat)
/-- ETH_FRAME_RECEIVE (R307). -/
  | ethFrameReceive (port : Nat) (rx : EthRx)
/-- ETH_TRANSMIT (R315). -/
  | ethTransmit (port : Nat)
/-- VERIFY_TIMEOUT (R318). -/
  | verifyTimeout (port : Nat)
/-- WAKE_FRAME (R323). -/
  | wakeFrame (port : Nat) (octets : List Byte) (fcsOk : Bool)
/-- TIME_READ (R329): a READ of 1 to 3 words. -/
  | timeRead (req : VtpMeta) (words : Nat)
/-- ANNOUNCE_RECEIVE (R332). -/
  | announceReceive (msg : AnnounceMsg)
/-- ANNOUNCE_RECEIPT_TIMEOUT (R332). -/
  | announceReceiptTimeout
/-- SYNC_RECEIVE (R334): times in 2^-16 ns. -/
  | syncReceive (src : PtpSrc) (twoStep : Bool) (t1 : Int) (corr : Int)
/-- FOLLOW_UP_RECEIVE (R334). -/
  | followUpReceive (src : PtpSrc) (t1 : Int) (corr : Int)
/-- DELAY_RESP_RECEIVE (R334). -/
  | delayRespReceive (src : PtpSrc) (t4 : Int) (corr : Int)
/-- DELAY_REQ_SEND (R332). -/
  | delayReqSend
/-- PDELAY_REQ_SEND (R333). -/
  | pdelayReqSend (port : Nat)
/-- PDELAY_REQ_RECEIVE (R333). -/
  | pdelayReqReceive (src : PtpSrc)
/-- PDELAY_RESP_RECEIVE (R333): `turn` is the turnaround t3 − t2 where it is not carried in correctionField. -/
  | pdelayRespReceive (src : PtpSrc) (turn : Int) (corr : Int)
/-- HEAD_END_STEP (R337): a WRITE from TIM_STEP_CTRL on. -/
  | headEndStep (req : VtpMeta) (absolute : Bool) (rest : List Word)
/-- TIME_SAVE (R340). -/
  | timeSave
/-- COMPARE_ARM (R342): a WRITE from CTRL on; STATE is taken as 0x1. -/
  | compareArm (req : VtpMeta) (unit_ : Nat) (ctrl : Word) (rest : List Word)
/-- COMPARE_DISARM (R342): STATE is taken as 0x0. -/
  | compareDisarm (req : VtpMeta) (unit_ : Nat) (ctrl : Word)
/-- COMPARE_EDGE (R343). -/
  | compareEdge (unit_ : Nat)
/-- PULSE_END (R342). -/
  | pulseEnd (unit_ : Nat)
/-- CAPTURE_EDGE (R346): `taps` 0.5 ns steps into the present TIM cycle; `wide` when it outlasts the glitch filter. -/
  | captureEdge (unit_ : Nat) (rising : Bool) (wide : Bool) (taps : Nat)
/-- SECOND_END (R352). -/
  | secondEnd
/-- RTC_SNAP (R356). -/
  | rtcSnap (req : VtpMeta) (value : Word)
/-- RTC_SEC_READ (R356). -/
  | rtcSecRead (req : VtpMeta) (words : Nat)
/-- STAGING_WRITE (R357): a WRITE from calendar register `field` on, 0 RTC_SEC to 7 RTC_WDAY. -/
  | stagingWrite (req : VtpMeta) (field : Nat) (words : List Word)
/-- RTC_COMMIT (R358). -/
  | rtcCommit (req : VtpMeta) (onSecond : Bool)
/-- COMMIT_APPLY (R358). -/
  | commitApply
/-- COMPENSATION_WINDOW (R361): the crystal temperature in s8.8. -/
  | compensationWindow (temp : Int)
/-- AGING_UPDATE (R363). -/
  | agingUpdate
/-- CALENDAR_CHECK (R364). -/
  | calendarCheck
/-- SENSOR_STALE (R374). -/
  | sensorStale (sensor : Nat)
/-- CHANNEL_STUCK (R370). -/
  | channelStuck (chan : Nat)
/-- CHANNEL_OVERLOAD (R370). -/
  | channelOverload (chan : Nat)
/-- CHANNEL_FAULT_PERSIST (R370). -/
  | channelFaultPersist (chan : Nat)
/-- CHANNEL_FAULT_CLEAR (R370). -/
  | channelFaultClear (chan : Nat) (overload : Bool)
/-- RMS_WINDOW_END (R378): the length of the window in µs and its samples by channel. -/
  | rmsWindowEnd (us : Nat) (samples : List (List (Int × Int)))
/-- FIXED_WINDOW_FALLBACK (R378). -/
  | fixedWindowFallback
/-- OTHER_WRITE (R390): a WRITE from OTHER_START on. -/
  | otherWrite (req : VtpMeta) (feeder : Nat) (words : List Word)
/-- EVQ_COMMIT (R397): the words of the packet, header first. -/
  | evqCommit (queue : Nat) (words : List (BitVec 64))
/-- EVQ_REWIND (R398): how many words had been written. -/
  | evqRewind (queue : Nat) (words : Nat)
/-- REPORT_RESEND (R406). -/
  | reportResend (queue : Nat) (seq : Nat)
/-- REPORT_ENABLE (R406): RESEND in units of 10 ms. -/
  | reportEnable (req : VtpMeta) (resend : Nat)
/-- REPORT_ACK (R406). -/
  | reportAck (req : VtpMeta) (queue : Nat) (ack : Nat)
/-- UPD_POWER_GATE (R410). -/
  | updPowerGate
/-- EASY_DAY_TRIGGER (R412). -/
  | easyDayTrigger
/-- SLEEP_REQUEST (R412): a WRITE from PWR_SLEEP_CTRL on: the words of the planned wake. -/
  | sleepRequest (req : VtpMeta) (wake : List Word)
/-- EASY_SAVES_DONE (R415). -/
  | easySavesDone
/-- SLEEP_GRACE_EXPIRY (R415). -/
  | sleepGraceExpiry
/-- EASY_FINAL_CHECK (R419): whether the qualification of WAKE_CMP runs. -/
  | easyFinalCheck (qualifying : Bool)
/-- WAKE_STEP_READY (R420): µs since the step began. -/
  | wakeStepReady (us : Nat)
/-- WAKE_STEP_TIMEOUT (R421). -/
  | wakeStepTimeout
/-- WAKE_RETRY (R421). -/
  | wakeRetry
/-- EASY_UNLOCK (R421): FEATHER_EN as the WRITE of PWR_CTRL carries it. -/
  | easyUnlock (req : VtpMeta) (feather : Bool)
/-- XFER_OPEN (R428): a WRITE from UPD_XFER_CTRL on. -/
  | xferOpen (req : VtpMeta) (kind : Nat) (slot : Nat) (rest : List Word)
/-- XFER_ABORT (R428). -/
  | xferAbort (req : VtpMeta)
/-- XFER_TIMEOUT (R428). -/
  | xferTimeout
/-- BLOCK_COMMIT (R429). -/
  | blockCommit (req : VtpMeta) (index : Nat)
/-- BLOCK_WRITE_DONE (R429), with the keys of the signatures of an image that the block completes. -/
  | blockWriteDone (sigs : ImageSigs)
/-- IMAGE_APPLY (R434), with the keys of the signatures of the image that a delta builds. -/
  | imageApply (call : CallMeta) (args : List Byte) (sigs : ImageSigs)
/-- IMAGE_BUILD_COMPLETE (R433). -/
  | imageBuildComplete
/-- MICROCODE_STATION_PASS (R436). -/
  | microcodeStationPass
/-- RIG_APPLY (R438): what staging spells. -/
  | rigApply (call : CallMeta) (args : List Byte) (rigs : RigSet)
/-- CALIBRATION_LOAD (R441). -/
  | calibrationLoad (req : VtpMeta) (deadline : Option Nat) (args : List Byte)
/-- CALIBRATION_ARCHIVE_WRITE (R441). -/
  | calibrationArchiveWrite
/-- LANTERN_FIRMWARE_DISTRIBUTION (R447). -/
  | lanternFirmwareDistribution (req : VtpMeta) (deadline : Option Nat) (args : List Byte)
/-- DISTRIBUTION_OUTCOME_TIMEOUT (R447). -/
  | distributionOutcomeTimeout (node : Nat)
/-- KEY_IMPORT (R443), with what each entry of the batch meets. -/
  | keyImport (call : CallMeta) (args : List Byte) (secrets : List KeySecret)
/-- ANCHOR (R442), with the key under which its signature verifies. -/
  | anchor (req : VtpMeta) (deadline : Option Nat) (args : List Byte) (signedBy : Option Nat)
/-- CLIENT_HELLO (R453). -/
  | clientHello (port : Nat) (peer : Nat) (ipv6 : Bool) (cookie : Bool) (resume : Bool)
/-- HANDSHAKE_TIMEOUT (R58). -/
  | handshakeTimeout (port : Nat) (peer : Nat)
/-- SESSION_CLOSE (R454). -/
  | sessionClose (session : Nat)
/-- SESSION_IDLE_TIMEOUT (R454). -/
  | sessionIdleTimeout (session : Nat)
/-- READ (R460). -/
  | read (req : VtpMeta) (station : Nat) (offset : Nat) (length : Nat)
/-- WRITE (R461): `phy` is what a PHY answers to an MDIO read that the WRITE starts. -/
  | write (req : VtpMeta) (station : Nat) (offset : Nat) (words : List Word) (phy : Nat)
/-- POLL (R465). -/
  | poll (req : VtpMeta) (handle : Nat)
/-- CANCEL (R473). -/
  | cancel (req : VtpMeta) (handle : Nat)
/-- STATION_RESET_CALL (R468). -/
  | stationResetCall (call : CallMeta) (args : List Byte)
/-- MODULE_RESET_CALL (R468). -/
  | moduleResetCall (call : CallMeta) (args : List Byte)
/-- MODULE_RESET (R468). -/
  | moduleReset
/-- LANTERN_ENROLMENT (R470). -/
  | lanternEnrolment (call : CallMeta) (args : List Byte)
/-- COMMISSIONING_SCAN (R472). -/
  | commissioningScan (call : CallMeta) (args : List Byte)
/-- SCAN_END (R472). -/
  | scanEnd
/-- NODE_SEND (R471). -/
  | nodeSend (call : CallMeta) (args : List Byte)
/-- NODE_SEND_TIMEOUT (R471): the CALL record. -/
  | nodeSendTimeout (handle : Nat)
/-- PROFILE_EXPORT (R469). -/
  | profileExport (call : CallMeta) (args : List Byte)
/-- CAPTURE_EXPORT (R469). -/
  | captureExport (call : CallMeta) (args : List Byte)
/-- CALL_RECORD_FREE (R465): the CALL record. -/
  | callRecordFree (handle : Nat)
/-- CALL_TAKEN (R467). -/
  | callTaken (req : VtpMeta) (handle : Nat) (taken : Nat)
/-- SRV_BAUD (R455). -/
  | srvBaud (req : VtpMeta) (rate : Nat)
/-- BAUD_REVERT (R455). -/
  | baudRevert
/-- RX_FRAME_ABORTED (R212). -/
  | rxFrameAborted (frame : RxFrame)
/-- SERVICE_FRAME_DROPPED (R455). -/
  | serviceFrameDropped
/-- HANDSHAKE_END (R454): the client certificate: its signer by name, its curve and its validity. -/
  | handshakeEnd (port : Nat) (peer : Nat) (signedBy : Nat) (p256 : Bool) (notBefore : Nat) (notAfter : Nat)
/-- EXPRESS_CREDIT_ABOVE_ZERO (R320). -/
  | expressCreditAboveZero (port : Nat)
  deriving DecidableEq, Repr

end Sys2Proof
end

