-- ==== Sys2Proof/Machine/Types/Base.lean ====
section
/-! DEFINITION. Data shapes that several stations use: sparse tables, error codes (R475), the
Cox and the station records (R27, R28, R33), the start record (R128), CALL records (R465, R466)
and sessions (R454, R463, R464). -/
namespace Sys2Proof.Machine

/-- A sparse table: keys strictly rising. -/
abbrev Tab (α : Type) := List (Nat × α)

/-- A paired word as it stands in its registers (R9): the value and the word kept as its complement. -/
structure Pair where
  v : Word := 0
  n : Word := 0xFFFFFFFF
  deriving DecidableEq, Repr

/-- States of a command slot or a mode-request slot (R139, R174). -/
inductive SlotSt where
  | free | pending | active | ended
  deriving DecidableEq, Repr

/-- The error codes of R475. -/
inductive Err where
  | ok | address | access | length | range | slotBusy | pairMismatch | pairSplit | noSlack
  | limit | stnReset | sleeping | handle | typ | version | dupTid | fabricTmo | guardUe
  | resourceTmo | ledgerFail | flashTmo | trxTmo | mdioTmo | natHash
  | rigSyntax | rigCrc | rigSignature | rigVersion | rigRange | bankLevel | rigCapacity
  | rigPower | rigTrimField | trim | trimRig | trimBinding
  | imageFormat | signature | imageMismatch | blockCrc | microcodeRevert | startFailed
  | easyLocked | wakePending | wakeTmoReg | wakeTmoOsc | wakeTmoMem
  deriving DecidableEq, Repr

/-- States of a station (R28). -/
inductive StnSt where
  | off | reset | loading | ready | running | held | fault
  deriving DecidableEq, Repr

/-- Causes of a station reset (R28, R32). -/
inductive StnCause where
  | none | call | crab | guardUe | fabricTmo | microcode | rig | clock
  deriving DecidableEq, Repr

/-- The phases of a stroke (R20); `none` while no stroke runs. -/
inductive Phase where
  | none | catch_ | drive | recovery
  deriving DecidableEq, Repr

/-- The per-stroke steps a Finish-duty station runs before Finish (R22): its Catch step and its
Drive step. -/
inductive StkStep where
  | catch_ | drive
  deriving DecidableEq, Repr

/-- What SYS and the Cox keep of one station (R21, R27, R28). `prog` is the steps of its stroke program
still to signal done in this stroke, the first of them running when `started`; `hist` is the crab history,
newest first; `newMicro` marks a reset that loads new microcode (R436). -/
structure StnRec where
  state : StnSt := .reset
  cause : StnCause := .none
  resets : Nat := 0
  hist : List Bool := []
  crabs : Nat := 0
  prog : List StkStep := []
  started : Bool := false
  inStroke : Bool := false
  deriving DecidableEq, Repr

/-- The Cox (R19, R20, R30, R33, R35). `count` numbers the boundaries since the module reset; `abs` is
TIME_SEC × 100 + index of the stroke running; `start`, `ends` are network time in ns; `faults` is the
queue of stations awaiting their reset, oldest first; `resetting` the one whose reset runs. -/
structure Cox where
  phase : Phase := .none
  count : Nat := 0
  abs : Nat := 0
  start : Nat := 0
  ends : Nat := 0
  bridging : Bool := false
  skipped : Nat := 0
  faults : List (Stn × StnCause) := []
  resetting : Option Stn := .none
  lostClocks : List ClockSrc := []
  sysHeldAt : Option Nat := .none
  deriving DecidableEq, Repr

/-- The modes of a start (R108, R111, R113, R128). -/
inductive StartMode where
  | normal | repechage | paddle | romRecovery
  deriving DecidableEq, Repr

/-- The start record (R128). RIG 0xF stands for none. -/
structure StartRec where
  cause : Nat := 1
  image : Nat := 0
  rig : Nat := 0xF
  mode : StartMode := .normal
  count : Nat := 0
  detail : Nat := 0
  steady : Bool := false
  migrated : Bool := false
  unbound : Bool := false
  countLost : Bool := false
  headerLost : Bool := false
  rigFallback : Bool := false
  trimRefused : Bool := false
  rigInvalid : Bool := false
  finding : Nat := 0
  trimsOk : Nat := 0
  ms : Nat := 0
  deriving DecidableEq, Repr

/-- States of a CALL (R466). -/
inductive CallSt where
  | free | queued | running | partial_ | done | failed | cancelled | refused
  deriving DecidableEq, Repr

/-- A CALL record (R465 to R467). Times in ns of network time, `finalAt` and `polledAt` in TIM cycles;
`cancelAt` is the boundary count at which a CANCEL takes effect; `win` holds the entries by place, `todo` the
entries an export has still to write and `matched` how many it matched (R469). -/
structure CallRec where
  state : CallSt := .free
  bounded : Bool := false
  err : Err := .ok
  progress : Nat := 0
  gen : Nat := 0
  station : Nat := 0
  op : Nat := 0
  results : Nat := 0
  taken : Nat := 0
  size : Nat := 0
  bound : Nat := 0
  admAt : Nat := 0
  arg : Nat := 0
  win : Tab (List Byte) := []
  todo : List (List Byte) := []
  matched : Nat := 0
  finalAt : Option Nat := none
  polledAt : Option Nat := none
  cancelAt : Option Nat := none
  deriving DecidableEq, Repr

/-- A VTP reply (R457, R458). -/
structure VtpReply where
  typ : Nat := 0x81
  err : Err := .ok
  station : Nat := 0
  tid : Nat := 0
  offset : Nat := 0
  data : List Word := []
  deriving DecidableEq, Repr

/-- States of a session (R477). -/
inductive SessSt where
  | closed | handshake | open_
  deriving DecidableEq, Repr

/-- A session (R454, R463, R464, R477). PORT 0 and 1 are ETH, 2 the service port; `credit` is the token
bucket in ns (5,000,000 for one request); times in TIM cycles; `top` is the newest record received and `seen` the records of the replay window (R453). -/
structure Session where
  state : SessSt := .closed
  port : Nat := 0
  ipv6 : Bool := false
  peer : Nat := 0
  kept : List (VtpReq × VtpReply) := []
  outstanding : List Nat := []
  credit : Nat := 160000000
  creditAt : Nat := 0
  opened : Nat := 0
  lastRec : Nat := 0
  top : Option Nat := none
  seen : List Nat := []
  req : Nat := 0
  limit : Nat := 0
  dup : Nat := 0
  deriving DecidableEq, Repr

/-- The last event the guard code handled (R66, SYS_GUARD_LAST). -/
structure GuardLast where
  ue : Bool := false
  source : Nat := 0
  owner : Nat := 0
  span : Nat := 0
  word : Nat := 0
  deriving DecidableEq, Repr

/-- A DTLS handshake in progress (R453): port and peer, and the TIM cycle of its start. -/
structure Hand where
  port : Nat := 0
  peer : Nat := 0
  ipv6 : Bool := false
  start : Nat := 0
  deriving DecidableEq, Repr

/-- The VTP service of SYS (R453 to R456, R477). `hello` is per port the second (TCXO) and the ClientHellos accepted in it; `baudAt` the TIM cycle
of a rate change that no valid frame has followed, `srvOut` the octets of the last frame sent on the service port (R455); `resetReply` the session and
TID of a module reset CALL whose reply has not left, `resetLeft` the TIM cycle at which the last such reply left (R468). -/
structure VtpState where
  sessions : List Session := List.replicate 4 {}
  hands : List Hand := []
  hello : List (Nat × Nat) := [(0, 0), (0, 0)]
  baud : Nat := 0
  baudAt : Option Nat := none
  srvDropped : Nat := 0
  srvAccepted : Nat := 0
  ip : List Nat := List.replicate 6 0
  srvOut : List Byte := []
  resetReply : Option (Nat × Nat) := none
  resetLeft : Nat := 0
  deriving DecidableEq, Repr

/-- SYS (R66, R128). `run` is the consecutive strokes without crab or station fault; `timerAt` the TIM cycle of the reference of R101; `resetAt`
that of a module reset owed to a CALL (R468) and `resetCause` its cause; `lastFailed` that the last start failed (R93, R106); `badWords` the words of main SRAM
with an uncorrectable error that their owner's reset rewrites (R64). -/
structure SysState where
  ce : Nat := 0
  ue : Nat := 0
  passes : Nat := 0
  last : GuardLast := {}
  pos : Nat := 0
  start : StartRec := {}
  run : Nat := 0
  timerOn : Bool := false
  timerAt : Nat := 0
  resetAt : Option Nat := none
  resetCause : Nat := 8
  lastFailed : Bool := false
  badWords : List (Stn × Nat) := []
  deriving DecidableEq, Repr

end Sys2Proof.Machine
end

