-- ==== Sys2Proof/Machine/Types/Upd.lean ====
section
/-! DEFINITION. Updates (R427 to R451): the staging transfer, the running operation and the boot header (R98). -/
namespace Sys2Proof.Machine

/-- A boot header copy as it stands in flash (R98): ten 32-bit fields; erased flash reads all ones. -/
structure BootHdr where
  magic : Nat := 0xFFFFFFFF
  generation : Nat := 0xFFFFFFFF
  image : Nat := 0xFFFFFFFF
  imageN : Nat := 0xFFFFFFFF
  rig : Nat := 0xFFFFFFFF
  rigN : Nat := 0xFFFFFFFF
  verA : Nat := 0xFFFFFFFF
  verB : Nat := 0xFFFFFFFF
  flags : Nat := 0xFFFFFFFF
  crc : Nat := 0xFFFFFFFF
  deriving DecidableEq, Repr

/-- States of a staging transfer (R428). -/
inductive XferSt where
  | idle | open_ | complete
  deriving DecidableEq, Repr

/-- The staging transfer (R428, R429). `lastAt` is the TIM cycle of the last block. -/
structure Xfer where
  state : XferSt := .idle
  kind : Nat := 0
  slot : Nat := 0
  length : Nat := 0
  next : Nat := 0
  busy : Bool := false
  err : Err := .ok
  lastAt : Nat := 0
  deriving DecidableEq, Repr

/-- What an image apply is doing (R433 to R437): `series` the stations still to be changed, `changed` those
changed with the section each had, `left` the strokes the last one still owes. -/
structure ImageOp where
  target : Image := {}
  stations : Bool := false
  at_ : Nat := 0
  verified : Bool := false
  started : Bool := false
  series : List Nat := []
  changed : List (Nat × List Byte) := []
  left : Nat := 1000
  deriving DecidableEq, Repr

/-- What a Rig apply is doing (R438, R439): the validated Rig and Trims, and the slot the Rig lies in. -/
structure RigOp where
  rig : Rig := {}
  trims : List Trim := []
  slot : Nat := 0
  trimsOnly : Bool := false
  at_ : Nat := 0
  started : Bool := false
  resets : List Stn := []
  deriving DecidableEq, Repr

/-- The header of a lantern image (R445): whether MAGIC is right, MODEL, VERSION, LENGTH, and the first 8 octets of the hash of the image. -/
structure LanternImage where
  magicOk : Bool := true
  model : Nat := 0
  version : Nat := 0
  length : Nat := 0
  hash8 : BitVec 64 := 0
  deriving DecidableEq, Repr

/-- A target of a lantern firmware distribution (R447). `outcome` is 0 while none is final. -/
structure DistTarget where
  nat : Nat := 0
  outcome : Nat := 0
  fw : Nat := 0
  activated : Bool := false
  apply_ : Nat := 0
  deriving DecidableEq, Repr

/-- A distribution (R446, R447). `phase` 1 offer, 2 round, 3 activate. -/
structure DistOp where
  image : LanternImage := {}
  targets : List DistTarget := []
  rounds : Nat := 3
  round : Nat := 1
  phase : Nat := 1
  actAt : Nat := 0
  total : Nat := 0
  sent : Nat := 0
  deriving DecidableEq, Repr

/-- An entry of a calibration set (R441); one that names no TYPE or whose record is cut short is `malformed`. -/
inductive CalEntry where
  | binning (channel : Nat) (rec : BinRecord)
  | metering (rec : MeterRecord)
  | malformed
  deriving DecidableEq, Repr

/-- An entry of a key batch (R443): its octets 0 to 11, SLOT, CTR, the wrapped key and its tag. -/
structure KeyEntry where
  head : List Byte := []
  slot : Nat := 0
  ctr : Nat := 0
  ct : List Byte := []
  tag : List Byte := []
  deriving DecidableEq, Repr

/-- The update operation that runs (R427). -/
inductive UpdWork where
  | image (o : ImageOp)
  | rig (o : RigOp)
  | cal
  | dist (o : DistOp)
  deriving DecidableEq, Repr

/-- The last image apply or Rig apply (UPD_LAST). -/
structure UpdLast where
  op : Nat := 0
  state : Nat := 0
  err : Err := .ok
  handle : Nat := 0
  deriving DecidableEq, Repr

/-- UPD (R451). `call` is the CALL record of the running operation; `win` the block window by word. -/
structure UpdState where
  xfer : Xfer := {}
  lenReg : Nat := 0
  blkCrc : Nat := 0
  win : Tab Word := []
  work : Option (Nat × UpdWork) := none
  gather : List (Nat × BinRecord) := []
  gatherAt : Option Nat := none
  dist : DistOp := { phase := 0, round := 0 }
  deriving DecidableEq, Repr

end Sys2Proof.Machine
end

