-- ==== Sys2Proof/Machine/Types/Cfg.lean ====
section
/-! DEFINITION. CFG: the Rigger's copies and findings (R117 to R126, R496) and what a start chose (R108, R128). -/
namespace Sys2Proof.Machine

/-- What CFG does to the flash at a module reset (R84): the pulse on QSPI_RST_N, the SFDP software reset sequence, the quad-enable bit. -/
inductive FlashStep where
  | pulse | softReset | quadEnable
  deriving DecidableEq, Repr

/-- CFG. `validated` is the Rigger's validated copy and `loaded` the sections as the stations have them
(R33 step 4, R439); `area` the sections in the image area by station, CORE first (R436); `usedCopy` the boot header copy the boot ROM
used (R99); `migrate` a migrated Rig still to be written to a slot (R121); `bins` and `meter` the Rigger's validated copies of the calibration records (R70, R126); `flashSteps` what has been done to the flash in this
start and `flashRstUntil` the TIM cycle at which the pulse on QSPI_RST_N ends (R84); `pollFirst` that CFG reads the flash status and waits for it to
show ready before its next command (R74). -/
structure CfgState where
  findings : List Nat := []
  overflow : Bool := false
  usedCopy : Nat := 0
  imageSlot : Nat := 0
  image : Image := {}
  area : List (List Byte) := []
  rigSlot : Nat := 0xF
  validated : Rig := {}
  loaded : Rig := {}
  trims : List Trim := []
  specials : List Nat := []
  specialsNext : Option (List Nat × Nat) := none
  overlayMode : Nat := 2
  migrate : Option (Nat × Rig) := none
  calHalf : Nat := 0
  calGen : Nat := 0
  bins : Tab BinRecord := []
  meter : MeterRecord := {}
  flashSteps : List FlashStep := []
  flashRstUntil : Nat := 0
  pollFirst : Bool := false
  deriving DecidableEq, Repr

end Sys2Proof.Machine
end

