-- ==== Sys2Proof/Machine/Types/Eth.lean ====
section
/-! DEFINITION. Backhaul Ethernet (R303 to R326): ports, rings, transmit queues, frames. -/
namespace Sys2Proof.Machine

/-- What a frame to be sent carries. A forwarded PTP message keeps its ingress timestamp in 2^-16 ns (R322). -/
inductive TxItem where
  | reply (session tid : Nat) (data : List Byte)
  | report (queue : Nat) (data : List Byte)
  | dtls (kind peer : Nat)
  | handoff (nbr : Nat) (data : List Byte)
  | handoffAck (nbr : Nat) (data : List Byte)
  | delayReq (seq : Nat)
  | pdelayReq (seq : Nat)
  | pdelayResp (seq : Nat) (clockId : Nat) (t2 : Int)
  | stack (kind : Nat) (data : List Byte)
  | forward (octets : List Byte) (ingress : Option (Nat × Int))
  | verify
  | respond
  deriving DecidableEq, Repr

/-- A frame in a transmit queue (R315): its octets from destination address to FCS. -/
structure TxFrame where
  item : TxItem := .respond
  octets : Nat := 64
  deriving DecidableEq, Repr

/-- A receive ring (R312, R313): HEAD, descriptors that firmware holds, counts. -/
structure RxRing where
  head : Nat := 0
  used : Nat := 0
  drop : Nat := 0
  frames : Nat := 0
  deriving DecidableEq, Repr

/-- A transmit queue (R315). -/
structure TxQueue where
  head : Nat := 0
  sent : Nat := 0
  drop : Nat := 0
  frames : List TxFrame := []
  deriving DecidableEq, Repr

/-- A frame on the wire: its queue, the TIM cycle at which its data (after the preamble) begins, and the octets
sent in earlier fragments (R317); `mp` the number of its SMD-S when it goes as mPackets, with the frag_count of its next continuation (R316). -/
structure Sending where
  frame : TxFrame := {}
  tq : Nat := 0
  dataCyc : Nat := 0
  done : Nat := 0
  mp : Option (Nat × Nat) := none
  deriving DecidableEq, Repr

/-- States of verification (R318, ETHn_PRE_STAT). -/
inductive VerifySt where
  | disabled | init | verifying | succeeded | failed
  deriving DecidableEq, Repr

/-- A port. `smd` is the number of the next SMD-S sent (R316); `assy` the preemptable frame being reassembled, with the number of its SMD and the
frag_count that follows (R319); `credit` is in 1/8 octet (one per TIM cycle, R320) at TIM cycle `creditAt`; `suspended` a preempted
frame; `lastTx` what last went on the wire; `echo` the second and the replies sent in it (R452); `cache` addresses
resolved, with the TIM cycle of each. -/
structure EthPort where
  los : Bool := true
  sync : Bool := false
  an : Bool := false
  phyLink : Bool := false
  up : Bool := false
  verify : VerifySt := .init
  attempts : Nat := 0
  cnt : List Nat := List.replicate 15 0
  rq : List RxRing := List.replicate 8 {}
  tq : List TxQueue := List.replicate 4 {}
  sending : Option Sending := none
  suspended : Option Sending := none
  smd : Nat := 0
  assy : Option (Nat × Nat × List Byte) := none
  credit : Int := 16384
  creditAt : Nat := 0
  maxBacklog : Nat := 0
  lastTx : Option TxItem := none
  echo : Nat × Nat := (0, 0)
  cache : List (Nat × Nat × Nat) := []
  deriving DecidableEq, Repr

/-- ETH. `tok` holds each policer's tokens in 1/250,000 bit with the TIM cycle of the figure (R311). -/
structure EthState where
  ports : List EthPort := List.replicate 2 {}
  hits : List Nat := List.replicate 32 0
  tok : Tab (Nat × Nat) := []
  polDrop : List Nat := List.replicate 8 0
  mdioCmd : Nat := 0
  mdioErr : Bool := false
  mdioData : Nat := 0
  tcFwd : Nat := 0
  tcUncorr : Nat := 0
  tcSlow : Nat := 0
  tcMaxRes : Nat := 0
  deriving DecidableEq, Repr

end Sys2Proof.Machine
end

