-- ==== Sys2Proof/Machine/Types/Evq.lean ====
section
/-! DEFINITION. The event queues and the report rings (R395 to R407). -/
namespace Sys2Proof.Machine

/-- A packet in a report ring (R405, R406): its SEQ, its words and when it was last sent, in TIM cycles. -/
structure RingPkt where
  seq : Nat := 0
  words : List Word64 := []
  sentAt : Option Nat := none
  deriving DecidableEq, Repr

/-- One event queue (R395 to R400, R405, R406): visible packets and ring packets, oldest first. -/
structure EvqQueue where
  vis : List (List Word64) := []
  seq : Nat := 0
  lost : Nat := 0
  rewound : Nat := 0
  ring : List RingPkt := []
  ringIdx : Nat := 0
  newest : Option Nat := none
  ack : Nat := 0
  rlost : Nat := 0
  deriving DecidableEq, Repr

/-- EVQ (R409). RESEND is in units of 10 ms. -/
structure EvqState where
  queues : List EvqQueue := List.replicate 8 {}
  enable : Bool := false
  session : Nat := 0
  resend : Nat := 0xC8
  deriving DecidableEq, Repr

end Sys2Proof.Machine
end

