-- ==== Sys2Proof/Machine/Types/Mtr.lean ====
section
/-! DEFINITION. Feeder metering (R367 to R394). Sets t are L1, L2, L3 and the total; accumulators a are EIMP, EEXP, EQ1 to
EQ4, ES; an accumulator is held as one number in units of 2^-32 mWh. -/
namespace Sys2Proof.Machine

/-- An interval record (R383); `archived` that it is in the profile archive (R384). -/
structure IntRec where
  start : Nat := 0
  feeder : Nat := 0
  minutes : Nat := 15
  flags : Nat := 0
  eimp : Nat := 0
  eexp : Nat := 0
  eq : List Nat := [0, 0, 0, 0]
  residue : Int := 0
  archived : Bool := false
  deriving DecidableEq, Repr

/-- An interval of a feeder (R382): its number in UTC, START, FLAGS, the total accumulators at its start, the integral of i² of each
conductor, the sets that had import (bit t) and export (bit 4 + t) strokes and MISSING (R389). -/
structure OpenInt where
  idx : Nat := 0
  start : Nat := 0
  flags : Nat := 0
  counts : List Nat := List.replicate 7 0
  i2t : List Nat := [0, 0, 0, 0]
  seen : Nat := 0
  missing : Int := 0
  deriving DecidableEq, Repr

/-- A closed interval that awaits reconciliation: its end and the total accumulators then. -/
structure ClosedInt where
  int_ : OpenInt := {}
  ends : Nat := 0
  counts : List Nat := List.replicate 7 0
  deriving DecidableEq, Repr

/-- A feeder in a closed meter stroke (R376): active, reactive and apparent energy of L1 to L3 in 2^-32 units, Σi² of each conductor and
the flags the stroke gives its interval. -/
structure FeederStroke where
  e : List Int := [0, 0, 0]
  q : List Int := [0, 0, 0]
  s : List Nat := [0, 0, 0]
  i2 : List Nat := [0, 0, 0, 0]
  flags : Nat := 0
  deriving DecidableEq, Repr

/-- A closed meter stroke that the sign rule has still to take: start and length in ns, the number of the interval it belongs to and
that interval's START. -/
structure MeterStroke where
  start : Nat := 0
  len : Nat := 10000000
  samples : Nat := 80
  idx : Nat := 0
  intStart : Nat := 0
  late : Bool := false
  est : Bool := false
  bridge : Bool := false
  feeders : List FeederStroke := []
  deriving DecidableEq, Repr

/-- The last reconciliation of a feeder (MTR_Ff_REC_*), values in mWh. -/
structure RecView where
  start : Nat := 0
  meas : Int := 0
  lan : Int := 0
  loss : Int := 0
  other : Int := 0
  res : Int := 0
  skip : Bool := false
  otherDefault : Bool := false
  subst : Nat := 0
  deriving DecidableEq, Repr

/-- Mean power of a set in a stroke: active mW, reactive mvar, apparent mVA. -/
structure Power where
  p : Int := 0
  q : Int := 0
  s : Nat := 0
  deriving DecidableEq, Repr

/-- A total as stored: the value in units of 2^-32 mWh and its complement (R386, R394). -/
structure Total where
  v : BitVec 96 := 0
  n : BitVec 96 := 79228162514264337593543950335#96
  deriving DecidableEq, Repr

/-- A feeder. `acc` are the accumulators, `pub` their register copies, by 7t + a; `carry` the remainders below one unit of e, q and s
(R376); `powers` P, Q and S of the stroke last published, by set; `hi`, `lo` and `within` the runs of R392. -/
structure FeederSt where
  acc : List Nat := List.replicate 28 0
  pub : List Total := List.replicate 28 {}
  carry : List Int := List.replicate 9 0
  powers : List Power := List.replicate 4 {}
  sflags : List Nat := [0, 0, 0, 0]
  open_ : Option OpenInt := none
  closed : List ClosedInt := []
  intShown : Option ClosedInt := none
  rec_ : RecView := {}
  hi : Nat := 0
  lo : Nat := 0
  within : Nat := 0
  alarmHi : Bool := false
  alarmLo : Bool := false
  otherStart : Nat := 0
  other : Pair := {}
  otherGiven : Bool := false
  missing : Int := 0
  deriving DecidableEq, Repr

/-- A save slot (R386). KIND 1 periodic, 2 FINAL, 3 SLEEP; per feeder the accumulators, open and closed intervals and the total active
power of the last stroke in mW, each with its complement. Of the intervals and powers, whose octets the layout does not place, `opensN` and
`powerN` are what the complements spell; `crcOk` is whether the CRC matches the octets. -/
structure MtrSave where
  seq : Nat := 0
  snapSec : Nat := 0
  snapStk : Nat := 0
  kind : Nat := 1
  magic : List Byte := [0x56, 0x4D, 0x54, 0x53]
  acc : List (List Total) := []
  opens : List (Option OpenInt × List ClosedInt) := []
  opensN : List (Option OpenInt × List ClosedInt) := []
  power : List Int := []
  powerN : List Int := []
  crcOk : Bool := true
  deriving DecidableEq, Repr

/-- MTR's part of the ledger (R384, R386): the two save slots, the ring of interval records, oldest first, with its next index, the
records lost; `heldInPaddle` that a start has held MTR since the last save (R111). -/
structure LedgerMtr where
  slot0 : Option MtrSave := none
  slot1 : Option MtrSave := none
  ring : List IntRec := []
  head : Nat := 0
  archLost : Nat := 0
  heldInPaddle : Bool := false
  deriving DecidableEq, Repr

/-- A channel's faults and run times (R370). -/
structure MtrChan where
  stuck : Bool := false
  overload : Bool := false
  overs : Nat := 0
  deriving DecidableEq, Repr

/-- A temperature sensor (R374), s8.8: the reading in use, one for the next stroke, and whether it is STALE. -/
structure TempSt where
  val : Option Int := none
  next : Option Int := none
  stale : Bool := false
  deriving DecidableEq, Repr

/-- A residual channel's alarm (R378). -/
structure ResSt where
  above : Nat := 0
  below : Nat := 0
  alarm : Bool := false
  alarms : Nat := 0
  deriving DecidableEq, Repr

/-- Why accumulation was interrupted (R37, R389). -/
inductive GapWhy where
  | stationReset | moduleReset | cut | unsaved | sleep
  deriving DecidableEq, Repr

/-- An interruption of accumulation: why, its start in network time (ns) and the
power of each feeder and set to estimate with. -/
structure Gap where
  why : GapWhy := .stationReset
  start : Nat := 0
  power : List (List Power) := []
  deriving DecidableEq, Repr

/-- A lantern's report as reconciliation keeps it (R391): SFD time in ns, ENERGY in 0.1 Wh, POWER in 0.1 W. -/
structure LanReport where
  at_ : Nat := 0
  energy : Nat := 0
  power : Nat := 0
  deriving DecidableEq, Repr

/-- MTR. `pend` are closed strokes that wait for the sign rule, `shown` the stroke to be published; `cal` the calibration in use and
`calNext` one with its boundary; `settle` samples still to settle (R368); `rms` the values of the last window by channel and `rmsNext`
those to be published; `fixSums` Σx² and n of a fixed window; `gap` an interruption with the power to estimate and its start (network
time, TIM cycle, interval); `badCal` the units whose constants failed their pairs in this stroke (R70): channel c as c, sensor class k as 40 + k; `lan` reports by NAT index; `gapq` gap records to be written; `archDay` the last UTC day archived. -/
structure MtrState where
  chans : List MtrChan := List.replicate 40 {}
  temps : List TempSt := List.replicate 4 {}
  res : List ResSt := List.replicate 4 {}
  feeders : List FeederSt := List.replicate 8 {}
  cal : MeterRecord := {}
  calNext : Option (MeterRecord × Nat) := none
  badCal : List Nat := []
  pend : List MeterStroke := []
  lateNext : Bool := false
  shown : Option MeterStroke := none
  pubSec : Nat := 0
  pubWord : Word := 0
  running : Bool := false
  settle : Nat := 0
  rms : List Nat := List.replicate 40 0
  rmsNext : Option (List Nat) := none
  freq : Nat := 0
  freqValid : Bool := false
  freqNext : Option (Nat × Bool) := none
  fixed : Bool := false
  fixSums : Option (List (Nat × Nat)) := none
  pfMode : Bool := false
  ledgerLost : Bool := false
  loaded : Bool := false
  saveFinal : Bool := false
  saveSlot : Bool := false
  saveFails : Nat := 0
  saveSeq : Nat := 0
  gap : Option Gap := none
  closeNs : Nat := 0
  closeCyc : Nat := 0
  lan : Tab (List LanReport) := []
  gapq : List IntRec := []
  archDay : Nat := 0
  deriving DecidableEq, Repr

end Sys2Proof.Machine
end

