-- ==== Sys2Proof/Machine/Types/Tim.lean ====
section
/-! DEFINITION. Network time, the servo, compares and captures (R327 to R350). PTP times and
differences are in 2^-16 ns, edge instants in 0.5 ns, TIM cycles are 4 ns of the TCXO. -/
namespace Sys2Proof.Machine

/-- Time quality (R338). -/
inductive Quality where
  | locked | holdover | calendar | invalid
  deriving DecidableEq, Repr

/-- A master heard, from its latest Announce (R332). -/
structure Foreign where
  msg : AnnounceMsg := {}
  at_ : Nat := 0
  deriving DecidableEq, Repr

/-- A sample of the servo (R334): err and delay, whether it may be used, and the second it was taken in. -/
structure Sample where
  err : Int := 0
  delay : Int := 0
  sec : Nat := 0
  deriving DecidableEq, Repr

/-- A two-step Sync that awaits its Follow_Up (R334): t2, the Sync's correction and its source. -/
structure OpenSync where
  src : PtpSrc := {}
  t2 : Int := 0
  corr : Int := 0
  deriving DecidableEq, Repr

/-- An entry of the step log (R336). -/
structure StepEnt where
  sec : Nat := 0
  ns : Nat := 0
  amount : Int := 0
  seq : Nat := 0
  deriving DecidableEq, Repr

/-- States of a head-end step (R337). -/
inductive HeSt where
  | idle | pending | applied | discarded
  deriving DecidableEq, Repr

/-- The head-end step's registers (R337) and, while PENDING, the second whose stroke 1 it waits for. -/
structure HeadStep where
  state : HeSt := .idle
  absolute : Bool := false
  ns : Nat := 0
  secLo : Nat := 0
  secHi : Nat := 0
  atLo : Nat := 0
  atHi : Nat := 0
  target : Nat := 0
  deriving DecidableEq, Repr

/-- States of a compare unit (R342). -/
inductive CmpSt where
  | idle | armed | running | done
  deriving DecidableEq, Repr

/-- A general compare unit (R341 to R345). `k` is the index of the next instant of the series, `pin` the
level of TRGn and `lowAt` the low edge of a pulse still to come, in 0.5 ns. -/
structure CmpUnit where
  state : CmpSt := .idle
  mode : Nat := 0
  report : Bool := false
  half : Bool := false
  ns : Nat := 0
  secLo : Nat := 0
  secHi : Nat := 0
  width : Nat := 0
  period : Nat := 0
  count : Nat := 0
  late : Bool := false
  stepped : Bool := false
  missed : Nat := 0
  edges : Nat := 0
  fired : Nat := 0
  k : Nat := 0
  pin : Bool := false
  lowAt : Option Nat := none
  immediate : Bool := false
  deriving DecidableEq, Repr

/-- A capture (R349): the stamp in 0.5 ns and what is taken at its instant. -/
structure Capture where
  unit_ : Nat := 0
  rising : Bool := true
  quality : Quality := .invalid
  lostBefore : Nat := 0
  glitchBefore : Bool := false
  supprBefore : Nat := 0
  stepped : Bool := false
  stepSeq : Nat := 0
  stamp : Nat := 0
  errEst : Nat := 0
  seq : Nat := 0
  stroke : Nat := 0
  deriving DecidableEq, Repr

/-- A capture unit (R346, R347). -/
structure CapUnit where
  fifo : List Capture := []
  last : Option Nat := none
  lastTs : Nat := 0
  lostSince : Nat := 0
  glitchSince : Nat := 0
  supprSince : Nat := 0
  lost : Nat := 0
  glitch : Nat := 0
  suppr : Nat := 0
  seq : Nat := 0
  deriving DecidableEq, Repr

/-- TIM. `sub` is network time in 2^-32 ns since the epoch (R327, R328), `cyc` the TCXO time base, `freq` in
2^-24 ppb, `rate` in 2^-32 ns per TIM cycle, `rateNext` the RATE that takes effect at Finish (R335), `chosen` the sample the servo step that runs has chosen,
`stepPend` the servo's step for the next stroke 1 (R335) and `master` the selected master (R332). -/
structure TimState where
  sub : Nat := 0
  cyc : Nat := 0
  set : Bool := false
  rate : Int := 0
  freq : Int := 0
  phase : Int := 0
  rateNext : Option Int := none
  chosen : Option (Option Sample) := none
  qual : Quality := .invalid
  acquire : Bool := false
  goodRun : Nat := 0
  misses : Nat := 0
  errs : List Nat := []
  errEntry : Nat := 0
  entryCyc : Nat := 0
  offset : Int := 0
  delay : Int := 0
  samples : List Sample := []
  delays : List Int := []
  master : Option AnnounceMsg := none
  foreign : List Foreign := []
  openSync : Option OpenSync := none
  dresp : Option (Int × Nat) := none
  openDreq : Option (Nat × Nat × Int) := none
  openPdelay : Tab (Nat × Int) := []
  linkDelay : Tab (Int × Nat) := []
  reqSeq : Nat := 0
  taiUtc : Int := 0
  leap : Nat := 0
  fromMaster : Bool := false
  stepPend : Option Int := none
  head : HeadStep := {}
  stepSeq : Nat := 0
  steps : Nat := 0
  log : List StepEnt := List.replicate 8 {}
  ptp : List Nat := List.replicate 9 0
  cmps : List CmpUnit := List.replicate 8 {}
  caps : List CapUnit := List.replicate 8 {}
  savedAt : Nat := 0
  deriving DecidableEq, Repr

end Sys2Proof.Machine
end

