-- ==== Sys2Proof/Machine/Types/Pwr.lean ====
section
/-! DEFINITION. Power states, the EASY entry and the wake (R410 to R425), the pins the PMU watches
(R86, R88, R90, R91) and the pads as they are driven (R72 to R75, R416). -/
namespace Sys2Proof.Machine

/-- Power states (R410): `entering` while an entry is committed, `waking` during the steps of R420. -/
inductive PwrSt where
  | off | drive | feather | entering | easy | waking
  deriving DecidableEq, Repr

/-- PWR_WAKE_LAST (R425), with LAT in 0.1 ms. -/
structure WakeLast where
  source : Nat := 0
  result : Nat := 0
  failedStep : Nat := 0
  slow : Bool := false
  lat : Nat := 0
  deriving DecidableEq, Repr

/-- The fields of the save list (R417); `last` and `steps` are those of PWR_WAKE_LAST and PWR_WAKE_STEPS. -/
structure SaveList where
  entrySec : Nat := 0
  entryNs : Nat := 0
  quality : Quality := .invalid
  wakePlan : Nat := 0
  trigger : Nat := 0
  sources : Nat := 0
  failedWakes : Nat := 0
  slow : Bool := false
  easyLock : Bool := false
  retryUsed : Bool := false
  brownout : Bool := false
  last : WakeLast := {}
  steps : List Nat := [0, 0, 0, 0]
  deriving DecidableEq, Repr

/-- The save list as the AON store holds it (R417): the fields, what their complements spell, and the CRC-32C. -/
structure SaveRec where
  v : SaveList := {}
  n : SaveList := {}
  crc : Nat := 0
  deriving DecidableEq, Repr

/-- PWR_SLEEP_STAT (R425). -/
structure SleepStat where
  result : Nat := 0
  trigger : Nat := 0
  err : Err := .ok
  pending : Nat := 0
  deriving DecidableEq, Repr

/-- A wake in progress (R420, R421): its source, port, running step, TIM cycles of its start and of the step. -/
structure Wake where
  source : Nat := 0
  port : Nat := 0
  step : Nat := 1
  startCyc : Nat := 0
  stepCyc : Nat := 0
  waiting : Bool := false
  deriving DecidableEq, Repr

/-- An EASY entry (R412, R415): trigger, planned wake (TIME_SEC) and the step it stands at; 0 while it waits
for its Finish; `stepCyc` is the TIM cycle at which steps 1 and 2 began. -/
structure Entry where
  trigger : Nat := 1
  wakePlan : Nat := 0
  step : Nat := 0
  from_ : PwrSt := .drive
  atNs : Nat := 0
  quality : Quality := .invalid
  stepCyc : Nat := 0
  deriving DecidableEq, Repr

/-- PWR. `updAt` is the TIM cycle of the last use
of UPD (R410), `events` the records 0x0A02 and 0x0A03 owed at the next start (R421), `dayWait` a try of the day schedule that is made again (R413). -/
structure PwrState where
  state : PwrSt := .off
  since : Nat := 0
  feather : Option Bool := none
  featherNext : Option (Bool × Nat) := none
  sleepState : Nat := 0
  sleepLo : Nat := 0
  sleepHi : Nat := 0
  stat : SleepStat := {}
  entry : Option Entry := none
  holdA : Bool := false
  holdB : Bool := false
  last : WakeLast := {}
  steps : List Nat := [0, 0, 0, 0]
  wake : Option Wake := none
  cmpArmed : Bool := false
  frameArmed : Bool := false
  frameMatched : Bool := false
  cmpQualifying : Bool := false
  dayWait : Bool := false
  updAt : Nat := 0
  updGated : Bool := false
  events : List (Nat × Nat × Nat × Nat) := []
  entries : Nat := 0
  abandoned : Nat := 0
  deriving DecidableEq, Repr

/-- The level of a driven pad, or its high-impedance state (R72, R73). -/
inductive Pad where
  | z | zPu | zPd | low | high
  deriving DecidableEq, Repr

/-- What a serdes transmit pair carries: nothing, idle ordered sets, or frames (R72, R74). -/
inductive SerdesOut where
  | z | idle | frames
  deriving DecidableEq, Repr

/-- What an LED pad shows; `z` is Z-PU, at which the LED is off (R72, R93). -/
inductive LedShow where
  | z | off | on | blink1 | blink2 | blink4
  deriving DecidableEq, Repr

/-- The JTAG test access port (R92): held in reset, or running boundary scan. -/
inductive Tap where
  | reset | scan
  deriving DecidableEq, Repr

/-- What the owners drive their output pads to (R72, R74, R416), by unit where a name has several: RADn_RST_N, RADn_CS_N, RADn_SCK with RADn_MOSI and
RADn_TXGO, MCLK0 with MCLK1 and MSYNC, SBUS_CSn_N, SBUS_SCK with SBUS_MOSI, the serdes pairs, ETH_MDC, ETH_MDIO, QSPI_CS_N, QSPI_SCK, QSPI_IOn,
QSPI_RST_N, SRV_TXD, the GPIO pins that are not at Z-PD, and TDO. -/
structure Drivers where
  radRst : List Pad := List.replicate 4 .zPd
  radCs : List Pad := List.replicate 4 .zPu
  radBus : List Pad := List.replicate 4 .zPd
  radTxgo : List Pad := List.replicate 4 .zPd
  mclk : Pad := .zPd
  mclkRuns : Bool := false
  sbusCs : List Pad := List.replicate 4 .zPu
  sbus : Pad := .zPd
  serdes : List SerdesOut := List.replicate 2 .z
  mdc : Pad := .zPd
  mdio : Pad := .zPu
  qspiCs : Pad := .zPu
  qspi : Pad := .zPd
  qspiIo : List Pad := List.replicate 4 .zPu
  qspiRst : Pad := .zPd
  srvTxd : Pad := .zPu
  gpio : Tab Pad := []
  tdo : Pad := .z
  deriving DecidableEq, Repr

/-- The levels on the output pads: those of the drivers with TRGn and LEDn. -/
structure Levels extends Drivers where
  trg : List Pad := List.replicate 8 .zPd
  led : List LedShow := List.replicate 3 .z
  deriving DecidableEq, Repr

/-- The pins: inputs that the PMU and SYS watch, what the owners drive, and the levels a latched hold keeps (R75). TRGn follow their compare units
once TIM drives them, LEDn what SYS shows, `ledHeld` while SYS is in reset (R74). `pfiRise` is the TIM cycle at which a tripped PFI is above 1.05 V again (R86). The JTAG inputs are unconnected but for their pulls (R72, R92). -/
structure Pins extends Drivers where
  srvEn : Bool := false
  pfi : Bool := false
  pfiRise : Option Nat := none
  wakeCmp : Bool := false
  vin : Bool := false
  vbat : Bool := false
  trgDriven : Bool := false
  ledDriven : Bool := false
  ledHeld : Option (List LedShow) := none
  latch : Levels := {}
  trstN : Pad := .zPd
  tck : Pad := .zPd
  tms : Pad := .zPu
  tdi : Pad := .zPu
  deriving DecidableEq, Repr

end Sys2Proof.Machine
end

