-- ==== Sys2Proof/Machine/Types/Lgt.lean ====
section
/-! DEFINITION. The light engine (R130 to R161). -/
namespace Sys2Proof.Machine

/-- What CRS hands LGT for a channel (R162): the schedule's target and chromaticity words, the corridor flag and the
pass target word. -/
structure LightInput where
  sched : Pair := {}
  chroma : Pair := {}
  corr : Bool := false
  pass : Word := 0
  deriving DecidableEq, Repr

/-- The class of a change-list entry: corridor (L), timed entry of an H command, or none. -/
inductive EntCls where
  | plain | l | h
  deriving DecidableEq, Repr

/-- An entry of the change list (R155): codes as pairs, the words behind them, the apply boundary of a timed entry, the
command slot it belongs to and the network time (ns) at which RAD took it. -/
structure LightEntry where
  chan : Nat := 0
  strings : Nat := 1
  codes01 : Pair := {}
  codes23 : Pair := {}
  target : Word := 0
  chroma : Word := 0
  apply : Option Nat := none
  cls : EntCls := .plain
  slot : Option (Nat × Nat) := none
  since : Nat := 0
  deriving DecidableEq, Repr

/-- A command slot (R139). `serial` tells one command in a slot from the next, `cancelAt` is the boundary count of a cancel,
`outOf` the channels that were out of contact at admission (R53), `seen` that a Catch has found the slot PENDING (R131). -/
structure LgtCmd where
  state : SlotSt := .free
  prio : Nat := 0
  scope : Nat := 0
  allowCorr : Bool := false
  keepFlux : Bool := false
  keepChroma : Bool := false
  addr : Nat := 0
  tgt : Pair := {}
  chroma : Pair := {}
  execLo : Nat := 0
  execHi : Nat := 0
  execNs : Nat := 0
  endLo : Nat := 0
  endHi : Nat := 0
  endNs : Nat := 0
  addressed : Nat := 0
  confirmed : Nat := 0
  cancelAt : Option Nat := none
  timed : Bool := false
  serial : Nat := 0
  outOf : List Nat := []
  seen : Bool := false
  deriving DecidableEq, Repr

/-- What a stroke's computation gives a channel, as its registers show it from publication on (R130, R132). Flags are bits [10:0] of LGT_CHFLAGS. -/
structure ChanOut where
  target : Pair := {}
  chroma : Pair := {}
  codes01 : Pair := {}
  codes23 : Pair := {}
  sflux : List Nat := [0, 0, 0, 0]
  cur : List Nat := [0, 0, 0, 0]
  fold : Nat := 0x8000
  flags : Nat := 0
  temp : Word := 0xFFFF8000
  sent01 : Pair := {}
  sent23 : Pair := {}
  hours : List Nat := [0, 0, 0, 0]
  held : Nat := 0
  bin : Option BinRecord := none
  deriving DecidableEq, Repr

/-- A configured channel. `inp` and `temp` are frozen at Catch, `pairBad` and `stale` with them; `sentTgt` and `sentChroma` are the
words behind the codes last sent; `timed` a timed entry sent whose boundary is still ahead; `lamp` the last accepted temperature with its
receipt time in ns, `frozen` and `badFrozen` what Catch took of it and of TEMP_BAD; `recBad` that a pair of its record failed (R70); `hfrac` the strokes toward the next count of LGT_HOURS; `fed` says that CRS has handed an input since the reset, `wasSent`
that codes have been sent since the start. -/
structure LgtChan where
  inp : LightInput := {}
  given : LightInput := {}
  temp : Option Int := none
  pairBad : Bool := false
  staleInput : Bool := false
  out : ChanOut := {}
  sent01 : Pair := {}
  sent23 : Pair := {}
  sentTgt : Word := 0
  sentChroma : Word := 0
  timed : Option LightEntry := none
  lamp : Option (Int × Nat) := none
  lampBad : Bool := false
  frozen : Option (Int × Nat) := none
  badFrozen : Bool := false
  recBad : Bool := false
  hours : List Nat := [0, 0, 0, 0]
  hfrac : List Nat := [0, 0, 0, 0]
  binRec : Option BinRecord := none
  fed : Bool := false
  wasSent : Bool := false
  deriving DecidableEq, Repr

/-- A stroke's results until publication (R132): channels, change list, timed entries with their slots, records judged. -/
structure LgtWork where
  outs : List (Nat × ChanOut) := []
  list : List LightEntry := []
  timed : List LightEntry := []
  slots : List Nat := []
  recs : List (Nat × BinRecord × Bool) := []
  deriving DecidableEq, Repr

/-- LGT. `classes` are the colour classes as pairs and `badClasses` those whose pairs failed at this stroke's Catch (R145, R159); `work` holds a stroke's
results until publication; `list` the change list published and `timedOut` timed entries for RAD; `recq`
records awaiting precomputation and `ready` those precomputed; `force` channels to queue once; `dbNext` and `hoursNext` writes that wait for
their boundary; `strokes` counts toward the hourly save (R153). -/
structure LgtState where
  chans : Tab LgtChan := []
  classes : Tab (List Pair) := []
  badClasses : List Nat := []
  cmds : List LgtCmd := List.replicate 32 {}
  serial : Nat := 0
  deadband : Nat := 2
  dbNext : Option (Nat × Nat) := none
  hoursNext : List (Nat × Nat × Nat × Nat) := []
  force : List Nat := []
  forceNext : List (Nat × Nat) := []
  usedUs : Nat := 0
  worst : Nat := 0
  changed : Nat := 0
  recRefused : Nat := 0
  recq : List (Nat × BinRecord) := []
  ready : List (Nat × BinRecord) := []
  work : Option LgtWork := none
  list : List LightEntry := []
  listAt : Nat := 0
  timedOut : List LightEntry := []
  strokes : Nat := 0
  mode : Nat := 2
  deriving DecidableEq, Repr

end Sys2Proof.Machine
end

