-- ==== Sys2Proof/Machine/Types/Crs.lean ====
section
/-! DEFINITION. Schedules, modes, corridors and handoffs (R162 to R194). -/
namespace Sys2Proof.Machine

/-- A schedule step as CRS holds it (R169). -/
structure Step where
  trig : Pair := {}
  tgt : Pair := {}
  chroma : Pair := {}
  deriving DecidableEq, Repr

/-- A mode-request slot (R174). `dueAt` is the boundary count of a START 0 or a past one, `cancelAt` that of a cancel, `cancelled` that it was. -/
structure MReq where
  state : SlotSt := .free
  mode : Nat := 0
  startLo : Nat := 0
  startHi : Nat := 0
  endLo : Nat := 0
  endHi : Nat := 0
  dueAt : Option Nat := none
  cancelAt : Option Nat := none
  cancelled : Bool := false
  deriving DecidableEq, Repr

/-- A detector event or accepted handoff that waits for its evaluation (R162, R187): `accepted` is the stroke in which it was accepted. Chainage
in 0.1 m, speed in cm/s, times in ns. -/
structure CorrEvent where
  accepted : Nat := 0
  td : Nat := 0
  nbr : Option Nat := none
  nat : Nat := 0
  course : Nat := 0
  neg : Bool := false
  cd : Nat := 0
  speed : Nat := 0
  cls : Nat := 0
  ident : Nat := 0
  payload : List Byte := []
  sfd : Nat := 0
  qual : Nat := 0
  deriving DecidableEq, Repr

/-- A corridor record (R182, R186, R188). `arrival` is the neighbour arrival time of the handoff
sent or held, `owed` that one is still to be handed over. -/
structure Corridor where
  course : Nat := 0
  neg : Bool := false
  speed : Nat := 0
  cls : Nat := 0
  td : Nat := 0
  cd : Nat := 0
  ident : Nat := 0
  nbr : Option Nat := none
  nat : Nat := 0
  handed : Bool := false
  owed : Bool := true
  arrival : Option Nat := none
  deriving DecidableEq, Repr

/-- A handoff built or sent (R189, R193). `firstAt` is the network time of the first attempt; `corr` the corridor record; `outcome` is set
once it is final. -/
structure Handoff where
  nbr : Nat := 0
  corr : Nat := 0
  ident : Nat := 0
  counter : Nat := 0
  data : List Byte := []
  firstAt : Option Nat := none
  attempts : Nat := 0
  outcome : Option Nat := none
  deriving DecidableEq, Repr

/-- The fields of a HANDOFF that was opened (R190): COUNTER of its header and its body. Chainage in 0.1 m, speed in cm/s. -/
structure HandoffMsg where
  counter : Nat := 0
  course : Nat := 0
  neg : Bool := false
  cls : Nat := 0
  speed : Nat := 0
  corridor : Nat := 0
  entry : Nat := 0
  arrSec : Nat := 0
  arrNs : Nat := 0
  deriving DecidableEq, Repr

/-- The state towards a neighbour (R191, R192): next COUNTER, highest accepted with its datagram, and whether a floor was lost. -/
structure NbrState where
  tx : Nat := 1
  rx : Nat := 0
  rxMsg : Option (List Byte) := none
  suspended : Bool := false
  deriving DecidableEq, Repr

/-- What CRS keeps of a channel: the flag last handed and the RAMP_DN of the course that last gave its pass flux (R185), the flux last
handed after scaling (R177). -/
structure CrsChan where
  flag : Bool := false
  rampDn : Nat := 0
  lit : Bool := false
  deriving DecidableEq, Repr

/-- A corridor active on a channel at s: ramp start, pass word and RAMP_DN (R184 to R186). -/
structure Boost where
  start : Int := 0
  pass : Word := 0
  rampDn : Nat := 0
  deriving DecidableEq, Repr

/-- What schedule and corridors want for a channel in the stroke that begins (R162): its light group, feeder, schedule words and boost. -/
structure Wanted where
  chan : Nat := 0
  group : Nat := 0
  feeder : Nat := 0
  tgt : Word := 0
  chroma : Word := 0
  boost : Option Boost := none
  deriving DecidableEq, Repr

/-- CRS. `levels` holds each program's target and chromaticity words as last evaluated (R176). `floorOwed` holds the neighbours whose receive floor is to be saved in this stroke's Recovery (R274). `progState` gives each program's STEP in force and its skipped steps; `sunDay` is local date D in days since 1970 for which
events are held; `localSec`, `utcOfs`, `summer` and `special` the values of the last evaluation; `deferQ` starts that wait, with
the boundary at which they became due, and their channel; `next` what the evaluation gave for the next stroke; `hoMet` corridor records whose
handoff is to be built in the next stroke. -/
structure CrsState where
  mode : Nat := 2
  baseMode : Nat := 2
  susp : Bool := false
  evaluated : Bool := false
  localSec : Nat := 0
  utcOfs : Int := 0
  summer : Bool := false
  special : Bool := false
  stagger : Nat := 8
  staggerNext : Option (Nat × Nat) := none
  progs : List (List Step) := []
  stepsNext : List (Nat × Nat × Nat × Word × Nat) := []
  progState : List (Nat × Nat) := List.replicate 32 (0x1F, 0)
  levels : List (Word × Word) := List.replicate 32 (0, 0)
  mreqs : List MReq := List.replicate 8 {}
  sunDay : Option Nat := none
  events : List CorrEvent := []
  corrs : Tab Corridor := []
  handoffs : List Handoff := []
  nbrs : List NbrState := List.replicate 8 {}
  floorOwed : List Nat := []
  chans : Tab CrsChan := []
  deferQ : List (Nat × Nat) := []
  afterReset : Bool := false
  nextIdent : Nat := 1
  next : Option (List Wanted) := none
  hoMet : List Nat := []
  evtIn : Nat := 0
  evtRef : Nat := 0
  merged : Nat := 0
  staggerCnt : Nat := 0
  deferredNow : Nat := 0
  hoSent : Nat := 0
  hoUnconf : Nat := 0
  hoRecv : Nat := 0
  hoRef : Nat := 0
  deriving DecidableEq, Repr

end Sys2Proof.Machine
end

