-- ==== Sys2Proof/Machine/Types/Rad.lean ====
section
/-! DEFINITION. The segment radio, the NAT, duty accounts and link security (R195 to R302). -/
namespace Sys2Proof.Machine

/-- A NAT entry (R221). ROLE codes: 1 LANTERN, 2 RELAY, 3 DETECTOR, 4 SENSOR; RSSI is signed dBm. -/
structure NatEnt where
  ext : Nat := 0
  short : Nat := 0
  role : Nat := 1
  port : Nat := 0
  depth : Nat := 0
  channel : Nat := 0
  parent : Nat := 0xFFF
  enrolled : Bool := false
  adrift : Bool := false
  explicit_ : Bool := true
  keyIndex : Nat := 0x20
  drift : Nat := 0
  rxSeq : Nat := 0
  txSeq : Nat := 0
  linkEpoch : Nat := 0
  rejoinRank : Nat := 0
  eventGroup : Nat := 0xFF
  rxFc : Nat := 0
  txFc : Nat := 0
  lastTs32 : Nat := 0
  lastSec : Nat := 0
  guard_ : Nat := 0
  pending : Nat := 0
  missed : Nat := 0
  rssi : Int := 0
  lq : Nat := 0
  upmax : Nat := 0
  upSlot : Nat := 0
  upOfs : Nat := 0
  upPeriod : Nat := 1
  upPhase : Nat := 0
  lpl : Nat := 0
  rxOk : Nat := 0
  rxDrop : Nat := 0
  txUnconf : Nat := 0
  deriving DecidableEq, Repr

/-- The hash tables of the NAT (R223): per table (extended, short) two ways of bucket to index, the stash of (short key?, index), the
seed generation and whether a rebuild is owed. -/
structure NatHash where
  gen : Nat := 0
  rebuild : Bool := false
  ext0 : Tab Nat := []
  ext1 : Tab Nat := []
  short0 : Tab Nat := []
  short1 : Tab Nat := []
  stash : List (Bool × Nat) := []
  deriving DecidableEq, Repr

/-- States of a port (R239). -/
inductive PortSt where
  | off | reset | init | run | quiet | rxOnly | noLight | fault
  deriving DecidableEq, Repr

/-- A run of a template (R198): OP, the octets on MOSI, the results kept, and the runs of STATUS that its check took. -/
structure SpiRun where
  op : Nat := 0
  sent : List Byte := []
  results : List Nat := []
  polls : Nat := 0
  deriving DecidableEq, Repr

/-- A frame as armed (R209, R286): destination node or broadcast, security level, key index, counter or ASN, octets of MTYPE's body in clear, its
length on air, the nonce (R270) and the whole PSDU; the network time in ns at which the preamble of its first copy starts (R203), the copies sent
and the time from one to the next (R252). Of an ack `body` is what stands between the addresses and the MIC. -/
structure AirFrame where
  mtype : Nat := 0
  node : Option Nat := none
  extDest : Option Nat := none
  level : Nat := 6
  keyIndex : Nat := 0
  counter : Nat := 0
  explicit_ : Bool := false
  body : List Byte := []
  octets : Nat := 0
  nonce : List Byte := []
  psdu : List Byte := []
  start : Nat := 0
  copies : Nat := 1
  period : Nat := 0
  deriving DecidableEq, Repr

/-- A light frame kept for its repeats (R233): transmissions left and the ASN from which the next is due. -/
structure LightFrame where
  frame : AirFrame := {}
  entries : List LightEntry := []
  cls : EntCls := .plain
  left : Nat := 0
  due : Nat := 0
  deriving DecidableEq, Repr

/-- What is queued for a node: a lantern command or sensor downlink with its CMD, an enrolment or rejoin response, or a wake train with RESYNC, which
is no frame for the node to receive (R282). -/
inductive UniKind where
  | command | downlink | enrol | rejoin | resync
  deriving DecidableEq, Repr

/-- A queued unicast (R219, R232, R250 to R254). `sent` is the ASN and counter of an attempt whose ack is awaited; `urgent` that it is
marked so, `train` that a wake train is to announce it; `rdv` the slot a train has announced; `parts` the SUBs an enrolment frame carries. -/
structure Unicast where
  node : Nat := 0
  kind : UniKind := .command
  cmd : Nat := 0
  data : List Byte := []
  left : Nat := 3
  tries : Nat := 0
  sent : Option (Nat × Nat) := none
  urgent : Bool := false
  train : Bool := false
  rdv : Option Nat := none
  queuedNs : Nat := 0
  call : Option Nat := none
  device : Bool := false
  extAddr : Bool := false
  parts : List Nat := []
  deriving DecidableEq, Repr

/-- An entry whose outcome a lantern report decides (R291). -/
structure OutWait where
  chan : Nat := 0
  nat : Nat := 0
  slot : Nat := 0
  serial : Nat := 0
  counter : Nat := 0
  lastNs : Nat := 0
  last : Bool := false
  deriving DecidableEq, Repr

/-- A radio port. `asn` is the last slot begun, `maxAsn` the highest ASN used for a beacon or ack (R271); `queue`, `timedq` and `refresh` hold what is
still to be framed, `staged` what Drive prepared for the next stroke; `last` the last frame armed; `ack` an ack loaded for E + 400 µs with its
instant; `lastFb` the second of the last fallback instruction; `rstUntil` the TIM cycle until which a
pulse holds RADn_RST_N low and `readyAt` that at which the ready time after it ends (R80, R195); `idleOwed` that the idle command is still to be sent
before first use (R74); `full` a full-interval train with its node, its frame and
the ASN at which its interval ends (R256); `faultAt` the TIM cycle at which the port entered FAULT (R240); `spi` the runs of templates since the slot began, and `txgo`
the network time in ns of the last rising edge of RADn_TXGO (R215). -/
structure RadPort where
  state : PortSt := .reset
  cause : Nat := 0
  initFails : Nat := 0
  asn : Option Nat := none
  maxAsn : Nat := 0
  sfd : Nat := 0
  cnt : List Nat := List.replicate 14 0
  queue : List LightEntry := []
  timedq : List LightEntry := []
  refresh : List Nat := []
  frames : List LightFrame := []
  uni : List Unicast := []
  bulk : List (Nat × Nat) := []
  last : Option AirFrame := none
  ack : Option (AirFrame × Nat) := none
  fbMode : Nat := 0
  fbSince : Nat := 0
  lastFb : Nat := 0
  rstUntil : Nat := 0
  readyAt : Nat := 0
  idleOwed : Bool := false
  full : Option (Nat × AirFrame × Nat) := none
  faultAt : Nat := 0
  spi : List SpiRun := []
  txgo : Nat := 0
  deriving DecidableEq, Repr

/-- What RAD keeps of a node beside its NAT entry. Times in ns of network time; `trefStep` is the sequence number of the last step before `tref`; `owed` is the ASN of an uplink acknowledged with the pending bit; `rec`
the parts of a binning record with the time of the first and the attempts; `newEpoch` an epoch offered and not yet used (R281); `served` the superframe from which the node's UP cells are served (R257). -/
structure NodeDyn where
  tref : Option Nat := none
  trefStep : Nat := 0
  contact : Option Nat := none
  owed : Option Nat := none
  lastFull : Option Nat := none
  newEpoch : Option Nat := none
  recParts : Tab (List Byte) := []
  recAt : Nat := 0
  recTries : Nat := 0
  entryAt : Nat := 0
  fbCodes : List Nat := []
  test : Bool := false
  rekeying : Bool := false
  keyOwed : List Nat := []
  devRx : Nat := 0
  oldKey : Bool := false
  served : Nat := 0
  parts : List Nat := []
  deriving DecidableEq, Repr

/-- A duty account (R259 to R263): bins of 1 s as charges to BOOK, RESERVE and GENERAL, newest first; SHEDk; full-interval trains of the last
hour by bin number. -/
structure DutyAcc where
  bins : List (Nat × Nat × Nat) := [(0, 0, 0)]
  shed : List Nat := [0, 0, 0, 0, 0]
  full : List Nat := []
  deriving DecidableEq, Repr

/-- A commissioning scan (R472). -/
structure Scan where
  call : Nat := 0
  ports : Nat := 0
  test : Bool := false
  endNs : Nat := 0
  seen : List Nat := []
  held : List Nat := []
  deriving DecidableEq, Repr

/-- RAD. `sns` is RAD_SNS_CNTj, `binNo` the number of the current duty bin; `lateList` a change list published too late for its stroke's framing (R22); `evictAt` a NAT entry to evict with its boundary; `floorOwed` the nodes
whose receive floors are to be saved in this stroke's Recovery (R274); `waits` the work that waits for a resource, with the time-outs it has had
(R57, R58). -/
structure RadState where
  ports : List RadPort := List.replicate 4 {}
  nat : Tab NatEnt := []
  dyn : Tab NodeDyn := []
  hash : NatHash := {}
  refresh : Nat := 10
  refreshNext : Option (Nat × Nat) := none
  late : Nat := 0
  findShort : Bool := false
  findLo : Nat := 0
  findHi : Nat := 0
  cmdStat : Nat := 0
  cmdErr : Err := .ok
  evictAt : Option (Nat × Nat) := none
  sns : List Nat := List.replicate 7 0
  duty : List DutyAcc := List.replicate 4 {}
  binNo : Nat := 0
  binAt : Nat := 0
  outs : List OutWait := []
  staged : List LightEntry := []
  stagedTimed : List LightEntry := []
  lateList : List LightEntry := []
  scan : Option Scan := none
  groupCtr : List Nat := [1, 1, 1, 1]
  switches : List (Nat × Nat × Nat) := []
  floorOwed : List Nat := []
  waits : List (Work × Nat) := []
  deriving DecidableEq, Repr

/-! ## Link security -/

/-- A key with the network second at which it was generated or imported. -/
structure Key where
  key : BitVec 128 := 0
  born : Nat := 0
  deriving DecidableEq, Repr

/-- The key store (R100, R267, R442, R443): the city anchor, DEVICE and link keys by NAT index, shared slots, and the counters it holds. -/
structure KeyStore where
  anchor : Option KeyId := none
  coSign : Bool := false
  rollCtr : Nat := 0
  importCtr : Nat := 0
  devCtr : Nat := 1
  device : Tab Key := []
  link0 : Tab Key := []
  link1 : Tab Key := []
  shared : Tab Key := []
  deriving DecidableEq, Repr

/-- SEC. `cnt` is SEC_CNTj; `floorLost` NAT entries whose floors were lost; `rekeying` those whose old generation is kept; `groupGen` and
`beaconGen` the generations transmitted. -/
structure SecState where
  cnt : List Nat := List.replicate 6 0
  cmdStat : Nat := 0
  cmdErr : Err := .ok
  floorLost : List Nat := []
  rekeying : List Nat := []
  groupGen : List Nat := [0, 0, 0, 0]
  beaconGen : Nat := 0
  deriving DecidableEq, Repr

/-- A counter floor as stored (R273): a pair in each of two alternating slots. A blank slot holds no valid pair. -/
structure Floor where
  a : Pair := { v := 0, n := 0 }
  b : Pair := { v := 0, n := 0 }
  deriving DecidableEq, Repr

/-- The parts of the ledger that RAD, SEC, CRS and LGT own: NAT saves (R224), counter floors by owner (R273, R274, R191) with that of the device key by
node, duty bins (R261), string hours (R153). -/
structure LedgerRad where
  nat : Option (Tab NatEnt) := none
  linkTx : Tab Floor := []
  linkRx : Tab Floor := []
  shared : Tab Floor := []
  devRx : Tab Floor := []
  hoTx : Tab Floor := []
  hoRx : Tab Floor := []
  duty : List DutyAcc := []
  hours : Tab (List Nat) := []
  deriving DecidableEq, Repr

end Sys2Proof.Machine
end

