-- ==== Sys2Proof/Machine/Types/Rtc.lean ====
section
/-! DEFINITION. The calendar (R351 to R366, R497). -/
namespace Sys2Proof.Machine

/-- The calendar fields (R351), as numbers; registers show them in BCD. The reset value is that of R360. -/
structure Cal where
  sec : Nat := 0
  min : Nat := 0
  hour : Nat := 0
  day : Nat := 1
  month : Nat := 1
  year : Nat := 2000
  wday : Nat := 0
  deriving DecidableEq, Repr

/-- An alarm (R365). TIME and DATE hold BCD as written. -/
structure Alarm where
  armed : Bool := false
  wake : Bool := false
  mask : Nat := 0
  time : Nat := 0
  date : Nat := 0
  deriving DecidableEq, Repr

/-- A commit that has passed its checks and waits for its AON edge (R358); `at_` is the network second boundary (ns) an ON_SECOND
commit waits for and `stgAfter` whether a staging register was written since. -/
structure Commit where
  cal : Cal := {}
  onSecond : Bool := false
  stgAfter : Bool := false
  at_ : Nat := 0
  deriving DecidableEq, Repr

/-- RTC. `edgeCyc` is the TIM cycle of the last second edge and `len` the length of the running second in
AON cycles; `rep` marks the repeated second 59 (R355); `snap` and `stg` hold RTC_SEC to RTC_WDAY in
register order; `phases` the first and the last phase of the 24 h window, in µs, with their number;
AGING is in 0.1 ppm, `agingN` its complement as stored. -/
structure RtcState where
  cal : Cal := {}
  edgeCyc : Nat := 0
  len : Nat := 32768
  osf : Bool := false
  epochWrap : Bool := false
  rep : Bool := false
  leap : Nat := 0
  setErr : Bool := false
  cause : Nat := 0
  snapValid : Bool := false
  snap : List Nat := List.replicate 8 0
  subsec : Nat := 0
  stgDirty : Bool := false
  stg : List Nat := List.replicate 8 0
  commit : Option Commit := none
  alm0 : Bool := false
  alm1 : Bool := false
  alarm0 : Alarm := {}
  alarm1 : Alarm := {}
  temp : Int := 0
  d : Int := 0
  n : Int := 0
  j : Nat := 0
  aging : Int := 0
  agingN : Word := 0xFFFFFFFF
  phase : Int := 0
  phases : Option (Int × Int × Nat) := none
  learn : Bool := false
  checkOwed : Bool := false
  deriving DecidableEq, Repr

end Sys2Proof.Machine
end

