-- ==== Sys2Proof/Machine/Types/Store.lean ====
section
/-! DEFINITION. What outlives a module reset: the attached flash (R97), the FRAM ledger, the AON store (R107, R417)
and the key store (R100). -/
namespace Sys2Proof.Machine

/-- A start-count copy as stored: the value and its complement (R107). -/
structure CountPair where
  val : Nat := 0
  neg : Nat := 0
  deriving DecidableEq, Repr

/-- The attached flash (R97). Blank regions are absent; `slotBlocks` the blocks of a full image transfer as programmed in the slot it is
written to (R429); `archive` the programmed sectors of the profile archive, oldest first; `quadEn` the flash's quad-enable bit (R84). -/
structure Flash where
  hdr0 : BootHdr := {}
  hdr1 : BootHdr := {}
  imageA : Option Image := none
  imageB : Option Image := none
  rigA : Option Rig := none
  rigB : Option Rig := none
  trims : Tab Trim := []
  cal0 : CalHalf := {}
  cal1 : CalHalf := {}
  staging : Tab (List Word) := []
  slotBlocks : Tab (List Word) := []
  archive : List (List IntRec) := []
  quadEn : Bool := false
  deriving DecidableEq, Repr

/-- The AON store (R107, R363, R417, R421). -/
structure Aon where
  count : Option CountPair := none
  save : Option SaveRec := none
  aging : Option Int := none
  failedWakes : Nat := 0
  slow : Bool := false
  easyLock : Bool := false
  retryUsed : Bool := false
  brownout : Bool := false
  deriving DecidableEq, Repr

/-- What TIM saves (R340). -/
structure TimSave where
  sec : Nat := 0
  freq : Int := 0
  taiUtc : Int := 0
  deriving DecidableEq, Repr

/-- The part of the ledger that SYS, TIM, RTC, PWR and UPD own. -/
structure LedgerSys where
  count : Option CountPair := none
  starts : Nat := 0
  tim : Option TimSave := none
  capLog : List Capture := []
  capWritten : Nat := 0
  aging : Option Int := none
  xfer : Option Xfer := none
  updLast : UpdLast := {}
  updPending : Bool := false
  easyLock : Bool := false
  wakeTotal : Nat := 0
  easyTime : Nat := 0
  pfCnt : Nat := 0
  deriving DecidableEq, Repr

end Sys2Proof.Machine
end

