-- ==== Sys2Proof/Machine/State.lean ====
section
/-! DEFINITION. The state of the module: one structure per station, the Cox, the pins, main SRAM and what
outlives a module reset, with the queue of commands that wait. -/
namespace Sys2Proof.Machine

/-- Reasons to stop with a fault. The spec gives every command an effect, so no command raises one. -/
inductive Fault where
  deriving DecidableEq, Repr

/-- Reasons to refuse a command. -/
inductive Refusal where
  /-- Raised by an arm of exec whose command has no meaning yet; safe: it only stops. -/
  | notModelled (mnemonic : String)
  deriving DecidableEq, Repr

/-- What the module as a whole is doing (R77, R101, R113, R410). -/
inductive ModPhase where
  | off | held | starting | running | recovery | easy
  deriving DecidableEq, Repr

structure State where
  modp : ModPhase := .off
  bankA : BankLevel := .notValid
  bankB : BankLevel := .notValid
  sys : SysState := {}
  vtp : VtpState := {}
  calls : List CallRec := List.replicate 8 {}
  cox : Cox := {}
  stns : List StnRec := List.replicate 13 {}
  cfg : CfgState := {}
  tim : TimState := {}
  rtc : RtcState := {}
  eth : EthState := {}
  evq : EvqState := {}
  lgt : LgtState := {}
  crs : CrsState := {}
  rad : RadState := {}
  sec : SecState := {}
  keys : KeyStore := {}
  mtr : MtrState := {}
  ledr : LedgerRad := {}
  ledm : LedgerMtr := {}
  ledBad : List Stn := []
  flashBad : List Stn := []
  pwr : PwrState := {}
  upd : UpdState := {}
  pins : Pins := {}
  flash : Flash := {}
  led : LedgerSys := {}
  aon : Aon := {}
  mem : List Host.Cell := []
  latch : Tab Word := []
  free : Nat := 0
  ahead : Ahead := {}
  pending : List Instr := []
  deriving DecidableEq, Repr

/-- The module before VIN is applied: every register at the reset value its map gives, stores blank. -/
def State.reset : State := {}

end Sys2Proof.Machine
end

