-- ==== Sys2Proof/Machine/RegMap.lean ====
section
/-! DEFINITION. The register maps of the thirteen stations as data: R496 (CFG), R161 (LGT), R194 (CRS), R241 and R266 (RAD), R302 (SEC), R325
(ETH), R350 (TIM), R366 (RTC), R394 (MTR), R409 (EVQ), R425 (PWR), R451 (UPD), R477 (SYS). -/
namespace Sys2Proof.Machine

/-- Access of a register to a VTP WRITE (R6, R461): refused, taken, or taken and read as 0. -/
inductive Access where
  | ro | rw | wo
  deriving DecidableEq, Repr

/-- A row of a register map: first offset; strides with their counts, widest stride first; access; 1 for the word of a pair
and 2 for its complement (R9); the words of the wide value that begins here (R3), 1 for none. -/
structure RegRow where
  base : Nat
  dims : List (Nat × Nat)
  acc : Access
  pair : Nat
  wide : Nat
  deriving DecidableEq, Repr

/-- Whether a row lists an offset. -/
def RegRow.has (r : RegRow) (off : Nat) : Bool :=
  r.base ≤ off && r.dims.foldl (fun rem d => rem - min (rem / d.1) (d.2 - 1) * d.1) (off - r.base) = 0

/-- Registers of CFG. -/
def cfgRegs : List RegRow := [
  ⟨0x0, [], .ro, 0, 1⟩, -- CFG_ID
  ⟨0x4, [], .ro, 0, 1⟩, -- CFG_FIND_COUNT
  ⟨0x100, [(0x4, 64)], .ro, 0, 1⟩] -- CFG_FINDINGSk

/-- Registers of LGT, part 0. -/
def lgtRegs0 : List RegRow := [
  ⟨0x0, [], .ro, 0, 1⟩, -- LGT_ID
  ⟨0x4, [], .rw, 0, 1⟩, -- LGT_CTRL
  ⟨0x8, [], .ro, 0, 1⟩, -- LGT_STATUS
  ⟨0xC, [], .ro, 0, 1⟩, -- LGT_WORST
  ⟨0x10, [], .ro, 0, 1⟩, -- LGT_RECQ
  ⟨0x14, [], .ro, 0, 1⟩, -- LGT_FLAGGED
  ⟨0x18, [], .wo, 0, 1⟩, -- LGT_FORCE
  ⟨0x1C, [], .ro, 0, 1⟩, -- LGT_CMD_PEND
  ⟨0x100, [(0x4, 48)], .ro, 0, 1⟩, -- LGT_LOCUSk
  ⟨0x200, [(0x10, 16)], .ro, 0, 1⟩, -- LGT_GRPg_CTL
  ⟨0x204, [(0x10, 16)], .ro, 0, 1⟩, -- LGT_GRPg_CHROMA
  ⟨0x208, [(0x10, 16)], .ro, 0, 1⟩, -- LGT_GRPg_LIM
  ⟨0x1000, [(0x40, 32)], .rw, 0, 1⟩, -- LGT_CMDk_CTRL
  ⟨0x1004, [(0x40, 32)], .rw, 1, 1⟩, -- LGT_CMDk_TGT
  ⟨0x1008, [(0x40, 32)], .rw, 2, 1⟩, -- LGT_CMDk_TGT_N
  ⟨0x100C, [(0x40, 32)], .rw, 1, 1⟩, -- LGT_CMDk_CHROMA
  ⟨0x1010, [(0x40, 32)], .rw, 2, 1⟩, -- LGT_CMDk_CHROMA_N
  ⟨0x1014, [(0x40, 32)], .rw, 0, 2⟩, -- LGT_CMDk_EXEC_SEC_LO
  ⟨0x1018, [(0x40, 32)], .rw, 0, 1⟩, -- LGT_CMDk_EXEC_SEC_HI
  ⟨0x101C, [(0x40, 32)], .rw, 0, 1⟩, -- LGT_CMDk_EXEC_NS
  ⟨0x1020, [(0x40, 32)], .rw, 0, 2⟩, -- LGT_CMDk_END_SEC_LO
  ⟨0x1024, [(0x40, 32)], .rw, 0, 1⟩, -- LGT_CMDk_END_SEC_HI
  ⟨0x1028, [(0x40, 32)], .rw, 0, 1⟩, -- LGT_CMDk_END_NS
  ⟨0x102C, [(0x40, 32)], .ro, 0, 1⟩, -- LGT_CMDk_OUT
  ⟨0x4000, [(0x400, 16), (0x8, 9)], .ro, 1, 1⟩, -- LGT_CLSc_RELFp
  ⟨0x4004, [(0x400, 16), (0x8, 9)], .ro, 2, 1⟩, -- LGT_CLSc_RELFp_N
  ⟨0x4048, [(0x400, 16), (0x8, 9)], .ro, 1, 1⟩, -- LGT_CLSc_DRIFTp
  ⟨0x404C, [(0x400, 16), (0x8, 9)], .ro, 2, 1⟩, -- LGT_CLSc_DRIFTp_N
  ⟨0x4090, [(0x400, 16), (0x8, 9)], .ro, 1, 1⟩, -- LGT_CLSc_DROOPp
  ⟨0x4094, [(0x400, 16), (0x8, 9)], .ro, 2, 1⟩, -- LGT_CLSc_DROOPp_N
  ⟨0x40D8, [(0x400, 16), (0x8, 9)], .ro, 1, 1⟩, -- LGT_CLSc_MAINTp
  ⟨0x40DC, [(0x400, 16), (0x8, 9)], .ro, 2, 1⟩, -- LGT_CLSc_MAINTp_N
  ⟨0x4120, [(0x400, 16)], .ro, 1, 1⟩, -- LGT_CLSc_FOLD
  ⟨0x4124, [(0x400, 16)], .ro, 2, 1⟩, -- LGT_CLSc_FOLD_N
  ⟨0x4128, [(0x400, 16)], .ro, 1, 1⟩, -- LGT_CLSc_LIMITS
  ⟨0x412C, [(0x400, 16)], .ro, 2, 1⟩, -- LGT_CLSc_LIMITS_N
  ⟨0x4130, [(0x400, 16), (0x8, 3)], .ro, 1, 1⟩, -- LGT_CLSc_NOMq
  ⟨0x4134, [(0x400, 16), (0x8, 3)], .ro, 2, 1⟩, -- LGT_CLSc_NOMq_N
  ⟨0x4148, [(0x400, 16)], .ro, 0, 1⟩, -- LGT_CLSc_STATE
  ⟨0x10000, [(0x100, 256)], .ro, 1, 1⟩] -- LGT_TARGET

/-- Registers of LGT, part 1. -/
def lgtRegs1 : List RegRow := [
  ⟨0x10004, [(0x100, 256)], .ro, 2, 1⟩, -- LGT_TARGET_N
  ⟨0x10008, [(0x100, 256)], .ro, 1, 1⟩, -- LGT_CHROMA
  ⟨0x1000C, [(0x100, 256)], .ro, 2, 1⟩, -- LGT_CHROMA_N
  ⟨0x10010, [(0x100, 256)], .ro, 1, 1⟩, -- LGT_CODES01
  ⟨0x10014, [(0x100, 256)], .ro, 2, 1⟩, -- LGT_CODES01_N
  ⟨0x10018, [(0x100, 256)], .ro, 1, 1⟩, -- LGT_CODES23
  ⟨0x1001C, [(0x100, 256)], .ro, 2, 1⟩, -- LGT_CODES23_N
  ⟨0x10020, [(0x100, 256)], .ro, 1, 1⟩, -- LGT_SENT01
  ⟨0x10024, [(0x100, 256)], .ro, 2, 1⟩, -- LGT_SENT01_N
  ⟨0x10028, [(0x100, 256)], .ro, 1, 1⟩, -- LGT_SENT23
  ⟨0x1002C, [(0x100, 256)], .ro, 2, 1⟩, -- LGT_SENT23_N
  ⟨0x10030, [(0x100, 256), (0x4, 4)], .ro, 0, 1⟩, -- LGT_SFLUXs
  ⟨0x10040, [(0x100, 256), (0x4, 4)], .ro, 0, 1⟩, -- LGT_CURs
  ⟨0x10050, [(0x100, 256)], .ro, 0, 1⟩, -- LGT_TEMP
  ⟨0x10054, [(0x100, 256)], .ro, 0, 1⟩, -- LGT_CHFLAGS
  ⟨0x10058, [(0x100, 256)], .ro, 0, 1⟩, -- LGT_CHCFG
  ⟨0x1005C, [(0x100, 256)], .ro, 0, 1⟩, -- LGT_CHLIM
  ⟨0x10060, [(0x100, 256), (0x4, 4)], .rw, 0, 1⟩, -- LGT_HOURSs
  ⟨0x10070, [(0x100, 256)], .ro, 0, 1⟩, -- LGT_FOLD
  ⟨0x10074, [(0x100, 256)], .ro, 0, 1⟩, -- LGT_BIN_CLS
  ⟨0x10080, [(0x100, 256), (0x18, 4), (0x8, 3)], .ro, 1, 1⟩, -- LGT_BINs_q
  ⟨0x10084, [(0x100, 256), (0x18, 4), (0x8, 3)], .ro, 2, 1⟩, -- LGT_BINs_q_N
  ⟨0x100E0, [(0x100, 256), (0x8, 4)], .ro, 1, 1⟩, -- LGT_BIN_DRVs
  ⟨0x100E4, [(0x100, 256), (0x8, 4)], .ro, 2, 1⟩] -- LGT_BIN_DRVs_N

/-- Registers of CRS, part 0. -/
def crsRegs0 : List RegRow := [
  ⟨0x0, [], .ro, 0, 1⟩, -- CRS_ID
  ⟨0x4, [], .ro, 0, 1⟩, -- CRS_STATUS
  ⟨0x8, [], .rw, 0, 1⟩, -- CRS_CTRL
  ⟨0xC, [], .ro, 0, 1⟩, -- CRS_SEG_ID
  ⟨0x10, [], .ro, 0, 1⟩, -- CRS_LOCAL_DATE
  ⟨0x14, [], .ro, 0, 1⟩, -- CRS_LOCAL_TIME
  ⟨0x18, [], .ro, 0, 1⟩, -- CRS_UTC_OFS
  ⟨0x20, [(0x4, 4)], .ro, 0, 1⟩, -- CRS_SUN_DAWN
  ⟨0x30, [], .ro, 0, 1⟩, -- CRS_EVT_IN
  ⟨0x34, [], .ro, 0, 1⟩, -- CRS_EVT_REF
  ⟨0x38, [], .ro, 0, 1⟩, -- CRS_CORR_MERGED
  ⟨0x3C, [], .ro, 0, 1⟩, -- CRS_STAGGER
  ⟨0x40, [], .ro, 0, 1⟩, -- CRS_HO_SENT
  ⟨0x44, [], .ro, 0, 1⟩, -- CRS_HO_UNCONF
  ⟨0x48, [], .ro, 0, 1⟩, -- CRS_HO_RECV
  ⟨0x4C, [], .ro, 0, 1⟩, -- CRS_HO_REF
  ⟨0x50, [], .ro, 0, 1⟩, -- CRS_MODE_PROG
  ⟨0x100, [(0x20, 8)], .rw, 0, 1⟩, -- CRS_MREQm_CTRL
  ⟨0x104, [(0x20, 8)], .rw, 0, 2⟩, -- CRS_MREQm_START_LO
  ⟨0x108, [(0x20, 8)], .rw, 0, 1⟩, -- CRS_MREQm_START_HI
  ⟨0x10C, [(0x20, 8)], .rw, 0, 2⟩, -- CRS_MREQm_END_LO
  ⟨0x110, [(0x20, 8)], .rw, 0, 1⟩, -- CRS_MREQm_END_HI
  ⟨0x200, [(0x4, 32)], .ro, 0, 1⟩, -- CRS_SPECIALq
  ⟨0x1000, [(0x400, 32), (0x20, 24)], .rw, 1, 1⟩, -- CRS_PRGp_STEPs_TRIG
  ⟨0x1004, [(0x400, 32), (0x20, 24)], .rw, 2, 1⟩, -- CRS_PRGp_STEPs_TRIG_N
  ⟨0x1008, [(0x400, 32), (0x20, 24)], .rw, 1, 1⟩, -- CRS_PRGp_STEPs_TGT
  ⟨0x100C, [(0x400, 32), (0x20, 24)], .rw, 2, 1⟩, -- CRS_PRGp_STEPs_TGT_N
  ⟨0x1010, [(0x400, 32), (0x20, 24)], .rw, 1, 1⟩, -- CRS_PRGp_STEPs_CHROMA
  ⟨0x1014, [(0x400, 32), (0x20, 24)], .rw, 2, 1⟩, -- CRS_PRGp_STEPs_CHROMA_N
  ⟨0x1300, [(0x400, 32)], .ro, 0, 1⟩, -- CRS_PRGp_STATE
  ⟨0x9000, [(0x4, 256)], .ro, 0, 1⟩, -- CRS_CHPROGn
  ⟨0x10000, [(0x800, 64)], .ro, 0, 1⟩, -- CRS_CRSc_CFG
  ⟨0x10004, [(0x800, 64)], .ro, 0, 1⟩, -- CRS_CRSc_PASS
  ⟨0x10008, [(0x800, 64)], .ro, 0, 1⟩, -- CRS_CRSc_TIMING
  ⟨0x1000C, [(0x800, 64)], .ro, 0, 1⟩, -- CRS_CRSc_RAMPDN
  ⟨0x10010, [(0x800, 64)], .ro, 0, 1⟩, -- CRS_CRSc_SPEED
  ⟨0x10014, [(0x800, 64)], .ro, 0, 1⟩, -- CRS_CRSc_VDEF
  ⟨0x10018, [(0x800, 64)], .ro, 0, 1⟩, -- CRS_CRSc_REACH
  ⟨0x1001C, [(0x800, 64)], .ro, 0, 1⟩, -- CRS_CRSc_LINKLO
  ⟨0x10020, [(0x800, 64)], .ro, 0, 1⟩] -- CRS_CRSc_ENTRYLO

/-- Registers of CRS, part 1. -/
def crsRegs1 : List RegRow := [
  ⟨0x10024, [(0x800, 64)], .ro, 0, 1⟩, -- CRS_CRSc_LINKHI
  ⟨0x10028, [(0x800, 64)], .ro, 0, 1⟩, -- CRS_CRSc_ENTRYHI
  ⟨0x10100, [(0x800, 64), (0x8, 128)], .ro, 0, 1⟩, -- CRS_CRSc_CHAINe
  ⟨0x10104, [(0x800, 64), (0x8, 128)], .ro, 0, 1⟩, -- CRS_CRSc_CHANe
  ⟨0x30000, [(0x20, 256)], .ro, 0, 1⟩, -- CRS_CORRr_CTRL
  ⟨0x30004, [(0x20, 256)], .ro, 0, 2⟩, -- CRS_CORRr_TD_LO
  ⟨0x30008, [(0x20, 256)], .ro, 0, 1⟩, -- CRS_CORRr_TD_HI
  ⟨0x3000C, [(0x20, 256)], .ro, 0, 1⟩, -- CRS_CORRr_TD_NS
  ⟨0x30010, [(0x20, 256)], .ro, 0, 1⟩, -- CRS_CORRr_CD
  ⟨0x30014, [(0x20, 256)], .ro, 0, 1⟩, -- CRS_CORRr_ID
  ⟨0x30018, [(0x20, 256)], .ro, 0, 1⟩, -- CRS_CORRr_SRC
  ⟨0x40000, [(0x20, 8)], .ro, 0, 1⟩, -- CRS_NBRk_ID
  ⟨0x40004, [(0x20, 8)], .ro, 0, 1⟩, -- CRS_NBRk_CFG
  ⟨0x40008, [(0x20, 8)], .ro, 0, 2⟩, -- CRS_NBRk_TXCTR_LO
  ⟨0x4000C, [(0x20, 8)], .ro, 0, 1⟩, -- CRS_NBRk_TXCTR_HI
  ⟨0x40010, [(0x20, 8)], .ro, 0, 2⟩, -- CRS_NBRk_RXCTR_LO
  ⟨0x40014, [(0x20, 8)], .ro, 0, 1⟩, -- CRS_NBRk_RXCTR_HI
  ⟨0x50000, [(0x8, 256)], .ro, 0, 1⟩, -- CRS_DETd_CFG
  ⟨0x50004, [(0x8, 256)], .ro, 0, 1⟩] -- CRS_DETd_CHAIN

/-- Registers of RAD. -/
def radRegs : List RegRow := [
  ⟨0x0, [], .ro, 0, 1⟩, -- RAD_ID
  ⟨0x4, [], .ro, 0, 1⟩, -- RAD_STATUS
  ⟨0x8, [], .ro, 0, 1⟩, -- RAD_PAN_ID
  ⟨0xC, [], .ro, 0, 1⟩, -- RAD_PLAN_ID
  ⟨0x10, [], .ro, 0, 1⟩, -- RAD_NAT_USE
  ⟨0x14, [], .ro, 0, 1⟩, -- RAD_NAT_HASH
  ⟨0x18, [], .rw, 0, 1⟩, -- RAD_REFRESH
  ⟨0x1C, [], .ro, 0, 1⟩, -- RAD_CLASSED_LATE
  ⟨0x20, [], .rw, 0, 1⟩, -- RAD_FIND_CTRL
  ⟨0x24, [], .rw, 0, 2⟩, -- RAD_FIND_KEY_LO
  ⟨0x28, [], .rw, 0, 1⟩, -- RAD_FIND_KEY_HI
  ⟨0x2C, [], .ro, 0, 1⟩, -- RAD_FIND_RESULT
  ⟨0x30, [], .wo, 0, 1⟩, -- RAD_NAT_CMD
  ⟨0x34, [], .ro, 0, 1⟩, -- RAD_NAT_CMD_STAT
  ⟨0x40, [], .ro, 0, 1⟩, -- RAD_SNS_CFG
  ⟨0x44, [], .ro, 0, 1⟩, -- RAD_SNS_STAT
  ⟨0x50, [(0x4, 7)], .ro, 0, 1⟩, -- RAD_SNS_CNTj
  ⟨0x80, [(0x4, 8)], .ro, 0, 1⟩, -- RAD_DRIFTc
  ⟨0x100, [(0x100, 4)], .ro, 0, 1⟩, -- RAD_PORTn_CFG
  ⟨0x104, [(0x100, 4)], .ro, 0, 1⟩, -- RAD_PORTn_STATE
  ⟨0x108, [(0x100, 4)], .ro, 0, 1⟩, -- RAD_PORTn_CHAN01
  ⟨0x10C, [(0x100, 4)], .ro, 0, 1⟩, -- RAD_PORTn_CHAN23
  ⟨0x110, [(0x100, 4)], .ro, 0, 1⟩, -- RAD_PORTn_OFS
  ⟨0x114, [(0x100, 4)], .ro, 0, 1⟩, -- RAD_PORTn_LEN
  ⟨0x118, [(0x100, 4)], .ro, 0, 1⟩, -- RAD_PORTn_LQ
  ⟨0x11C, [(0x100, 4)], .ro, 0, 1⟩, -- RAD_PORTn_SFD
  ⟨0x120, [(0x100, 4), (0x4, 14)], .ro, 0, 1⟩, -- RAD_PORTn_CNTj
  ⟨0x800, [(0x40, 4)], .ro, 0, 1⟩, -- RAD_DUTYb_CFG
  ⟨0x804, [(0x40, 4)], .ro, 0, 1⟩, -- RAD_DUTYb_SHED
  ⟨0x808, [(0x40, 4)], .ro, 0, 1⟩, -- RAD_DUTYb_BOOK
  ⟨0x80C, [(0x40, 4)], .ro, 0, 1⟩, -- RAD_DUTYb_RESERVE
  ⟨0x810, [(0x40, 4)], .ro, 0, 1⟩, -- RAD_DUTYb_USED_BCN
  ⟨0x814, [(0x40, 4)], .ro, 0, 1⟩, -- RAD_DUTYb_USED_RES
  ⟨0x818, [(0x40, 4)], .ro, 0, 1⟩, -- RAD_DUTYb_USED_GEN
  ⟨0x81C, [(0x40, 4)], .ro, 0, 1⟩, -- RAD_DUTYb_STATE
  ⟨0x820, [(0x40, 4), (0x4, 5)], .ro, 0, 1⟩, -- RAD_DUTYb_SHEDk
  ⟨0x20000, [(0x1000, 4), (0x10, 200), (0x4, 4)], .ro, 0, 1⟩, -- RAD_PLANn_So_o
  ⟨0x100000, [(0x40, 4096)], .ro, 0, 2⟩, -- RAD_NATi_W0
  ⟨0x100004, [(0x40, 4096), (0x4, 15)], .ro, 0, 1⟩] -- RAD_NATi_Ww

/-- Registers of SEC. -/
def secRegs : List RegRow := [
  ⟨0x0, [], .ro, 0, 1⟩, -- SEC_ID
  ⟨0x4, [], .ro, 0, 1⟩, -- SEC_STATUS
  ⟨0x8, [], .ro, 0, 1⟩, -- SEC_DEVCTR
  ⟨0x10, [(0x4, 6)], .ro, 0, 1⟩, -- SEC_CNTj
  ⟨0x40, [], .wo, 0, 1⟩, -- SEC_KEYCMD
  ⟨0x44, [], .ro, 0, 1⟩, -- SEC_KEYCMD_STAT
  ⟨0x100, [(0x10, 64)], .ro, 0, 1⟩, -- SEC_SHRs_INFO
  ⟨0x104, [(0x10, 64)], .ro, 1, 1⟩, -- SEC_SHRs_FLOOR
  ⟨0x108, [(0x10, 64)], .ro, 2, 1⟩, -- SEC_SHRs_FLOOR_N
  ⟨0x20000, [(0x20, 4096)], .ro, 0, 1⟩, -- SEC_LNKi_STATE
  ⟨0x20004, [(0x20, 4096)], .ro, 1, 1⟩, -- SEC_LNKi_TXFL
  ⟨0x20008, [(0x20, 4096)], .ro, 2, 1⟩, -- SEC_LNKi_TXFL_N
  ⟨0x2000C, [(0x20, 4096)], .ro, 1, 1⟩, -- SEC_LNKi_RXFL
  ⟨0x20010, [(0x20, 4096)], .ro, 2, 1⟩] -- SEC_LNKi_RXFL_N

/-- Registers of ETH. -/
def ethRegs : List RegRow := [
  ⟨0x0, [], .ro, 0, 1⟩, -- ETH_ID
  ⟨0x4, [], .ro, 0, 1⟩, -- ETH_STATUS
  ⟨0x8, [], .rw, 0, 1⟩, -- ETH_MDIO_CMD
  ⟨0xC, [], .ro, 0, 1⟩, -- ETH_MDIO_STAT
  ⟨0x1000, [(0x1000, 2)], .ro, 0, 1⟩, -- ETHn_CFG
  ⟨0x1004, [(0x1000, 2)], .ro, 0, 1⟩, -- ETHn_LINK
  ⟨0x1008, [(0x1000, 2)], .ro, 0, 2⟩, -- ETHn_MAC_LO
  ⟨0x100C, [(0x1000, 2)], .ro, 0, 1⟩, -- ETHn_MAC_HI
  ⟨0x1010, [(0x1000, 2)], .ro, 0, 1⟩, -- ETHn_PRE_CFG
  ⟨0x1014, [(0x1000, 2)], .ro, 0, 1⟩, -- ETHn_PRE_STAT
  ⟨0x1018, [(0x1000, 2)], .ro, 0, 1⟩, -- ETHn_EXP_LIMIT
  ⟨0x101C, [(0x1000, 2)], .ro, 0, 1⟩, -- ETHn_EXP_BACKLOG
  ⟨0x1020, [(0x1000, 2)], .ro, 0, 1⟩, -- ETHn_LAT_TX
  ⟨0x1024, [(0x1000, 2)], .ro, 0, 1⟩, -- ETHn_LAT_RX
  ⟨0x1040, [(0x1000, 2), (0x4, 15)], .ro, 0, 1⟩, -- ETHn_CNTj
  ⟨0x1100, [(0x1000, 2), (0x10, 8)], .ro, 0, 1⟩, -- ETHn_RQq_BASE
  ⟨0x1104, [(0x1000, 2), (0x10, 8)], .ro, 0, 1⟩, -- ETHn_RQq_RING
  ⟨0x1108, [(0x1000, 2), (0x10, 8)], .ro, 0, 1⟩, -- ETHn_RQq_DROP
  ⟨0x110C, [(0x1000, 2), (0x10, 8)], .ro, 0, 1⟩, -- ETHn_RQq_FRAMES
  ⟨0x1200, [(0x1000, 2), (0x10, 4)], .ro, 0, 1⟩, -- ETHn_TQt_BASE
  ⟨0x1204, [(0x1000, 2), (0x10, 4)], .ro, 0, 1⟩, -- ETHn_TQt_RING
  ⟨0x1208, [(0x1000, 2), (0x10, 4)], .ro, 0, 1⟩, -- ETHn_TQt_SENT
  ⟨0x120C, [(0x1000, 2), (0x10, 4)], .ro, 0, 1⟩, -- ETHn_TQt_DROP
  ⟨0x4000, [(0x10, 32)], .ro, 0, 1⟩, -- ETH_RULEr_MATCH
  ⟨0x4004, [(0x10, 32)], .ro, 0, 1⟩, -- ETH_RULEr_ETYPE
  ⟨0x4008, [(0x10, 32)], .ro, 0, 1⟩, -- ETH_RULEr_ACT
  ⟨0x400C, [(0x10, 32)], .ro, 0, 1⟩, -- ETH_RULEr_HITS
  ⟨0x5000, [(0x8, 16)], .ro, 0, 2⟩, -- ETH_ADDRa_LO
  ⟨0x5004, [(0x8, 16)], .ro, 0, 1⟩, -- ETH_ADDRa_HI
  ⟨0x5100, [(0x10, 8)], .ro, 0, 1⟩, -- ETH_POLk_RATE
  ⟨0x5104, [(0x10, 8)], .ro, 0, 1⟩, -- ETH_POLk_BURST
  ⟨0x5108, [(0x10, 8)], .ro, 0, 1⟩, -- ETH_POLk_DROP
  ⟨0x6000, [], .ro, 0, 1⟩, -- ETH_WAKE_CFG
  ⟨0x6004, [], .ro, 0, 1⟩, -- ETH_WAKE_ETYPE
  ⟨0x6010, [(0x4, 4)], .ro, 0, 1⟩, -- ETH_WAKE_PATw
  ⟨0x7000, [], .ro, 0, 1⟩, -- ETH_TC_CFG
  ⟨0x7004, [], .ro, 0, 1⟩, -- ETH_TC_FWD
  ⟨0x7008, [], .ro, 0, 1⟩, -- ETH_TC_UNCORR
  ⟨0x700C, [], .ro, 0, 1⟩, -- ETH_TC_SLOW
  ⟨0x7010, [], .ro, 0, 1⟩] -- ETH_TC_MAXRES

/-- Registers of TIM, part 0. -/
def timRegs0 : List RegRow := [
  ⟨0x0, [], .ro, 0, 1⟩, -- TIM_ID
  ⟨0x4, [], .ro, 0, 1⟩, -- TIM_STATUS
  ⟨0x10, [], .ro, 0, 3⟩, -- TIM_TIME_NS
  ⟨0x14, [], .ro, 0, 1⟩, -- TIM_TIME_SEC_LO
  ⟨0x18, [], .ro, 0, 1⟩, -- TIM_TIME_SEC_HI
  ⟨0x1C, [], .ro, 0, 1⟩, -- TIM_TS32
  ⟨0x20, [], .ro, 0, 1⟩, -- TIM_RATE
  ⟨0x24, [], .ro, 0, 1⟩, -- TIM_FREQ
  ⟨0x28, [], .ro, 0, 1⟩, -- TIM_OFFSET
  ⟨0x2C, [], .ro, 0, 1⟩, -- TIM_DELAY
  ⟨0x30, [], .ro, 0, 1⟩, -- TIM_ERR_EST
  ⟨0x34, [], .ro, 0, 1⟩, -- TIM_UTC
  ⟨0x38, [], .ro, 0, 2⟩, -- TIM_MASTER_LO
  ⟨0x3C, [], .ro, 0, 1⟩, -- TIM_MASTER_HI
  ⟨0x40, [], .ro, 0, 1⟩, -- TIM_MASTER_PORT
  ⟨0x44, [], .ro, 0, 1⟩, -- TIM_STEPS
  ⟨0x48, [], .ro, 0, 1⟩, -- TIM_LINK_DELAY0
  ⟨0x4C, [], .ro, 0, 1⟩, -- TIM_LINK_DELAY1
  ⟨0x50, [], .rw, 0, 1⟩, -- TIM_STEP_CTRL
  ⟨0x54, [], .rw, 0, 1⟩, -- TIM_STEP_NS
  ⟨0x58, [], .rw, 0, 2⟩, -- TIM_STEP_SEC_LO
  ⟨0x5C, [], .rw, 0, 1⟩, -- TIM_STEP_SEC_HI
  ⟨0x60, [], .rw, 0, 2⟩, -- TIM_STEP_AT_LO
  ⟨0x64, [], .rw, 0, 1⟩, -- TIM_STEP_AT_HI
  ⟨0x80, [(0x4, 9)], .ro, 0, 1⟩, -- TIM_PTP_CNTj
  ⟨0x100, [(0x10, 8)], .ro, 0, 1⟩, -- TIM_STEPLOGk_SEC
  ⟨0x104, [(0x10, 8)], .ro, 0, 1⟩, -- TIM_STEPLOGk_NS
  ⟨0x108, [(0x10, 8)], .ro, 0, 1⟩, -- TIM_STEPLOGk_AMOUNT
  ⟨0x10C, [(0x10, 8)], .ro, 0, 1⟩, -- TIM_STEPLOGk_SEQ
  ⟨0x1000, [(0x40, 8)], .rw, 0, 1⟩, -- TIM_CMPn_CTRL
  ⟨0x1004, [(0x40, 8)], .rw, 0, 1⟩, -- TIM_CMPn_NS
  ⟨0x1008, [(0x40, 8)], .rw, 0, 2⟩, -- TIM_CMPn_SEC_LO
  ⟨0x100C, [(0x40, 8)], .rw, 0, 1⟩, -- TIM_CMPn_SEC_HI
  ⟨0x1010, [(0x40, 8)], .rw, 0, 1⟩, -- TIM_CMPn_WIDTH
  ⟨0x1014, [(0x40, 8)], .rw, 0, 1⟩, -- TIM_CMPn_PERIOD
  ⟨0x1018, [(0x40, 8)], .rw, 0, 1⟩, -- TIM_CMPn_COUNT
  ⟨0x101C, [(0x40, 8)], .ro, 0, 1⟩, -- TIM_CMPn_STAT
  ⟨0x1020, [(0x40, 8)], .ro, 0, 1⟩, -- TIM_CMPn_FIRED
  ⟨0x1024, [(0x40, 8)], .ro, 0, 1⟩, -- TIM_CMPn_DELAY
  ⟨0x2000, [(0x40, 8)], .ro, 0, 1⟩] -- TIM_CAPn_CFG

/-- Registers of TIM, part 1. -/
def timRegs1 : List RegRow := [
  ⟨0x2004, [(0x40, 8)], .ro, 0, 1⟩, -- TIM_CAPn_DELAY
  ⟨0x2008, [(0x40, 8)], .ro, 0, 1⟩, -- TIM_CAPn_STAT
  ⟨0x200C, [(0x40, 8)], .ro, 0, 1⟩, -- TIM_CAPn_LAST
  ⟨0x2010, [(0x40, 8)], .ro, 0, 1⟩, -- TIM_CAPn_LOST
  ⟨0x2014, [(0x40, 8)], .ro, 0, 1⟩, -- TIM_CAPn_GLITCH
  ⟨0x2018, [(0x40, 8)], .ro, 0, 1⟩, -- TIM_CAPn_SUPPR
  ⟨0x3000, [], .ro, 0, 1⟩] -- TIM_LOG_HEAD

/-- Registers of RTC. -/
def rtcRegs : List RegRow := [
  ⟨0x0, [], .ro, 0, 1⟩, -- RTC_ID
  ⟨0x4, [], .rw, 0, 1⟩, -- RTC_STATUS
  ⟨0x8, [], .rw, 0, 1⟩, -- RTC_CTRL
  ⟨0xC, [], .wo, 0, 1⟩, -- RTC_SNAP
  ⟨0x10, [], .wo, 0, 1⟩, -- RTC_COMMIT
  ⟨0x20, [], .rw, 0, 1⟩, -- RTC_SEC
  ⟨0x24, [], .rw, 0, 1⟩, -- RTC_MIN
  ⟨0x28, [], .rw, 0, 1⟩, -- RTC_HOUR
  ⟨0x2C, [], .rw, 0, 1⟩, -- RTC_DAY
  ⟨0x30, [], .rw, 0, 1⟩, -- RTC_MONTH
  ⟨0x34, [], .rw, 0, 1⟩, -- RTC_YEAR_LO
  ⟨0x38, [], .rw, 0, 1⟩, -- RTC_YEAR_HI
  ⟨0x3C, [], .rw, 0, 1⟩, -- RTC_WDAY
  ⟨0x40, [], .ro, 0, 1⟩, -- RTC_SUBSEC
  ⟨0x50, [], .ro, 0, 1⟩, -- RTC_PHASE
  ⟨0x54, [], .ro, 0, 1⟩, -- RTC_TEMP
  ⟨0x58, [], .ro, 0, 1⟩, -- RTC_CORR
  ⟨0x5C, [], .rw, 1, 1⟩, -- RTC_AGING
  ⟨0x60, [], .rw, 2, 1⟩, -- RTC_AGING_N
  ⟨0x64, [], .ro, 1, 1⟩, -- RTC_CURVE_T0
  ⟨0x68, [], .ro, 2, 1⟩, -- RTC_CURVE_T0_N
  ⟨0x6C, [], .ro, 1, 1⟩, -- RTC_CURVE_BETA
  ⟨0x70, [], .ro, 2, 1⟩, -- RTC_CURVE_BETA_N
  ⟨0x80, [(0x8, 16)], .ro, 1, 1⟩, -- RTC_RESIDk
  ⟨0x84, [(0x8, 16)], .ro, 2, 1⟩, -- RTC_RESIDk_N
  ⟨0x100, [], .ro, 0, 1⟩, -- RTC_ALM0_CTRL
  ⟨0x104, [], .ro, 0, 1⟩, -- RTC_ALM0_TIME
  ⟨0x108, [], .ro, 0, 1⟩, -- RTC_ALM0_DATE
  ⟨0x120, [], .rw, 0, 1⟩, -- RTC_ALM1_CTRL
  ⟨0x124, [], .rw, 0, 1⟩, -- RTC_ALM1_TIME
  ⟨0x128, [], .rw, 0, 1⟩] -- RTC_ALM1_DATE

/-- Registers of MTR, part 0. -/
def mtrRegs0 : List RegRow := [
  ⟨0x0, [], .ro, 0, 1⟩, -- MTR_ID
  ⟨0x4, [], .ro, 0, 1⟩, -- MTR_STATUS
  ⟨0x8, [], .ro, 0, 1⟩, -- MTR_PUB_SEC
  ⟨0xC, [], .ro, 0, 1⟩, -- MTR_PUB_STK
  ⟨0x10, [], .ro, 0, 1⟩, -- MTR_FREQ
  ⟨0x14, [], .ro, 0, 1⟩, -- MTR_SAVE
  ⟨0x18, [], .ro, 0, 1⟩, -- MTR_SAVE_SEQ
  ⟨0x1C, [], .ro, 0, 1⟩, -- MTR_PF_CNT
  ⟨0x20, [(0x4, 4)], .ro, 0, 1⟩, -- MTR_TEMPs
  ⟨0x30, [], .ro, 0, 1⟩, -- MTR_PROF_HEAD
  ⟨0x34, [], .ro, 0, 1⟩, -- MTR_ARCH_LOST
  ⟨0x38, [], .ro, 0, 1⟩, -- MTR_INT_CFG
  ⟨0x40, [(0x4, 4)], .ro, 0, 1⟩, -- MTR_Uj_RMS
  ⟨0x400, [(0x20, 40)], .ro, 0, 1⟩, -- MTR_CHc_CFG
  ⟨0x404, [(0x20, 40)], .ro, 0, 1⟩, -- MTR_CHc_STAT
  ⟨0x408, [(0x20, 40)], .ro, 1, 1⟩, -- MTR_CHc_GAIN
  ⟨0x40C, [(0x20, 40)], .ro, 2, 1⟩, -- MTR_CHc_GAIN_N
  ⟨0x410, [(0x20, 40)], .ro, 1, 1⟩, -- MTR_CHc_OFFSET
  ⟨0x414, [(0x20, 40)], .ro, 2, 1⟩, -- MTR_CHc_OFFSET_N
  ⟨0x418, [(0x20, 40)], .ro, 1, 1⟩, -- MTR_CHc_DELAY
  ⟨0x41C, [(0x20, 40)], .ro, 2, 1⟩, -- MTR_CHc_DELAY_N
  ⟨0x900, [(0x10, 4)], .ro, 0, 1⟩, -- MTR_RESr_RMS
  ⟨0x904, [(0x10, 4)], .ro, 0, 1⟩, -- MTR_RESr_TH
  ⟨0x908, [(0x10, 4)], .ro, 0, 1⟩, -- MTR_RESr_STAT
  ⟨0x1000, [(0x100, 8)], .ro, 1, 1⟩, -- MTR_SCLk_CFG
  ⟨0x1004, [(0x100, 8)], .ro, 2, 1⟩, -- MTR_SCLk_CFG_N
  ⟨0x1008, [(0x100, 8), (0x8, 16)], .ro, 1, 1⟩, -- MTR_SCLk_PTp
  ⟨0x100C, [(0x100, 8), (0x8, 16)], .ro, 2, 1⟩, -- MTR_SCLk_PTp_N
  ⟨0x2000, [(0x200, 8)], .ro, 0, 1⟩, -- MTR_Ff_CFG
  ⟨0x2004, [(0x200, 8)], .ro, 0, 1⟩, -- MTR_Ff_REFF
  ⟨0x2008, [(0x200, 8)], .ro, 0, 1⟩, -- MTR_Ff_TH
  ⟨0x200C, [(0x200, 8)], .ro, 0, 1⟩, -- MTR_Ff_POTHER
  ⟨0x2010, [(0x200, 8)], .rw, 0, 1⟩, -- MTR_Ff_OTHER_START
  ⟨0x2014, [(0x200, 8)], .rw, 1, 1⟩, -- MTR_Ff_OTHER
  ⟨0x2018, [(0x200, 8)], .rw, 2, 1⟩, -- MTR_Ff_OTHER_N
  ⟨0x201C, [(0x200, 8)], .ro, 0, 1⟩, -- MTR_Ff_MISSING
  ⟨0x2040, [(0x200, 8), (0x20, 4)], .ro, 0, 1⟩, -- MTR_Ff_Tt_P
  ⟨0x2044, [(0x200, 8), (0x20, 4)], .ro, 0, 1⟩, -- MTR_Ff_Tt_Q
  ⟨0x2048, [(0x200, 8), (0x20, 4)], .ro, 0, 1⟩, -- MTR_Ff_Tt_S
  ⟨0x204C, [(0x200, 8), (0x20, 4)], .ro, 0, 1⟩] -- MTR_Ff_Tt_IRMS

/-- Registers of MTR, part 1. -/
def mtrRegs1 : List RegRow := [
  ⟨0x2050, [(0x200, 8), (0x20, 4)], .ro, 0, 1⟩, -- MTR_Ff_Tt_FLAGS
  ⟨0x20C0, [(0x200, 8)], .ro, 0, 1⟩, -- MTR_Ff_INT_START
  ⟨0x20C4, [(0x200, 8)], .ro, 0, 1⟩, -- MTR_Ff_INT_EIMP
  ⟨0x20C8, [(0x200, 8)], .ro, 0, 1⟩, -- MTR_Ff_INT_EEXP
  ⟨0x20CC, [(0x200, 8)], .ro, 0, 1⟩, -- MTR_Ff_INT_FLAGS
  ⟨0x20D0, [(0x200, 8)], .ro, 0, 1⟩, -- MTR_Ff_REC_START
  ⟨0x20D4, [(0x200, 8)], .ro, 0, 1⟩, -- MTR_Ff_REC_MEAS
  ⟨0x20D8, [(0x200, 8)], .ro, 0, 1⟩, -- MTR_Ff_REC_LAN
  ⟨0x20DC, [(0x200, 8)], .ro, 0, 1⟩, -- MTR_Ff_REC_LOSS
  ⟨0x20E0, [(0x200, 8)], .ro, 0, 1⟩, -- MTR_Ff_REC_OTHER
  ⟨0x20E4, [(0x200, 8)], .ro, 0, 1⟩, -- MTR_Ff_REC_RES
  ⟨0x20E8, [(0x200, 8)], .ro, 0, 1⟩, -- MTR_Ff_REC_STAT
  ⟨0x10000, [(0x1000, 8), (0x100, 4), (0x18, 7)], .ro, 1, 6⟩, -- MTR_Ff_Tt_A_FR
  ⟨0x10004, [(0x1000, 8), (0x100, 4), (0x18, 7)], .ro, 2, 1⟩, -- MTR_Ff_Tt_A_FR_N
  ⟨0x10008, [(0x1000, 8), (0x100, 4), (0x18, 7)], .ro, 1, 1⟩, -- MTR_Ff_Tt_A_LO
  ⟨0x1000C, [(0x1000, 8), (0x100, 4), (0x18, 7)], .ro, 2, 1⟩, -- MTR_Ff_Tt_A_LO_N
  ⟨0x10010, [(0x1000, 8), (0x100, 4), (0x18, 7)], .ro, 1, 1⟩, -- MTR_Ff_Tt_A_HI
  ⟨0x10014, [(0x1000, 8), (0x100, 4), (0x18, 7)], .ro, 2, 1⟩, -- MTR_Ff_Tt_A_HI_N
  ⟨0x103F0, [(0x1000, 8)], .ro, 0, 1⟩, -- MTR_Ff_ACC_SEC
  ⟨0x103F4, [(0x1000, 8)], .ro, 0, 1⟩] -- MTR_Ff_ACC_STK

/-- Registers of EVQ. -/
def evqRegs : List RegRow := [
  ⟨0x0, [], .ro, 0, 1⟩, -- EVQ_ID
  ⟨0x4, [], .rw, 0, 1⟩, -- EVQ_REP_CTRL
  ⟨0x8, [], .ro, 0, 1⟩, -- EVQ_STATUS
  ⟨0x100, [(0x20, 8)], .ro, 0, 1⟩, -- EVQ_Qq_FILL
  ⟨0x104, [(0x20, 8)], .ro, 0, 1⟩, -- EVQ_Qq_SEQ
  ⟨0x108, [(0x20, 8)], .ro, 0, 1⟩, -- EVQ_Qq_LOST
  ⟨0x10C, [(0x20, 8)], .ro, 0, 1⟩, -- EVQ_Qq_REWOUND
  ⟨0x110, [(0x20, 8)], .ro, 0, 1⟩, -- EVQ_Qq_RING
  ⟨0x114, [(0x20, 8)], .rw, 0, 1⟩, -- EVQ_Qq_ACK
  ⟨0x118, [(0x20, 8)], .ro, 0, 1⟩] -- EVQ_Qq_RLOST

/-- Registers of PWR. -/
def pwrRegs : List RegRow := [
  ⟨0x0, [], .ro, 0, 1⟩, -- PWR_ID
  ⟨0x4, [], .ro, 0, 1⟩, -- PWR_STATE
  ⟨0x8, [], .rw, 0, 1⟩, -- PWR_CTRL
  ⟨0xC, [], .rw, 0, 1⟩, -- PWR_SLEEP_CTRL
  ⟨0x10, [], .rw, 0, 2⟩, -- PWR_SLEEP_WAKE_LO
  ⟨0x14, [], .rw, 0, 1⟩, -- PWR_SLEEP_WAKE_HI
  ⟨0x18, [], .ro, 0, 1⟩, -- PWR_SLEEP_STAT
  ⟨0x1C, [], .ro, 0, 1⟩, -- PWR_WAKE_CFG
  ⟨0x20, [], .ro, 0, 1⟩, -- PWR_WAKE_LAST
  ⟨0x24, [], .ro, 0, 1⟩, -- PWR_WAKE_STEPS
  ⟨0x28, [], .ro, 0, 1⟩, -- PWR_WAKE_FAILS
  ⟨0x2C, [], .ro, 0, 1⟩, -- PWR_HOLD
  ⟨0x30, [], .ro, 0, 1⟩, -- PWR_INPUTS
  ⟨0x34, [], .ro, 0, 1⟩, -- PWR_COUNTS
  ⟨0x38, [], .ro, 0, 1⟩] -- PWR_EASY_TIME

/-- Registers of UPD. -/
def updRegs : List RegRow := [
  ⟨0x0, [], .ro, 0, 1⟩, -- UPD_ID
  ⟨0x4, [], .ro, 0, 1⟩, -- UPD_STATUS
  ⟨0x8, [], .ro, 0, 1⟩, -- UPD_RUN_VER
  ⟨0xC, [], .ro, 0, 1⟩, -- UPD_RUN_SLOT
  ⟨0x10, [], .ro, 0, 1⟩, -- UPD_SLOTA_VER
  ⟨0x14, [], .ro, 0, 1⟩, -- UPD_SLOTB_VER
  ⟨0x18, [], .ro, 0, 1⟩, -- UPD_LAST
  ⟨0x20, [], .rw, 0, 1⟩, -- UPD_XFER_CTRL
  ⟨0x24, [], .rw, 0, 1⟩, -- UPD_XFER_LEN
  ⟨0x28, [], .ro, 0, 1⟩, -- UPD_XFER_STAT
  ⟨0x2C, [], .rw, 0, 1⟩, -- UPD_BLK_CRC
  ⟨0x30, [], .wo, 0, 1⟩, -- UPD_BLK_CTRL
  ⟨0x40, [], .ro, 0, 1⟩, -- UPD_ANCHOR
  ⟨0x44, [], .ro, 0, 2⟩, -- UPD_KEYCTR_LO
  ⟨0x48, [], .ro, 0, 1⟩, -- UPD_KEYCTR_HI
  ⟨0x50, [], .ro, 0, 1⟩, -- UPD_DIST_STAT
  ⟨0x54, [], .ro, 0, 1⟩, -- UPD_DIST_TOTAL
  ⟨0x58, [], .ro, 0, 2⟩, -- UPD_DIST_HASH_LO
  ⟨0x5C, [], .ro, 0, 1⟩, -- UPD_DIST_HASH_HI
  ⟨0x60, [], .ro, 0, 1⟩, -- UPD_CAL_GEN
  ⟨0x10000, [(0x4, 1024)], .rw, 0, 1⟩] -- UPD_WIN

/-- Registers of SYS. -/
def sysRegs : List RegRow := [
  ⟨0x0, [], .ro, 0, 1⟩, -- SYS_ID
  ⟨0x4, [], .ro, 0, 2⟩, -- SYS_SERIAL_LO
  ⟨0x8, [], .ro, 0, 1⟩, -- SYS_SERIAL_HI
  ⟨0xC, [], .ro, 0, 2⟩, -- SYS_EUI_LO
  ⟨0x10, [], .ro, 0, 1⟩, -- SYS_EUI_HI
  ⟨0x14, [], .ro, 0, 1⟩, -- SYS_FW_VER
  ⟨0x20, [], .ro, 0, 1⟩, -- SYS_STROKE
  ⟨0x24, [], .ro, 0, 1⟩, -- SYS_SKIPPED
  ⟨0x30, [], .ro, 0, 1⟩, -- SYS_GUARD_CE
  ⟨0x34, [], .ro, 0, 1⟩, -- SYS_GUARD_UE
  ⟨0x38, [], .ro, 0, 1⟩, -- SYS_SCRUB_PASSES
  ⟨0x3C, [], .ro, 0, 1⟩, -- SYS_GUARD_LAST
  ⟨0x40, [], .ro, 0, 1⟩, -- SYS_SCRUB_POS
  ⟨0x50, [], .rw, 1, 1⟩, -- SYS_START_COUNT
  ⟨0x54, [], .rw, 2, 1⟩, -- SYS_START_COUNT_N
  ⟨0x58, [], .ro, 0, 1⟩, -- SYS_START_CAUSE
  ⟨0x5C, [], .ro, 0, 1⟩, -- SYS_START_STATUS
  ⟨0x60, [], .ro, 0, 1⟩, -- SYS_START_MS
  ⟨0x64, [], .ro, 0, 1⟩, -- SYS_STARTS
  ⟨0x100, [(0x4, 13)], .ro, 0, 1⟩, -- SYS_STN_STATEn
  ⟨0x140, [(0x4, 13)], .ro, 0, 1⟩, -- SYS_CRABSn
  ⟨0x200, [(0x10, 4)], .ro, 0, 1⟩, -- SYS_SESSs_STATE
  ⟨0x204, [(0x10, 4)], .ro, 0, 1⟩, -- SYS_SESSs_REQ
  ⟨0x208, [(0x10, 4)], .ro, 0, 1⟩, -- SYS_SESSs_LIMIT
  ⟨0x20C, [(0x10, 4)], .ro, 0, 1⟩, -- SYS_SESSs_DUP
  ⟨0x300, [], .rw, 0, 1⟩, -- SYS_SRV_BAUD
  ⟨0x304, [], .ro, 0, 1⟩, -- SYS_SRV_CNT
  ⟨0x310, [(0x4, 6)], .ro, 0, 1⟩, -- SYS_IP_CNTj
  ⟨0x1000, [(0x40, 8)], .ro, 0, 1⟩, -- SYS_CALLh_STATUS
  ⟨0x1004, [(0x40, 8)], .ro, 0, 1⟩, -- SYS_CALLh_ID
  ⟨0x1008, [(0x40, 8)], .ro, 0, 1⟩, -- SYS_CALLh_RESULTS
  ⟨0x100C, [(0x40, 8)], .rw, 0, 1⟩, -- SYS_CALLh_TAKEN
  ⟨0x1010, [(0x40, 8)], .ro, 0, 1⟩, -- SYS_CALLh_SIZE
  ⟨0x1014, [(0x40, 8)], .ro, 0, 2⟩, -- SYS_CALLh_BOUND_LO
  ⟨0x1018, [(0x40, 8)], .ro, 0, 1⟩, -- SYS_CALLh_BOUND_HI
  ⟨0x101C, [(0x40, 8)], .ro, 0, 1⟩, -- SYS_CALLh_BOUND_NS
  ⟨0x1020, [(0x40, 8)], .ro, 0, 1⟩, -- SYS_CALLh_ADMIT
  ⟨0x100000, [(0x10000, 8), (0x4, 16384)], .ro, 0, 1⟩] -- SYS_CALLh_WIN

/-- The register map of a station. -/
def regMap : Stn → List RegRow
  | .sys => sysRegs
  | .cfg => cfgRegs
  | .tim => timRegs0 ++ timRegs1
  | .rtc => rtcRegs
  | .rad => radRegs
  | .sec => secRegs
  | .lgt => lgtRegs0 ++ lgtRegs1
  | .crs => crsRegs0 ++ crsRegs1
  | .mtr => mtrRegs0 ++ mtrRegs1
  | .eth => ethRegs
  | .pwr => pwrRegs
  | .upd => updRegs
  | .evq => evqRegs

/-- The row that lists an offset of a station, none for an unlisted offset (R8). -/
def regAt (n : Stn) (off : Nat) : Option RegRow := (regMap n).find? fun r => r.has off

end Sys2Proof.Machine
end

