-- ==== Sys2Proof/Config.lean ====
section
/-! DEFINITION. What the spec leaves to the implementation or leaves open: free values (opaque, no body) and
the names of keys. -/
namespace Sys2Proof.Config

/-- A free value of any width: nothing is known of it (log entry 1). -/
opaque freeNat : Nat → Nat

/-- The Siravo image key (R100), by name. -/
def siravoKey : KeyId := 1

/-- The module's factory identity key (R121), by name. -/
def identityKey : KeyId := 2

/-- The 48 check bits of the guard code for a word of 256 data bits (R62): the code is not stated. -/
opaque guardCheck : BitVec 256 → BitVec 48

/-- Factory data: serial and extended address (R477), Ethernet addresses (R325). -/
opaque serial : Nat
opaque eui : Nat
opaque mac : Nat → Nat

/-- Factory data: the crystal curve (R361): T0 in s8.8, BETA in 0.00001 ppm/°C², RESIDk in 0.1 ppm. -/
opaque curveT0 : Int
opaque curveBeta : Int
opaque curveResid : Nat → Int

/-- Where firmware places ETH's rings and buffers in SRAM (R325): free, by port, ring and descriptor. -/
opaque ethRing : Nat → Nat → Nat
opaque ethBuf : Nat → Nat → Nat → Nat

/-- The result of a division by zero in the light engine's fixed point, by dividend: not stated (R135, log entry 16). -/
opaque fxDivZero : Int → Int

/-- The factory locus words LGT_LOCUSk but the one R147's example states (log entry 17). -/
opaque locusWord : Nat → Nat

/-- The altitude of the sun's centre in 0.001 degree by latitude, longitude and UTC second (R167): not stated (log entry 18). -/
opaque sunAltitude : Int → Int → Nat → Int

/-- How far, in seconds, a computed solar event lies from the true one, by event, coordinates and true instant: only a bound is stated
(R167, log entry 18). -/
opaque sunError : Nat → Int → Int → Nat → Int

/-- Sectors of the profile archive: the rest of the attached flash, whose size the board chooses (R84, R97). -/
opaque archiveSectors : Nat

/-- What the attached flash declares by SFDP (R84, R450): the longest 4 KiB erase and 256-byte program, in µs. -/
opaque tSe : Nat
opaque tPp : Nat

/-- The energy or Σ of a stroke none of whose samples have settled (R368), by draw, feeder and quantity: not stated (log entry 23). -/
opaque unsettled : Nat → Nat → Nat → Int

/-- The SHA-256 of a Rig that migration makes, by that of its source: the converted bytes are not stated (R121). -/
opaque migratedHash : Nat → Nat

/-- The seeds of the NAT's hash tables by generation, table and way (R223, log entry 19). -/
opaque natSeed : Nat → Nat → Nat → Nat

end Sys2Proof.Config
end

