-- ==== Sys2Proof/Machine/Ops.lean ====
section
/-! DEFINITION. Operations every station uses: sparse tables, saturating counts, BCD and bit fields, main SRAM, the
station records, network time and its advance, free values. -/
namespace Sys2Proof.Machine

/-! ## Sparse tables and lists -/

/-- The entry at key `k`. -/
def tget {α : Type} (t : Tab α) (k : Nat) : Option α :=
  match t with
  | [] => none
  | (i, a) :: r => if i = k then some a else tget r k

/-- The entry at key `k`, or `d`. -/
def tgetD {α : Type} (t : Tab α) (k : Nat) (d : α) : α := (tget t k).getD d

/-- The table with `a` at key `k`, keys kept rising. -/
def tput {α : Type} (t : Tab α) (k : Nat) (a : α) : Tab α :=
  match t with
  | [] => [(k, a)]
  | (i, b) :: r => if k < i then (k, a) :: (i, b) :: r else if k = i then (k, a) :: r else (i, b) :: tput r k a

/-- The table without key `k`. -/
def tdel {α : Type} (t : Tab α) (k : Nat) : Tab α := t.filter fun p => p.1 ≠ k

/-- Element `i` of a list, or `d`. -/
def nth {α : Type} (l : List α) (i : Nat) (d : α) : α := l.getD i d

/-- The list with element `i` changed by `f`. -/
def upd {α : Type} (l : List α) (i : Nat) (f : α → α) : List α := l.modify i f

/-- The last `n` elements. -/
def lastN {α : Type} (n : Nat) (l : List α) : List α := l.drop (l.length - n)

/-! ## Counts and fields -/

/-- The largest value of `w` bits. -/
def maxOf (w : Nat) : Nat := 2 ^ w - 1

/-- `a + b`, saturating at `w` bits. -/
def satAdd (w a b : Nat) : Nat := min (a + b) (2 ^ w - 1)

/-- A 32-bit count plus one, saturating. -/
def inc32 (a : Nat) : Nat := satAdd 32 a 1

/-- Counter `j` of a list plus one, saturating at 32 bits. -/
def bump (l : List Nat) (j : Nat) : List Nat := upd l j inc32

/-- A register word of a number: its low 32 bits. -/
def w32 (n : Nat) : Word := BitVec.ofNat 32 n

/-- A signed value in a register word, two's complement. -/
def i32 (i : Int) : Word := BitVec.ofInt 32 i

/-- The field value `v` of a signed quantity in `w` bits. -/
def sfield (w : Nat) (v : Int) : Nat := (BitVec.ofInt w v).toNat

/-- A signed value clamped to `w` bits. -/
def sclamp (w : Nat) (v : Int) : Int := max (-(2 ^ (w - 1) : Int)) (min v (2 ^ (w - 1) - 1))

/-- The signed value of a `w`-bit field. -/
def sval (w : Nat) (n : Nat) : Int := (BitVec.ofNat w n).toInt

/-- One when true. -/
def b2n (b : Bool) : Nat := if b then 1 else 0

/-- A register word from fields placed at their lowest bit. -/
def pack (fs : List (Nat × Nat)) : Word := w32 (fs.foldl (fun a f => a + f.2 * 2 ^ f.1) 0)

/-- Clamp to a range. -/
def clampI (lo hi v : Int) : Int := max lo (min v hi)

/-- Two BCD digits of a number below 100. -/
def bcd (n : Nat) : Nat := (n / 10 % 10) * 16 + n % 10

/-- The number two BCD digits give. -/
def unbcd (b : Nat) : Nat := (b / 16 % 16) * 10 + b % 16

/-- Whether both nibbles are digits (R358). -/
def bcdOk (b : Nat) : Bool := b % 16 ≤ 9 && b / 16 % 16 ≤ 9

/-- Quotient rounded to nearest, ties away from zero (R135). -/
def rdiv (a b : Int) : Int :=
  if b = 0 then 0
  else
    let n := if b < 0 then -a else a
    let d := if b < 0 then -b else b
    if 0 ≤ n then (2 * n + d) / (2 * d) else -((2 * (-n) + d) / (2 * d))

/-- The quotient rounded up. -/
def cdiv (a b : Nat) : Nat := (a + b - 1) / b

/-- The octets of a number, little-endian. -/
def leBytes : Nat → Nat → List Byte
  | 0, _ => []
  | n + 1, v => BitVec.ofNat 8 v :: leBytes n (v / 256)

/-- The number that octets spell, little-endian. -/
def ofLe : List Byte → Nat
  | [] => 0
  | b :: r => b.toNat + 256 * ofLe r

/-- Octets `o` to `o + n - 1` of a run, as a number. -/
def argAt (a : List Byte) (o n : Nat) : Nat := ofLe ((a.drop o).take n)

/-- The words of a run of octets, little-endian, padded with zero to a whole word. -/
def wordsOf : Nat → List Byte → List Word
  | 0, _ => []
  | n + 1, l => w32 (ofLe (l.take 4)) :: wordsOf n (l.drop 4)

/-- The octets of a run of words, little-endian. -/
def bytesOf (ws : List Word) : List Byte := ws.flatMap fun w => leBytes 4 w.toNat

/-- One step of CRC-32C (reflected, polynomial 0x82F63B78). -/
def crcBit (c : Word) : Word := if c.getLsbD 0 then (c >>> 1) ^^^ 0x82F63B78#32 else c >>> 1

/-- CRC-32C over octets, before the final inversion. -/
def crcGo (c : Word) : List Byte → Word
  | [] => c
  | b :: r =>
    let x := c ^^^ b.setWidth 32
    crcGo (crcBit (crcBit (crcBit (crcBit (crcBit (crcBit (crcBit (crcBit x)))))))) r

/-- CRC-32C over octets. -/
def crc32c (l : List Byte) : Nat := (~~~ crcGo 0xFFFFFFFF#32 l).toNat

/-! ## Main SRAM -/

/-- The size of main SRAM in bytes (R40). -/
def sramSize : Nat := 8388608

/-- What an address that is not listed reads as: the start writes all SRAM to zero (R101). -/
def memDefault : Byte := 0

/-- The canonical form: addresses strictly rising and inside main SRAM, no entry equal to the default. -/
def memWf : List Host.Cell → Bool
  | [] => true
  | [c] => c.1 < sramSize && c.2 ≠ memDefault
  | c :: d :: r => c.1 < sramSize && c.2 ≠ memDefault && c.1 < d.1 && memWf (d :: r)

/-- The byte at an address. -/
def memRead (m : List Host.Cell) (a : Nat) : Byte :=
  match m with
  | [] => memDefault
  | (i, b) :: r => if i = a then b else memRead r a

/-- The memory with one byte written, canonical form kept. -/
def memPut (m : List Host.Cell) (a : Nat) (v : Byte) : List Host.Cell :=
  match m with
  | [] => if v = memDefault then [] else [(a, v)]
  | (i, b) :: r =>
    if a < i then (if v = memDefault then (i, b) :: r else (a, v) :: (i, b) :: r)
    else if a = i then (if v = memDefault then r else (a, v) :: r)
    else (i, b) :: memPut r a v

/-- A write to main SRAM; an address outside it does not exist and nothing is written. -/
def memWrite (m : List Host.Cell) (a : Nat) (v : Byte) : List Host.Cell :=
  if a < sramSize then memPut m a v else m

/-- A run of octets written from an address on. -/
def memWriteAll (m : List Host.Cell) (a : Nat) : List Byte → List Host.Cell
  | [] => m
  | b :: r => memWriteAll (memWrite m a b) (a + 1) r

/-- The 32 octets of a word of main SRAM, as 256 bits. -/
def wordBits (m : List Host.Cell) (w : Nat) : BitVec 256 :=
  BitVec.ofNat 256 (ofLe ((List.range 32).map fun i => memRead m (32 * w + i)))

/-- The octets of a word are written. -/
def putBits (s : State) (w : Nat) (d : BitVec 256) : State := { s with mem := memWriteAll s.mem (32 * w) (leBytes 32 d.toNat) }

/-! ## The guard code (R62) -/

/-- Bit `p` of a code word: group g of 19 positions holds data bits 16g to 16g + 15, then check bits 3g to 3g + 2 (R62). -/
def codeBit (d : BitVec 256) (c : BitVec 48) (p : Nat) : Bool :=
  if p % 19 < 16 then d.getLsbD (16 * (p / 19) + p % 19) else c.getLsbD (3 * (p / 19) + p % 19 - 16)

/-- The position of a data bit in its code word. -/
def dataPosition (i : Nat) : Nat := 19 * (i / 16) + i % 16

/-- The data bits of a stored code word with errors at some positions. -/
def damaged (d : BitVec 256) (bad : List Nat) : BitVec 256 :=
  BitVec.ofNat 256 (((List.range 256).map fun i =>
    if codeBit d (Config.guardCheck d) (dataPosition i) != bad.contains (dataPosition i) then 2 ^ i else 0).foldl (· + ·) 0)

/-! ## Free values -/

/-- A fresh free value below `n` (log entry 1). -/
def freeVal (s : State) (n : Nat) : Nat := Config.freeNat s.free % n

/-- The state with the free value drawn. -/
def drawn (s : State) : State := { s with free := s.free + 1 }

/-- A word of main SRAM takes free values. -/
def putFree (s : State) (w : Nat) : State :=
  putBits { s with free := s.free + 32 } w
    (BitVec.ofNat 256 (ofLe ((List.range 32).map fun i => BitVec.ofNat 8 (Config.freeNat (s.free + i)))))

/-- A ledger write of a station with read-back (R58): a write that LEDGER_FAIL has announced does not happen. -/
def ledgerWrite (s : State) (w : Stn) (f : State → State) : State × Bool :=
  if s.ledBad.contains w then ({ s with ledBad := s.ledBad.erase w }, false) else (f s, true)

/-! ## Stations -/

/-- Whether the main domains are up, so that the stations exist at all. -/
def moduleUp (s : State) : Bool := s.modp = .starting || s.modp = .running || s.modp = .recovery

/-- The record of a station (R28). -/
def stn (s : State) (n : Stn) : StnRec := nth s.stns n.idx {}

/-- The state with the record of a station changed. -/
def setStn (s : State) (n : Stn) (f : StnRec → StnRec) : State := { s with stns := upd s.stns n.idx f }

/-- Whether a station runs (R28). -/
def isRunning (s : State) (n : Stn) : Bool := (stn s n).state = .running

/-- Whether a station is in reset or waits for it (R34, R39). -/
def inReset (s : State) (n : Stn) : Bool :=
  match (stn s n).state with
  | .fault | .reset | .loading => true
  | _ => false

/-- Stations with a Finish duty (R22). -/
def finishDuty : List Stn := [.tim, .crs, .lgt, .rad, .mtr]

/-- Codes of station states (R28). -/
def StnSt.code : StnSt → Nat
  | .off => 0 | .reset => 1 | .loading => 2 | .ready => 3 | .running => 4 | .held => 5 | .fault => 6

/-- Codes of reset causes (R28). -/
def StnCause.code : StnCause → Nat
  | .none => 0 | .call => 1 | .crab => 2 | .guardUe => 3 | .fabricTmo => 4 | .microcode => 5 | .rig => 6 | .clock => 7

/-- SYS_STN_STATEn (R28). -/
def stnWord (s : State) (n : Stn) : Word :=
  let r := stn s n
  pack [(28, r.state.code), (24, r.cause.code), (16, r.resets), (8, min 8 (r.hist.count true)),
    (7, b2n (finishDuty.contains n))]

/-- The error codes (R475). -/
def Err.code : Err → Nat
  | .ok => 0x00 | .address => 0x01 | .access => 0x02 | .length => 0x03 | .range => 0x04 | .slotBusy => 0x05
  | .pairMismatch => 0x06 | .pairSplit => 0x07 | .noSlack => 0x08 | .limit => 0x09 | .stnReset => 0x0A
  | .sleeping => 0x0B | .handle => 0x0C | .typ => 0x0D | .version => 0x0E | .dupTid => 0x0F
  | .fabricTmo => 0x10 | .guardUe => 0x11 | .resourceTmo => 0x12 | .ledgerFail => 0x13 | .flashTmo => 0x14
  | .trxTmo => 0x15 | .mdioTmo => 0x16 | .natHash => 0x17
  | .rigSyntax => 0x20 | .rigCrc => 0x21 | .rigSignature => 0x22 | .rigVersion => 0x23 | .rigRange => 0x24
  | .bankLevel => 0x25 | .rigCapacity => 0x26 | .rigPower => 0x27 | .rigTrimField => 0x28
  | .trim => 0x29 | .trimRig => 0x2A | .trimBinding => 0x2B
  | .imageFormat => 0x30 | .signature => 0x31 | .imageMismatch => 0x32 | .blockCrc => 0x33
  | .microcodeRevert => 0x34 | .startFailed => 0x35
  | .easyLocked => 0x40 | .wakePending => 0x41 | .wakeTmoReg => 0x42 | .wakeTmoOsc => 0x43 | .wakeTmoMem => 0x44

/-! ## Network time -/

/-- 2^32: the fraction of a nanosecond that the count carries (R328). -/
def frac : Nat := 4294967296

/-- Nanoseconds in a second. -/
def giga : Nat := 1000000000

/-- The largest TIME_NS a register may carry (R327). -/
def nsMax : Nat := 999999999

/-- Network time in ns, truncated (R327, R329). -/
def nowNs (s : State) : Nat := s.tim.sub / frac

/-- TIME_SEC (R327). -/
def nowSec (s : State) : Nat := nowNs s / giga

/-- TIME_NS (R327). -/
def nowFrac (s : State) : Nat := nowNs s % giga

/-- TS32 of a time in ns (R331). -/
def ts32 (ns : Nat) : Nat := (ns / giga % 4) * giga + ns % giga

/-- A TS32 extended against a reference time in ns (R331). -/
def extend (ts ref : Nat) : Int :=
  let d : Int := (ts : Int) - ts32 ref
  let d := if d ≥ 2000000000 then d - 4000000000 else d
  let d := if d < -2000000000 then d + 4000000000 else d
  (ref : Int) + d

/-- The addend of one TIM cycle in 2^-32 ns (R328). -/
def addend (s : State) : Nat := (4 * (frac : Int) + s.tim.rate).toNat

/-- `n` TIM cycles pass (R328): the count and the TCXO time base move together. -/
def passCycles (s : State) (n : Nat) : State :=
  { s with tim := { s.tim with sub := s.tim.sub + n * addend s, cyc := s.tim.cyc + n } }

/-- Time moves to the first TIM cycle at or after `sub` (R61); not at all when that has passed. -/
def advanceSub (s : State) (sub : Nat) : State :=
  if s.tim.sub < sub then passCycles s (cdiv (sub - s.tim.sub) (addend s)) else s

/-- Time moves to the first TIM cycle at or after an instant of network time in ns. -/
def advanceTo (s : State) (ns : Nat) : State := advanceSub s (ns * frac)

/-- Time moves to a TIM cycle of the TCXO time base, for waits that are not counted in network time. -/
def advanceCyc (s : State) (cyc : Nat) : State :=
  if s.tim.cyc < cyc then passCycles s (cyc - s.tim.cyc) else s

/-- TIM cycles in `ms` milliseconds of the TCXO. -/
def msCyc (ms : Nat) : Nat := ms * 250000

/-- TIM cycles in `sec` seconds of the TCXO. -/
def secCyc (n : Nat) : Nat := n * 250000000

/-- The length of a stroke in ns (R19). -/
def strokeNs : Nat := 10000000

/-- The absolute stroke number of an instant (R30). -/
def absStroke (ns : Nat) : Nat := ns / strokeNs

/-- The boundary count at which a change committed now takes effect (R26): the next boundary, or the one after it
once Finish of the running stroke has passed. -/
def dueBoundary (s : State) : Nat :=
  match s.cox.phase with
  | .recovery => s.cox.count + 2
  | _ => s.cox.count + 1

/-- The network time at which the boundary of `dueBoundary` lies. -/
def dueBoundaryNs (s : State) : Nat :=
  match s.cox.phase with
  | .recovery => s.cox.ends + strokeNs
  | .none => cdiv (nowNs s + 1) strokeNs * strokeNs
  | _ => s.cox.ends

/-- Code of a time-quality state (R338). -/
def Quality.code : Quality → Nat
  | .locked => 0 | .holdover => 1 | .calendar => 2 | .invalid => 3

/-- Whether time quality admits commands (R51, R339). -/
def timeAdmits (s : State) : Bool := !s.tim.acquire && (s.tim.qual = .locked || s.tim.qual = .holdover)

/-- Whether network time is valid (R339). -/
def timeValid (s : State) : Bool := s.tim.set && s.tim.qual ≠ .invalid

end Sys2Proof.Machine
end

