-- ==== Sys2Proof/Machine/Records.lean ====
section
/-! DEFINITION. The stored words of calibration: binning records (R142) and colour classes as pairs (R145). -/
namespace Sys2Proof

/-! ## Binning records (R142) -/

/-- Word `i` of a record. -/
def BinRecord.word (r : BinRecord) (i : Nat) : Word := r.words.getD i 0

/-- FORMAT. -/
def BinRecord.format (r : BinRecord) : Nat := (r.word 0).field 15 0

/-- STRINGS. -/
def BinRecord.strings (r : BinRecord) : Nat := (r.word 0).field 23 16

/-- CLASSES by string. -/
def BinRecord.classes (r : BinRecord) : List Nat := (List.range 4).map fun s => (r.word 1).field (4 * s + 3) (4 * s)

/-- EUI64. -/
def BinRecord.eui64 (r : BinRecord) : Nat := (r.word 2).toNat + (r.word 3).toNat * 4294967296

/-- The place of TRIST of string `s` and quantity `q`: its value, the complement after it. -/
def tristAt (s q : Nat) : Nat := 4 + 6 * s + 2 * q

/-- The place of DRIVE of string `s`. -/
def driveAt (s : Nat) : Nat := 28 + 2 * s

/-- The strings of a record. -/
def BinRecord.data (r : BinRecord) : List BinString :=
  (List.range 4).map fun s =>
    { x := (r.word (tristAt s 0)).toNat, y := (r.word (tristAt s 1)).toNat, z := (r.word (tristAt s 2)).toNat,
      ceilCode := (r.word (driveAt s)).field 27 16, iLsb := (r.word (driveAt s)).field 15 0 }

/-- CRC. -/
def BinRecord.crc (r : BinRecord) : Nat := (r.word 36).toNat

/-- Whether the CRC is right. -/
def BinRecord.crcOk (r : BinRecord) : Bool := r.words.length = 37 && Machine.crc32c (Machine.bytesOf (r.words.take 36)) = r.crc

/-- Whether every constant matches its complement. -/
def BinRecord.pairsOk (r : BinRecord) : Bool := (List.range 16).all fun i => r.word (5 + 2 * i) = ~~~ r.word (4 + 2 * i)

/-- Whether FORMAT, STRINGS and the reserved octets are as the layout has them. -/
def BinRecord.formOk (r : BinRecord) : Bool :=
  r.format = 0x0100 && 1 ≤ r.strings && r.strings ≤ 4 && (r.word 0).field 31 24 = 0 && (r.word 1).field 31 16 = 0

/-- The record of 148 octets. -/
def BinRecord.ofBytes (l : List Byte) : BinRecord := { words := Machine.wordsOf 37 l }

/-- The words of a record before its CRC; strings that are not there hold zero words with all-ones complements. -/
def binBody (strings : Nat) (classes : List Nat) (eui64 : Nat) (data : List BinString) : List Word :=
  let p := fun (n : Nat) => [Machine.w32 n, ~~~ Machine.w32 n]
  let str := fun (s : Nat) => data.getD s {}
  [Machine.pack [(0, 0x0100), (16, strings)], Machine.pack ((List.range 4).map fun s => (4 * s, classes.getD s 0)),
   Machine.w32 (eui64 % 4294967296), Machine.w32 (eui64 / 4294967296)] ++
  (List.range 4).flatMap (fun s => p (str s).x ++ p (str s).y ++ p (str s).z) ++
  (List.range 4).flatMap (fun s => p ((str s).ceilCode * 65536 + (str s).iLsb))

/-- A record with its CRC. -/
def binRecord (strings : Nat) (classes : List Nat) (eui64 : Nat) (data : List BinString) : BinRecord :=
  let b := binBody strings classes eui64 data
  { words := b ++ [Machine.w32 (Machine.crc32c (Machine.bytesOf b))] }

/-! ## The metering record (R373, R393) -/

/-- Word `i` of a record; a word that is not there is that of an empty record, zero with an all-ones complement. -/
def MeterRecord.word (r : MeterRecord) (i : Nat) : Word := r.words.getD i (if i < 4 || i % 2 = 0 then 0 else 0xFFFFFFFF)

/-- The place of GAIN, OFFSET or DELAY (`q` 0 to 2) of channel `c`, the complement after it. -/
def meterChanAt (c q : Nat) : Nat := 4 + 6 * c + 2 * q

/-- The place of CFG (`p` 0) or of point `p` − 1 of class `k`, the complement after it. -/
def meterClassAt (k p : Nat) : Nat := 244 + 34 * k + 2 * p

/-- FORMAT, KIND and USED. -/
def MeterRecord.format (r : MeterRecord) : Nat := (r.word 0).field 15 0
def MeterRecord.kind (r : MeterRecord) : Nat := (r.word 0).field 23 16
def MeterRecord.used (r : MeterRecord) : Nat := (r.word 2).toNat + (r.word 3).toNat * 4294967296

/-- Whether the word at `i` matches its complement. -/
def MeterRecord.pairAt (r : MeterRecord) (i : Nat) : Bool := r.word (i + 1) = ~~~ r.word i

/-- The unit `u` of a record: channels are 0 to 39, sensor class k is 40 + k. The places of its pairs. -/
def meterUnitAt (u : Nat) : List Nat :=
  if u < 40 then (List.range 3).map (meterChanAt u) else (List.range 17).map (meterClassAt (u - 40))

/-- Whether the pairs of a unit match. -/
def MeterRecord.unitOk (r : MeterRecord) (u : Nat) : Bool := (meterUnitAt u).all r.pairAt

/-- Whether every pair matches. -/
def MeterRecord.pairsOk (r : MeterRecord) : Bool := (List.range 48).all r.unitOk

/-- Whether the CRC over the words before it is right. -/
def MeterRecord.crcOk (r : MeterRecord) : Bool :=
  r.words.length = 517 && Machine.crc32c (Machine.bytesOf (r.words.take 516)) = (r.word 516).toNat

/-- A channel's constants, when it is calibrated. -/
def MeterRecord.chan (r : MeterRecord) (c : Nat) : Option MeterCal :=
  if r.used.testBit c then
    some { gain := (r.word (meterChanAt c 0)).toNat, offset := Machine.sval 24 ((r.word (meterChanAt c 1)).field 23 0)
           delay := Machine.sval 16 ((r.word (meterChanAt c 2)).field 15 0) }
  else none

/-- A sensor class. -/
def MeterRecord.cls (r : MeterRecord) (k : Nat) : SensorClass :=
  let c := r.word (meterClassAt k 0)
  { valid := c.getLsbD 31, current := c.getLsbD 30, shift := c.field 17 16
    points := (List.range 16).map fun p =>
      let w := r.word (meterClassAt k (p + 1)); (w.field 31 16, Machine.sval 16 (w.field 15 0)) }

/-- The ranges of R373, of the calibrated channels and of the classes that are valid; OFFSET is sign-extended. -/
def MeterRecord.rangesOk (r : MeterRecord) : Bool :=
  ((List.range 40).all fun c => match r.chan c with
    | some k => k.gain > 0 && -11111 ≤ k.delay && k.delay ≤ 11111 && r.word (meterChanAt c 1) = Machine.i32 k.offset
    | none => true) &&
  (List.range 8).all fun k =>
    !(r.cls k).valid || (r.cls k).points.all fun p => 29491 ≤ p.1 && p.1 ≤ 36045 && -2000 ≤ p.2 && p.2 ≤ 2000

/-- FORMAT, KIND and reserved octets as the layout has them; USED names channels that exist. -/
def MeterRecord.formOk (r : MeterRecord) : Bool :=
  r.format = 0x0100 && r.kind = 2 && (r.word 0).field 31 24 = 0 && r.word 1 = 0 && r.used < 2 ^ 40

/-- The words of unit `u` of `b` in place of those of `a`. -/
def MeterRecord.withUnit (a b : MeterRecord) (u : Nat) : MeterRecord :=
  let at_ := (meterUnitAt u).flatMap fun i => [i, i + 1]
  { words := (List.range 517).map fun i => if at_.contains i then b.word i else a.word i }

/-- The words of a record before its CRC, from channels and classes. -/
def meterBody (channels : List (Nat × MeterCal)) (classes : List SensorClass) : List Word :=
  let p := fun (w : Word) => [w, ~~~ w]
  let used := channels.foldl (fun a c => a + 2 ^ c.1) 0
  [Machine.pack [(0, 0x0100), (16, 2)], 0, Machine.w32 used, Machine.w32 (used / 4294967296)] ++
  (List.range 40).flatMap (fun c =>
    let k := (channels.lookup c).getD {}
    p (Machine.w32 k.gain) ++ p (Machine.i32 k.offset) ++ p (Machine.w32 (Machine.sfield 16 k.delay))) ++
  (List.range 8).flatMap (fun k =>
    let c := classes.getD k {}
    p (Machine.pack [(31, Machine.b2n c.valid), (30, Machine.b2n c.current), (16, c.shift)]) ++
    (List.range 16).flatMap fun j => let x := c.points.getD j (0, 0); p (Machine.pack [(16, x.1), (0, Machine.sfield 16 x.2)]))

/-- A record with its CRC. -/
def meterRecord (channels : List (Nat × MeterCal)) (classes : List SensorClass) : MeterRecord :=
  let b := meterBody channels classes
  { words := b ++ [Machine.w32 (Machine.crc32c (Machine.bytesOf b))] }

/-! ## Transceiver profiles (R197, R198) -/

/-- The number of `n` octets at an offset of a profile. -/
def TrxProfile.at_ (k : TrxProfile) (o n : Nat) : Nat := Machine.ofLe ((k.octets.drop o).take n)

/-- The fields of a profile; T_TXLAT in ns. -/
def TrxProfile.format (k : TrxProfile) : Nat := k.at_ 0x00 2
def TrxProfile.spiDiv (k : TrxProfile) : Nat := k.at_ 0x02 1
def TrxProfile.irqMode (k : TrxProfile) : Nat := k.at_ 0x03 1
def TrxProfile.rate (k : TrxProfile) : Nat := k.at_ 0x04 2
def TrxProfile.preamble (k : TrxProfile) : Nat := k.at_ 0x06 1
def TrxProfile.fcs (k : TrxProfile) : Nat := k.at_ 0x07 1
def TrxProfile.tRst (k : TrxProfile) : Nat := k.at_ 0x08 2
def TrxProfile.tTxLat (k : TrxProfile) : Nat := 2 * k.at_ 0x0A 2
def TrxProfile.tSfdLat (k : TrxProfile) : Nat := k.at_ 0x0C 2
def TrxProfile.jitter (k : TrxProfile) : Nat := k.at_ 0x0E 1
def TrxProfile.tByte (k : TrxProfile) : Nat := k.at_ 0x0F 1
def TrxProfile.tTurn (k : TrxProfile) : Nat := k.at_ 0x10 2
def TrxProfile.tCmd (k : TrxProfile) : Nat := k.at_ 0x12 2
def TrxProfile.rxFifo (k : TrxProfile) : Nat := k.at_ 0x14 2
def TrxProfile.txBuf (k : TrxProfile) : Nat := k.at_ 0x16 2
def TrxProfile.channels (k : TrxProfile) : List Nat := (List.range 4).map fun j => k.at_ (0x18 + 2 * j) 2
def TrxProfile.count (k : TrxProfile) : Nat := k.at_ 0x20 1

/-- Template `j` of a profile: COUNT entries of its sixteen. -/
def TrxProfile.template (k : TrxProfile) (j : Nat) : Template :=
  let f := fun (o n : Nat) => k.at_ (0x24 + 40 * j + o) n
  { op := f 0 1, checkIdx := f 2 1, checkMask := f 3 1, checkVal := f 4 1, polls := f 5 1
    entries := (List.range (f 1 1)).map fun i => { kind := f (8 + 2 * i) 2 / 16384, data := f (8 + 2 * i) 2 % 256 } }

/-- The templates of a profile. -/
def TrxProfile.templates (k : TrxProfile) : List Template := (List.range k.count).map k.template

/-- FORMAT, the length, COUNT of every template, reserved octets and reserved bits as the layout has them. -/
def TrxProfile.formOk (k : TrxProfile) : Bool :=
  k.format = 0x0100 && k.octets.length = 0x24 + 40 * k.count && k.at_ 0x21 3 = 0 && k.irqMode < 4 &&
    (List.range k.count).all fun j =>
      1 ≤ k.at_ (0x24 + 40 * j + 1) 1 && k.at_ (0x24 + 40 * j + 1) 1 ≤ 16 && k.at_ (0x24 + 40 * j + 2) 1 < 8 && k.at_ (0x24 + 40 * j + 6) 2 = 0

/-- The 40 octets of a template. -/
def templateBytes (t : Template) : List Byte :=
  Machine.leBytes 1 t.op ++ Machine.leBytes 1 t.entries.length ++ Machine.leBytes 1 t.checkIdx ++ Machine.leBytes 1 t.checkMask ++
    Machine.leBytes 1 t.checkVal ++ Machine.leBytes 1 t.polls ++ Machine.leBytes 2 0 ++
    (List.range 16).flatMap fun i => let e := t.entries.getD i {}; Machine.leBytes 2 (e.kind * 16384 + e.data)

/-- The record of a profile; T_TXLAT is rounded down to its unit of 2 ns. -/
def trxRecord (f : TrxFields) : TrxProfile :=
  { octets := Machine.leBytes 2 0x0100 ++ Machine.leBytes 1 f.spiDiv ++ Machine.leBytes 1 f.irqMode ++ Machine.leBytes 2 f.rate ++
      Machine.leBytes 1 f.preamble ++ Machine.leBytes 1 f.fcs ++ Machine.leBytes 2 f.tRst ++ Machine.leBytes 2 (f.tTxLat / 2) ++
      Machine.leBytes 2 f.tSfdLat ++ Machine.leBytes 1 f.jitter ++ Machine.leBytes 1 f.tByte ++ Machine.leBytes 2 f.tTurn ++
      Machine.leBytes 2 f.tCmd ++ Machine.leBytes 2 f.rxFifo ++ Machine.leBytes 2 f.txBuf ++
      ((List.range 4).flatMap fun j => Machine.leBytes 2 (f.channels.getD j 0)) ++ Machine.leBytes 1 f.templates.length ++
      Machine.leBytes 3 0 ++ f.templates.flatMap templateBytes }

namespace Machine

/-- A total accumulator as stored, 96 bits of value and 96 of complement (R386, R394). -/
def Total.of (v : Nat) : Total := { v := BitVec.ofNat 96 v, n := ~~~ BitVec.ofNat 96 v }

/-- Whether an accumulator matches its complement. -/
def Total.ok (t : Total) : Bool := t.n = ~~~ t.v

/-! ## Colour classes (R145, R161) -/

/-- A word kept with its complement. -/
def kept (w : Word) : Pair := { v := w, n := ~~~ w }

/-- The nine words of a table. -/
def nine (f : Nat → Word) : List Pair := (List.range 9).map fun i => kept (f i)

/-- The pairs of a class in the order of its registers: RELF, DRIFT, DROOP, MAINT, FOLD, LIMITS, NOM. -/
def classPairs (c : ColourClass) : List Pair :=
  nine (fun i => w32 (nth c.relf i 0)) ++
  nine (fun i => let d := nth c.drift i (0, 0); pack [(16, sfield 16 d.1), (0, sfield 16 d.2)]) ++
  nine (fun i => let d := nth c.droop i (0, 0); pack [(16, d.1), (0, d.2)]) ++
  nine (fun i => let d := nth c.maint i (0, 0); pack [(16, d.1), (0, d.2)]) ++
  [kept (pack [(16, sfield 16 c.tFold), (0, sfield 16 c.tMax)]), kept (pack [(16, c.foldMin), (0, sfield 16 c.staleT)]),
   kept (w32 c.nomX), kept (w32 c.nomY), kept (w32 c.nomZ)]

/-- The class that its pairs spell. -/
def classOf (l : List Pair) : ColourClass :=
  let w := fun (i : Nat) => (nth l i {}).v
  let tab := fun {α : Type} (b : Nat) (f : Word → α) => (List.range 9).map fun i => f (w (b + i))
  { relf := tab 0 fun x => x.field 15 0, drift := tab 9 fun x => (sval 16 (x.field 31 16), sval 16 (x.field 15 0))
    droop := tab 18 fun x => (x.field 31 16, x.field 15 0), maint := tab 27 fun x => (x.field 31 16, x.field 15 0)
    tFold := sval 16 ((w 36).field 31 16), tMax := sval 16 ((w 36).field 15 0), foldMin := (w 37).field 31 16
    staleT := sval 16 ((w 37).field 15 0), nomX := (w 38).toNat, nomY := (w 39).toNat, nomZ := (w 40).toNat }

end Machine
end Sys2Proof
end

