-- ==== Sys2Proof/Machine/Aes.lean ====
section
/-! DEFINITION. AES-128 as FIPS 197 has it, CCM* as IEEE 802.15.4 uses it (R269, R270) and GCM (R190). The spec names the ciphers and gives their keys,
nonces and tags (log entry 116). -/
namespace Sys2Proof.Machine

/-! ## AES-128 -/

/-- The substitution table: row `r` holds entries 16r to 16r + 15, the first in its lowest octet. -/
def sboxRows : List Nat :=
  [0x76ABD7FE2B670130C56F6BF27B777C63, 0xC072A49CAFA2D4ADF04759FA7DC982CA, 0x1531D871F1E5A534CCF73F362693FDB7,
   0x75B227EBE28012079A059618C323C704, 0x842FE329B3D63B52A05A6E1B1A2C8309, 0xCF584C4A39BECB6A5BB1FC20ED00D153,
   0xA89F3C507F02F94585334D43FBAAEFD0, 0xD2F3FF1021DAB6BCF5389D928F40A351, 0x73195D643D7EA7C41744975FEC130CCD,
   0xDB0B5EDE14B8EE4688902A22DC4F8160, 0x79E4959162ACD3C25C2406490A3A32E0, 0x08AE7A65EAF4566CA94ED58D6D37C8E7,
   0x8A8BBD4B1F74DDE8C6B4A61C2E2578BA, 0x9E1DC186B95735610EF6034866B53E70, 0xDF2855CEE9871E9B948ED9691198F8E1,
   0x16BB54B00F2D99416842E6BF0D89A18C]

/-- The substitution of an octet. -/
def sbox (b : Byte) : Byte := BitVec.ofNat 8 (nth sboxRows (b.toNat / 16) 0 / 256 ^ (b.toNat % 16))

/-- An octet times x in the field of AES. -/
def xtime (b : Byte) : Byte := if b.getLsbD 7 then (b <<< 1) ^^^ 0x1B#8 else b <<< 1

/-- Octets combined by exclusive or. -/
def xorBytes (a b : List Byte) : List Byte := a.zipWith (· ^^^ ·) b

/-- The next round key from a round key and the round constant. -/
def nextKey (k : List Byte) (rc : Byte) : List Byte :=
  let t := (k.drop 13 ++ (k.drop 12).take 1).map sbox
  let w0 := xorBytes (k.take 4) (xorBytes t [rc, 0, 0, 0])
  let w1 := xorBytes ((k.drop 4).take 4) w0
  let w2 := xorBytes ((k.drop 8).take 4) w1
  w0 ++ w1 ++ w2 ++ xorBytes (k.drop 12) w2

/-- SubBytes and ShiftRows: octet i comes from octet 5i modulo 16. -/
def subShift (b : List Byte) : List Byte := (List.range 16).map fun i => sbox (nth b (5 * i % 16) 0)

/-- MixColumns for one column. -/
def mixColumn (c : List Byte) : List Byte :=
  (List.range 4).map fun i =>
    let a := fun j => nth c ((i + j) % 4) 0
    xtime (a 0) ^^^ xtime (a 1) ^^^ a 1 ^^^ a 2 ^^^ a 3

/-- MixColumns. -/
def mixColumns (b : List Byte) : List Byte := (List.range 4).flatMap fun c => mixColumn ((b.drop (4 * c)).take 4)

/-- Rounds `n` to 1 from the end on a block: the last has no MixColumns. -/
def aesRounds : Nat → List Byte → Byte → List Byte → List Byte
  | 0, _, _, b => b
  | n + 1, k, rc, b =>
    let k := nextKey k rc
    let x := subShift b
    aesRounds n k (xtime rc) (xorBytes (if n = 0 then x else mixColumns x) k)

/-- AES-128 of a block of 16 octets. -/
def aes (key block : List Byte) : List Byte := aesRounds 10 key 1 (xorBytes block key)

/-! ## CCM* -/

/-- Octets filled with zero to whole blocks. -/
def padBlock (l : List Byte) : List Byte := l ++ List.replicate ((16 - l.length % 16) % 16) 0

/-- The chain of AES over blocks. -/
def cbcMac (key : List Byte) : Nat → List Byte → List Byte → List Byte
  | 0, x, _ => x
  | n + 1, x, l => if l = [] then x else cbcMac key n (aes key (xorBytes x (l.take 16))) (l.drop 16)

/-- The most significant octet first. -/
def beBytes (n v : Nat) : List Byte := (leBytes n v).reverse

/-- Block `i` of the key stream under a nonce of 13 octets. -/
def ccmBlock (key nonce : List Byte) (i : Nat) : List Byte := aes key ([(1 : Byte)] ++ nonce ++ beBytes 2 i)

/-- The tag of `m` octets over authenticated octets `a` and octets `p`, encrypted. -/
def ccmTag (key nonce a p : List Byte) (m : Nat) : List Byte :=
  let b0 := [BitVec.ofNat 8 ((if a = [] then 0 else 64) + 8 * ((m - 2) / 2) + 1)] ++ nonce ++ beBytes 2 p.length
  let ad := if a = [] then [] else padBlock (beBytes 2 a.length ++ a)
  let all := b0 ++ ad ++ padBlock p
  (xorBytes (cbcMac key (all.length / 16) (List.replicate 16 0) all) (ccmBlock key nonce 0)).take m

/-- Octets encrypted, or decrypted, under a nonce. -/
def ccmCrypt (key nonce p : List Byte) : List Byte :=
  xorBytes p ((List.range ((p.length + 15) / 16)).flatMap fun i => ccmBlock key nonce (i + 1))

/-! ## GCM -/

/-- An octet string as a number, the most significant octet first. -/
def ofBe (l : List Byte) : Nat := ofLe l.reverse

/-- A product in the field of GCM: bit 0 is the most significant. -/
def gcmMul (x y : BitVec 128) : BitVec 128 :=
  ((List.range 128).foldl (fun (a : BitVec 128 × BitVec 128) i =>
    (if x.getMsbD i then a.1 ^^^ a.2 else a.1,
     if a.2.getLsbD 0 then (a.2 >>> 1) ^^^ 0xE1000000000000000000000000000000#128 else a.2 >>> 1)) (0, y)).1

/-- GHASH over blocks. -/
def ghash (h : BitVec 128) : Nat → BitVec 128 → List Byte → BitVec 128
  | 0, x, _ => x
  | n + 1, x, l => if l = [] then x else ghash h n (gcmMul (x ^^^ BitVec.ofNat 128 (ofBe (l.take 16))) h) (l.drop 16)

/-- Octets encrypted, or decrypted, under a nonce of 12 octets. -/
def gcmCrypt (key nonce p : List Byte) : List Byte :=
  xorBytes p ((List.range ((p.length + 15) / 16)).flatMap fun i => aes key (nonce ++ beBytes 4 (i + 2)))

/-- The tag over authenticated octets and ciphertext. -/
def gcmTag (key nonce a c : List Byte) : List Byte :=
  let h := BitVec.ofNat 128 (ofBe (aes key (List.replicate 16 0)))
  let all := padBlock a ++ padBlock c ++ beBytes 8 (8 * a.length) ++ beBytes 8 (8 * c.length)
  xorBytes (beBytes 16 (ghash h (all.length / 16) 0 all).toNat) (aes key (nonce ++ beBytes 4 1))

end Sys2Proof.Machine
end

