-- ==== Sys2Proof/Machine/Sha.lean ====
section
/-! DEFINITION. SHA-256 as FIPS 180-4 has it, HMAC (RFC 2104) and HKDF (RFC 5869) over it. The spec names them (R430, R432, R443, R445) and gives what
they are taken over (log entry 116). -/
namespace Sys2Proof.Machine

/-- The 64 round constants. -/
def shaK : List Word :=
  [0x428A2F98#32, 0x71374491#32, 0xB5C0FBCF#32, 0xE9B5DBA5#32, 0x3956C25B#32, 0x59F111F1#32, 0x923F82A4#32, 0xAB1C5ED5#32,
   0xD807AA98#32, 0x12835B01#32, 0x243185BE#32, 0x550C7DC3#32, 0x72BE5D74#32, 0x80DEB1FE#32, 0x9BDC06A7#32, 0xC19BF174#32,
   0xE49B69C1#32, 0xEFBE4786#32, 0x0FC19DC6#32, 0x240CA1CC#32, 0x2DE92C6F#32, 0x4A7484AA#32, 0x5CB0A9DC#32, 0x76F988DA#32,
   0x983E5152#32, 0xA831C66D#32, 0xB00327C8#32, 0xBF597FC7#32, 0xC6E00BF3#32, 0xD5A79147#32, 0x06CA6351#32, 0x14292967#32,
   0x27B70A85#32, 0x2E1B2138#32, 0x4D2C6DFC#32, 0x53380D13#32, 0x650A7354#32, 0x766A0ABB#32, 0x81C2C92E#32, 0x92722C85#32,
   0xA2BFE8A1#32, 0xA81A664B#32, 0xC24B8B70#32, 0xC76C51A3#32, 0xD192E819#32, 0xD6990624#32, 0xF40E3585#32, 0x106AA070#32,
   0x19A4C116#32, 0x1E376C08#32, 0x2748774C#32, 0x34B0BCB5#32, 0x391C0CB3#32, 0x4ED8AA4A#32, 0x5B9CCA4F#32, 0x682E6FF3#32,
   0x748F82EE#32, 0x78A5636F#32, 0x84C87814#32, 0x8CC70208#32, 0x90BEFFFA#32, 0xA4506CEB#32, 0xBEF9A3F7#32, 0xC67178F2#32]

/-- The eight words of a hash under way. -/
structure ShaWords where
  a : Word := 0x6A09E667#32
  b : Word := 0xBB67AE85#32
  c : Word := 0x3C6EF372#32
  d : Word := 0xA54FF53A#32
  e : Word := 0x510E527F#32
  f : Word := 0x9B05688C#32
  g : Word := 0x1F83D9AB#32
  h : Word := 0x5BE0CD19#32
  deriving DecidableEq, Repr

/-- Rounds over the constants left; `w` holds the next 16 words of the schedule. -/
def shaRounds : List Word → List Word → ShaWords → ShaWords
  | [], _, x => x
  | k :: ks, w, x =>
    let w0 := nth w 0 0
    let w1 := nth w 1 0
    let w14 := nth w 14 0
    let n := (w14.rotateRight 17 ^^^ w14.rotateRight 19 ^^^ (w14 >>> 10)) + nth w 9 0 + (w1.rotateRight 7 ^^^ w1.rotateRight 18 ^^^ (w1 >>> 3)) + w0
    let t1 := x.h + (x.e.rotateRight 6 ^^^ x.e.rotateRight 11 ^^^ x.e.rotateRight 25) + ((x.e &&& x.f) ^^^ (~~~x.e &&& x.g)) + k + w0
    let t2 := (x.a.rotateRight 2 ^^^ x.a.rotateRight 13 ^^^ x.a.rotateRight 22) + ((x.a &&& x.b) ^^^ (x.a &&& x.c) ^^^ (x.b &&& x.c))
    shaRounds ks (w.drop 1 ++ [n]) { a := t1 + t2, b := x.a, c := x.b, d := x.c, e := x.d + t1, f := x.e, g := x.f, h := x.g }

/-- A block of 64 octets taken in. -/
def shaBlock (x : ShaWords) (block : List Byte) : ShaWords :=
  let y := shaRounds shaK ((List.range 16).map fun i => BitVec.ofNat 32 (ofBe ((block.drop (4 * i)).take 4))) x
  { a := x.a + y.a, b := x.b + y.b, c := x.c + y.c, d := x.d + y.d, e := x.e + y.e, f := x.f + y.f, g := x.g + y.g, h := x.h + y.h }

/-- Blocks taken in, at most `n`. -/
def shaBlocks : Nat → ShaWords → List Byte → ShaWords
  | 0, x, _ => x
  | n + 1, x, l => if l = [] then x else shaBlocks n (shaBlock x (l.take 64)) (l.drop 64)

/-- The octets that follow a message of `n` octets: one bit set, zeros to the length, the length in bits. -/
def shaPad (n : Nat) : List Byte := [(0x80 : Byte)] ++ List.replicate ((119 - n % 64) % 64) 0 ++ beBytes 8 (8 * n)

/-- SHA-256 as 32 octets. -/
def sha256 (l : List Byte) : List Byte :=
  let x := shaBlocks (l.length / 64 + 2) {} (l ++ shaPad l.length)
  [x.a, x.b, x.c, x.d, x.e, x.f, x.g, x.h].flatMap fun w => beBytes 4 w.toNat

/-- HMAC with SHA-256 under a key of at most 64 octets. -/
def hmac (key m : List Byte) : List Byte :=
  let k := key ++ List.replicate (64 - key.length) 0
  sha256 (k.map (· ^^^ 0x5C#8) ++ sha256 (k.map (· ^^^ 0x36#8) ++ m))

/-- HKDF with SHA-256: at most 32 octets of output. -/
def hkdf (salt ikm info : List Byte) (n : Nat) : List Byte := (hmac (hmac salt ikm) (info ++ [(1 : Byte)])).take n

end Sys2Proof.Machine
end

