-- ==== Sys2Proof/Machine/Images.lean ====
section
/-! DEFINITION. What attached flash and staging spell as octets: images (R430), deltas (R432), halves of the calibration archive and calibration sets
(R440, R441), key batches (R443) and lantern images (R445). -/
namespace Sys2Proof.Machine

/-! ## Images (R430) -/

/-- VERSION. -/
def imgVersion (i : Image) : Nat := argAt i.data 0x08 4

/-- LENGTH. -/
def imgLength (i : Image) : Nat := argAt i.data 0x0C 4

/-- RIG_MIN. -/
def imgRigMin (i : Image) : Nat := argAt i.data 0x10 2

/-- RIG_MAX. -/
def imgRigMax (i : Image) : Nat := argAt i.data 0x12 2

/-- ABI. -/
def imgAbi (i : Image) : Nat := argAt i.data 0x14 4

/-- BUILT, of which the low 48 bits count. -/
def imgBuilt (i : Image) : Nat := argAt i.data 0x18 6

/-- A directory entry of an image (R430). -/
structure ImgEntry where
  typ : Nat := 0
  offset : Nat := 0
  size : Nat := 0
  sha : List Byte := []
  deriving DecidableEq, Repr

/-- Directory entry `k`. -/
def imgEntry (i : Image) (k : Nat) : ImgEntry :=
  let o := 0x20 + 48 * k
  { typ := argAt i.data o 2, offset := argAt i.data (o + 4) 4, size := argAt i.data (o + 8) 4, sha := (i.data.drop (o + 12)).take 32 }

/-- The directory. -/
def imgDir (i : Image) : List ImgEntry := (List.range 13).map (imgEntry i)

/-- The TYPE of CORE, or of the microcode of station `n`. -/
def sectionType (n : Nat) : Nat := if n = 0 then 0 else 0x100 + n

/-- The entry of CORE or of a station. -/
def imgFind (i : Image) (n : Nat) : Option ImgEntry := (imgDir i).find? fun e => e.typ = sectionType n

/-- The octets of an entry's section. -/
def entryData (i : Image) (e : ImgEntry) : List Byte := (i.data.drop e.offset).take e.size

/-- The sections: CORE, then the microcode of stations 1 to 12. -/
def imgSections (i : Image) : List (List Byte) := (List.range 13).map fun n => ((imgFind i n).map (entryData i)).getD []

/-- The SHA-256 that the directory gives CORE, or the microcode of station `n`. -/
def imgSha (i : Image) (n : Nat) : List Byte := ((imgFind i n).map ImgEntry.sha).getD []

/-- The hash of an image's bytes 0 to LENGTH − 1 (R432). -/
def imgHash (i : Image) : List Byte := sha256 i.data

/-- The largest LENGTH of an image. -/
def imageMax : Nat := 5246976

/-- R431's first check: MAGIC, FORMAT, SECTIONS and LENGTH, the sections' TYPEs, every section within LENGTH and no two overlapping. LENGTH is right
when it counts the octets there are. -/
def imgFormatOk (i : Image) : Bool :=
  let d := imgDir i
  i.data.take 4 = [0x56, 0x49, 0x4D, 0x47] && argAt i.data 4 2 = 0x0100 && argAt i.data 6 2 = 13 && imgLength i = i.data.length &&
  imgLength i ≤ imageMax && ((List.range 13).all fun n => (imgFind i n).isSome) && (d.all fun e => e.offset + e.size ≤ imgLength i) &&
  decide (d.Pairwise fun a b => a.size = 0 ∨ b.size = 0 ∨ a.offset + a.size ≤ b.offset ∨ b.offset + b.size ≤ a.offset)

/-- R431's second check: every section's SHA-256. -/
def imgHashesOk (i : Image) : Bool := (imgDir i).all fun e => sha256 (entryData i e) = e.sha

/-- CITY_SIG, all zero when absent. -/
def imgCitySig (i : Image) : List Byte := i.data.drop (imgLength i - 64)

/-! ## Deltas (R432) -/

/-- Whether a delta's header is right. -/
def deltaOk (l : List Byte) : Bool :=
  l.take 4 = [0x56, 0x44, 0x4C, 0x54] && argAt l 4 2 = 0x0100 && argAt l 6 2 = 0 && argAt l 0x38 4 = crc32c (l.take 0x38) &&
  60 ≤ l.length && argAt l 0x34 4 = cdiv (argAt l 0x30 4) 4096 && argAt l 0x30 4 ≤ imageMax

/-- A block of 4,096 octets of a source; the octets past its end are those of erased flash. -/
def sourceBlock (src : List Byte) (j : Nat) : List Byte :=
  let b := (src.drop (4096 * j)).take 4096
  b ++ List.replicate (4096 - b.length) 0xFF

/-- RUNS runs applied to a block: the block and the octets after them, none where a run is no run. -/
def applyRuns : Nat → List Byte → List Byte → Option (List Byte × List Byte)
  | 0, b, l => some (b, l)
  | n + 1, b, l =>
    let o := argAt l 0 2
    let k := argAt l 2 2
    if k = 0 || 4096 < o + k || l.length < 4 + k then none
    else applyRuns n (b.take o ++ (l.drop 4).take k ++ b.drop (o + k)) (l.drop (4 + k))

/-- One operation of a delta: the block it yields and the octets after it, none where it is no operation. -/
def deltaBlock (src l : List Byte) : Option (List Byte × List Byte) :=
  let op := argAt l 0 1
  let j := argAt l 4 4
  let rest := l.drop 12
  if l.length < 12 then none
  else if op = 2 then (if rest.length < 4096 then none else some (rest.take 4096, rest.drop 4096))
  else if cdiv src.length 4096 ≤ j then none
  else if op = 1 then some (sourceBlock src j, rest)
  else if op = 3 then applyRuns (argAt l 2 2) (sourceBlock src j) rest
  else none

/-- What a build ends with (R433): the target's octets, or the code and the block of its failure. -/
structure BuildEnd where
  err : Err := .ok
  block : Nat := 0
  data : List Byte := []
  deriving DecidableEq, Repr

/-- Operations from block `i` on build a target of `len` octets: each block's TCRC covers the bytes within it. An operation that is none ends the build as
a format that is wrong does. -/
def deltaOps (src : List Byte) (len : Nat) : Nat → Nat → List Byte → List Byte → BuildEnd
  | 0, _, _, acc => { data := acc.take len }
  | n + 1, i, l, acc =>
    match deltaBlock src l with
    | none => { err := .imageFormat, block := i }
    | some (b, rest) =>
      if argAt l 8 4 = crc32c (b.take (len - 4096 * i)) then deltaOps src len n (i + 1) rest (acc ++ b) else { err := .blockCrc, block := i }

/-- What a delta builds from a source (R433). -/
def deltaBuild (src l : List Byte) : BuildEnd := deltaOps src (argAt l 0x30 4) (argAt l 0x34 4) 0 (l.drop 60) []

/-! ## The calibration archive (R440, R441) -/

/-- A valid half: its MAGIC and its CRC. -/
def calValid (h : CalHalf) : Bool := h.head.length = 60 && h.head.take 4 = [0x56, 0x43, 0x41, 0x4C] && h.crc = crc32c h.head

/-- GENERATION. -/
def calGeneration (h : CalHalf) : Nat := argAt h.head 4 4

/-- The binning records that USED names. -/
def calBins (h : CalHalf) : List (Nat × BinRecord) := h.binning.filter fun b => (argAt h.head 8 32).testBit b.1

/-- The metering record, where METER says that one is held. -/
def calMeter (h : CalHalf) : Option MeterRecord := if argAt h.head 0x28 1 = 1 then h.meter else none

/-- The binning records of a half whose CRC and pairs hold (R126). -/
def validBins (h : CalHalf) : List (Nat × BinRecord) := (calBins h).filter fun b => b.2.crcOk && b.2.pairsOk

/-- Its metering record, empty where its CRC or a pair fails. -/
def validMeter (h : CalHalf) : MeterRecord := ((calMeter h).filter fun m => m.crcOk && m.pairsOk).getD {}

/-- A half with its header. The octets of the header that no field has are zero. -/
def calSeal (generation : Nat) (bins : List (Nat × BinRecord)) (m : Option MeterRecord) : CalHalf :=
  let used := (bins.map fun b => 2 ^ b.1).foldl (· ||| ·) 0
  let head := [0x56, 0x43, 0x41, 0x4C] ++ leBytes 4 generation ++ leBytes 32 used ++ [if m.isSome then 1 else 0] ++ List.replicate 19 0
  { head := head, crc := crc32c head, binning := bins, meter := m }

/-- The entries of a calibration set: at most as many as there are octets. -/
def calEntriesOf : Nat → List Byte → List CalEntry
  | 0, _ => []
  | n + 1, l =>
    if l = [] then []
    else if argAt l 0 1 = 1 && 152 ≤ l.length then
      .binning (argAt l 1 1) { words := wordsOf 37 (l.drop 4) } :: calEntriesOf n (l.drop 152)
    else if argAt l 0 1 = 2 && 2072 ≤ l.length then .metering { words := wordsOf 517 (l.drop 4) } :: calEntriesOf n (l.drop 2072)
    else [.malformed]

/-! ## Key batches (R443) -/

/-- Entry of a key batch from its octets. -/
def keyEntryOf (l : List Byte) : KeyEntry :=
  { head := l.take 12, slot := argAt l 0 2, ctr := argAt l 4 8, ct := (l.drop 76).take 16, tag := (l.drop 92).take 16 }

/-- The entries of a batch. -/
def keyEntriesOf (l : List Byte) : List KeyEntry := (List.range (l.length / 172)).map fun k => keyEntryOf ((l.drop (172 * k)).take 172)

/-- The key that wraps an entry: HKDF of the ECDH under the module's extended address. -/
def wrapKey (z : List Byte) (e : KeyEntry) : List Byte :=
  hkdf (leBytes 8 Config.eui) z ([0x56, 0x51, 0x4B, 0x57] ++ leBytes 2 e.slot ++ leBytes 8 e.ctr) 16

/-- The nonce of an entry. -/
def wrapNonce (e : KeyEntry) : List Byte := leBytes 2 e.slot ++ [0, 0] ++ leBytes 8 e.ctr

/-- The key that an entry unwraps to, none where its TAG fails. -/
def unwrapped (z : List Byte) (e : KeyEntry) : Option (BitVec 128) :=
  if e.tag = gcmTag (wrapKey z e) (wrapNonce e) e.head e.ct then
    some (BitVec.ofNat 128 (ofLe (gcmCrypt (wrapKey z e) (wrapNonce e) e.ct)))
  else none

/-! ## Lantern images (R445) -/

/-- The header of a lantern image, with the hash that HASH8 and DIST come from. -/
def lanternImageOf (l : List Byte) : LanternImage :=
  { magicOk := l.take 4 = [0x56, 0x4C, 0x46, 0x57], model := argAt l 6 2, version := argAt l 8 2, length := argAt l 12 4,
    hash8 := BitVec.ofNat 64 (ofLe ((sha256 l).take 8)) }

end Sys2Proof.Machine
end

