-- ==== Sys2Proof/Machine/Civil.lean ====
section
/-! DEFINITION. Calendar arithmetic: dates, days since the epoch and seconds (R340, R352, R354, R364). -/
namespace Sys2Proof.Machine

/-- Leap years (R352). -/
def leapYear (y : Nat) : Bool := y % 4 = 0 && (y % 100 ≠ 0 || y % 400 = 0)

/-- The length of a month (R352). -/
def monthLen (y m : Nat) : Nat :=
  match m with
  | 2 => if leapYear y then 29 else 28
  | 4 | 6 | 9 | 11 => 30
  | _ => 31

/-- Days before 1 January of a year, counted from 1 January of year 0. -/
def daysBeforeYear (y : Nat) : Nat := if y = 0 then 0 else 365 * y + (y - 1) / 4 - (y - 1) / 100 + (y - 1) / 400 + 1

/-- Days before the first of a month within its year. -/
def daysBeforeMonth (y m : Nat) : Nat := ((List.range (m - 1)).map fun i => monthLen y (i + 1)).foldl (· + ·) 0

/-- Days from 1970-01-01 to a date. -/
def daysOf (y m d : Nat) : Nat := daysBeforeYear y + daysBeforeMonth y m + (d - 1) - daysBeforeYear 1970

/-- Months consumed from a day of the year: the month and the day in it. -/
def monthOf (y : Nat) : Nat → Nat → Nat → Nat × Nat
  | 0, m, d => (m, d + 1)
  | k + 1, m, d => if d < monthLen y m then (m, d + 1) else monthOf y k (m + 1) (d - monthLen y m)

/-- The year of a number of days from 1 January of year 0, from an estimate. -/
def yearOf (n : Nat) : Nat :=
  let y := n * 400 / 146097
  if daysBeforeYear (y + 1) ≤ n then y + 1 else if n < daysBeforeYear y then y - 1 else y

/-- The date a number of days after 1970-01-01. -/
def dateOf (days : Nat) : Nat × Nat × Nat :=
  let n := days + daysBeforeYear 1970
  let y := yearOf n
  let md := monthOf y 11 1 (n - daysBeforeYear y)
  (y, md.1, md.2)

/-- The weekday of a date, 0 Monday to 6 Sunday (R164, R354). -/
def weekdayOf (days : Nat) : Nat := (days + 3) % 7

/-- Seconds since the epoch that a calendar reading gives, without TAI−UTC (R340). -/
def calSec (c : Cal) : Nat := daysOf c.year c.month c.day * 86400 + c.hour * 3600 + c.min * 60 + c.sec

/-- The calendar reading of a UTC count of seconds (R364). -/
def calOf (u : Nat) : Cal :=
  let d := dateOf (u / 86400)
  { sec := u % 60, min := u / 60 % 60, hour := u / 3600 % 24, day := d.2.2, month := d.2.1, year := d.1,
    wday := weekdayOf (u / 86400) }

/-- The UTC second of the current network time (R330, R340). -/
def utcSec (s : State) : Nat := ((nowSec s : Int) - s.tim.taiUtc).toNat

end Sys2Proof.Machine
end

