-- ==== Sys2Proof/Machine/Config.lean ====
section
/-! DEFINITION. The sections of the Rig as the stations have them (R33, R116), and the values that Trims and the head-end may
override (R125). -/
namespace Sys2Proof.Machine

def cIdentity (s : State) : IdentitySec := s.cfg.loaded.identity.getD {}
def cBackhaul (s : State) : BackhaulSec := s.cfg.loaded.backhaul.getD {}
def cGuar (s : State) : GuaranteeSec := s.cfg.loaded.guarantee.getD {}

/-- A radio port of RADIO with its values of GUARANTEE (R46). -/
def portCfg (x : RadioSec) (g : GuaranteeSec) (p : Nat) : PortCfg :=
  { toRadioPortCfg := nth x.ports p {}, toTier := nth g.tiers p {} }
def cBoard (s : State) : BoardSec := s.cfg.loaded.board.getD {}
def cRadio (s : State) : RadioSec := s.cfg.loaded.radio.getD {}
def cNodes (s : State) : List NodeCfg := s.cfg.loaded.nodes.getD []
def cDuty (s : State) : List DutyCfg := s.cfg.loaded.duty.getD []
def cLight (s : State) : LightSec := s.cfg.loaded.light.getD {}
def cCourses (s : State) : CoursesSec := s.cfg.loaded.courses.getD {}
def cSchedules (s : State) : SchedulesSec := s.cfg.loaded.schedules.getD {}
def cMeter (s : State) : MeterSec := s.cfg.loaded.meter.getD {}
def cTime (s : State) : TimeSec := s.cfg.loaded.time.getD {}
def cPower (s : State) : PowerSec := s.cfg.loaded.power.getD {}

/-- The entries of the active overlay (R125): the Trim bound to the current mode, then the special Trims in force in
ascending INDEX. -/
def overlay (s : State) : List (TrimField × Nat) :=
  ((s.cfg.trims.filter fun t => t.binding = s.cfg.overlayMode) ++
    (s.cfg.trims.filter fun t => s.cfg.specials.contains t.index)).flatMap Trim.entries

/-- The value the active overlay gives a field (R125): a later entry overrides an earlier one. -/
def overlayVal (s : State) (f : TrimField) : Option Nat :=
  ((overlay s).reverse.find? fun e => e.1 = f).map Prod.snd

/-- The value in use of a trimmable field whose base is `base` (R125). -/
def trimmed (s : State) (f : TrimField) (base : Nat) : Nat := (overlayVal s f).getD base

/-- An overlay with an entry that names one of its fields (R125, R136). -/
def overlayEntry (g m : Nat) (o : Overlay) (e : TrimField × Nat) : Overlay :=
  match e.1 with
  | .overlayScale a b => if a = g && b = m then { o with scale := e.2 } else o
  | .overlayCorr a b => if a = g && b = m then { o with corrEn := e.2 ≠ 0 } else o
  | .overlayChroma a b form => if a = g && b = m then { o with chromaSet := true, form := form, chroma := BitVec.ofNat 32 e.2 } else o
  | .overlayFloor a b => if a = g && b = m then { o with floor := e.2 } else o
  | .overlayCeil a b => if a = g && b = m then { o with ceil := e.2 } else o
  | _ => o

/-- LAT_RX of a port in ps (R321). -/
def latRx (s : State) (p : Nat) : Nat := nth (cBoard s).latRx p 0

/-- LAT_TX of a port in ps (R321). -/
def latTx (s : State) (p : Nat) : Nat := nth (cBoard s).latTx p 0

end Sys2Proof.Machine
end

