-- ==== Sys2Proof/Machine/Evq.lean ====
section
/-! DEFINITION. Event queues and reports (R395 to R409): writing, rewinding and draining packets, the record
types, the report rings. -/
namespace Sys2Proof.Machine

/-- Words a queue's stages hold (R395). -/
def occupied (q : EvqQueue) (openWords : Nat) : Nat := (q.vis.map List.length).foldl (· + ·) openWords

/-- One word arrives while `n` words of its packet stand in the stages (R399): with all 64 stages occupied the
oldest visible packet is removed and LOST increments. -/
def wordArrives (q : EvqQueue) (n : Nat) : EvqQueue :=
  if occupied q n ≥ 64 then { q with vis := q.vis.drop 1, lost := inc32 q.lost } else q

/-- The words of a packet arrive one by one (R396, R399). -/
def wordsArrive (q : EvqQueue) : Nat → Nat → EvqQueue
  | 0, _ => q
  | k + 1, n => wordsArrive (wordArrives q n) k (n + 1)

/-- The SEQ field of header word 0 set (R401). -/
def withSeq (seq : Nat) (w : Word64) : Word64 :=
  BitVec.ofNat 64 (w.toNat / frac * frac + seq % frac)

/-- A packet is written and committed (R396, R397, R399): it takes the queue's next SEQ. -/
def commitPacket (q : EvqQueue) (ws : List Word64) : EvqQueue :=
  let q := wordsArrive q ws.length 0
  let ws := match ws with
    | [] => []
    | w :: r => withSeq q.seq w :: r
  { q with vis := q.vis ++ [ws], seq := (q.seq + 1) % frac }

/-- A packet is written and rewound (R398, R399): its words leave, what they displaced stays lost. -/
def rewindPacket (q : EvqQueue) (n : Nat) : EvqQueue :=
  let q := wordsArrive q n 0
  { q with rewound := inc32 q.rewound }

/-- The packet at a place among the visible ones leaves, counted in LOST (R398): a stage of it held an uncorrectable word. -/
def stageLost (q : EvqQueue) (k : Nat) : EvqQueue :=
  if k < q.vis.length then { q with vis := q.vis.eraseIdx k, lost := inc32 q.lost } else q

/-- Whether EVQ answers a writer with STN_RESET (R34, R400). -/
def evqDown (s : State) : Bool := (stn s .evq).state = .fault || (stn s .evq).state = .reset || s.cox.resetting = some .evq

/-- The state with queue `q` changed. -/
def setQueue (s : State) (q : Nat) (f : EvqQueue → EvqQueue) : State :=
  { s with evq := { s.evq with queues := upd s.evq.queues q f } }

/-- A packet reaches EVQ from a writer: written, or counted lost while EVQ is in its reset (R400). -/
def putPacket (s : State) (q : Nat) (ws : List Word64) : State :=
  if evqDown s then setQueue s q fun e => { e with lost := inc32 e.lost }
  else setQueue s q fun e => commitPacket e ws

/-- A writer rewinds the packet it has begun (R398); while EVQ is in its reset the packet counts as lost (R400). -/
def rewound (s : State) (q n : Nat) : State :=
  if evqDown s then setQueue s q fun e => { e with lost := inc32 e.lost } else setQueue s q fun e => rewindPacket e n

/-- The two header words of a record (R401): `result` is RESULT of a DETECTOR record, `at_` the event time
in ns and `qual` the time quality at the event. -/
def headerWords (s : State) (typ : Nat) (w : Stn) (len result at_ qual : Nat) : List Word64 :=
  let nt := !s.tim.set
  let sec := if nt then 0 else at_ / giga % frac
  let ns := if nt then 0 else at_ % giga
  let ql := if nt then 3 else qual
  [BitVec.ofNat 64 (typ * 2 ^ 56 + w.idx * 2 ^ 52 + (len - 1) * 2 ^ 48 + result * 2 ^ 40 + b2n nt * 2 ^ 39),
   BitVec.ofNat 64 (sec * 2 ^ 32 + ql * 2 ^ 30 + ns)]

/-- A record is written to queue `q` (R401): header and payload. -/
def record (s : State) (q typ : Nat) (w : Stn) (result at_ qual : Nat) (payload : List Word64) : State :=
  putPacket s q (headerWords s typ w (payload.length + 2) result at_ qual ++ payload)

/-- The queue of a station's EVENT records (R404). -/
def eventQueue : Stn → Nat
  | .sys | .cfg | .pwr | .upd | .evq => 0
  | .sec => 1
  | .lgt | .crs => 2
  | .rad | .eth | .rtc | .tim => 3
  | .mtr => 5

/-- An EVENT record recognised at an instant (R402, R403). -/
def eventAt (s : State) (w : Stn) (at_ qual code subject data0 data1 : Nat) : State :=
  record s (eventQueue w) 0x40 w 0 at_ qual
    [BitVec.ofNat 64 (code * 2 ^ 48 + subject % 65536 * 2 ^ 32 + data0 % frac), BitVec.ofNat 64 data1]

/-- An EVENT record recognised now (R401, R403). -/
def event (s : State) (w : Stn) (code subject data0 data1 : Nat) : State :=
  eventAt s w (nowNs s) s.tim.qual.code code subject data0 data1

/-- An OUTCOME record (R402): KIND 0 for a command slot, 1 for a CALL; outcome as R53. -/
def outcomeRecord (s : State) (w : Stn) (request kind nat outcome : Nat) : State :=
  record s 2 0x30 w 0 (nowNs s) s.tim.qual.code
    [BitVec.ofNat 64 (request % 65536 * 2 ^ 48 + kind * 2 ^ 44 + nat % 4096 * 2 ^ 32 + outcome)]

/-- A pair event (R69, R70). Of a mismatch found inside the module `what` is 0 for every kind of value, since the spec gives no codes (log
entry 111). -/
def pairEvent (s : State) (w : Stn) (what : Nat) : State := event s w 0x0003 w.idx what 0

/-- A ledger failure event (R58). -/
def ledgerEvent (s : State) (w : Stn) : State := event s w 0x0807 w.idx Err.ledgerFail.code 0

/-- A visible packet is drained into the report ring (R405, R406): a full ring loses its oldest packet. -/
def drainOne (q : EvqQueue) (ws : List Word64) : EvqQueue :=
  let seq := (ws.headD 0).toNat % frac
  let q := if q.ring.length ≥ 512 then { q with ring := q.ring.drop 1, rlost := inc32 q.rlost } else q
  { q with ring := q.ring ++ [{ seq := seq, words := ws }], ringIdx := (q.ringIdx + 1) % 512, newest := some seq }

/-- Every visible packet of a queue is drained, in SEQ order (R405). -/
def drainQueue (q : EvqQueue) : EvqQueue := { q.vis.foldl drainOne q with vis := [] }

/-- The drain of a Recovery (R405): none while EVQ is not running. -/
def evqDrain (s : State) : State :=
  if isRunning s .evq then { s with evq := { s.evq with queues := s.evq.queues.map drainQueue } } else s

/-- `a` is at or below `b` modulo 2^32 within 2^31 (R406). -/
def seqLe (a b : Nat) : Bool := (b + frac - a % frac) % frac < 2147483648

/-- Ring packets at or below an acknowledged SEQ are released (R406). -/
def ackQueue (q : EvqQueue) (ack : Nat) : EvqQueue :=
  { q with ack := ack, ring := q.ring.filter fun p => !seqLe p.seq ack }

/-- Every queue's packet counts at an EVQ station reset (R36, R400): visible packets are lost; SEQ, LOST and the
rings are kept. -/
def evqResetQueue (q : EvqQueue) : EvqQueue :=
  { q with lost := satAdd 32 q.lost q.vis.length, vis := [], rewound := 0 }

/-! ## Registers (R409) -/

/-- EVQ's registers. -/
def evqRead (s : State) (off : Nat) : Word :=
  if off = 0x0000 then w32 0x00080040
  else if off = 0x0004 then pack [(31, b2n s.evq.enable), (24, s.evq.session), (0, s.evq.resend)]
  else if off = 0x0008 then
    pack ((List.range 8).map fun q => (q, b2n ((nth s.evq.queues q {}).vis ≠ [])))
  else if 0x0100 ≤ off ∧ off < 0x0200 then
    let q := nth s.evq.queues ((off - 0x0100) / 0x20) {}
    match (off - 0x0100) % 0x20 with
    | 0x00 => pack [(16, q.vis.length), (0, occupied q 0)]
    | 0x04 => w32 q.seq
    | 0x08 => w32 q.lost
    | 0x0C => w32 q.rewound
    | 0x10 => pack [(16, q.ring.length), (0, q.ringIdx)]
    | 0x14 => w32 q.ack
    | 0x18 => w32 q.rlost
    | _ => 0
  else 0

end Sys2Proof.Machine
end

