-- ==== Sys2Proof/Machine/Time.lean ====
section
/-! DEFINITION. TIM: discipline, quality, steps, compares and captures (R327 to R350). -/
namespace Sys2Proof.Machine

/-! ## Quality -/

/-- 2^-16 ns in a nanosecond: the unit of PTP times. -/
def ptpUnit : Int := 65536

/-- Network time in 2^-16 ns. -/
def nowPtp (s : State) : Int := s.tim.sub / 65536

/-- ERR_EST in ns, whole and at most the 32 bits it is read in (R338; log entry 122). -/
def errEst (s : State) : Nat :=
  match s.tim.qual with
  | .locked => min 0xFFFFFFFF ((s.tim.errs.foldl max 0) / 65536 + (cTime s).asym)
  | .holdover => min 0xFFFFFFFF (s.tim.errEntry + (cTime s).holdPpb * ((s.tim.cyc - s.tim.entryCyc) * 4) / giga)
  | _ => 0xFFFFFFFF

/-- The state code of a 0x0201 record (R403). -/
def qualCode (q : Quality) (acq : Bool) : Nat := if acq then 4 else q.code

/-- The time-quality state changes, with its EVQ record (R339). Entering HOLDOVER keeps the ERR_EST of the entry (R338). -/
def setQuality (s : State) (q : Quality) (acq : Bool) : State :=
  let old := qualCode s.tim.qual s.tim.acquire
  let new := qualCode q acq
  if old = new then s
  else
    let entry := errEst s
    let t := { s.tim with qual := q, acquire := acq, goodRun := 0 }
    let t := if q = .holdover then { t with errEntry := entry, entryCyc := s.tim.cyc } else t
    let s := { s with tim := t }
    event s .tim 0x0201 0 (old * 16 + new) (errEst s)

/-- HOLDOVER beyond HOLD_LIMIT (R339). -/
def holdCheck (s : State) : State :=
  if s.tim.qual = .holdover && errEst s > (cTime s).holdLimit then setQuality s .calendar false else s

/-! ## Servo -/

/-- RATE in 2^-32 ns per TIM cycle of a frequency in 2^-24 ppb, truncated towards minus infinity (R328, R335). -/
def rateOf (f : Int) : Int := (f * 1024) / 1000000000

/-- The frequency in 2^-24 ppb that a RATE gives (R340). -/
def freqOf (r : Int) : Int := (r * 1000000000) / 1024

/-- The sample the servo uses (R335): the one of the previous second with the smallest delay. -/
def bestSample (s : State) : Option Sample :=
  (s.tim.samples.filter fun x => x.sec + 1 = nowSec s).foldl
    (fun b x => match b with
      | none => some x
      | some y => if x.delay < y.delay then some x else some y) none

/-- An update without a used sample (R335, R339). -/
def missUpdate (s : State) : State :=
  let s := { s with tim := { s.tim with misses := satAdd 8 s.tim.misses 1, goodRun := 0, chosen := none } }
  if s.tim.acquire then
    if s.tim.misses ≥ 16 then setQuality s s.tim.qual false else s
  else if s.tim.qual = .locked && s.tim.misses ≥ 3 then setQuality s .holdover false
  else s

/-- The state an update's err leads to (R339). -/
def judgeErr (s : State) (err : Int) : State :=
  let lock : Int := (cTime s).lockLimit * ptpUnit
  let good := err.natAbs ≤ lock.toNat
  let run := if good then s.tim.goodRun + 1 else 0
  if s.tim.acquire || s.tim.qual = .holdover then
    if run ≥ 8 then setQuality s .locked false
    else { s with tim := { s.tim with goodRun := run } }
  else if s.tim.qual = .locked && err.natAbs > 10 * lock.toNat then setQuality s .holdover false
  else s

/-- A servo step is programmed (R335); a head-end step not yet applied is DISCARDED (R337). -/
def programStep (s : State) (err : Int) : State :=
  let h := if s.tim.head.state = .pending then { s.tim.head with state := .discarded } else s.tim.head
  { s with tim := { s.tim with stepPend := some (err * 65536), head := h } }

/-- The servo's update of a superframe (R335). -/
def servoUpdate (s : State) (c : Option Sample) : State :=
  match c with
  | none => missUpdate s
  | some x =>
    let s := { s with tim := { s.tim with
      misses := 0, offset := x.err, delay := x.delay, errs := lastN 16 (s.tim.errs ++ [x.err.natAbs]), chosen := none } }
    let steps := x.err.natAbs > (cTime s).stepLimit * 65536 ||
      s.tim.acquire || s.tim.qual = .calendar || s.tim.qual = .invalid
    let s :=
      if steps then programStep s x.err
      else
        let f := clampI (-(5000 * 16777216)) (5000 * 16777216) (s.tim.freq + x.err)
        let p := clampI (-(1000 * 16777216)) (1000 * 16777216) (x.err * 32)
        { s with tim := { s.tim with freq := f, phase := p, rateNext := some (rateOf (f + p)) } }
    judgeErr s x.err

/-- A new RATE takes effect (R335). -/
def rateApply (s : State) : State :=
  match s.tim.rateNext with
  | none => s
  | some r => { s with tim := { s.tim with rate := r, rateNext := none } }

/-! ## Saves -/

/-- TIM's save to the ledger (R340). -/
def timSave (s : State) : State :=
  { s with led := { s.led with tim := some ⟨nowSec s, s.tim.freq, s.tim.taiUtc⟩ },
           tim := { s.tim with savedAt := s.tim.cyc } }

/-- The save goes to the ledger (R58). -/
def timSaved (s : State) : State := (ledgerWrite s .tim timSave).1

/-! ## Compares -/

/-- Edge instant `k` of a unit in 0.5 ns (R342). -/
def cmpInstant (u : CmpUnit) (k : Nat) : Nat :=
  ((u.secHi * frac + u.secLo) * giga + u.ns) * 2 + b2n u.half + k * u.period * 2

/-- The issue instant e of an edge instant, in 0.5 ns: 5 ns and the board delay of TRGn before it, rounded (R85, R343; a tie goes
up, log entry 122). -/
def cmpIssue (s : State) (n v : Nat) : Nat := (v * 500 - 5000 - nth (cBoard s).trgDelay n 0 + 250) / 500

/-- TIM_CMPn_STAT (R350). -/
def cmpStat (u : CmpUnit) : Word :=
  pack [(31, b2n u.late), (30, b2n u.stepped), (16, min u.missed 0x3FFF), (0, min u.edges 0xFFFF)]

/-- A unit has run its series (R342). -/
def seriesDone (u : CmpUnit) : Bool := u.period = 0 || (u.count ≠ 0 && u.k ≥ u.count)

/-- The level of the pin at rest (R342). -/
def restLevel (u : CmpUnit) : Bool :=
  match u.mode with
  | 2 => u.edges ≠ 0
  | 4 => u.pin
  | _ => false

/-- The state with compare unit `n` changed. -/
def setCmp (s : State) (n : Nat) (f : CmpUnit → CmpUnit) : State :=
  { s with tim := { s.tim with cmps := upd s.tim.cmps n f } }

/-- The compare report (R350 REPORT, R403). -/
def cmpReport (s : State) (n : Nat) : State :=
  let u := nth s.tim.cmps n {}
  if u.report then event s .tim 0x0202 n (cmpStat u).toNat u.fired else s

/-- The pin after an edge (R342). -/
def edgePin (u : CmpUnit) : Bool :=
  match u.mode with
  | 1 | 2 => true
  | 3 => false
  | 4 => !u.pin
  | _ => u.pin

/-- A unit issues an edge at issue instant `e` (0.5 ns): pin, EDGES, FIRED as it leaves the pin 5 ns later, reports at the first
edge and at DONE (R342 to R344). -/
def issueEdge (s : State) (n e : Nat) : State :=
  let first := (nth s.tim.cmps n {}).state = .armed
  let s := setCmp s n fun u =>
    { u with edges := u.edges + 1, fired := ts32 ((e + 10) / 2), pin := edgePin u, immediate := false,
             lowAt := if u.mode = 1 then some (e + u.width * 2) else u.lowAt,
             state := if u.state = .armed then .running else u.state }
  let s := if first then cmpReport s n else s
  if seriesDone (nth s.tim.cmps n {}) then
    cmpReport (setCmp s n fun u => { u with state := .done }) n
  else s

/-- COMPARE_EDGE: the unit's next edge instant is reached (R343, R344). -/
def compareEdge (s : State) (n : Nat) : State :=
  let u := nth s.tim.cmps n {}
  if u.state ≠ .armed && u.state ≠ .running then s
  else
    let e := cmpIssue s n (cmpInstant u u.k)
    let s := if u.immediate then s else advanceTo s (e / 2 / 4 * 4)
    let at_ := if u.immediate then nowNs s * 2 else max e (nowNs s * 2)
    issueEdge (setCmp s n fun u => { u with k := u.k + 1 }) n at_

/-- PULSE_END: the low edge of a pulse (R342). -/
def pulseEnd (s : State) (n : Nat) : State :=
  match (nth s.tim.cmps n {}).lowAt with
  | none => s
  | some t => setCmp (advanceTo s (t / 2 / 4 * 4)) n fun u => { u with pin := false, lowAt := none }

/-- The ranges R342 and R327 give a unit that is to be armed. -/
def cmpRangesOk (u : CmpUnit) : Bool :=
  u.mode ≤ 4 && u.ns ≤ nsMax && (u.period = 0 || 100 ≤ u.period) &&
    (u.mode ≠ 1 || (8 ≤ u.width && (u.period = 0 || u.width + 8 ≤ u.period)))

/-- A unit is armed (R342, R344): a first edge less than 40 ns away is issued at once and sets LATE. The series goes on with its
second instant, issued at once when it too is past (log entry 122). -/
def cmpArm (s : State) (n : Nat) : State :=
  let s := setCmp s n fun u =>
    { u with state := .armed, late := false, stepped := false, missed := 0, edges := 0, k := 0, lowAt := none,
             immediate := false, pin := if u.mode = 4 then u.pin else false }
  let u := nth s.tim.cmps n {}
  if cmpIssue s n (cmpInstant u 0) < nowNs s * 2 + 80 then
    compareEdge (setCmp s n fun u => { u with late := true, immediate := true }) n
  else s

/-- A unit is disarmed (R342). -/
def cmpDisarm (s : State) (n : Nat) : State :=
  setCmp s n fun u => { u with state := .idle, pin := restLevel u, lowAt := none, immediate := false }

/-- Instants of a unit's series at or before `t` (0.5 ns), as the index of the first after it. -/
def firstAfter (u : CmpUnit) (t : Nat) : Nat :=
  let v := cmpInstant u 0
  if t < v then 0
  else if u.period = 0 then 1
  else
    let k := (t - v) / (u.period * 2) + 1
    if u.count = 0 then k else min k u.count

/-- The index of the first instant of a unit's series at or after `t` (0.5 ns). -/
def firstFrom (u : CmpUnit) (t : Nat) : Nat :=
  let v := cmpInstant u 0
  if t ≤ v then 0
  else if u.period = 0 then 1
  else
    let k := cdiv (t - v) (u.period * 2)
    if u.count = 0 then k else min k u.count

/-- A unit over a positive step from `b` to `t` (0.5 ns, R345): the instants after the boundary and before the new time are passed
over; one edge stands for the first of them, the others add to MISSED. A pulse's low edge that is passed over
ends the pulse at once. -/
def cmpStep (s : State) (n b t : Nat) : State :=
  let u := nth s.tim.cmps n {}
  let s := match u.lowAt with
    | some l => if b < l && l < t then setCmp s n fun u => { u with pin := false, lowAt := none } else s
    | none => s
  if u.state ≠ .armed && u.state ≠ .running then s
  else
    let lo := max u.k (firstAfter u b)
    let hi := max lo (firstFrom u t)
    if hi = lo then s
    else issueEdge (setCmp s n fun u =>
      { u with stepped := true, missed := u.missed + (hi - lo - 1), k := hi }) n (nowNs s * 2)

/-- Every general unit over a positive step (R345). -/
def cmpSteps (s : State) (b t : Nat) : State := (List.range 8).foldl (fun s n => cmpStep s n b t) s

/-! ## Steps -/

/-- The 24 h window of R363 restarts. -/
def agingRestarts (s : State) : State := { s with rtc := { s.rtc with phases := none } }

/-- A step in network time of `amt` (2^-32 ns) is made (R336): the count moves, the log and the counters take it, TIM saves, units
and captures follow (R345, R349), the ageing window restarts (R363). A step of less than 1 ns is not made; the log's amount drops the part below 1 ns (log entry 122). -/
def applyStep (s : State) (amt : Int) : State :=
  if amt.natAbs < frac then s
  else
    let b := nowNs s * 2
    let sub := ((s.tim.sub : Int) + amt).toNat
    let seq := s.tim.stepSeq + 1
    let ent : StepEnt := ⟨sub / frac / giga % frac, sub / frac % giga,
      clampI (-2147483647) 2147483647 (amt.tdiv frac), seq⟩
    let s := { s with tim := { s.tim with
      sub := sub, stepSeq := seq, steps := inc32 s.tim.steps, log := upd s.tim.log ((seq - 1) % 8) (fun _ => ent),
      caps := s.tim.caps.map fun c => { c with fifo := c.fifo.map fun x => { x with stepped := true } } } }
    let s := timSaved (agingRestarts s)
    if 0 < amt then cmpSteps s b (nowNs s * 2) else s

/-- The amount of the head-end step in 2^-32 ns at this instant (R337). -/
def headAmount (s : State) : Int :=
  let h := s.tim.head
  if h.absolute then (((h.secHi * frac + h.secLo) * giga + h.ns) * frac : Nat) - (s.tim.sub : Int)
  else (sval 32 h.secLo * giga + h.ns) * frac

/-- The step due at the boundary that begins stroke 1 (R335, R336, R337, R339). -/
def stepAtBoundary (s : State) : State :=
  match s.tim.stepPend with
  | some a =>
    let s := applyStep { s with tim := { s.tim with stepPend := none } } a
    if !s.tim.acquire && (s.tim.qual = .calendar || s.tim.qual = .invalid) then setQuality s s.tim.qual true else s
  | none =>
    if s.tim.head.state = .pending && nowSec s ≥ s.tim.head.target then
      let inv := s.tim.qual = .invalid && !s.tim.acquire
      let s := applyStep s (headAmount s)
      let s := { s with tim := { s.tim with head := { s.tim.head with state := .applied } } }
      if inv then setQuality s .calendar false else s
    else s

/-- Whether the boundary of this instant begins stroke 1 (R336). -/
def atStroke1 (s : State) : Bool := nowNs s / strokeNs % 100 = 1

/-- TAI−UTC changes at the first UTC midnight after a leap second (R330). -/
def leapAtMidnight (s : State) : State :=
  if s.tim.leap = 1 && ((nowSec s : Int) - s.tim.taiUtc - 1) % 86400 = 0 then
    { s with tim := { s.tim with taiUtc := s.tim.taiUtc + 1, leap := 0 } }
  else if s.tim.leap = 2 && ((nowSec s : Int) - s.tim.taiUtc + 1) % 86400 = 0 then
    { s with tim := { s.tim with taiUtc := s.tim.taiUtc - 1, leap := 0 } }
  else s

/-! ## Captures -/

/-- A capture's 32-byte record as four words (R349). -/
def captureWords (c : Capture) : List Word64 :=
  let ns := c.stamp / 2
  let flags := b2n c.rising + c.quality.code * 2 + b2n (c.lostBefore ≠ 0) * 8 + b2n c.glitchBefore * 16 +
    b2n (c.supprBefore ≠ 0) * 32 + b2n c.stepped * 64
  [BitVec.ofNat 64 (c.unit_ + flags * 2 ^ 8 + c.stepSeq % 65536 * 2 ^ 16 + ts32 ns * 2 ^ 32),
   BitVec.ofNat 64 (ns / giga % 2 ^ 48),
   BitVec.ofNat 64 (ns % giga + c.stamp % 2 * 2 ^ 32 + min c.lostBefore 255 * 2 ^ 40 + min c.supprBefore 65535 * 2 ^ 48),
   BitVec.ofNat 64 (c.errEst + c.seq % frac * 2 ^ 32)]

/-- The octets of a capture record (R349). -/
def captureBytes (c : Capture) : List Byte := (captureWords c).flatMap fun w => leBytes 8 w.toNat

/-- A capture goes to EVQ and into the capture log (R348). -/
def forwardCapture (s : State) (c : Capture) : State :=
  let s := record s (cTime s).captureQueue 0x20 .tim 0 (c.stamp / 2) c.quality.code (captureWords c)
  (ledgerWrite s .tim fun s => { s with led := { s.led with capLog := lastN 1024 (s.led.capLog ++ [c]), capWritten := s.led.capWritten + 1 } }).1

/-- TIM forwards the captures stamped before the stroke that runs (R348, R60), in ascending unit and in order of capture. -/
def forwardCaptures (s : State) : State :=
  let due := fun (x : Capture) => x.stroke < s.cox.count || x.stamp < 2 * s.cox.start
  let all := s.tim.caps.flatMap fun c => c.fifo.filter due
  let s := { s with tim := { s.tim with caps := s.tim.caps.map fun c => { c with fifo := c.fifo.filter fun x => !due x } } }
  all.foldl forwardCapture s

/-- CAPTURE_EDGE: an edge on CAPn, `taps` 0.5 ns steps into the present TIM cycle, wide enough or not (R346, R347). -/
def captureEdge (s : State) (n : Nat) (rising wide : Bool) (taps : Nat) : State :=
  let cfg := nth (cTime s).captures n {}
  let sel := cfg.edge = 3 || (cfg.edge = 1 && rising) || (cfg.edge = 2 && !rising)
  if !cfg.enabled || !sel || inReset s .tim then s
  else
    let set (f : CapUnit → CapUnit) : State := { s with tim := { s.tim with caps := upd s.tim.caps n f } }
    let c := nth s.tim.caps n {}
    if !wide then set fun c => { c with glitch := inc32 c.glitch, glitchSince := c.glitchSince + 1 }
    else
      let half := s.tim.sub / (frac / 2) + taps
      let stamp := (half * 500 - 5000 - nth (cBoard s).capDelay n 0 + 250) / 500
      let held := match c.last with
        | none => false
        | some l => l ≤ stamp && stamp < l + cfg.holdoff * 2000
      if held then set fun c => { c with suppr := inc32 c.suppr, supprSince := c.supprSince + 1 }
      else if c.fifo.length ≥ 8 then set fun c => { c with lost := inc32 c.lost, lostSince := c.lostSince + 1 }
      else
        let x : Capture :=
          { unit_ := n, rising := rising, quality := s.tim.qual, lostBefore := c.lostSince,
            glitchBefore := c.glitchSince ≠ 0, supprBefore := c.supprSince, stepSeq := s.tim.stepSeq,
            stamp := stamp, errEst := errEst s, seq := c.seq, stroke := s.cox.count }
        set fun c => { c with fifo := c.fifo ++ [x], last := some stamp, lastTs := ts32 (stamp / 2), lostSince := 0,
                              glitchSince := 0, supprSince := 0, seq := c.seq + 1 }

/-- Captures still held at a TIM station reset are lost and counted in both places (R347). -/
def capsReset (c : CapUnit) : CapUnit :=
  { lost := c.fifo.length, lostSince := c.lostSince + c.fifo.length, glitchSince := c.glitchSince,
    supprSince := c.supprSince, seq := c.seq }

/-! ## PTP messages (R332 to R334) -/

/-- The data-set comparison of the default BMCA, smaller is better (clause 9.3 of IEEE 1588, log entry 8). -/
def masterKey (m : AnnounceMsg) : List Nat :=
  [m.priority1, m.clockClass, m.accuracy, m.variance, m.priority2, m.gmId, m.stepsRemoved, m.clockId, m.portNum, m.port]

/-- Lexicographic order of keys. -/
def keyLt : List Nat → List Nat → Bool
  | a :: r, b :: q => if a < b then true else if b < a then false else keyLt r q
  | _, _ => false

/-- The best of the masters heard. -/
def bestMaster (l : List Foreign) : Option AnnounceMsg :=
  l.foldl (fun b f => match b with
    | none => some f.msg
    | some m => if keyLt (masterKey f.msg) (masterKey m) then some f.msg else some m) none

/-- The same port of the same clock. -/
def sameMaster (a b : AnnounceMsg) : Bool := a.clockId = b.clockId && a.portNum = b.portNum && a.port = b.port

/-- The selected master's UTC offset and leap indication are taken (R330). -/
def takeUtc (s : State) (m : AnnounceMsg) : State :=
  let leap := if m.leap61 then 1 else if m.leap59 then 2 else 0
  let t := { s.tim with leap := leap }
  { s with tim := if m.utcValid then { t with taiUtc := m.utcOffset, fromMaster := true } else t }

/-- The BMCA selects among the masters heard (R332, R339). -/
def selectMaster (s : State) : State :=
  let best := bestMaster s.tim.foreign
  let changed := match s.tim.master, best with
    | some a, some b => !(a.clockId = b.clockId && a.portNum = b.portNum)
    | _, _ => false
  let s := { s with tim := { s.tim with master := best } }
  let s := match best with
    | some m => takeUtc s m
    | none => s
  if changed && s.tim.qual = .locked then setQuality s .holdover false else s

/-- Whether a message is of the module's domain (R332). -/
def inDomain (s : State) (d : Nat) : Bool := d = (cBackhaul s).domain

/-- A count of TIM_PTP_CNTj. -/
def ptpCount (s : State) (j : Nat) : State := { s with tim := { s.tim with ptp := bump s.tim.ptp j } }

/-- ANNOUNCE_RECEIVE (R332). -/
def announceReceive (s : State) (m : AnnounceMsg) : State :=
  if !isRunning s .tim || !inDomain s m.domain then s
  else
    let f := (s.tim.foreign.filter fun f => !sameMaster f.msg m) ++ [⟨m, s.tim.cyc⟩]
    selectMaster { s with tim := { s.tim with foreign := f } }

/-- ANNOUNCE_RECEIPT_TIMEOUT (R332): the selected master is no longer heard. -/
def announceTimeout (s : State) : State :=
  match s.tim.master with
  | none => s
  | some m => selectMaster { s with tim := { s.tim with foreign := s.tim.foreign.filter fun f => !sameMaster f.msg m } }

/-- The receive timestamp of a frame arriving now on a port, in 2^-16 ns (R321). -/
def rxStamp (s : State) (p : Nat) : Int := nowPtp s - (latRx s p * 65536 / 1000 : Nat)

/-- The transmit timestamp of a frame leaving now on a port, in 2^-16 ns (R321). -/
def txStamp (s : State) (p : Nat) : Int := nowPtp s + (latTx s p * 65536 / 1000 : Nat)

/-- Whether a figure taken at a TIM cycle is younger than 16 s (R334). -/
def young (s : State) (at_ : Nat) : Bool := s.tim.cyc < at_ + secCyc 16

/-- The delay of a sample (R334), when a figure young enough exists. -/
def sampleDelay (s : State) (p : Nat) (t1 c t2 : Int) : Option Int :=
  if (cBackhaul s).p2p then
    match tget s.tim.linkDelay p with
    | some (d, a) => if young s a then some d else none
    | none => none
  else
    match s.tim.dresp with
    | some (d, a) => if young s a then some (((t2 - t1) + d - c) / 2) else none
    | none => none

/-- A sample from the selected master (R334): kept for the servo or counted as not used. -/
def takeSample (s : State) (p : Nat) (t1 c t2 : Int) : State :=
  match sampleDelay s p t1 c t2 with
  | none => ptpCount s 7
  | some d =>
    let least := s.tim.delays.foldl min d
    let s := { s with tim := { s.tim with delays := lastN 64 (s.tim.delays ++ [d]) } }
    if d > least + 1000 * ptpUnit then ptpCount s 7
    else
      let x : Sample := ⟨t1 + c + d - t2, d, nowSec s⟩
      let keep := s.tim.samples.filter fun y => y.sec + 1 ≥ nowSec s
      { s with tim := { s.tim with samples := keep ++ [x] } }

/-- SYNC_RECEIVE (R334). -/
def syncReceive (s : State) (src : PtpSrc) (twoStep : Bool) (t1 corr : Int) : State :=
  if !isRunning s .tim || !inDomain s src.domain then s
  else
    let s := ptpCount s 0
    match s.tim.master with
    | none => s
    | some m =>
      if m.clockId ≠ src.clockId || m.portNum ≠ src.portNum then s
      else if m.port ≠ src.port then ptpCount s 7
      else if twoStep then { s with tim := { s.tim with openSync := some ⟨src, rxStamp s src.port, corr⟩ } }
      else takeSample s src.port t1 corr (rxStamp s src.port)

/-- FOLLOW_UP_RECEIVE (R334). -/
def followUpReceive (s : State) (src : PtpSrc) (t1 corr : Int) : State :=
  if !isRunning s .tim || !inDomain s src.domain then s
  else
    let s := ptpCount s 1
    match s.tim.openSync with
    | some o =>
      if o.src = src then takeSample { s with tim := { s.tim with openSync := none } } src.port t1 (o.corr + corr) o.t2
      else s
    | none => s

/-- DELAY_RESP_RECEIVE (R334). -/
def delayRespReceive (s : State) (src : PtpSrc) (t4 corr : Int) : State :=
  if !isRunning s .tim || !inDomain s src.domain then s
  else
    let s := ptpCount s 3
    match s.tim.openDreq with
    | some (p, seq, t3) =>
      if p = src.port && seq = src.seq then
        { s with tim := { s.tim with dresp := some (t4 - t3 - corr, s.tim.cyc), openDreq := none } }
      else s
    | none => s

/-- PDELAY_RESP_RECEIVE (R333): the exchange is complete; `turn` is the responder's turnaround t3 − t2 where it is not carried
in correctionField. -/
def pdelayRespReceive (s : State) (src : PtpSrc) (turn corr : Int) : State :=
  if !isRunning s .tim || !inDomain s src.domain then s
  else
    let s := ptpCount s 5
    match tget s.tim.openPdelay src.port with
    | some (seq, t1) =>
      if seq = src.seq then
        let d := (rxStamp s src.port - t1 - turn - corr) / 2
        { s with tim := { s.tim with
          linkDelay := tput s.tim.linkDelay src.port (d, s.tim.cyc), openPdelay := tdel s.tim.openPdelay src.port } }
      else s
    | none => s

/-! ## Start and station reset (R340) -/

/-- TAI−UTC at a start: the ledger's, else the Rig's (R330). -/
def startTaiUtc (s : State) : Int :=
  match s.led.tim with
  | some t => t.taiUtc
  | none => (cTime s).taiUtc

/-- TIME_SEC at a start and the state it gives (R340). -/
def startSec (s : State) : Nat × Quality :=
  if !s.rtc.osf then (((calSec s.rtc.cal : Int) + startTaiUtc s).toNat, .calendar)
  else
    match s.led.tim with
    | some t => (t.sec + 1, .invalid)
    | none => (max s.cfg.loaded.built (imgBuilt s.cfg.image) + 1, .invalid)

/-- TIME_INIT: network time is set at the AON second edge (R340). -/
def timeInit (s : State) : State :=
  let st := (stn s .tim).state
  if s.tim.set || !(st = .ready || st = .running) then s
  else
    let r := startSec s
    let f := match s.led.tim with
      | some t => t.freq
      | none => 0
    { s with tim := { s.tim with sub := r.1 * giga * frac, set := true, qual := r.2, acquire := false, freq := f,
                                 rate := rateOf f, taiUtc := startTaiUtc s, leap := 0, savedAt := s.tim.cyc } }

/-- A TIM station reset (R36, R339, R340, R347): the count, RATE and the step log are kept; the servo, the masters and the units are
cleared; freq is the frequency the kept RATE gives. -/
def timStationReset (s : State) : State :=
  let q := if s.tim.qual = .locked then Quality.holdover else s.tim.qual
  let s := setQuality s q false
  let t := s.tim
  { s with tim := { sub := t.sub, cyc := t.cyc, set := t.set, rate := t.rate, freq := freqOf t.rate,
                    qual := t.qual, errEntry := t.errEntry, entryCyc := t.entryCyc, taiUtc := t.taiUtc, leap := t.leap,
                    fromMaster := t.fromMaster, stepSeq := t.stepSeq, steps := t.steps, log := t.log,
                    caps := t.caps.map capsReset, savedAt := t.savedAt, reqSeq := t.reqSeq } }

/-! ## Registers (R350) -/

/-- Code of a head-end step's STATE. -/
def HeSt.code : HeSt → Nat
  | .idle => 0 | .pending => 1 | .applied => 2 | .discarded => 3

/-- Code of a compare unit's STATE. -/
def CmpSt.code : CmpSt → Nat
  | .idle => 0 | .armed => 1 | .running => 2 | .done => 3

/-- A compare unit's registers. -/
def cmpRead (s : State) (n o : Nat) : Word :=
  let u := nth s.tim.cmps n {}
  match o with
  | 0x00 => pack [(28, u.state.code), (24, u.mode), (20, b2n u.report)]
  | 0x04 => pack [(30, b2n u.half), (0, u.ns)]
  | 0x08 => w32 u.secLo
  | 0x0C => w32 u.secHi
  | 0x10 => w32 u.width
  | 0x14 => w32 u.period
  | 0x18 => w32 u.count
  | 0x1C => cmpStat u
  | 0x20 => w32 u.fired
  | 0x24 => w32 (nth (cBoard s).trgDelay n 0)
  | _ => 0

/-- A capture unit's registers. -/
def capRead (s : State) (n o : Nat) : Word :=
  let c := nth s.tim.caps n {}
  let g := nth (cTime s).captures n {}
  match o with
  | 0x00 => pack [(31, b2n g.enabled), (28, g.edge), (0, g.holdoff)]
  | 0x04 => w32 (nth (cBoard s).capDelay n 0)
  | 0x08 => w32 c.fifo.length
  | 0x0C => w32 c.lastTs
  | 0x10 => w32 c.lost
  | 0x14 => w32 c.glitch
  | 0x18 => w32 c.suppr
  | _ => 0

/-- A step log entry's registers (R336). -/
def stepLogRead (s : State) (k o : Nat) : Word :=
  let e := nth s.tim.log k {}
  match o with
  | 0x0 => w32 e.sec
  | 0x4 => w32 e.ns
  | 0x8 => i32 e.amount
  | 0xC => w32 e.seq
  | _ => 0

/-- The selected master's fields in TIM_MASTER (R350). -/
def masterOf (s : State) : AnnounceMsg := s.tim.master.getD
  { clockId := 0, portNum := 0, clockClass := 0, port := 0 }

/-- The one-word registers of TIM. -/
def timReadTop (s : State) (off : Nat) : Word :=
  match off with
  | 0x0000 => w32 0x00080008
  | 0x0004 => pack [(30, s.tim.qual.code), (29, b2n s.tim.acquire), (28, b2n s.tim.master.isSome), (27, b2n (cBackhaul s).p2p),
      (16, s.tim.misses), (0, (cBackhaul s).domain)]
  | 0x0010 => w32 (nowFrac s)
  | 0x0014 => w32 (nowSec s)
  | 0x0018 => w32 (nowSec s / frac % 65536)
  | 0x001C => w32 (ts32 (nowNs s))
  | 0x0020 => i32 s.tim.rate
  | 0x0024 => i32 (s.tim.freq * 1000 / 16777216)
  | 0x0028 => i32 (sclamp 32 (s.tim.offset / ptpUnit))
  | 0x002C => i32 (sclamp 32 (s.tim.delay / ptpUnit))
  | 0x0030 => w32 (errEst s)
  | 0x0034 => pack [(31, b2n s.tim.fromMaster), (24, s.tim.leap), (0, sfield 16 s.tim.taiUtc)]
  | 0x0038 => w32 (masterOf s).clockId
  | 0x003C => w32 ((masterOf s).clockId / frac)
  | 0x0040 => pack [(16, (masterOf s).portNum), (8, (masterOf s).port), (0, (masterOf s).clockClass)]
  | 0x0044 => w32 s.tim.steps
  | 0x0048 => i32 ((tgetD s.tim.linkDelay 0 (0, 0)).1 / ptpUnit)
  | 0x004C => i32 ((tgetD s.tim.linkDelay 1 (0, 0)).1 / ptpUnit)
  | 0x0050 => pack [(28, s.tim.head.state.code), (24, b2n s.tim.head.absolute)]
  | 0x0054 => w32 s.tim.head.ns
  | 0x0058 => w32 s.tim.head.secLo
  | 0x005C => w32 s.tim.head.secHi
  | 0x0060 => w32 s.tim.head.atLo
  | 0x0064 => w32 s.tim.head.atHi
  | 0x3000 => pack [(16, min s.led.capWritten 65535), (0, s.led.capWritten % 1024)]
  | _ => 0

/-- TIM's registers. -/
def timRead (s : State) (off : Nat) : Word :=
  if 0x0080 ≤ off ∧ off < 0x00A4 then w32 (nth s.tim.ptp ((off - 0x0080) / 4) 0)
  else if 0x0100 ≤ off ∧ off < 0x0180 then stepLogRead s ((off - 0x0100) / 0x10) (off % 0x10)
  else if 0x1000 ≤ off ∧ off < 0x1200 then cmpRead s ((off - 0x1000) / 0x40) (off % 0x40)
  else if 0x2000 ≤ off ∧ off < 0x2200 then capRead s ((off - 0x2000) / 0x40) (off % 0x40)
  else timReadTop s off

/-- The second at whose stroke 1 a head-end step is applied (R337): AT, or with AT 0 the first whose boundary lies at
least 20 ms away. -/
def headTarget (s : State) (at_ : Nat) : Nat :=
  if at_ ≠ 0 then at_
  else
    let n := nowSec s
    if n * giga + strokeNs ≥ nowNs s + 20000000 then n else n + 1

/-- The checks of a TIM_STEP_CTRL request (R327, R337, R461); `h` holds the registers as the WRITE leaves them. -/
def headCheck (s : State) (h : HeadStep) (st : Nat) : Err :=
  let at_ := h.atHi * frac + h.atLo
  if s.tim.head.state = .pending then .slotBusy
  else if st ≠ 1 then .range
  else if !(s.tim.qual = .calendar || s.tim.qual = .invalid) || s.tim.acquire || s.tim.master.isSome then .range
  else if h.ns > nsMax then .range
  else if at_ ≠ 0 && at_ * giga + strokeNs < nowNs s + 20000000 then .range
  else .ok

/-- A head-end step is requested (R337). -/
def headRequest (s : State) : State :=
  let h := s.tim.head
  { s with tim := { s.tim with head := { h with state := .pending, target := headTarget s (h.atHi * frac + h.atLo) } } }

end Sys2Proof.Machine
end

