-- ==== Sys2Proof/Machine/Ethernet.lean ====
section
/-! DEFINITION. ETH: links, the receive path, transmit queues and preemption, the transparent clock and the IP stack's answers
(R303 to R326, R452). -/
namespace Sys2Proof.Machine

/-- A port's part of BACKHAUL (R303). -/
def ethCfg (s : State) (p : Nat) : EthPortCfg := nth (cBackhaul s).ports p {}

/-- A port. -/
def ethPort (s : State) (p : Nat) : EthPort := nth s.eth.ports p {}

/-- The state with a port changed. -/
def setPort (s : State) (p : Nat) (f : EthPort → EthPort) : State :=
  { s with eth := { s.eth with ports := upd s.eth.ports p f } }

/-- A count of ETHn_CNTj. -/
def ethCount (s : State) (p j : Nat) : State := setPort s p fun e => { e with cnt := bump e.cnt j }

/-- A count of SYS_IP_CNTj (R452). -/
def ipCount (s : State) (j : Nat) : State := { s with vtp := { s.vtp with ip := bump s.vtp.ip j } }

/-! ## Links and verification (R304, R318) -/

/-- Whether the conditions of R304 all hold. -/
def linkUp (c : EthPortCfg) (e : EthPort) : Bool :=
  c.enabled && !e.los && e.sync && (!c.anEn || e.an) && (!c.phy || e.phyLink)

/-- ETHn_LINK (R325). -/
def linkWord (c : EthPortCfg) (e : EthPort) : Word :=
  let st := if !c.enabled then 0 else if e.up then 4 else if e.los || !e.sync then 1 else if c.anEn && !e.an then 3 else 2
  pack [(28, st), (8, b2n e.los), (7, b2n e.phyLink), (6, b2n e.sync)]

/-- Whether preemption is active on a port (R318). -/
def preemptActive (c : EthPortCfg) (e : EthPort) : Bool :=
  c.preemptEn && e.up && (c.verifyDis || e.verify = .succeeded)

/-- Verification restarts at link-up (R318): a verify mPacket is sent unless it is disabled. -/
def verifyRestart (s : State) (p : Nat) : State :=
  let c := ethCfg s p
  setPort s p fun e =>
    if !c.preemptEn || c.verifyDis then { e with verify := .disabled, attempts := 0 }
    else { e with verify := .verifying, attempts := 1, lastTx := some .verify }

/-- Frames queued or on the wire of a port whose link is down are lost and counted (R306). -/
def dropQueued (s : State) (p : Nat) : State :=
  setPort s p fun e =>
    let n := (e.tq.map fun q => q.frames.length).foldl (· + ·) 0 + b2n e.sending.isSome + b2n e.suspended.isSome
    { e with cnt := upd e.cnt 10 (fun x => satAdd 32 x n), sending := none, suspended := none,
             tq := e.tq.map fun q => { q with drop := satAdd 32 q.drop q.frames.length, frames := [] } }

/-- The reply of a transaction has left, or is lost: it is outstanding no more (R306, R464), and a module reset that waits for it counts from now on
(R468). -/
def replyLeft (s : State) (ses tid : Nat) : State :=
  let v := s.vtp
  let owed := v.resetReply = some (ses, tid)
  let sessions := upd v.sessions ses fun x => { x with outstanding := x.outstanding.erase tid }
  { s with vtp := { v with sessions := sessions, resetReply := if owed then none else v.resetReply,
                           resetLeft := if owed then s.tim.cyc else v.resetLeft } }

/-- Outstanding replies whose frames are gone no longer count as outstanding (R306, R464). -/
def forgetReplies (s : State) (items : List TxItem) : State :=
  items.foldl (fun s i => match i with
    | .reply ses tid _ => replyLeft s ses tid
    | _ => s) s

/-- The queued replies of a session are discarded (R474). -/
def discardReplies (s : State) (ses : Nat) : State :=
  let keep := fun (f : TxFrame) => match f.item with
    | .reply i _ _ => i ≠ ses
    | _ => true
  { s with eth := { s.eth with ports := s.eth.ports.map fun e => { e with tq := e.tq.map fun q => { q with frames := q.frames.filter keep } } } }

/-- What a port has queued or on the wire. -/
def queuedItems (e : EthPort) : List TxItem :=
  (e.tq.flatMap fun q => q.frames.map TxFrame.item) ++ e.suspended.toList.map fun x => x.frame.item

/-- The link of a port is judged anew after a condition changed (R304, R306). -/
def relink (s : State) (p : Nat) : State :=
  let c := ethCfg s p
  let e := ethPort s p
  let up := linkUp c e
  if up = e.up then s
  else
    let s := setPort s p fun e => { e with up := up }
    let s := if up then verifyRestart s p
      else dropQueued (forgetReplies (ethCount s p 13) (queuedItems e)) p
    event s .eth 0x0901 p (linkWord c (ethPort s p)).toNat 0

/-- LINK_CHANGE: the conditions of a port's link as they are now (R304). -/
def linkChange (s : State) (p : Nat) (los sync an phy : Bool) : State :=
  relink (setPort s p fun e => { e with los := los, sync := sync, an := an, phyLink := phy }) p

/-- MDIO_POLL: register 1 of each declared PHY is read (R305). -/
def mdioPoll (s : State) (links : List Bool) : State :=
  (List.range 2).foldl (fun s p =>
    if (ethCfg s p).phy then relink (setPort s p fun e => { e with phyLink := links.getD p false }) p else s) s

/-- MDIO_TMO: the port is taken as DOWN until a later read succeeds (R58, R305); of the head-end's own access the failure shows in
ETH_MDIO_STAT. -/
def mdioTmo (s : State) (p : Nat) (headEnd : Bool) : State :=
  let s := if headEnd then { s with eth := { s.eth with mdioErr := true } } else s
  if (ethCfg s p).phy then relink (setPort s p fun e => { e with phyLink := false }) p else s

/-- VERIFY_TIMEOUT (R318): another verify mPacket, or FAILED after verifyLimit 3. -/
def verifyTimeout (s : State) (p : Nat) : State :=
  let e := ethPort s p
  if e.verify ≠ .verifying then s
  else if e.attempts ≥ 3 then ethCount (setPort s p fun e => { e with verify := .failed }) p 12
  else setPort s p fun e => { e with attempts := e.attempts + 1, lastTx := some .verify }

/-! ## Transmit queues (R315, R317, R320) -/

/-- The express credit now, in 1/8 octet (R320). -/
def creditNow (s : State) (e : EthPort) : Int := min 16384 (e.credit + ((s.tim.cyc : Int) - e.creditAt))

/-- Octets of a fragment's data sent by now; one octet takes 8 ns. -/
def dataSent (s : State) (x : Sending) : Nat := (s.tim.cyc - x.dataCyc) * 4 / 8

/-- Octets of a frame still to be sent, its FCS counted. -/
def dataLeft (s : State) (x : Sending) : Nat := x.frame.octets - x.done - dataSent s x

/-- The wire octets by which a frame on the wire can still block an express frame (R317, R320). -/
def blocking (s : State) (c : EthPortCfg) (e : EthPort) : Nat :=
  match e.sending with
  | none => 0
  | some x =>
    let left := dataLeft s x + 12
    if preemptActive c e && dataLeft s x ≥ 64 then min left (64 * (1 + c.addFrag) + 24) else left

/-- The express backlog (R320). -/
def backlog (s : State) (p : Nat) : Nat :=
  let e := ethPort s p
  ((nth e.tq 0 {}).frames.map TxFrame.octets).foldl (· + ·) (blocking s (ethCfg s p) e)

/-- A frame is queued for transmission (R306, R315, R320): whether it was taken. -/
def ethQueue (s : State) (p tq : Nat) (f : TxFrame) : State × Bool :=
  let e := ethPort s p
  if !e.up || !isRunning s .eth then (ethCount s p 10, false)
  else if tq = 0 && backlog s p + f.octets > (cGuar s).bExp then
    (ethCount (setPort s p fun e => { e with tq := upd e.tq 0 fun q => { q with drop := inc32 q.drop } }) p 9, false)
  else
    let s := setPort s p fun e => { e with tq := upd e.tq tq fun q => { q with frames := q.frames ++ [f] } }
    (setPort s p fun e => { e with maxBacklog := max e.maxBacklog (min 65535 (backlog s p)) }, true)

/-- A big-endian number in a run of octets. -/
def beAt (o : List Byte) (i n : Nat) : Nat := ((o.drop i).take n).foldl (fun a b => a * 256 + b.toNat) 0


/-- A run of octets replaced. -/
def patch (o : List Byte) (i : Nat) (b : List Byte) : List Byte := o.take i ++ b ++ o.drop (i + b.length)

/-- The offset at which the payload after at most one tag begins, with the EtherType and the tag (R309). -/
def etherType (o : List Byte) : Nat × Nat × Option Nat :=
  let t := beAt o 12 2
  if t = 0x8100 || t = 0x88A8 then (18, beAt o 16 2, some (beAt o 14 2)) else (14, t, none)

/-- Where the PTP message of a frame begins and its transport: 0 Ethernet, 4 IPv4, 6 IPv6 (R322). -/
def ptpAt (o : List Byte) : Option (Nat × Nat) :=
  let et := etherType o
  let p := et.1
  let ihl := beAt o p 1 % 16 * 4
  if et.2.1 = 0x88F7 then some (p, 0)
  else if et.2.1 = 0x0800 && beAt o (p + 9) 1 = 17 && (beAt o (p + ihl + 2) 2 = 319 || beAt o (p + ihl + 2) 2 = 320) then
    some (p + ihl + 8, 4)
  else if et.2.1 = 0x86DD && beAt o (p + 6) 1 = 17 && (beAt o (p + 42) 2 = 319 || beAt o (p + 42) 2 = 320) then
    some (p + 48, 6)
  else none

/-- Whether a PTP message type is an event message (Sync, Delay_Req, Pdelay_Req, Pdelay_Resp). -/
def ptpEvent (t : Nat) : Bool := t < 4

/-- The one's complement sum of 16-bit words with end-around carry. -/
def onesAdd (a b : Nat) : Nat := let x := a + b; x % 65536 + x / 65536

/-- A forwarded event message with `add` (2^-16 ns) added to correctionField; whether it could be corrected (R322). -/
def corrected (o : List Byte) (add : Int) : List Byte × Bool :=
  match ptpAt o with
  | none => (o, true)
  | some (m, tr) =>
    let old := sval 64 (beAt o (m + 8) 8)
    let neu := patch o (m + 8) (beBytes 8 (sfield 64 (old + add)))
    if tr = 0 then (neu, true)
    else if tr = 4 then (patch neu (m - 2) [0, 0], true)
    else
      let e := m + beAt o (m + 2) 2
      if o.length < e + 2 then (o, false)
      else
        let sum (x : List Byte) := (List.range 4).foldl (fun a i => onesAdd a (beAt x (m + 8 + 2 * i) 2)) 0
        let fix := onesAdd (beAt o e 2) (onesAdd (sum o) (65535 - sum neu))
        (patch neu e (beBytes 2 fix), true)

/-- The residence of a forwarded event message ends as it leaves (R322, R333): correction and counts. -/
def tcEgress (s : State) (p : Nat) (o : List Byte) (from_ : Nat) (ingress : Int) : State × List Byte :=
  let res := txStamp s p - ingress
  let isSync := match ptpAt o with
    | some (m, _) => beAt o m 1 % 16 = 0
    | none => false
  let link := if (cBackhaul s).p2p && isSync then (tgetD s.tim.linkDelay from_ (0, 0)).1 else 0
  let r := corrected o (res + link)
  let ns := (res / 65536).toNat
  ({ s with eth := { s.eth with tcMaxRes := max s.eth.tcMaxRes ns,
                                tcSlow := if ns > 100000 then inc32 s.eth.tcSlow else s.eth.tcSlow,
                                tcUncorr := if r.2 then s.eth.tcUncorr else inc32 s.eth.tcUncorr } }, r.1)

/-- What a frame does as it leaves its port: a reply is no longer outstanding (R464), the module's own PTP requests take their transmit
timestamps (R333, R334), a forwarded message is corrected (R322). -/
def leaves (s : State) (p : Nat) (i : TxItem) : State × TxItem :=
  match i with
  | .reply _ _ _ => (forgetReplies s [i], i)
  | .delayReq seq => ({ s with tim := { s.tim with openDreq := some (p, seq, txStamp s p) } }, i)
  | .pdelayReq seq => ({ s with tim := { s.tim with openPdelay := tput s.tim.openPdelay p (seq, txStamp s p) } }, i)
  | .forward o (some (f, t)) => let r := tcEgress s p o f t; (r.1, .forward r.2 (some (f, t)))
  | _ => (s, i)

/-- Where a ring's descriptor lies in SRAM (R312, R325): receive queues, then transmit queues from 8 on. -/
def ringBase (p q : Nat) : Nat := Config.ethRing p q % sramSize / 16 * 16

/-- Where a descriptor's buffer lies (R314): 512-byte aligned. -/
def bufBase (p q d : Nat) : Nat := Config.ethBuf p q d % sramSize / 512 * 512

/-- Buffers of 512 octets that a number of stored octets takes (R312). -/
def bufferCount (n : Nat) : Nat := max 1 (cdiv n 512)

/-- The descriptors a transmit ring has (R315). -/
def txRingSize (s : State) (p : Nat) : Nat := max 1 (ethCfg s p).tqSize

/-- Whether a frame takes a transmit timestamp (R321): the PTP event messages. -/
def txStamped (i : TxItem) : Bool :=
  match i with
  | .delayReq _ => true
  | .pdelayReq _ => true
  | .pdelayResp .. => true
  | .forward _ (some _) => true
  | _ => false

/-- A transmit descriptor is written back (R314, R315): firmware's again, with the timestamp of the frame. -/
def writeTxDesc (s : State) (p tq : Nat) (f : TxFrame) (k : Nat) : State :=
  let n := bufferCount (f.octets - 4)
  let d := ((nth (ethPort s p).tq tq {}).head + k) % txRingSize s p
  let stamp := if txStamped f.item && k = 0 then txStamp s p else 0
  let words := [bufBase p (8 + tq) d,
    (pack [(30, b2n (k = 0)), (29, b2n (k + 1 = n)), (28, b2n (txStamped f.item && k = 0)),
      (0, if k + 1 = n then f.octets - 4 else 512)]).toNat,
    ts32 (stamp / 65536).toNat, (stamp % 65536 / 256).toNat]
  { s with mem := memWriteAll s.mem (ringBase p (8 + tq) + 16 * d) (words.flatMap fun w => leBytes 4 w) }

/-- The descriptors of a frame that starts. -/
def writeTxDescs (s : State) (p tq : Nat) (f : TxFrame) : State :=
  (List.range (bufferCount (f.octets - 4))).foldl (fun s k => writeTxDesc s p tq f k) s

/-- A frame of queue `tq` starts at TIM cycle `at_` (R315, R320): preamble of 8 octets first; with preemption active a preemptable frame takes the next
SMD-S (R316). -/
def startFrame (s : State) (p tq : Nat) (f : TxFrame) (at_ : Nat) : State :=
  let s := advanceCyc s at_
  let size := txRingSize s p
  let mp := tq ≠ 0 && preemptActive (ethCfg s p) (ethPort s p)
  let r := leaves (writeTxDescs s p tq f) p f.item
  let s := r.1
  setPort s p fun e =>
    { e with sending := some { frame := f, tq := tq, dataCyc := at_ + 16, done := 0, mp := if mp then some (e.smd, 0) else none }
             lastTx := some r.2
             smd := if mp then (e.smd + 1) % 4 else e.smd
             credit := if tq = 0 then creditNow s e - (f.octets + 20) * 8 else e.credit
             creditAt := if tq = 0 then s.tim.cyc else e.creditAt
             tq := upd e.tq tq fun q => { q with frames := q.frames.drop 1, head := (q.head + bufferCount (f.octets - 4)) % size } }

/-- The frame on the wire has ended (R315): TX_OK, and TX_EXPRESS for the express class. -/
def frameEnds (s : State) (p : Nat) (x : Sending) : State :=
  let s := ethCount s p 7
  let s := if x.tq = 0 then ethCount s p 8 else s
  setPort s p fun e => { e with sending := none, tq := upd e.tq x.tq fun q => { q with sent := inc32 q.sent } }

/-- The TIM cycle at which the frame on the wire and the interpacket gap after it end. -/
def endCyc (x : Sending) : Nat := x.dataCyc + (x.frame.octets - x.done + 12) * 2

/-- A frame whose end has passed is settled. -/
def settle (s : State) (p : Nat) : State :=
  match (ethPort s p).sending with
  | some x => if endCyc x ≤ s.tim.cyc then frameEnds s p x else s
  | none => s

/-- An express frame that may start now (R320). -/
def expressReady (s : State) (e : EthPort) : Option TxFrame :=
  if creditNow s e > 0 then (nth e.tq 0 {}).frames.head? else none

/-- The first preemptable frame in strict priority (R315). -/
def nextPreemptable (e : EthPort) : Option (Nat × TxFrame) :=
  match (nth e.tq 1 {}).frames, (nth e.tq 2 {}).frames, (nth e.tq 3 {}).frames with
  | f :: _, _, _ => some (1, f)
  | [], f :: _, _ => some (2, f)
  | [], [], f :: _ => some (3, f)
  | [], [], [] => none

/-- The port is idle from TIM cycle `at_`: the next frame starts, express first, then a suspended frame, then the preemptable queues. -/
def startNext (s : State) (p at_ : Nat) : State :=
  let s := advanceCyc s at_
  let e := ethPort s p
  match expressReady s e with
  | some f => startFrame s p 0 f s.tim.cyc
  | none =>
    match e.suspended with
    | some x => setPort s p fun e =>
        { e with sending := some { x with dataCyc := s.tim.cyc + 16, mp := x.mp.map fun m => (m.1, (m.2 + 1) % 4) }, suspended := none }
    | none =>
      match nextPreemptable e with
      | some (q, f) => startFrame s p q f s.tim.cyc
      | none => s

/-- The TIM cycle at which a preemptable frame on the wire can be preempted (R317): 64 × (1 + ADD_FRAG_SIZE) − 4 octets of the fragment
sent and 64 left; none when it cannot. -/
def preemptAt (s : State) (c : EthPortCfg) (e : EthPort) (x : Sending) : Option Nat :=
  let least := 64 * (1 + c.addFrag) - 4
  let at_ := max s.tim.cyc (x.dataCyc + least * 2)
  let sent := (at_ - x.dataCyc) * 4 / 8
  if preemptActive c e && x.tq ≠ 0 && x.frame.octets ≥ x.done + sent + 64 then some at_ else none

/-- The frame on the wire is preempted by an express frame (R317): the fragment ends with its mCRC, the gap follows. -/
def preempt (s : State) (p : Nat) (x : Sending) (at_ : Nat) (f : TxFrame) : State :=
  let s := ethCount (advanceCyc s at_) p 11
  let sent := (at_ - x.dataCyc) * 4 / 8
  startFrame (setPort s p fun e => { e with suspended := some { x with done := x.done + sent }, sending := none }) p 0 f
    (at_ + 32)

/-- ETH_TRANSMIT: the port starts its next frame, preempting or once the one on the wire has ended (R315, R317). -/
def ethTransmit (s : State) (p : Nat) : State :=
  let e := ethPort s p
  if !e.up || !isRunning s .eth then s
  else
    match e.sending with
    | none => startNext s p s.tim.cyc
    | some x =>
      match expressReady s e, preemptAt s (ethCfg s p) e x with
      | some f, some a => preempt s p x a f
      | _, _ => startNext (frameEnds (advanceCyc s (endCyc x)) p x) p (endCyc x)

/-- EXPRESS_CREDIT_ABOVE_ZERO (R320): the credit has risen above 0 and a held express frame starts or preempts. -/
def creditAboveZero (s : State) (p : Nat) : State :=
  let e := ethPort s p
  let need := (1 - creditNow s e).toNat
  let s := advanceCyc s (s.tim.cyc + need)
  if (nth e.tq 0 {}).frames = [] then s else ethTransmit s p

/-! ## Receive path (R307 to R314) -/

/-- The port's own address (ETHn_MAC, factory). -/
def ethMac (p : Nat) : Nat := Config.mac p % 2 ^ 48

/-- The address check of R308. -/
def addrOk (s : State) (p : Nat) (o : List Byte) : Bool :=
  let d := beAt o 0 6
  d = ethMac p || d = 2 ^ 48 - 1 ||
    ((cBackhaul s).addrs.take 16).any fun a => a.valid && a.ports.testBit p && a.addr = d

/-- Whether a rule matches a frame (R309). -/
def ruleMatches (r : EthRule) (p : Nat) (o : List Byte) : Bool :=
  let et := etherType o
  let tagOk := match r.tag, et.2.2 with
    | 0, _ => true
    | 1, none => true
    | 2, some _ => true
    | 3, some t => t % 4096 = r.vid
    | _, _ => false
  r.valid && r.ports.testBit p && tagOk && (r.etypeAny || et.2.1 = r.etype)

/-- The first rule that matches (R309). -/
def findRule (s : State) (p : Nat) (o : List Byte) : Option (Nat × EthRule) :=
  let rules := (cBackhaul s).rules.take 32
  (rules.zipIdx.find? fun x => ruleMatches x.1 p o).map fun x => (x.2, x.1)

/-- Whether a PTP frame of transport `tr` goes to a peer-delay address (R333): 01-80-C2-00-00-0E, or under UDP 224.0.0.107 or FF02::6B. -/
def peerAddr (o : List Byte) (tr : Nat) : Bool :=
  let p := (etherType o).1
  if tr = 4 then beAt o (p + 16) 4 = 0xE000006B
  else if tr = 6 then beAt o (p + 24) 16 = 0xFF02 * 2 ^ 112 + 0x6B
  else beAt o 0 6 = 0x0180C200000E

/-- Whether a frame is a PTP message that the transparent clock takes, by its type (R322, R333): Pdelay messages to a peer-delay address are consumed
at the port. -/
def tcTakes (s : State) (o : List Byte) : Option Nat :=
  if !(cBackhaul s).tcEn then none
  else
    match ptpAt o with
    | none => none
    | some (m, tr) =>
      let t := beAt o m 1 % 16
      if beAt o (m + 4) 1 ≠ (cBackhaul s).domain then none
      else if (t = 2 || t = 3 || t = 10) && peerAddr o tr then none
      else some t

/-- The transparent clock forwards a PTP message to the other port (R322). -/
def tcForward (s : State) (p : Nat) (o : List Byte) (t : Nat) : State :=
  let s := { s with eth := { s.eth with tcFwd := inc32 s.eth.tcFwd } }
  let f : TxFrame := ⟨.forward o (if ptpEvent t then some (p, rxStamp s p) else none), o.length + 4⟩
  (ethQueue s (1 - p) (if ptpEvent t then 0 else 2) f).1

/-- A policer's tokens now (R311). -/
def polTokens (s : State) (k : Nat) : Nat :=
  let c := nth (cBackhaul s).policers k {}
  let full := c.burst * 2000000
  match tget s.eth.tok k with
  | none => full
  | some (t, a) => min full (t + (s.tim.cyc - a) * c.rate)

/-- The frame passes its rule's policer, or is refused (R311). -/
def police (s : State) (r : Option (Nat × EthRule)) (len : Nat) : State × Bool :=
  match r with
  | some (_, e) =>
    if !e.police then (s, true)
    else
      let t := polTokens s e.policer
      if t < len * 2000000 then
        ({ s with eth := { s.eth with polDrop := bump s.eth.polDrop e.policer } }, false)
      else ({ s with eth := { s.eth with tok := tput s.eth.tok e.policer (t - len * 2000000, s.tim.cyc) } }, true)
  | none => (s, true)

/-- Buffers a frame takes (R312). -/
def buffers (o : List Byte) : Nat := bufferCount o.length

/-- Word 1 of a committed descriptor (R314). -/
def descWord (o : List Byte) (k n rule : Nat) (preemptable tagged fwd : Bool) : Nat :=
  (pack [(30, b2n (k = 0)), (29, b2n (k + 1 = n)), (28, b2n (k = 0)), (27, b2n preemptable), (26, b2n tagged),
    (25, b2n fwd), (16, rule), (0, if k + 1 = n then o.length else 512)]).toNat

/-- One buffer and its descriptor are written (R312, R314). -/
def writeBuffer (s : State) (p q size head n rule : Nat) (o : List Byte) (pre fwd : Bool) (k : Nat) : State :=
  let d := (head + k) % size
  let et := etherType o
  let stamp := rxStamp s p
  let m := memWriteAll s.mem (bufBase p q d) ((o.drop (512 * k)).take 512)
  let words := [bufBase p q d, descWord o k n rule pre et.2.2.isSome fwd,
    if k = 0 then ts32 (stamp / 65536).toNat else 0,
    if k = 0 then (et.2.2.getD 0) * 65536 + (stamp % 65536 / 256).toNat else 0]
  { s with mem := memWriteAll m (ringBase p q + 16 * d) (words.flatMap fun w => leBytes 4 w) }

/-- A frame is committed to its ring (R312): HEAD moves past its descriptors, which pass to firmware. -/
def commitFrame (s : State) (p q rule : Nat) (o : List Byte) (pre fwd : Bool) : State :=
  let size := max 16 ((ethCfg s p).rqSize)
  let ring := nth (ethPort s p).rq q {}
  let n := buffers o
  let s := (List.range n).foldl (fun s k => writeBuffer s p q size ring.head n rule o pre fwd k) s
  setPort (ethCount s p 0) p fun e => { e with rq := upd e.rq q fun r =>
    { r with head := (r.head + n) % size, used := r.used + n, frames := inc32 r.frames } }

/-- A frame is dropped at its ring (R313). -/
def ringDrop (s : State) (p q : Nat) : State :=
  setPort s p fun e => { e with rq := upd e.rq q fun r => { r with drop := inc32 r.drop } }

/-! ## The IP stack's own answers (R452) -/

/-- The payload of a frame for the stack, when its tag is the port's (R452). -/
def stackPayload (s : State) (p : Nat) (o : List Byte) : Option (Nat × List Byte) :=
  let et := etherType o
  if et.2.2.map (· % 4096) = (ethCfg s p).vid then some (et.2.1, o.drop et.1) else none

/-- The entries of a port's cache that are less than 300 s old (R452). -/
def liveCache (s : State) (p : Nat) : List (Nat × Nat × Nat) := (ethPort s p).cache.filter fun c => s.tim.cyc < c.2.2 + secCyc 300

/-- An address is resolved (R452): 16 entries per port, each for 300 s. -/
def learn (s : State) (p ip mac : Nat) : State :=
  setPort s p fun e => { e with cache := lastN 16 (((liveCache s p).filter fun c => c.1 ≠ ip) ++ [(ip, mac, s.tim.cyc)]) }

/-- The link-local address of a port, formed from ETHn_MAC (R452). -/
def linkLocal (p : Nat) : Nat :=
  let m := ethMac p
  0xFE80 * 2 ^ 112 + (Nat.xor (m / 2 ^ 24) 0x020000) * 2 ^ 40 + 0xFFFE * 2 ^ 24 + m % 2 ^ 24

/-- Whether an IPv6 address is a port's own (R452). -/
def ownV6 (s : State) (p a : Nat) : Bool := some a = (ethCfg s p).ipv6 || a = linkLocal p

/-- Where a datagram to an address goes first (R452): to the address itself on the link, and otherwise to the port's gateway. -/
def nextHop (s : State) (p : Nat) (ipv6 : Bool) (a : Nat) : Option Nat :=
  let c := ethCfg s p
  let on := fun (own : Option Nat) (bits plen : Nat) => own.any fun o => o / 2 ^ (bits - plen) = a / 2 ^ (bits - plen)
  if ipv6 then (if on c.ipv6 128 c.plen6 || a / 2 ^ 118 = 0x3FA then some a else c.gate6)
  else if on c.ipv4 32 c.plen4 then some a else c.gate4

/-- The stack answers in TQ1. -/
def stackAnswer (s : State) (p kind : Nat) (d : List Byte) : State := (ethQueue s p 1 ⟨.stack kind d, max 64 (d.length + 18)⟩).1

/-- An echo request is answered, at most 10 per second and port (R452). -/
def echoAnswer (s : State) (p : Nat) (d : List Byte) : State :=
  let sec := s.tim.cyc / secCyc 1
  let e := (ethPort s p).echo
  let n := if e.1 = sec then e.2 else 0
  if n ≥ 10 then ipCount s 3
  else stackAnswer (ipCount (setPort s p fun x => { x with echo := (sec, n + 1) }) 2) p 2 d

/-- An address is asked for, by ARP (3) or Neighbour Solicitation (4), unless it is resolved (R452). -/
def askFor (s : State) (p : Nat) (ipv6 : Bool) (a : Nat) : State :=
  if (liveCache s p).any fun c => c.1 = a then s
  else if ipv6 then stackAnswer s p 4 (beBytes 16 a) else stackAnswer s p 3 (beBytes 4 a)

/-- UDP ports the stack serves (R452). -/
def udpServed (s : State) (port : Nat) : Bool :=
  port = (cBackhaul s).vtpPort || port = 319 || port = 320 || (cCourses s).neighbours.any fun n => n.udpPort = port

/-- IPv4 (R452): options, fragments, TCP and other UDP ports are dropped and counted. -/
def ipv4In (s : State) (p : Nat) (d : List Byte) : State :=
  let proto := beAt d 9 1
  if some (beAt d 16 4) ≠ (ethCfg s p).ipv4 then s
  else if beAt d 0 1 % 16 ≠ 5 || beAt d 6 2 % 16384 ≠ 0 then ipCount s 4
  else if proto = 1 && beAt d 20 1 = 8 then echoAnswer s p d
  else if proto = 17 && udpServed s (beAt d 22 2) then s
  else ipCount s 4

/-- IPv6 (R452). -/
def ipv6In (s : State) (p : Nat) (d : List Byte) : State :=
  let nh := beAt d 6 1
  if nh = 58 && beAt d 40 1 = 135 then
    if ownV6 s p (beAt d 48 16) then stackAnswer (ipCount s 1) p 1 d else s
  else if !ownV6 s p (beAt d 24 16) then s
  else if nh = 58 && beAt d 40 1 = 136 then
    if beAt d 64 1 = 2 && beAt d 65 1 = 1 then learn s p (beAt d 48 16) (beAt d 66 6) else s
  else if nh = 58 && beAt d 40 1 = 128 then echoAnswer s p d
  else if nh = 17 && udpServed s (beAt d 42 2) then s
  else ipCount s 4

/-- A committed frame reaches the stack (R452). -/
def stackIn (s : State) (p : Nat) (o : List Byte) : State :=
  match stackPayload s p o with
  | none => s
  | some (0x0806, d) =>
    let s := learn s p (beAt d 14 4) (beAt d 8 6)
    if beAt d 6 2 = 1 && some (beAt d 24 4) = (ethCfg s p).ipv4 then stackAnswer (ipCount s 0) p 0 d else s
  | some (0x0800, d) => ipv4In s p d
  | some (0x86DD, d) => ipv6In s p d
  | some _ => s

/-- Steps 4 to 8 of R307 for a frame that goes to a queue. -/
def receiveTo (s : State) (p : Nat) (r : Option (Nat × EthRule)) (o : List Byte) (fcsOk pre fwd : Bool) : State :=
  let q := match r with
    | some (_, e) => e.queue
    | none => (ethCfg s p).defaultQ
  let size := max 16 ((ethCfg s p).rqSize)
  let ring := nth (ethPort s p).rq q {}
  let len := o.length + 4
  if ring.used ≥ size then ringDrop s p q
  else if len > 2000 then ethCount s p 2
  else if ring.used + buffers o > size then ringDrop s p q
  else if !fcsOk then ethCount s p 3
  else
    let pol := police s r len
    if !pol.2 then pol.1
    else stackIn (commitFrame pol.1 p q (match r with | some (i, _) => i | none => 0x1F) o pre fwd) p o

/-- A good frame is forwarded to the other port by a rule, unless the rule's policer refuses it, which discards the whole frame (R307,
R310, R311). -/
def ruleForward (s : State) (p : Nat) (r : Option (Nat × EthRule)) (o : List Byte) : State × Bool :=
  let pol := police s r (o.length + 4)
  if !pol.2 then pol else ((ethQueue (ethCount pol.1 p 14) (1 - p) 2 ⟨.forward o none, o.length + 4⟩).1, true)

/-- A rule whose policer has taken its tokens already. -/
def policed (r : Option (Nat × EthRule)) : Option (Nat × EthRule) := r.map fun x => (x.1, { x.2 with police := false })

/-- A frame that a rule's ACTION drops (R307 step 4): counted at the queue the rule names (log entry 121). -/
def actionDrop (s : State) (p : Nat) (r : Option (Nat × EthRule)) : State :=
  match r with
  | some (_, e) => ringDrop s p e.queue
  | none => s

/-- A whole frame arrives (R303, R307 to R311, R322). -/
def frameIn (s : State) (p : Nat) (o : List Byte) (fcsOk pre : Bool) : State :=
  if o.length + 4 < 64 then ethCount s p 1
  else if beAt o 12 2 = 0x8808 then ethCount s p 4
  else
    let tc := if fcsOk && o.length + 4 ≤ 2000 then tcTakes s o else none
    let s := match tc with
      | some t => tcForward s p o t
      | none => s
    let r := findRule s p o
    let act := match r with
      | some (_, e) => e.action
      | none => 0
    let fwd := (act = 2 || act = 3) && (ptpAt o).isNone
    let own := addrOk s p o
    if !own && !fwd then (if tc.isSome then s else ethCount s p 4)
    else
      let s := match r with
        | some (i, _) => { s with eth := { s.eth with hits := bump s.eth.hits i } }
        | none => s
      let good := fcsOk && o.length + 4 ≤ 2000
      let sent := if fwd && good then ruleForward s p r o else (s, true)
      let s := sent.1
      if act = 1 then actionDrop s p r
      else if !sent.2 then s
      else if act = 2 && fwd then (if good then s else ethCount s p (if o.length + 4 > 2000 then 2 else 3))
      else receiveTo s p (if fwd then policed r else r) o fcsOk pre fwd

/-- The reassembly of a port is set aside (R319): what was open is discarded and counted. -/
def assyError (s : State) (p : Nat) : State := ethCount (setPort s p fun e => { e with assy := none }) p 6

/-- An mPacket passes its CRC or not: the frame goes on, ends whole (R307 steps 2 to 8), or is discarded (R319). -/
def assyTake (s : State) (p smd frag : Nat) (o : List Byte) (last crcOk : Bool) : State :=
  if !crcOk then assyError s p
  else if last then frameIn (setPort s p fun e => { e with assy := none }) p o true true
  else setPort s p fun e => { e with assy := some (smd, frag, o) }

/-- The start of a preemptable frame (R319): one still open is discarded. -/
def mPacketStart (s : State) (p smd : Nat) (o : List Byte) (last crcOk : Bool) : State :=
  assyTake (if (ethPort s p).assy.isSome then assyError s p else s) p smd 0 o last crcOk

/-- A continuation (R316, R319): of the frame that is open, with the frag_count that follows, modulo 4. -/
def mPacketCont (s : State) (p smd frag : Nat) (o : List Byte) (last crcOk : Bool) : State :=
  match (ethPort s p).assy with
  | none => assyError s p
  | some (n, next, old) => if n = smd && next = frag then assyTake s p smd ((frag + 1) % 4) (old ++ o) last crcOk else assyError s p

/-- ETH_FRAME_RECEIVE (R307, R318, R319): what arrives at a port. Nothing is received while the port is down or ETH is in
its reset (R326). -/
def ethReceive (s : State) (p : Nat) (x : EthRx) : State :=
  if !(ethPort s p).up || !isRunning s .eth then s
  else
    match x with
    | .badSmd => ethCount s p 5
    | .verify => setPort s p fun e => { e with lastTx := some .respond }
    | .respond => setPort s p fun e => if e.verify = .verifying then { e with verify := .succeeded } else e
    | .frame o f => frameIn s p o f false
    | .mStart smd o last crcOk => mPacketStart s p smd o last crcOk
    | .mCont smd frag o last crcOk => mPacketCont s p smd frag o last crcOk

/-- Firmware has taken the frames of every ring and returned their descriptors (log entry 12). -/
def ringsServed (s : State) : State :=
  { s with eth := { s.eth with ports := s.eth.ports.map fun e => { e with rq := e.rq.map fun r => { r with used := 0 } } } }

/-- An ETH station reset (R36, R326): rings, queues and counters clear; addresses, rules, link and verify state stay. -/
def ethStationReset (s : State) : State :=
  let s := s.eth.ports.foldl (fun s e => forgetReplies s (queuedItems e)) s
  { s with eth := { ports := s.eth.ports.map fun e =>
      { los := e.los, sync := e.sync, an := e.an, phyLink := e.phyLink, up := e.up, verify := e.verify,
        attempts := e.attempts } } }

/-- Whether a frame meets the wake pattern (R323). -/
def wakeMatches (s : State) (p : Nat) (o : List Byte) (fcsOk : Bool) : Bool :=
  let b := cBackhaul s
  let et := etherType o
  let len := o.length + 4
  let pay := o.drop et.1
  let tagOk := match et.2.2 with
    | none => !b.wakeTagged && 82 ≤ len
    | some t => b.wakeTagged && t % 4096 = b.wakeVid && 86 ≤ len
  let d := beAt o 0 6
  fcsOk && tagOk && len ≤ 2000 && (d = ethMac p || d = 2 ^ 48 - 1) && et.2.1 = b.wakeEtype &&
    pay.take 16 = b.wakePat && (List.range 8).all fun i => beAt pay (16 + 6 * i) 6 = ethMac p

/-! ## Registers (R325) -/

/-- Code of a verify state (ETHn_PRE_STAT). -/
def VerifySt.code : VerifySt → Nat
  | .disabled => 0 | .init => 1 | .verifying => 2 | .succeeded => 3 | .failed => 4

/-- A port's registers. -/
def ethPortRead (s : State) (p o : Nat) : Word :=
  let c := ethCfg s p
  let e := ethPort s p
  if 0x40 ≤ o ∧ o < 0x7C then w32 (nth e.cnt ((o - 0x40) / 4) 0)
  else if 0x100 ≤ o ∧ o < 0x180 then
    let q := (o - 0x100) / 0x10
    let r := nth e.rq q {}
    match o % 0x10 with
    | 0x0 => w32 (ringBase p q)
    | 0x4 => pack [(16, c.rqSize), (0, r.head)]
    | 0x8 => w32 r.drop
    | 0xC => w32 r.frames
    | _ => 0
  else if 0x200 ≤ o ∧ o < 0x240 then
    let t := (o - 0x200) / 0x10
    let q := nth e.tq t {}
    match o % 0x10 with
    | 0x0 => w32 (ringBase p (8 + t))
    | 0x4 => pack [(16, c.tqSize), (0, q.head % (max 1 c.tqSize))]
    | 0x8 => w32 q.sent
    | 0xC => w32 q.drop
    | _ => 0
  else match o with
  | 0x00 => pack [(31, b2n c.enabled), (30, b2n c.anEn), (29, b2n c.phy), (24, c.phyAd), (16, c.defaultQ)]
  | 0x04 => linkWord c e
  | 0x08 => w32 (ethMac p)
  | 0x0C => w32 (ethMac p / frac)
  | 0x10 => pack [(31, b2n c.preemptEn), (30, b2n c.verifyDis), (24, c.addFrag), (0, c.verifyTime)]
  | 0x14 => pack [(28, e.verify.code), (27, b2n (preemptActive c e)), (0, min 255 e.attempts)]
  | 0x18 => w32 (cGuar s).bExp
  | 0x1C => pack [(16, min 65535 e.maxBacklog), (0, min 65535 (backlog s p))]
  | 0x20 => w32 (latTx s p)
  | 0x24 => w32 (latRx s p)
  | _ => 0

/-- The shared registers of ETH. -/
def ethReadTop (s : State) (off : Nat) : Word :=
  let b := cBackhaul s
  if 0x4000 ≤ off ∧ off < 0x4200 then
    let i := (off - 0x4000) / 0x10
    let r := nth b.rules i {}
    match off % 0x10 with
    | 0x0 => pack [(31, b2n r.valid), (29, r.ports), (27, r.tag), (0, r.vid)]
    | 0x4 => pack [(31, b2n r.etypeAny), (0, r.etype)]
    | 0x8 => pack [(29, r.action), (24, r.queue), (19, b2n r.police), (16, r.policer)]
    | 0xC => w32 (nth s.eth.hits i 0)
    | _ => 0
  else if 0x5000 ≤ off ∧ off < 0x5080 then
    let a := nth b.addrs ((off - 0x5000) / 8) {}
    if off % 8 = 0 then w32 a.addr else pack [(31, b2n a.valid), (16, a.ports), (0, a.addr / frac)]
  else if 0x5100 ≤ off ∧ off < 0x5180 then
    let k := (off - 0x5100) / 0x10
    match off % 0x10 with
    | 0x0 => w32 (nth b.policers k {}).rate
    | 0x4 => w32 (nth b.policers k {}).burst
    | 0x8 => w32 (nth s.eth.polDrop k 0)
    | _ => 0
  else if 0x6010 ≤ off ∧ off < 0x6020 then w32 (ofLe ((b.wakePat.drop (off - 0x6010)).take 4))
  else match off with
  | 0x0000 => w32 0x00020020
  | 0x0004 => pack [(31, b2n b.tcEn), (1, b2n (ethPort s 1).up), (0, b2n (ethPort s 0).up)]
  | 0x0008 => w32 s.eth.mdioCmd
  | 0x000C => pack [(30, b2n s.eth.mdioErr), (0, s.eth.mdioData)]
  | 0x6000 => pack [(31, b2n b.wakeEn), (30, b.wakePort), (29, b2n b.wakeTagged), (0, b.wakeVid)]
  | 0x6004 => w32 b.wakeEtype
  | 0x7000 => pack [(31, b2n b.tcEn), (0, b.domain)]
  | 0x7004 => w32 s.eth.tcFwd
  | 0x7008 => w32 s.eth.tcUncorr
  | 0x700C => w32 s.eth.tcSlow
  | 0x7010 => w32 (min s.eth.tcMaxRes 0xFFFFFFFF)
  | _ => 0

/-- ETH's registers; a frame on the wire whose end has passed counts as sent. -/
def ethRead (s : State) (off : Nat) : Word :=
  let s := settle (settle s 0) 1
  if 0x1000 ≤ off ∧ off < 0x3000 then ethPortRead s ((off - 0x1000) / 0x1000) (off % 0x1000) else ethReadTop s off

/-- The checks of an ETH_MDIO_CMD write with GO (R305): the PHY is declared; a write of register 0 that powers down or
isolates is refused. -/
def mdioCheck (s : State) (w : Word) : Err :=
  if !(cBoard s).phyAds.contains (w.field 25 21) then .range
  else if w.bit 30 && w.field 20 16 = 0 && (w.bit 11 || w.bit 10) then .range
  else .ok

/-- A head-end MDIO access is queued and completes (R305); `data` is what the PHY answers to a read. -/
def mdioGo (s : State) (w : Word) (data : Nat) : State :=
  { s with eth := { s.eth with mdioErr := false,
                               mdioData := if w.bit 30 then s.eth.mdioData else data % 65536 } }

end Sys2Proof.Machine
end

