-- ==== Sys2Proof/Machine/Nat.lean ====
section
/-! DEFINITION. The NAT (R220 to R225): entry words, contact (R45), hash tables, lookup; ledger writes that can fail (R58);
paired words (R9). -/
namespace Sys2Proof.Machine

/-! ## Pairs -/

/-- A word with its complement (R9). -/
def pairOf (w : Word) : Pair := { v := w, n := ~~~ w }

/-- Whether a pair matches (R9, R68): all 32 bits of both words. -/
def pairOk (p : Pair) : Bool := p.n = ~~~ p.v

/-! ## Counter floors (R273) -/

/-- The value of a floor: the larger of its valid slots, none when neither holds a valid pair (R275). -/
def Floor.value (f : Floor) : Option Nat :=
  match pairOk f.a, pairOk f.b with
  | true, true => some (max f.a.v.toNat f.b.v.toNat)
  | true, false => some f.a.v.toNat
  | false, true => some f.b.v.toNat
  | false, false => none

/-- A floor with a value written into its older slot (R273); a slot without a valid pair is the older. -/
def Floor.put (f : Floor) (v : Nat) : Floor :=
  if !pairOk f.a then { f with a := pairOf (w32 v) }
  else if !pairOk f.b then { f with b := pairOf (w32 v) }
  else if f.a.v.toNat ≤ f.b.v.toNat then { f with a := pairOf (w32 v) } else { f with b := pairOf (w32 v) }

/-- The pair of the slot that counts, as stored (R69). -/
def Floor.shown (f : Floor) : Pair :=
  if pairOk f.a && (!pairOk f.b || f.b.v.toNat ≤ f.a.v.toNat) then f.a else if pairOk f.b then f.b else f.a

/-- The floor of a new key (R283). -/
def floorZero : Floor := { a := pairOf 0, b := pairOf 0 }

/-- The value of a floor of a table, 0 where it has none. -/
def floorOf (t : Tab Floor) (i : Nat) : Nat := (tgetD t i {}).value.getD 0

/-- A floor of a table takes a value. -/
def floorPut (t : Tab Floor) (i v : Nat) : Tab Floor := tput t i ((tgetD t i {}).put v)

/-! ## Ledger writes -/

/-- The radio parts of the ledger changed. -/
def setLedr (s : State) (f : LedgerRad → LedgerRad) : State := { s with ledr := f s.ledr }

/-! ## Entries -/

/-- An entry in use. -/
def natEnt (s : State) (i : Nat) : Option NatEnt := tget s.rad.nat i

/-- What RAD keeps of a node. -/
def nodeDyn (s : State) (i : Nat) : NodeDyn := tgetD s.rad.dyn i {}

/-- The state with an entry changed. -/
def setNat (s : State) (i : Nat) (f : NatEnt → NatEnt) : State :=
  match natEnt s i with
  | none => s
  | some e => { s with rad := { s.rad with nat := tput s.rad.nat i (f e) } }

/-- The state with a node's working data changed. -/
def setDyn (s : State) (i : Nat) (f : NodeDyn → NodeDyn) : State :=
  { s with rad := { s.rad with dyn := tput s.rad.dyn i (f (nodeDyn s i)) } }

/-- Lanterns and relays (R221). -/
def isLantern (e : NatEnt) : Bool := e.role = 1 || e.role = 2

/-- Sensor nodes: detectors and sensors (R242). -/
def isSensor (e : NatEnt) : Bool := e.role = 3 || e.role = 4

/-- Whether a node is in contact (R45): not adrift, and its last frame within the last 30 s. -/
def inContact (s : State) (i : Nat) : Bool :=
  match natEnt s i, (nodeDyn s i).contact with
  | some e, some c => !e.adrift && nowNs s < c + 30 * giga
  | _, _ => false

/-- The NAT entry of a lantern channel. -/
def natOfChan (s : State) (c : Nat) : Option (Nat × NatEnt) :=
  s.rad.nat.find? fun p => isLantern p.2 && p.2.channel = c

/-- Whether a lantern channel is in contact. -/
def chanInContact (s : State) (c : Nat) : Bool :=
  match natOfChan s c with
  | some p => inContact s p.1
  | none => false

/-- Fields of entry words by lowest bit (R221). GUARD reads 0xFFFF while the node is adrift (R256). -/
def natFields (e : NatEnt) (pending : Nat) : List (Nat × Nat) :=
  [(480, e.txUnconf), (464, e.rxDrop), (448, e.rxOk), (416, e.lpl), (408, e.upPhase), (400, e.upPeriod % 256), (392, e.upOfs),
    (384, e.upSlot), (368, e.upmax), (360, e.lq), (352, sfield 8 e.rssi), (344, e.missed), (336, min 255 pending),
    (320, if e.adrift then 0xFFFF else e.guard_), (288, e.lastSec), (256, e.lastTs32), (224, e.txFc), (192, e.rxFc),
    (184, e.eventGroup), (176, e.rejoinRank), (160, e.linkEpoch), (144, e.txSeq), (128, e.rxSeq), (120, e.drift),
    (112, e.keyIndex), (111, b2n e.explicit_), (110, b2n e.adrift), (109, b2n e.enrolled), (108, 1), (96, e.parent),
    (88, e.channel), (85, e.depth), (83, e.port), (80, e.role), (64, e.short), (0, e.ext)]

/-- Word `w` of an entry (R220, R221): bit b of the entry lies in word b div 32. -/
def natWord (e : NatEnt) (pending w : Nat) : Word :=
  w32 ((natFields e pending).foldl (fun a f => a + f.2 * 2 ^ f.1) 0 / 2 ^ (32 * w))

/-- Frames queued for a node (R214, R221); a wake train with RESYNC is none. -/
def pendingOf (s : State) (i : Nat) : Nat :=
  (s.rad.ports.map fun p => (p.uni.filter fun u => u.node = i && u.kind ≠ .resync).length).foldl (· + ·) 0

/-! ## Lookup (R213, R223) -/

/-- The entry with an extended or a short address. -/
def findNat (s : State) (short : Bool) (key : Nat) : Option Nat :=
  (s.rad.nat.find? fun p => if short then p.2.short = key else p.2.ext = key).map Prod.fst

/-- The bucket of a key (R223): the low 12 bits of CRC-32C over the seed of the way and the key, keys little-endian. -/
def natBucket (gen way : Nat) (short : Bool) (key : Nat) : Nat :=
  crc32c (leBytes 4 (Config.natSeed gen (b2n short) way) ++ leBytes (if short then 2 else 8) key) % 4096

/-- The key of an entry in one of the tables. -/
def natKey (nat : Tab NatEnt) (short : Bool) (i : Nat) : Nat :=
  match tget nat i with
  | some e => if short then e.short else e.ext
  | none => 0

/-- The tables of one key kind. -/
def hashTabs (h : NatHash) (short : Bool) : Tab Nat × Tab Nat := if short then (h.short0, h.short1) else (h.ext0, h.ext1)

/-- The tables of one key kind put back. -/
def withTabs (h : NatHash) (short : Bool) (t : Tab Nat × Tab Nat) : NatHash :=
  if short then { h with short0 := t.1, short1 := t.2 } else { h with ext0 := t.1, ext1 := t.2 }

/-- A key is placed in way `way`, moving its occupant to the other way, `n` moves at most (R223); what is left over goes to the
stash. -/
def hashPlace (nat : Tab NatEnt) (gen : Nat) (short : Bool) (t : Tab Nat × Tab Nat) (i : Nat) (way0 : Bool) :
    Nat → (Tab Nat × Tab Nat) × Option Nat
  | 0 => (t, some i)
  | n + 1 =>
    let b := natBucket gen (if way0 then 0 else 1) short (natKey nat short i)
    let tab := if way0 then t.1 else t.2
    let put := fun x => if way0 then (tput t.1 b x, t.2) else (t.1, tput t.2 b x)
    match tget tab b with
    | none => (put i, none)
    | some j => hashPlace nat gen short (put i) j (!way0) n

/-- One key of an entry is inserted (R223): none when the stash is full. -/
def hashInsertKey (nat : Tab NatEnt) (h : NatHash) (short : Bool) (i : Nat) : Option NatHash :=
  let t := hashTabs h short
  let b1 := natBucket h.gen 1 short (natKey nat short i)
  let b0 := natBucket h.gen 0 short (natKey nat short i)
  if tget t.1 b0 ≠ none && tget t.2 b1 = none then some (withTabs h short (t.1, tput t.2 b1 i))
  else
    let r := hashPlace nat h.gen short t i true 33
    match r.2 with
    | none => some (withTabs h short r.1)
    | some j =>
      if h.stash.length ≥ 16 then none
      else some { withTabs h short r.1 with stash := h.stash ++ [(short, j)] }

/-- Both keys of an entry are inserted (R223). -/
def hashInsert (nat : Tab NatEnt) (h : NatHash) (i : Nat) : Option NatHash :=
  (hashInsertKey nat h false i).bind fun h => hashInsertKey nat h true i

/-- An entry leaves the tables. -/
def hashRemove (h : NatHash) (i : Nat) : NatHash :=
  let drop := fun (t : Tab Nat) => t.filter fun p => p.2 ≠ i
  { h with ext0 := drop h.ext0, ext1 := drop h.ext1, short0 := drop h.short0, short1 := drop h.short1,
           stash := h.stash.filter fun p => p.2 ≠ i }

/-- Tables built anew under a seed generation (R223); entries that find no place are left to the next rebuild. -/
def hashBuild (nat : Tab NatEnt) (gen : Nat) : NatHash :=
  nat.foldl (fun h p =>
    match hashInsert nat h p.1 with
    | some g => g
    | none => { h with rebuild := true }) { gen := gen % 65536 }

/-- NAT_REBUILD: a rebuild owed is made in Recovery (R223). -/
def natRebuild (s : State) : State :=
  if s.rad.hash.rebuild && isRunning s .rad then
    { s with rad := { s.rad with hash := hashBuild s.rad.nat (s.rad.hash.gen + 1) } }
  else s

/-- NAT entries are saved to the ledger at each change (R224). -/
def natSaved (s : State) : State :=
  (ledgerWrite s .rad fun s => setLedr s fun l => { l with nat := some s.rad.nat }).1

/-- A new entry takes an index and its place in the tables (R223, R470): none when the insertion is refused. -/
def natAdd (s : State) (i : Nat) (e : NatEnt) : State × Bool :=
  let nat := tput s.rad.nat i e
  match hashInsert nat s.rad.hash i with
  | none => ({ s with rad := { s.rad with hash := { s.rad.hash with rebuild := true } } }, false)
  | some h => (natSaved { s with rad := { s.rad with nat := nat, hash := h } }, true)

/-- An entry leaves the NAT (R241 OP 0x2). -/
def natEvict (s : State) (i : Nat) : State :=
  natSaved { s with rad := { s.rad with nat := tdel s.rad.nat i, dyn := tdel s.rad.dyn i, hash := hashRemove s.rad.hash i } }

/-- The addresses a NAT lookup of RAD_FIND_RESULT uses (R241). -/
def findResult (s : State) : Word :=
  let key := if s.rad.findShort then s.rad.findLo % 65536 else s.rad.findHi * frac + s.rad.findLo
  match findNat s s.rad.findShort key with
  | some i => pack [(31, 1), (0, i)]
  | none => 0

/-- NAT_CMD_CLEAR (R241): the entry's counters. -/
def natClear (s : State) (i : Nat) : State := setNat s i fun e => { e with rxOk := 0, rxDrop := 0, txUnconf := 0 }

end Sys2Proof.Machine
end

