-- ==== Sys2Proof/Machine/Duty.lean ====
section
/-! DEFINITION. Air times (R203, R204), guards (R246, R247) and duty accounts (R259 to R266). -/
namespace Sys2Proof.Machine

/-- RAD's state changed. -/
def setRad (s : State) (f : RadState → RadState) : State := { s with rad := f s.rad }

/-- A radio port. -/
def radPort (s : State) (p : Nat) : RadPort := nth s.rad.ports p {}

/-- The state with a port changed. -/
def setRadPort (s : State) (p : Nat) (f : RadPort → RadPort) : State := setRad s fun r => { r with ports := upd r.ports p f }

/-- The configuration of a port. -/
def radCfg (s : State) (p : Nat) : PortCfg := portCfg (cRadio s) (cGuar s) p

/-- A count of RAD_PORTn_CNTj. -/
def radCount (s : State) (p j : Nat) : State := setRadPort s p fun x => { x with cnt := bump x.cnt j }

/-! ## Air times -/

/-- The slot length in ns (R200). -/
def slotNs (k : PortCfg) : Nat := if k.slot10 then 10000000 else 5000000

/-- Slots per superframe (R200). -/
def slotsPer (k : PortCfg) : Nat := giga / slotNs k

/-- T_oct × n in ns, truncated (R203). -/
def octNs (k : PortCfg) (n : Nat) : Nat := n * 8000000 / k.profile.rate

/-- Octets of SHR (R204). -/
def shrOct (k : PortCfg) : Nat := k.profile.preamble + 2

/-- Octets on air of a PSDU with a 2-octet FCS (R204, R216): SHR, PHR, and two more with a 4-octet FCS. -/
def airOct (k : PortCfg) (psdu : Nat) : Nat := shrOct k + 2 + psdu + (k.profile.fcs - 2)

/-- Octets on air of the Enhanced Ack (R216). -/
def ackOct (k : PortCfg) : Nat := airOct k 24

/-- T_OFS in µs (R203): negative when the slot is too short. -/
def tOfs (k : PortCfg) : Int :=
  (((slotNs k / 1000 * k.profile.rate : Nat) : Int) - (k.upmax + ackOct k) * 8000 - 440 * k.profile.rate) / (2 * k.profile.rate)

/-- T_OFS in µs, when it is usable. -/
def tOfsUs (k : PortCfg) : Nat := (tOfs k).toNat

/-- T_LOFS and G_L in µs (R203, R204). -/
def tLofs : Nat := 100
def gL : Nat := 100

/-- A limit of R204: whole octets in what is left of the slot after `off` µs and `tail` octets. -/
def limitOct (k : PortCfg) (off tail : Nat) : Nat := (slotNs k / 1000 - off) * k.profile.rate / 8000 - tail

/-- Limits of R204 in octets on air. -/
def limLanternUp (k : PortCfg) : Nat := limitOct k (tLofs + gL + 440) (ackOct k)
def limUniLantern (k : PortCfg) : Nat := limitOct k (tLofs + 440) (ackOct k)
def limUniSensor (k : PortCfg) : Nat := limitOct k (tOfsUs k + 440) (ackOct k)
def limLight (k : PortCfg) : Nat := limitOct k (tLofs + 40) 0
def limBeacon (k : PortCfg) : Nat := limitOct k (tOfsUs k + 40) 0

/-- On-air time rounded up to whole milliseconds: the charge of a frame (R260). -/
def chargeMs (k : PortCfg) (octets : Nat) : Nat := cdiv (octets * 8) k.profile.rate

/-- Octets on air of the beacon (R206). -/
def beaconOct (k : PortCfg) : Nat := airOct k 36

/-- Octets of PSDU of a secured data frame with short addresses around a body (R286). -/
def psduOf (body : Nat) : Nat := 27 + body

/-- The longest PSDU a port sends (R196, R204): its longest frame on air without SHR and PHR. -/
def longestTx (k : PortCfg) : Nat :=
  (max (max (limLight k) (max (limUniLantern k) (limUniSensor k))) (max (beaconOct k) (ackOct k))) - (shrOct k + 2)

/-! ## Guards (R246, R247) -/

/-- The drift class of a node. -/
def driftClass (s : State) (e : NatEnt) : DriftClass := nth (cRadio s).drift e.drift {}

/-- The sum of the magnitudes in ns of the steps after step number `seq`, read from TIM's log (R336); none when the reference precedes the oldest of
the 8 steps that RAD keeps (R247). -/
def stepSum (s : State) (seq : Nat) : Option Nat :=
  if s.tim.stepSeq - seq ≥ 8 then none
  else some (((s.tim.log.filter fun x => seq < x.seq).map fun x => x.amount.natAbs).foldl (· + ·) 0)

/-- The guard of a node at an expected SFD time in ns, in µs (R246): above the cap when steps are no longer known. -/
def guardAt (s : State) (i : Nat) (e : NatEnt) (tx : Nat) : Nat :=
  let g0 := (cRadio s).g0
  let drift := fun (el : Nat) => cdiv ((driftClass s e).ppm * el) 10000000
  match (nodeDyn s i).tref with
  | none => g0 + drift (e.upPeriod * 1000000)
  | some t =>
    match stepSum s (nodeDyn s i).trefStep with
    | some n => g0 + drift ((tx - t) / 1000) + cdiv n 1000
    | none => 0xFFFF

/-- The guard cap of a port in µs (R248). -/
def guardCap (s : State) (p : Nat) : Nat := tOfsUs (radCfg s p)

/-! ## Accounts -/

/-- Pools of an account (R262). -/
inductive Pool where
  | book | reserve | general
  deriving DecidableEq, Repr

/-- The account a port charges (R259). -/
def acctOf (s : State) (p : Nat) : Nat := (radCfg s p).account

/-- An account's configuration and its state. -/
def dutyCfg (s : State) (b : Nat) : DutyCfg := nth (cDuty s) b {}
def duty (s : State) (b : Nat) : DutyAcc := nth s.rad.duty b {}

/-- Used ports of an account. -/
def acctPorts (s : State) (b : Nat) : List Nat :=
  (List.range (cRadio s).ports.length).filter fun p => (radCfg s p).enabled && (radCfg s p).account = b

/-- BOOK in ms (R262). -/
def bookMs (s : State) (b : Nat) : Nat := ((acctPorts s b).map fun p => 3600 * chargeMs (radCfg s p) (beaconOct (radCfg s p))).foldl (· + ·) 0

/-- The budget in ms (R259): 1/10,000 of an hour is 360 ms. -/
def budgetMs (s : State) (b : Nat) : Nat := (dutyCfg s b).budget * 360

/-- G in ms (R262). -/
def generalMs (s : State) (b : Nat) : Nat := budgetMs s b - bookMs s b - (dutyCfg s b).reserve

/-- What a pool has used in the window (R261). -/
def usedMs (a : DutyAcc) (p : Pool) : Nat :=
  ((a.bins.take 3600).map fun x => match p with
    | .book => x.1
    | .reserve => x.2.1
    | .general => x.2.2).foldl (· + ·) 0

/-- Shed classes (R263). -/
inductive ShedCls where
  | d1 | d2 | d3 | top
  deriving DecidableEq, Repr

/-- The limit of a shed class in ms (R263). -/
def shedLimit (s : State) (b : Nat) (c : ShedCls) : Nat :=
  let k := dutyCfg s b
  let g := generalMs s b
  match c with
  | .d1 => g * k.shedT / 100
  | .d2 => g * k.shedW / 100
  | .d3 => g * k.shedR / 100
  | .top => g

/-- The state with an account changed. -/
def setDuty (s : State) (b : Nat) (f : DutyAcc → DutyAcc) : State := setRad s fun r => { r with duty := upd r.duty b f }

/-- A charge in the current bin (R260). -/
def charge (s : State) (b : Nat) (p : Pool) (ms : Nat) : State :=
  setDuty s b fun a =>
    match a.bins with
    | [] => { a with bins := [match p with
        | .book => (ms, 0, 0)
        | .reserve => (0, ms, 0)
        | .general => (0, 0, ms)] }
    | x :: r => { a with bins := (match p with
        | .book => (x.1 + ms, x.2.1, x.2.2)
        | .reserve => (x.1, x.2.1 + ms, x.2.2)
        | .general => (x.1, x.2.1, x.2.2 + ms)) :: r }

/-- A transmission not sent counts (R263): k as RAD_DUTYb_SHEDk. -/
def shed (s : State) (b k : Nat) : State := setDuty s b fun a => { a with shed := bump a.shed k }

/-- Whether GENERAL would carry a charge under a shed class (R263). -/
def generalFits (s : State) (p : Nat) (c : ShedCls) (ms : Nat) : Bool :=
  usedMs (duty s (acctOf s p)) .general + ms ≤ shedLimit s (acctOf s p) c

/-- DUTY_CHARGE to GENERAL under a shed class (R263): charged, or not sent. -/
def chargeGeneral (s : State) (b : Nat) (c : ShedCls) (ms : Nat) : State × Bool :=
  if usedMs (duty s b) .general + ms ≤ shedLimit s b c then (charge s b .general ms, true) else (s, false)

/-- A charge that counts what it sheds. -/
def chargeOrShed (s : State) (p : Nat) (c : ShedCls) (ms : Nat) : State × Bool :=
  let b := acctOf s p
  let r := chargeGeneral s b c ms
  if r.2 then r
  else (shed r.1 b (match c with
    | .d1 => 0
    | .d2 => 1
    | .d3 => 2
    | .top => 4), false)

/-- A charge of reserve traffic (R262 to R264): RESERVE, else the top class of GENERAL. -/
def chargeReserve (s : State) (p ms : Nat) : State × Bool :=
  let b := acctOf s p
  if usedMs (duty s b) .reserve + ms ≤ (dutyCfg s b).reserve then (charge s b .reserve ms, true)
  else
    let r := chargeGeneral s b .top ms
    if r.2 then r else (shed r.1 b 3, false)

/-- The beacon's charge (R262). -/
def chargeBeacon (s : State) (p : Nat) : State := charge s (acctOf s p) .book (chargeMs (radCfg s p) (beaconOct (radCfg s p)))

/-- DUTY_BIN_ROLL (R261): the bin closes, goes to the ledger, and a new one opens. -/
def dutyRoll (s : State) : State :=
  if !moduleUp s then s
  else
    let s := advanceCyc s (s.rad.binAt + secCyc 1)
    let old := s.rad.duty
    let s := (ledgerWrite s .rad fun s => setLedr s fun l => { l with duty := old }).1
    setRad s fun r =>
      { r with binAt := r.binAt + secCyc 1, binNo := r.binNo + 1,
               duty := r.duty.map fun a => { a with bins := (0, 0, 0) :: a.bins.take 3599,
                                                    full := a.full.filter fun n => r.binNo + 1 < n + 3600 } }

/-- The level of RAD_DUTYb_STATE (R266): what GENERAL's use now sheds. -/
def dutyLevel (s : State) (b : Nat) : Nat :=
  let u := usedMs (duty s b) .general
  if shedLimit s b .top ≤ u then 4
  else if shedLimit s b .d3 ≤ u then 3
  else if shedLimit s b .d2 ≤ u then 2
  else if shedLimit s b .d1 ≤ u then 1
  else 0

/-- A duty account's registers (R266). -/
def dutyRead (s : State) (b o : Nat) : Word :=
  let k := dutyCfg s b
  let a := duty s b
  let valid := k.valid
  match o with
  | 0x00 => if valid then
      pack [(31, 1), (24, (acctPorts s b).foldl (fun m p => m + 2 ^ p) 0), (16, k.corrRate), (0, k.budget)] else 0
  | 0x04 => if valid then pack [(16, k.shedT), (8, k.shedW), (0, k.shedR)] else 0
  | 0x08 => w32 (if valid then bookMs s b else 0)
  | 0x0C => w32 (if valid then k.reserve else 0)
  | 0x10 => w32 (usedMs a .book)
  | 0x14 => w32 (usedMs a .reserve)
  | 0x18 => w32 (usedMs a .general)
  | 0x1C => if valid then pack [(31, b2n (k.reserve ≤ usedMs a .reserve)), (0, dutyLevel s b)] else 0
  | _ => if 0x20 ≤ o ∧ o < 0x34 then w32 (nth a.shed ((o - 0x20) / 4) 0) else 0

end Sys2Proof.Machine
end

