-- ==== Sys2Proof/Machine/Trx.lean ====
section
/-! DEFINITION. The transceivers' templates as RAD runs them over SPI (R198, R199, R74, R80, R195). What a transceiver answers is free; a run that does
not pass within T_CMD is TRX_TMO (log entry 117). -/
namespace Sys2Proof.Machine

/-- Operations of templates (R199). -/
def opInit : Nat := 1
def opIdle : Nat := 2
def opSetChannel : Nat := 3
def opRxArm : Nat := 4
def opRxLevel : Nat := 5
def opRxRead : Nat := 6
def opTxLoad : Nat := 7
def opTxArm : Nat := 8
def opStatus : Nat := 9
def opIrqClear : Nat := 10
def opRssi : Nat := 11

/-- What the substitution fields of a run name (R198): channel, PSDU length, read count, and the octets of the frame staging. -/
structure SpiArg where
  channel : Nat := 0
  length : Nat := 0
  count : Nat := 0
  data : List Byte := []
  deriving DecidableEq, Repr

/-- The value of a substitution field (R198). -/
def spiField (k : TrxProfile) (x : SpiArg) (f : Nat) : Nat :=
  match f with
  | 1 => x.channel % 256
  | 2 => x.channel / 256
  | 3 => x.length % 256
  | 4 => x.length / 256
  | 5 => x.count
  | 6 => k.preamble
  | _ => 0

/-- The octets on MOSI of an entry (R198): of a data phase those of the staging, zeros where octets are read. -/
def spiOctets (k : TrxProfile) (x : SpiArg) (e : TemplateEntry) : List Byte :=
  match e.kind with
  | 0 => leBytes 1 e.data
  | 1 => leBytes 1 (spiField k x e.data)
  | 2 => [0]
  | _ => let n := spiField k x e.data; x.data.take n ++ List.replicate (n - x.data.length) 0

/-- The results a run keeps (R198): free octets, of which that of CHECK_IDX passes the compare. -/
def spiResults (t : Template) (draw : Nat) : List Nat :=
  (List.range 8).map fun r =>
    if t.entries.any fun e => e.kind = 2 && e.data = r then
      let v := Config.freeNat (16 * draw + r) % 256
      if r = t.checkIdx then (v &&& (255 - t.checkMask)) ||| (t.checkVal &&& t.checkMask) else v
    else 0

/-- A template's run (R198): one SPI transaction, and a free number of runs of STATUS, at most POLLS, until its compare passes. -/
def spiRun (k : TrxProfile) (x : SpiArg) (t : Template) (draw : Nat) : SpiRun :=
  { op := t.op, sent := t.entries.flatMap (spiOctets k x), results := spiResults t draw, polls := Config.freeNat (16 * draw + 8) % (t.polls + 1) }

/-- The templates of an operation run in order on a port. -/
def runOp (s : State) (p op : Nat) (x : SpiArg) : State :=
  let k := (radCfg s p).profile
  (k.templates.filter fun t => t.op = op).foldl (fun s t =>
    setRadPort (drawn s) p fun y => { y with spi := y.spi ++ [spiRun k x t s.free] }) s

/-- The channel of offset 0 (R195, R201). -/
def channelArg (s : State) (p : Nat) : SpiArg := { channel := nth (radCfg s p).profile.channels 0 0 }

/-- A transceiver is brought up once its ready time is over (R195): the INIT templates in order, then the channel of offset 0. -/
def trxInit (s : State) (p : Nat) : State := runOp (runOp s p opInit (channelArg s p)) p opSetChannel (channelArg s p)

/-- The idle command before a transceiver is used first after RAD's reset (R74). -/
def trxIdleOwed (s : State) (p : Nat) : State :=
  if (radPort s p).idleOwed then setRadPort (runOp s p opIdle {}) p fun x => { x with idleOwed := false } else s

/-- A transceiver is set to receive (R199). -/
def trxReceive (s : State) (p : Nat) : State := runOp (trxIdleOwed s p) p opRxArm {}

/-- A reception ends without more to be read (R212): IDLE, then RX_ARM. -/
def trxRearm (s : State) (p : Nat) : State := runOp (runOp s p opIdle {}) p opRxArm {}

/-- A frame of `n` octets is read as it streams in (R199): levels, octets, then RSSI, and the interrupt cause is cleared. -/
def trxRead (s : State) (p n : Nat) : State :=
  runOp (runOp (runOp (runOp s p opRxLevel { length := n }) p opRxRead { length := n, count := n }) p opRssi {}) p opIrqClear {}

/-- A frame is loaded and waits for RADn_TXGO (R199, R215), whose rising edge comes T_TXLAT before the preamble. -/
def trxSend (s : State) (p : Nat) (f : AirFrame) : State :=
  let s := runOp (trxIdleOwed s p) p opTxLoad { length := f.psdu.length, data := f.psdu }
  runOp s p opTxArm { length := f.psdu.length }

/-- RADn_TXGO rises for a frame (R196, R215). -/
def txGo (s : State) (p : Nat) (f : AirFrame) : State :=
  setRadPort s p fun x => { x with txgo := f.start - (radCfg s p).profile.tTxLat }

end Sys2Proof.Machine
end

