-- ==== Sys2Proof/Machine/LinkSec.lean ====
section
/-! DEFINITION. Keys, counters and floors, the two regimes, rekeying, SEC's registers (R267 to R284, R302). -/
namespace Sys2Proof.Machine

/-- SEC's state and the key store changed. -/
def setSec (s : State) (f : SecState → SecState) : State := { s with sec := f s.sec }
def setKeys (s : State) (f : KeyStore → KeyStore) : State := { s with keys := f s.keys }

/-- A count of SEC_CNTj. -/
def secCount (s : State) (j : Nat) : State := setSec s fun x => { x with cnt := bump x.cnt j }

/-- The number of links with FLOOR_LOST counted in SEC_CNT5 as they are found. -/
def floorLostEvent (s : State) (subject what : Nat) : State := event (secCount s 5) .sec 0x0502 subject what 0

/-! ## Keys (R267, R268) -/

/-- The link key of an entry's generation. -/
def linkKey (s : State) (i gen : Nat) : Option Key := if gen = 0 then tget s.keys.link0 i else tget s.keys.link1 i

/-- The generation in use of an entry. -/
def genOf (e : NatEnt) : Nat := e.keyIndex - 0x20

/-- A link key is stored. -/
def putLink (s : State) (i gen : Nat) (k : Key) : State :=
  setKeys s fun x => if gen = 0 then { x with link0 := tput x.link0 i k } else { x with link1 := tput x.link1 i k }

/-- A link key is erased. -/
def dropLink (s : State) (i gen : Nat) : State :=
  setKeys s fun x => if gen = 0 then { x with link0 := tdel x.link0 i } else { x with link1 := tdel x.link1 i }

/-- A key of the random generator (R267): a free value. -/
def newKey (s : State) : State × Key := (drawn s, { key := BitVec.ofNat 128 (Config.freeNat s.free), born := nowSec s })

/-- The octets of a key. -/
def keyBytes (k : Key) : List Byte := leBytes 16 k.key.toNat

/-- The shared slot of the group key of a port, and of the beacon key, in a generation. -/
def groupSlot (p gen : Nat) : Nat := 2 + 2 * p + gen

/-- The key index of a shared slot (R268). -/
def sharedIndex (slot : Nat) : Nat := if slot < 2 then 1 + slot else if slot < 10 then 0x10 + (slot - 2) else 0

/-- A shared key. -/
def sharedKey (s : State) (slot : Nat) : Option Key := tget s.keys.shared slot

/-- A shared key is stored. -/
def putShared (s : State) (slot : Nat) (k : Key) : State := setKeys s fun x => { x with shared := tput x.shared slot k }

/-- The group key in use of a port, and the beacon key in use. -/
def groupGen (s : State) (p : Nat) : Nat := nth s.sec.groupGen p 0
def groupUse (s : State) (p : Nat) : Nat := groupSlot p (groupGen s p)

/-! ## Counters and floors (R271 to R274) -/

/-- No counter reaches this value (R271), and past this one keys are renewed (R283, R284). -/
def ctrMax : Nat := 0xF0000000
def ctrWorn : Nat := 0xE0000000

/-- A floor is written before a counter of a new block is used (R273): whether the frame may go. -/
def floorFor (s : State) (f c : Nat) (put : Nat → LedgerRad → LedgerRad) : State × Bool :=
  if f / 256 < c / 256 then ledgerWrite s .rad fun s => setLedr s (put (c / 256 * 256)) else (s, true)

/-- The highest counters a link's key has been used with (R272, R274): explicit and normal-service counters are of one space. -/
def txTop (e : NatEnt) : Nat := max e.txFc (e.linkEpoch * 65536 + e.txSeq + 1)
def rxTop (e : NatEnt) : Nat := max e.rxFc (e.linkEpoch * 65536 + e.rxSeq)

/-- An entry enters the explicit regime (R279): its next explicit counter lies past every one used (R272). -/
def NatEnt.explicitNow (e : NatEnt) : NatEnt := { e with explicit_ := true, txFc := txTop e, rxFc := rxTop e }

/-- The counter of the next device-key frame (R272). -/
def deviceCounter (s : State) : State × Option Nat :=
  if ctrMax ≤ s.keys.devCtr then (s, none)
  else (setKeys s fun k => { k with devCtr := k.devCtr + 1 }, some s.keys.devCtr)

/-- The receive floors of a node are owed to this stroke's Recovery (R274): delivery does not wait. -/
def rxFloor (s : State) (i : Nat) : State :=
  setRad s fun r => { r with floorOwed := if r.floorOwed.contains i then r.floorOwed else r.floorOwed ++ [i] }

/-- The receive floors of a node saved where their block has changed (R274); whether that is done. -/
def saveRxFloor (s : State) (i : Nat) : State × Bool :=
  let top := ((natEnt s i).map rxTop).getD 0
  let a := floorFor s (floorOf s.ledr.linkRx i) top fun f l => { l with linkRx := floorPut l.linkRx i f }
  let b := floorFor a.1 (floorOf s.ledr.devRx i) (nodeDyn s i).devRx fun f l => { l with devRx := floorPut l.devRx i f }
  (b.1, a.2 && b.2)

/-- RAD's Recovery work on receive floors (R274): what cannot be written stays owed. -/
def rxFloorsSave (s : State) : State :=
  let l := s.rad.floorOwed
  l.foldl (fun s i =>
    let w := saveRxFloor s i
    if w.2 then setRad w.1 fun r => { r with floorOwed := r.floorOwed.erase i } else w.1) s

/-! ## Lantern commands and downlinks queued -/

/-- A unicast is queued for its node's port (R214, R232). -/
def queueUni (s : State) (u : Unicast) : State :=
  match natEnt s u.node with
  | none => s
  | some e => setRadPort s e.port fun p => { p with uni := p.uni ++ [{ u with queuedNs := nowNs s, left := if u.call.isSome then u.left else 1 + (radCfg s e.port).rDn }] }

/-- A command to a node (R295): lanterns get a lantern command, sensors a downlink with the same CMD. -/
def queueCommand (s : State) (i cmd : Nat) (data : List Byte) : State :=
  match natEnt s i with
  | none => s
  | some e => queueUni s { node := i, kind := if isLantern e then .command else .downlink, cmd := cmd, data := data }

/-- KEY for a shared slot (R284, R295): sensors take beacon keys only. -/
def queueKey (s : State) (i slot switch_ : Nat) : State :=
  match natEnt s i, sharedKey s slot with
  | some e, some k =>
    if isSensor e && slot ≥ 2 then s
    else
      let ctr := if slot < 2 then [] else leBytes 4 (if slot = groupUse s e.port then nth s.rad.groupCtr e.port 1 - 1 else 0)
      setDyn (queueCommand s i 1 (leBytes 1 (sharedIndex slot) ++ keyBytes k ++ leBytes 4 switch_ ++ ctr)) i fun d =>
        { d with keyOwed := d.keyOwed.erase slot ++ [slot] }
  | _, _ => s

/-! ## Rekeying (R283, R284) -/

/-- REKEY is queued with the key of the idle generation (R283); at most one is queued. -/
def queueRekey (s : State) (i : Nat) : State :=
  match natEnt s i with
  | none => s
  | some e =>
    match linkKey s i (1 - genOf e) with
    | some k =>
      if (radPort s e.port).uni.any fun u => u.node = i && u.cmd = 2 then s
      else queueCommand s i 2 (leBytes 1 (0x20 + (1 - genOf e)) ++ keyBytes k)
    | none => s

/-- A rekey of a link begins: a new key in the idle generation slot and REKEY to the node. -/
def startRekey (s : State) (i : Nat) : State :=
  match natEnt s i with
  | none => s
  | some e =>
    let k := newKey s
    setDyn (queueRekey (putLink k.1 i (1 - genOf e) k.2) i) i fun d => { d with rekeying := true }

/-- A rekey when a counter of the link has passed 0xE000_0000 (R283), unless one is under way. -/
def rekeyWorn (s : State) (i c : Nat) : State :=
  if ctrWorn < c && !(nodeDyn s i).rekeying then startRekey s i else s

/-- The new epoch of a link (R281). -/
def nextEpoch (e : NatEnt) : Nat := max (max e.txFc e.rxFc) (e.linkEpoch * 65536 + max e.txSeq e.rxSeq) / 65536 + 1

/-- A rejoin response (R281, R301): a new epoch, the same again to a repeated request; REQ_CTR is 0 when unsolicited. -/
def queueRejoin (s : State) (i reqCtr : Nat) : State :=
  match natEnt s i with
  | none => s
  | some e =>
    let ep := (nodeDyn s i).newEpoch.getD (nextEpoch e)
    if ep > 0xEFFF then (if (nodeDyn s i).rekeying then s else startRekey s i)
    else
      let s := setDyn s i fun d => { d with newEpoch := some ep }
      let s := setRadPort s e.port fun x => { x with uni := x.uni.filter fun u => !(u.node = i && u.kind = .rejoin) }
      queueUni s { node := i, kind := .rejoin,
                   data := leBytes 1 0 ++ leBytes 4 reqCtr ++ leBytes 2 ep ++ leBytes 1 s.led.starts ++
                     leBytes 4 (nth s.rad.groupCtr e.port 1 - 1) }

/-- No sequence number is left on a link in normal service (R278): an unsolicited rejoin response starts a new epoch. -/
def newEpochStart (s : State) (i : Nat) : State := queueRejoin (setNat s i NatEnt.explicitNow) i 0

/-- The counter of the next frame of a link (R276, R278, R279): none when it holds no key, its floor cannot be written or no counter is left. -/
def linkCounter (s : State) (i : Nat) : State × Option Nat :=
  match natEnt s i with
  | none => (s, none)
  | some e =>
    let c := if e.explicit_ then e.txFc else e.linkEpoch * 65536 + e.txSeq + 1
    if ctrMax ≤ c || (linkKey s i (genOf e)).isNone then (s, none)
    else if !e.explicit_ && e.txSeq ≥ 0xFFF0 then (newEpochStart s i, none)
    else
      let w := floorFor s (floorOf s.ledr.linkTx i) c fun f l => { l with linkTx := floorPut l.linkTx i f }
      if w.2 then
        (rekeyWorn (setNat w.1 i fun e => if e.explicit_ then { e with txFc := c + 1 } else { e with txSeq := e.txSeq + 1 }) i c, some c)
      else (w.1, none)

/-- REKEY completes: KEY_INDEX names the new generation, counters and floors start again, the link is in the explicit regime. -/
def rekeyDone (s : State) (i : Nat) : State :=
  match natEnt s i with
  | none => s
  | some e =>
    let g := 1 - genOf e
    let s := setNat s i fun e =>
      { e with keyIndex := 0x20 + g, explicit_ := true, txFc := 1, rxFc := 0, linkEpoch := 0, txSeq := 0, rxSeq := 0 }
    let s := setDyn s i fun d => { d with rekeying := false, oldKey := true, newEpoch := none }
    let s := setLedr s fun l => { l with linkTx := tput l.linkTx i floorZero, linkRx := tput l.linkRx i floorZero }
    let s := setSec (secCount s 3) fun x => { x with floorLost := x.floorLost.erase i, cmdStat := if x.cmdStat = 1 then 2 else x.cmdStat }
    event (natSaved s) .sec 0x0503 i g 0

/-- A frame under the key in use passed its MIC: the old generation is erased (R283). -/
def oldKeyGone (s : State) (i : Nat) : State :=
  match natEnt s i with
  | some e => if (nodeDyn s i).oldKey then setDyn (dropLink s i (1 - genOf e)) i fun d => { d with oldKey := false } else s
  | none => s

/-- LINK_KEY_AGE (R283): a link key reaches 200 days; a rekey under way goes on, its REKEY sent again at each contact until it is acknowledged. -/
def linkKeyAge (s : State) (i : Nat) : State :=
  match natEnt s i with
  | some e =>
    match linkKey s i (genOf e) with
    | some k =>
      if (nodeDyn s i).rekeying || !moduleUp s then s
      else startRekey (advanceTo s ((k.born + 200 * 86400) * giga)) i
    | none => s
  | none => s

/-- Entries to which a shared key goes (R284): the enrolled nodes of the port, or of every port for the beacon key. -/
def keyNodes (s : State) (slot : Nat) : List Nat :=
  (s.rad.nat.filter fun p => p.2.enrolled && (slot < 2 || p.2.port = (slot - 2) / 2)).map Prod.fst

/-- A group or beacon key is renewed (R284): KEY goes to every node, with SWITCH 600 s ahead. -/
def renewShared (s : State) (slot : Nat) : State :=
  let k := newKey s
  let sw := nowSec s + 600
  let s := putShared k.1 slot k.2
  let s := setRad s fun r => { r with switches := r.switches ++ [(slot, sw, 0)] }
  (keyNodes s slot).foldl (fun s i => queueKey s i slot sw) s

/-- Whether a renewal runs whose SWITCH lies ahead, in a slot. -/
def renewing (s : State) (slot : Nat) : Bool := s.rad.switches.any fun x => x.1 = slot && x.2.2 = 0

/-- The slot of the generation not in use of a port's group key, and of the beacon key. -/
def idleGroup (s : State) (p : Nat) : Nat := groupSlot p (1 - groupGen s p)
def idleBeacon (s : State) : Nat := 1 - s.sec.beaconGen

/-- The counter of the next broadcast of a port (R269, R273): none without a group key, when its floor cannot be written or no counter is left. The
key is renewed once its counter has passed 0xE000_0000 (R284). -/
def groupCounter (s : State) (p : Nat) : State × Option Nat :=
  let c := nth s.rad.groupCtr p 1
  if ctrMax ≤ c || (sharedKey s (groupUse s p)).isNone then (s, none)
  else
    let w := floorFor s (floorOf s.ledr.shared (groupUse s p)) c fun f l => { l with shared := floorPut l.shared (groupUse s p) f }
    if w.2 then
      let s := setRad w.1 fun r => { r with groupCtr := upd r.groupCtr p fun _ => c + 1 }
      (if ctrWorn < c && !renewing s (idleGroup s p) then renewShared s (idleGroup s p) else s, some c)
    else (w.1, none)

/-- The generation in use becomes that of a slot (R284). -/
def switchTo (s : State) (slot : Nat) : State :=
  let s := setSec (secCount s 4) fun x =>
    { x with beaconGen := if slot < 2 then slot else x.beaconGen
             groupGen := if slot < 2 then x.groupGen else upd x.groupGen ((slot - 2) / 2) fun _ => slot % 2
             cmdStat := if x.cmdStat = 1 then 2 else x.cmdStat }
  let s := if slot < 2 then s else
    setLedr (setRad s fun r => { r with groupCtr := upd r.groupCtr ((slot - 2) / 2) fun _ => 1 }) fun l =>
      { l with shared := tput l.shared slot floorZero }
  event s .sec 0x0503 (0x8000 + slot) (slot % 2) 0

/-- KEY_SWITCH (R284): at the SWITCH superframe RAD transmits under the new generation. -/
def keySwitch (s : State) (slot : Nat) : State :=
  match s.rad.switches.find? fun x => x.1 = slot && x.2.2 = 0 with
  | none => s
  | some x =>
    if !moduleUp s then s
    else switchTo (setRad (advanceTo s (x.2.1 * giga)) fun r =>
      { r with switches := r.switches.map fun y => if y = x then (x.1, x.2.1, 1) else y }) slot

/-- The other generation's slot. -/
def otherSlot (slot : Nat) : Nat := if slot % 2 = 0 then slot + 1 else slot - 1

/-- OLD_KEY_ERASE (R284): 600 s after SWITCH the old generation is erased, unless its slot already holds the generation of a later renewal. -/
def oldKeyErase (s : State) (slot : Nat) : State :=
  match s.rad.switches.find? fun x => x.1 = slot && x.2.2 = 1 with
  | none => s
  | some x =>
    if !moduleUp s then s
    else setKeys (setRad (advanceTo s ((x.2.1 + 600) * giga)) fun r => { r with switches := r.switches.filter fun y => y ≠ x }) fun k =>
      { k with shared := if renewing s (otherSlot slot) then k.shared else tdel k.shared (otherSlot slot) }

/-- BEACON_KEY_AGE (R284): every 200 days. -/
def beaconKeyAge (s : State) : State :=
  match sharedKey s s.sec.beaconGen with
  | none => s
  | some k =>
    if !moduleUp s || renewing s (idleBeacon s) then s
    else renewShared (advanceTo s ((k.born + 200 * 86400) * giga)) (idleBeacon s)

/-! ## Key commands (R302) -/

/-- R302's refusals of SEC_KEYCMD. -/
def keyCmdErr (s : State) (op target : Nat) : Err :=
  match op with
  | 1 =>
    match natEnt s target with
    | none => .range
    | some e => if (linkKey s target (genOf e)).isNone then .range else if (nodeDyn s target).rekeying then .slotBusy else .ok
  | 2 =>
    if !(radCfg s (target % 4)).enabled then .range
    else if renewing s (idleGroup s (target % 4)) then .slotBusy else .ok
  | 3 => if renewing s (idleBeacon s) then .slotBusy else .ok
  | 4 | 5 => if (natEnt s target).isNone then .range else .ok
  | _ => .range

/-- REKEY_LINK (R302 OP 0x1). -/
def rekeyLink (s : State) (i : Nat) : State := startRekey (setSec s fun x => { x with cmdStat := 1, cmdErr := .ok }) i

/-- RENEW_GROUP_KEY (R302 OP 0x2). -/
def renewGroup (s : State) (p : Nat) : State := renewShared (setSec s fun x => { x with cmdStat := 1, cmdErr := .ok }) (idleGroup s p)

/-- RENEW_BEACON_KEY (R302 OP 0x3). -/
def renewBeacon (s : State) : State := renewShared (setSec s fun x => { x with cmdStat := 1, cmdErr := .ok }) (idleBeacon s)

/-- FORGET_LINK (R302 OP 0x4): link keys erased, ENROLLED 0. -/
def forgetLink (s : State) (i : Nat) : State :=
  let s := setNat (dropLink (dropLink s i 0) i 1) i fun e => { e with enrolled := false }
  setSec s fun x => { x with cmdStat := 2, cmdErr := .ok }

/-- ERASE_DEVICE_KEY (R302 OP 0x5). -/
def eraseDevice (s : State) (i : Nat) : State :=
  setSec (setKeys s fun k => { k with device := tdel k.device i }) fun x => { x with cmdStat := 2, cmdErr := .ok }

/-! ## Floors at load (R275) -/

/-- A link whose floor is lost: its keys are erased and it enrols again. -/
def linkFloorLost (s : State) (i : Nat) : State :=
  let s := setNat (dropLink (dropLink s i 0) i 1) i fun e => { e with enrolled := false }
  floorLostEvent (setSec s fun x => { x with floorLost := x.floorLost ++ [i] }) i 1

/-- Whether a floor is lost (R275): neither of its slots holds a valid pair. -/
def floorGone (t : Tab Floor) (i : Nat) : Bool := (tgetD t i {}).value.isNone

/-- FLOOR_LOST for links: an entry with a link key and no valid floor pair (R70, R275). -/
def linkFloors (s : State) : State :=
  s.rad.nat.foldl (fun s p =>
    let held := (linkKey s p.1 0).isSome || (linkKey s p.1 1).isSome
    if held && (floorGone s.ledr.linkTx p.1 || floorGone s.ledr.linkRx p.1) then linkFloorLost (pairEvent s .sec 0) p.1 else s) s

/-- FLOOR_LOST for a group or beacon key in use: a new generation with an immediate switch, the old one erased. -/
def sharedFloorLost (s : State) (slot : Nat) : State :=
  let new := otherSlot slot
  let k := newKey (pairEvent s .sec 0)
  let s := putShared k.1 new k.2
  let s := setKeys (switchTo s new) fun x => { x with shared := tdel x.shared slot }
  let s := floorLostEvent s (0x8000 + slot) 2
  (keyNodes s new).foldl (fun s i => queueKey s i new (nowSec s)) s

/-- Keys that no start has yet made come from the random generator (R267). -/
def ensureShared (s : State) (slot : Nat) : State :=
  if (sharedKey s slot).isSome then s
  else
    let k := newKey s
    setLedr (putShared k.1 slot k.2) fun l => { l with shared := tput l.shared slot floorZero }

/-- The generation of a shared pair of slots that a start transmits under: the one it holds, of two the one made later (log entry 22). -/
def heldGen (s : State) (slot0 : Nat) : Nat :=
  match sharedKey s slot0, sharedKey s (slot0 + 1) with
  | none, some _ => 1
  | some a, some b => if a.born < b.born then 1 else 0
  | _, _ => 0

/-- SEC and RAD at load: keys in use, counters past their floors (R273), floors lost (R275). -/
def keysStart (s : State) : State :=
  let s := setSec s fun _ => { beaconGen := heldGen s 0, groupGen := (List.range 4).map fun p => heldGen s (groupSlot p 0) }
  let s := ensureShared s s.sec.beaconGen
  let used := (List.range 4).filter fun p => (radCfg s p).enabled
  let made := used.filter fun p => (sharedKey s (groupUse s p)).isNone
  let s := used.foldl (fun s p => ensureShared s (groupUse s p)) s
  let s := setRad s fun r =>
    { r with groupCtr := (List.range 4).map fun p =>
        if made.contains p then 1 else floorOf s.ledr.shared (groupUse s p) + 256 }
  let s := linkFloors s
  let s := if floorGone s.ledr.shared s.sec.beaconGen then sharedFloorLost s s.sec.beaconGen else s
  (used.filter fun p => floorGone s.ledr.shared (groupUse s p)).foldl (fun s p => sharedFloorLost s (groupUse s p)) s

/-! ## Registers (R302) -/

/-- Days since a key was made. -/
def ageDays (s : State) (k : Key) : Nat := (nowSec s - k.born) / 86400

/-- The kind of a shared slot. -/
def sharedKind (s : State) (slot : Nat) : Nat :=
  if slot < 2 then 1 else if slot < 10 then 2
  else if (cCourses s).neighbours.any fun n => n.keySlot = slot then 3 else 4

/-- The transmit floor of a shared slot, as stored; zero where the ledger holds none. -/
def sharedFloor (s : State) (slot : Nat) : Pair :=
  match (List.range (cCourses s).neighbours.length).find? fun n => (nth (cCourses s).neighbours n {}).keySlot = slot with
  | some n => (if slot ≥ 10 then tgetD s.ledr.hoTx n floorZero else tgetD s.ledr.shared slot floorZero).shown
  | none => (tgetD s.ledr.shared slot floorZero).shown

/-- A shared slot's registers. -/
def sharedRead (s : State) (slot o : Nat) : Word :=
  match o with
  | 0x0 =>
    match sharedKey s slot with
    | some k => pack [(31, 1), (28, sharedKind s slot), (16, sharedIndex slot), (0, min 0xFFFF (ageDays s k))]
    | none => 0
  | 0x4 => (sharedFloor s slot).v
  | 0x8 => (sharedFloor s slot).n
  | _ => 0

/-- A link's registers. -/
def linkRead (s : State) (i o : Nat) : Word :=
  let e := (natEnt s i).getD {}
  match o with
  | 0x00 =>
    pack [(31, b2n (tget s.keys.device i).isSome), (30, b2n (linkKey s i 0).isSome), (29, b2n (linkKey s i 1).isSome), (28, genOf e),
      (27, b2n (s.sec.floorLost.contains i)), (26, b2n (nodeDyn s i).oldKey),
      (0, match linkKey s i (genOf e) with
        | some k => min 0xFFFF (ageDays s k)
        | none => 0)]
  | 0x04 => (tgetD s.ledr.linkTx i floorZero).shown.v
  | 0x08 => (tgetD s.ledr.linkTx i floorZero).shown.n
  | 0x0C => (tgetD s.ledr.linkRx i floorZero).shown.v
  | 0x10 => (tgetD s.ledr.linkRx i floorZero).shown.n
  | _ => 0

/-- SEC's registers. -/
def secRead (s : State) (off : Nat) : Word :=
  if off = 0x0000 then 0x10000040
  else if off = 0x0004 then pack [(31, 1), (30, b2n (ctrWorn < s.keys.devCtr)), (0, s.sec.floorLost.length)]
  else if off = 0x0008 then w32 s.keys.devCtr
  else if 0x0010 ≤ off ∧ off < 0x0028 then w32 (nth s.sec.cnt ((off - 0x0010) / 4) 0)
  else if off = 0x0044 then pack [(28, s.sec.cmdStat), (16, s.sec.cmdErr.code)]
  else if 0x0100 ≤ off ∧ off < 0x0500 then sharedRead s ((off - 0x0100) / 0x10) (off % 0x10)
  else if 0x20000 ≤ off ∧ off < 0x40000 then linkRead s ((off - 0x20000) / 0x20) (off % 0x20)
  else 0

end Sys2Proof.Machine
end

