-- ==== Sys2Proof/Machine/LightMath.lean ====
section
/-! DEFINITION. The fixed-point photometry of the light engine (R134, R135, R144 to R154). -/
namespace Sys2Proof.Machine

/-! ## Fixed point of 24 fraction bits (R135) -/

/-- One in fixed point. -/
def fxOne : Int := 16777216

/-- A product, rounded (R135). -/
def fxMul (a b : Int) : Int := rdiv (a * b) fxOne

/-- A quotient, rounded (R135); what a zero divisor gives is free (log entry 16). -/
def fxDiv (a b : Int) : Int := if b = 0 then Config.fxDivZero a else rdiv (a * fxOne) b

/-- A quantity of `frac` fraction bits in fixed point. -/
def fxOf (v : Int) (fracBits : Nat) : Int := v * 2 ^ (24 - fracBits)

/-! ## Tables (R145, R146) -/

/-- Linear interpolation that clamps at the ends (R146), over points paired with values. -/
def interp (t : List (Int × Int)) (x : Int) : Int :=
  match t with
  | [] => 0
  | (p, v) :: r =>
    if x ≤ p then v
    else match r with
      | [] => v
      | (p1, v1) :: _ => if x < p1 then v + fxDiv (fxMul (v1 - v) (x - p)) (p1 - p) else interp r x

/-- The temperatures of RELF and DRIFT (R145), in fixed point °C. -/
def tempPoints : List Int := [-40, -20, 0, 25, 50, 75, 100, 125, 150].map (· * fxOne)

/-- RELF at a temperature (R150). -/
def relfAt (c : ColourClass) (t : Int) : Int := interp (tempPoints.zip (c.relf.map fun (v : Nat) => fxOf v 15)) t

/-- DRIFT at a temperature (R148). -/
def driftAt (c : ColourClass) (t : Int) : Int × Int :=
  (interp (tempPoints.zip (c.drift.map fun (d : Int × Int) => fxOf d.1 15)) t, interp (tempPoints.zip (c.drift.map fun (d : Int × Int) => fxOf d.2 15)) t)

/-- DROOP as (current in mA, relative flux). -/
def droop (c : ColourClass) : List (Int × Int) := c.droop.map fun (p : Nat × Nat) => (fxOf p.1 4, fxOf p.2 14)

/-- The maintenance factor at a string's hours in 0.01 h (R150, R152). -/
def maintAt (c : ColourClass) (h : Nat) : Int :=
  interp (c.maint.map fun (p : Nat × Nat) => ((p.1 : Int) * 10 * fxOne, fxOf p.2 15)) (rdiv ((h : Int) * fxOne) 100)

/-- The current of a relative flux (R146). -/
def invDroop (c : ColourClass) (r : Int) : Int :=
  if r ≤ 0 then 0 else interp ((droop c).map fun p => (p.2, p.1)) r

/-- The relative flux of the last droop point. -/
def droopMax (c : ColourClass) : Int := ((droop c).getLastD (0, 0)).2

/-- The fold factor of a class (R151). -/
def foldAt (c : ColourClass) (t : Int) : Int :=
  let t0 := fxOf c.tFold 8
  let t1 := fxOf c.tMax 8
  let m := fxOf c.foldMin 15
  if t < t0 then fxOne else if t < t1 then fxOne - fxDiv (fxMul (fxOne - m) (t - t0)) (t1 - t0) else m

/-! ## Chromaticity (R142, R147, R148) -/

/-- A locus entry as x, y in 1/65,536 (R147): entry 12 is the one the spec states. -/
def locus (k : Nat) : Nat × Nat :=
  if k = 12 then (0x6FDB, 0x6771)
  else let w := Config.locusWord k % frac; (w / 65536, w % 65536)

/-- x, y of a CCT in fixed point (R147): linear in reciprocal temperature between entries. -/
def cctXy (cct : Nat) : Int × Int :=
  let t := min 6500 (max 1800 cct)
  let k := (t - 1800) / 100
  let a := locus k
  let tk := 1800 + 100 * k
  if t = tk then (fxOf a.1 16, fxOf a.2 16)
  else
    let b := locus (k + 1)
    let w := fxDiv ((tk + 100 : Nat) * (t - tk : Nat) : Nat) ((t : Nat) * 100 : Nat)
    (fxOf a.1 16 + fxMul (fxOf b.1 16 - fxOf a.1 16) w, fxOf a.2 16 + fxMul (fxOf b.2 16 - fxOf a.2 16) w)

/-- x, y of a chromaticity word in fixed point. -/
def chromaXy (form : Bool) (w : Word) : Int × Int :=
  if form then (fxOf (w.field 31 16) 16, fxOf (w.field 15 0) 16) else cctXy (w.field 15 0)

/-- x, y of a string (R142). -/
def stringXy (b : BinString) : Int × Int :=
  let x := fxOf b.x 16
  let y := fxOf b.y 16
  let s := x + y + fxOf b.z 16
  (fxDiv x s, fxDiv y s)

/-- A column (X/Y, 1, Z/Y). -/
abbrev Col := Int × Int × Int

/-- The column of a chromaticity. -/
def colOf (p : Int × Int) : Col := (fxDiv p.1 p.2, fxOne, fxDiv (fxOne - p.1 - p.2) p.2)

/-- The reference column of a string (R142). -/
def stringCol (b : BinString) : Col := (fxDiv (fxOf b.x 16) (fxOf b.y 16), fxOne, fxDiv (fxOf b.z 16) (fxOf b.y 16))

/-- A string's chromaticity shifted by its class DRIFT (R148). -/
def driftedXy (c : ColourClass) (b : BinString) (t : Int) : Int × Int :=
  let p := stringXy b
  let d := driftAt c t
  (p.1 + d.1, p.2 + d.2)

/-- A 2 × 2 minor. -/
def minor (a b c d : Int) : Int := fxMul a d - fxMul b c

/-- The determinant of a matrix given by its columns (R143). -/
def det3 (p q r : Col) : Int :=
  fxMul p.1 (minor q.2.1 q.2.2 r.2.1 r.2.2) - fxMul q.1 (minor p.2.1 p.2.2 r.2.1 r.2.2) +
    fxMul r.1 (minor p.2.1 p.2.2 q.2.1 q.2.2)

/-- The rows of the inverse (R143): adjugate over determinant, with each product and quotient rounded (log entry 104). -/
def minv (p q r : Col) : List Col :=
  let d := det3 p q r
  let row (a b c : Int) : Col := (fxDiv a d, fxDiv b d, fxDiv c d)
  [row (minor q.2.1 q.2.2 r.2.1 r.2.2) (-(minor q.1 q.2.2 r.1 r.2.2)) (minor q.1 q.2.1 r.1 r.2.1),
   row (-(minor p.2.1 p.2.2 r.2.1 r.2.2)) (minor p.1 p.2.2 r.1 r.2.2) (-(minor p.1 p.2.1 r.1 r.2.1)),
   row (minor p.2.1 p.2.2 q.2.1 q.2.2) (-(minor p.1 p.2.2 q.1 q.2.2)) (minor p.1 p.2.1 q.1 q.2.1)]

/-- A matrix of rows times a vector. -/
def mulVec (m : List Col) (b : Col) : List Int := m.map fun r => fxMul r.1 b.1 + fxMul r.2.1 b.2.1 + fxMul r.2.2 b.2.2

/-- A column scaled. -/
def scaleCol (a : Int) (c : Col) : Col := (fxMul a c.1, fxMul a c.2.1, fxMul a c.2.2)

/-- The difference of two vectors. -/
def subCol (a b : Col) : Col := (a.1 - b.1, a.2.1 - b.2.1, a.2.2 - b.2.2)

/-- The sum of two vectors. -/
def addCol (a b : Col) : Col := (a.1 + b.1, a.2.1 + b.2.1, a.2.2 + b.2.2)

/-- mix3 (R148): the mix of three strings and whether GAMUT is flagged. -/
def mix3 (m : List Col) (drifted : List Col) (b : Col) : List Int × Bool :=
  let a := mulVec m b
  let mix := (a.zip drifted).foldl (fun s x => addCol s (scaleCol x.1 x.2)) (0, 0, 0)
  let a := (a.zip (mulVec m (subCol b mix))).map fun x => x.1 + x.2
  if a.any (· < 0) then
    let a := a.map (max 0)
    let s := a.foldl (· + ·) 0
    (if 0 < s then a.map fun x => fxDiv (fxMul x b.2.1) s else a, true)
  else (a, false)

/-- The mix of a two-string lantern (R148, R149). -/
def mix2 (f : Int) (w0 w1 xy : Int × Int) : List Int × Bool :=
  let dx := w1.1 - w0.1
  let dy := w1.2 - w0.2
  let den := fxMul dx dx + fxMul dy dy
  let s := if den = 0 then fxOne / 2 else fxDiv (fxMul (xy.1 - w0.1) dx + fxMul (xy.2 - w0.2) dy) den
  let g := s < 0 || fxOne < s
  let s := clampI 0 fxOne s
  let d := fxMul (fxOne - s) w0.2 + fxMul s w1.2
  ([fxDiv (fxMul (fxMul f (fxOne - s)) w0.2) d, fxDiv (fxMul (fxMul f s) w1.2) d], g)

/-- Stage 2 (R148): the string fluxes at reference conditions and GAMUT. `f` is the composed flux, `ts` each string's temperature. -/
def solveMix (cls : List ColourClass) (b : List BinString) (ts : List Int) (heldFrac : Nat) (f : Int) (xy : Int × Int) :
    List Int × Bool :=
  let d := (cls.zip (b.zip ts)).map fun x => driftedXy x.1 x.2.1 x.2.2
  let cols := d.map colOf
  let refs := b.map stringCol
  let t : Col := if f = 0 then (0, 0, 0)
    else (fxDiv (fxMul f xy.1) xy.2, f, fxDiv (fxMul f (fxOne - xy.1 - xy.2)) xy.2)
  match refs, d, cols with
  | [_], _, _ => ([f], false)
  | [_, _], w0 :: w1 :: _, _ => mix2 f w0 w1 xy
  | [p, q, r], _, _ => mix3 (minv p q r) cols t
  | [p, q, r, _], _, [c0, c1, c2, c3] =>
    let a3 := fxDiv (fxMul f ((heldFrac : Int) * fxOne)) (10000 * fxOne)
    let m := mix3 (minv p q r) [c0, c1, c2] (subCol t (scaleCol a3 c3))
    (m.1 ++ [a3], m.2)
  | _, _, _ => ([], false)

/-- A string flux rounded to 1/16 lm (R135), and back in fixed point. -/
def roundFlux (a : Int) : Int := rdiv (a * 16) fxOne

/-! ## Currents and codes (R150 to R154) -/

/-- What stage 3 knows of a string: class, record, temperature and hours. -/
structure StringCtx where
  cls : ColourClass := {}
  bin : BinString := {}
  temp : Int := 0
  hours : Nat := 0

/-- Y per mA × 350 mA of a string. -/
def y350 (x : StringCtx) : Int := fxMul (fxOf x.bin.y 16) (350 * fxOne)

/-- The ceiling current of a string in mA. -/
def ceilCur (x : StringCtx) : Int := rdiv ((x.bin.ceilCode * x.bin.iLsb : Nat) * fxOne) 1000

/-- The relative flux a string must give for a frequency-corrected flux. -/
def relReq (x : StringCtx) (freq : Int) : Int := fxDiv freq (y350 x)

/-- freq_s (R150). -/
def freqOfString (fold : Int) (x : StringCtx) (a : Int) : Int :=
  fxDiv (fxMul a fold) (fxMul (relfAt x.cls x.temp) (maintAt x.cls x.hours))

/-- The scaling factor k of R150. -/
def ceilScale (xs : List (StringCtx × Int)) : Int :=
  xs.foldl (fun k y =>
    if invDroop y.1.cls (relReq y.1 y.2) > ceilCur y.1 then
      min k (fxDiv (fxMul (fxMul (interp (droop y.1.cls) (ceilCur y.1)) (fxOf y.1.bin.y 16)) (350 * fxOne)) y.2)
    else k) fxOne

/-- A code of a current (R154): a string whose freq_s of R150 is above 0 gets at least 1. -/
def codeOf (x : StringCtx) (freq i : Int) : Nat :=
  let q := if x.bin.iLsb = 0 then Config.fxDivZero i else rdiv (i * 1000) ((x.bin.iLsb : Int) * fxOne)
  let c := (clampI 0 4095 q).toNat
  if 0 < freq then max 1 c else c

/-- Result of stages 2 to 4. -/
structure Solved where
  sflux : List Nat := []
  cur : List Nat := []
  codes : List Nat := []
  fold : Int := 16777216
  gamut : Bool := false
  ceil : Bool := false
  deriving DecidableEq, Repr

/-- Stages 2 to 4 of a channel (R148 to R154): `flux` is the composed flux in 0.5 lm. -/
def solve (xs : List StringCtx) (heldFrac flux : Nat) (xy : Int × Int) : Solved :=
  let m := solveMix (xs.map (·.cls)) (xs.map (·.bin)) (xs.map (·.temp)) heldFrac (fxOf flux 1) xy
  let r := m.1.map roundFlux
  let fold := xs.foldl (fun k x => min k (foldAt x.cls x.temp)) fxOne
  let fr := (xs.zip r).map fun x => (x.1, freqOfString fold x.1 (fxOf x.2 4))
  let k := ceilScale fr
  let fr' := if k < fxOne then fr.map fun x => (x.1, fxMul x.2 k) else fr
  let is := (fr.zip fr').map fun x => (x.1.1, x.1.2, invDroop x.1.1.cls (relReq x.1.1 x.2.2))
  { sflux := r.map fun v => (clampI 0 0xFFFFF v).toNat,
    cur := is.map fun x => (clampI 0 0xFFFF (rdiv (x.2.2 * 16) fxOne)).toNat,
    codes := is.map fun x => if flux = 0 then 0 else codeOf x.1 x.2.1 x.2.2,
    fold := fold, gamut := m.2,
    ceil := k < fxOne || fr.any fun x => relReq x.1 x.2 > droopMax x.1.cls }

end Sys2Proof.Machine
end

