-- ==== Sys2Proof/Machine/Light.lean ====
section
/-! DEFINITION. The light engine (R130 to R161): freezing at Catch, composition, computation, publication, command slots,
temperature reports, hours, registers, station reset. -/
namespace Sys2Proof.Machine

/-! ## Channels and configuration -/

/-- LGT's state changed. -/
def setLgt (s : State) (f : LgtState → LgtState) : State := { s with lgt := f s.lgt }

/-- The configuration of a channel (R130). -/
def chanCfg (s : State) (c : Nat) : Option ChanCfg := (cLight s).channels.find? fun k => k.chan = c

/-- A channel. -/
def chan (s : State) (c : Nat) : LgtChan := tgetD s.lgt.chans c {}

/-- The state with a channel changed. -/
def setChan (s : State) (c : Nat) (f : LgtChan → LgtChan) : State :=
  setLgt s fun l => { l with chans := tput l.chans c (f (tgetD l.chans c {})) }

/-- The active overlay of a light group (R136): the Rig's for the current mode, with the Trims of R125 applied. -/
def groupOverlay (s : State) (g : Nat) : Overlay :=
  (overlay s).foldl (overlayEntry g s.crs.mode) (nth (nth (cLight s).overlays g []) s.crs.mode {})

/-- The deadband in use (R125, R155). -/
def deadbandEff (s : State) : Nat := trimmed s .deadband s.lgt.deadband

/-- HELD_FRAC of a channel (R125, R148). -/
def heldFrac (s : State) (k : ChanCfg) : Nat := trimmed s (.heldFrac k.chan) k.heldFrac

/-- A target word (R161). -/
def targetWord (form : Bool) (ramp flux : Nat) : Word := pack [(31, b2n form), (16, ramp), (0, flux)]

/-- The fields of a target word: form, ramp, flux. -/
def formOf (w : Word) : Bool := w.bit 31
def rampOf (w : Word) : Nat := w.field 30 16
def fluxOf (w : Word) : Nat := w.field 15 0

/-! ## Command slots (R138, R139) -/

/-- A slot. -/
def lgtCmd (s : State) (k : Nat) : LgtCmd := nth s.lgt.cmds k {}

/-- The state with a slot changed. -/
def setLgtCmd (s : State) (k : Nat) (f : LgtCmd → LgtCmd) : State := setLgt s fun l => { l with cmds := upd l.cmds k f }

/-- A time in ns of seconds in two words and nanoseconds. -/
def timeNs (lo hi ns : Nat) : Nat := (hi * frac + lo) * giga + ns

/-- A time rounded up to a stroke boundary (R49). -/
def toBoundary (ns : Nat) : Nat := cdiv ns strokeNs * strokeNs

/-- Execute time and end time in ns; an end time of zero is none. -/
def LgtCmd.exec (c : LgtCmd) : Nat := timeNs c.execLo c.execHi c.execNs
def LgtCmd.endAt (c : LgtCmd) : Option Nat :=
  if c.endLo = 0 && c.endHi = 0 && c.endNs = 0 then none else some (timeNs c.endLo c.endHi c.endNs)

/-- Whether a command's scope covers a channel. -/
def covers (c : LgtCmd) (k : ChanCfg) : Bool :=
  match c.scope with
  | 0 => c.addr = k.chan
  | 1 => c.addr = k.group
  | 2 => true
  | _ => false

/-- The order of commands that apply (R138): PRIO, then later execute time, then higher slot. -/
def cmdBefore (a b : Nat × LgtCmd) : Bool :=
  if a.2.prio ≠ b.2.prio then a.2.prio < b.2.prio
  else if a.2.exec ≠ b.2.exec then a.2.exec < b.2.exec
  else a.1 < b.1

/-- The command selected among those that apply (R138); `also` is a slot taken as ACTIVE (R140). -/
def selectCmd (s : State) (k : ChanCfg) (also : Option Nat) : Option (Nat × LgtCmd) :=
  let l := ((List.range 32).zip s.lgt.cmds).filter fun p =>
    (p.2.state = .active || some p.1 = also) && covers p.2 k && s.crs.mode ≤ p.2.prio
  l.foldl (fun a p => match a with
    | none => some p
    | some q => if cmdBefore q p then some p else some q) none

/-- H_LEAD − t_t in ns (R46, R47, R140). -/
def timedLead (s : State) : Nat :=
  let g := cGuar s
  g.hLead * 1000 - (1000000 + g.nOut * 500000 + 10000000 + 4000000)

/-- Channels a command addresses. -/
def addressedChans (s : State) (c : LgtCmd) : List Nat :=
  ((cLight s).channels.filter fun k => covers c k).map ChanCfg.chan

/-- R51's test of an H command. -/
def leadOk (s : State) (c : LgtCmd) : Bool :=
  nowNs s + (cGuar s).hLead * 1000 ≤ c.exec && c.exec < nowNs s + 86400 * giga && timeAdmits s &&
    (s.lgt.cmds.filter fun d => d.state = .pending).length < 32

/-- The values R141 allows for a chromaticity word under a target word's FORM. -/
def lightOk (tgt chroma : Word) : Bool :=
  if formOf tgt then
    let x := chroma.field 31 16
    let y := chroma.field 15 0
    3277 ≤ y && x + y < 65536
  else 1800 ≤ chroma.field 15 0 && chroma.field 15 0 ≤ 6500

/-- The values R141 allows for a target word and its chromaticity word. -/
def targetOk (tgt chroma : Word) : Bool := fluxOf tgt ≠ 0xFFFF && lightOk tgt chroma

/-- Ranges of a slot that is to become PENDING (R139), its chromaticity under the FORM of its target too (R141, log entry 105). -/
def cmdRanges (c : LgtCmd) : Bool :=
  (c.keepChroma || lightOk c.tgt.v c.chroma.v) &&
  c.execNs ≤ nsMax && c.endNs ≤ nsMax && c.scope ≤ 2 && (c.scope ≠ 0 || c.addr ≤ 255) && (c.scope ≠ 1 || c.addr ≤ 15) &&
    (match c.endAt with
     | some e => c.exec < e
     | none => true)

/-- An admitted command becomes PENDING (R139); lanterns out of contact get their outcome at once (R53). -/
def cmdPending (s : State) (k : Nat) : State :=
  let c := lgtCmd s k
  let l := addressedChans s c
  let out := l.filter fun ch => !chanInContact s ch
  let s := setLgt (setLgtCmd s k fun c =>
    { c with state := .pending, addressed := l.length, confirmed := 0, cancelAt := none, timed := false,
             serial := s.lgt.serial + 1, outOf := out, seen := false }) fun l => { l with serial := l.serial + 1 }
  out.foldl (fun s ch => outcomeRecord s .lgt k 0 (match natOfChan s ch with
    | some p => p.1
    | none => 0xFFF) 3) s

/-- STATE 0x0 written to a slot (R139). A slot that is freed takes its reset values (log entry 106). -/
def cmdCancel (s : State) (k : Nat) : State :=
  setLgtCmd s k fun c =>
    match c.state with
    | .free => c
    | .ended => {}
    | _ => if c.cancelAt = none then { c with cancelAt := some (dueBoundary s) } else c

/-- A slot at a stroke boundary (R139). -/
def cmdAtBoundary (s : State) (c : LgtCmd) : LgtCmd :=
  let due : Bool := match c.cancelAt with
    | some b => b ≤ s.cox.count
    | none => false
  if due then { c with state := .ended, cancelAt := none }
  else
    let c := { c with seen := decide (c.state = SlotSt.pending) }
    let c := if c.state = .pending && toBoundary c.exec ≤ s.cox.start then { c with state := .active } else c
    match c.state, c.endAt with
    | .active, some e => if toBoundary e ≤ s.cox.start then { c with state := .ended, cancelAt := none } else c
    | _, _ => c

/-- The outcome of a light entry for its command (R53, R291): 1 CONFIRMED, 2 UNCONFIRMED. -/
def cmdOutcome (s : State) (slot serial nat outcome : Nat) : State :=
  let c := lgtCmd s slot
  let s := if c.serial = serial && outcome = 1 then setLgtCmd s slot fun c => { c with confirmed := c.confirmed + 1 } else s
  outcomeRecord s .lgt slot 0 nat outcome

/-! ## Catch (R131) -/

/-- A channel's inputs are frozen (R131, R70, R159). -/
def freezeChan (s : State) (c : LgtChan) : LgtChan :=
  let t := match c.lamp with
    | some (v, at_) => if at_ < s.cox.start && s.cox.start < at_ + 60 * giga then some v else none
    | none => none
  let ok := pairOk c.given.sched && pairOk c.given.chroma
  { c with temp := t, frozen := c.lamp, badFrozen := c.lampBad, recBad := match c.binRec with
                                      | some r => !r.pairsOk
                                      | none => c.recBad
           pairBad := !ok, inp := if ok then c.given else c.inp, staleInput := inReset s .crs }

/-- The timed entry sent for a channel becomes its last entry sent at the apply boundary (R140). -/
def settleTimed (s : State) (c : LgtChan) : LgtChan :=
  match c.timed with
  | some e =>
    if (e.apply.getD 0) ≤ s.cox.start then
      { c with sent01 := e.codes01, sent23 := e.codes23, sentTgt := e.target, sentChroma := e.chroma, timed := none, wasSent := true }
    else c
  | none => c

/-- The colour classes of LIGHT as pairs. -/
def rigClasses (l : LightSec) : Tab (List Pair) := l.classes.foldl (fun t p => tput t p.1 (classPairs p.2)) []

/-- The half of the calibration archive in use (R440). -/
def calInUse (s : State) : CalHalf := if s.cfg.calHalf = 0 then s.flash.cal0 else s.flash.cal1

/-- Calibration constants are checked once per stroke (R70): a class whose pairs fail is unusable in this stroke and is reloaded from the Rigger's
validated copy; a record whose pairs fail is reloaded from the Rigger's validated copy, then from the archive, through the precomputation. -/
def lgtConstants (s : State) : State :=
  let bad := (s.lgt.classes.filter fun p => !p.2.all pairOk).map Prod.fst
  let copy := rigClasses (s.cfg.validated.light.getD {})
  let s := setLgt s fun l =>
    { l with badClasses := bad, classes := l.classes.map fun p => if bad.contains p.1 then (p.1, tgetD copy p.1 p.2) else p }
  let recs := (s.lgt.chans.filter fun p => p.2.recBad && p.2.binRec.isSome).map Prod.fst
  let half := calInUse s
  let s := setLgt s fun l =>
    { l with chans := l.chans.map fun p => if recs.contains p.1 then (p.1, { p.2 with binRec := none }) else p
             recq := l.recq ++ recs.filterMap fun c =>
               (((tget s.cfg.bins c).filter BinRecord.pairsOk).orElse fun _ => tget (calBins half) c).map fun r => (c, r) }
  (bad ++ recs).foldl (fun s _ => pairEvent s .lgt 0) s

/-- What LGT does at Catch (R131, R139, R26). -/
def lgtCatch (s : State) : State :=
  let due := fun (b : Nat) => b ≤ s.cox.count
  let l := s.lgt
  let s := setLgt s fun l =>
    { l with
      cmds := l.cmds.map (cmdAtBoundary s)
      deadband := match l.dbNext with
        | some (v, b) => if due b then v else l.deadband
        | none => l.deadband
      dbNext := match l.dbNext with
        | some (v, b) => if due b then none else some (v, b)
        | none => none
      force := l.force ++ ((l.forceNext.filter fun f => due f.2).map Prod.fst)
      forceNext := l.forceNext.filter fun f => !due f.2
      hoursNext := l.hoursNext.filter fun h => !due h.2.2.2
      mode := s.crs.mode }
  let s := (l.hoursNext.filter fun h => due h.2.2.2).foldl (fun s h =>
    setChan s h.1 fun c => { c with hours := upd c.hours h.2.1 fun _ => h.2.2.1, hfrac := upd c.hfrac h.2.1 fun _ => 0 }) s
  let s := l.ready.foldl (fun s r => setChan s r.1 fun c => { c with binRec := some r.2, recBad := false }) s
  let s := setLgt s fun l => { l with ready := [], chans := l.chans.map fun p => (p.1, settleTimed s (freezeChan s p.2)) }
  lgtConstants ((s.lgt.chans.filter fun p => p.2.pairBad && !p.2.staleInput).foldl (fun s _ => pairEvent s .lgt 0) s)

/-- Composed inputs from CRS reach LGT (R162). -/
def lgtInputs (s : State) (inp : Tab LightInput) : State :=
  inp.foldl (fun s p => setChan s p.1 fun c => { c with given := p.2, fed := true }) s

/-! ## Stage 1 (R137) -/

/-- A composed target. -/
structure Composed where
  flux : Nat := 0
  form : Bool := false
  chroma : Word := 0
  ramp : Nat := 0
  boost : Bool := false
  deriving DecidableEq, Repr

/-- f × scale, to half a lumen, at most 32,767 lm (R137). -/
def scaleFlux (f scale : Nat) : Nat := min ((f * scale * 2 + 16384) / 32768) 65534

/-- Stage 1 for a channel, with the selected command (R137). -/
def compose (k : ChanCfg) (g : Overlay) (i : LightInput) (cmd : Option LgtCmd) : Composed :=
  let f := scaleFlux (fluxOf i.sched.v) g.scale
  let c0 : Composed :=
    if g.chromaSet then { flux := f, form := g.form, chroma := g.chroma, ramp := rampOf i.sched.v }
    else { flux := f, form := formOf i.sched.v, chroma := i.chroma.v, ramp := rampOf i.sched.v }
  let c1 : Composed := match cmd with
    | none => c0
    | some d =>
      { c0 with
        flux := if d.keepFlux then c0.flux else fluxOf d.tgt.v
        form := if d.keepChroma then c0.form else formOf d.tgt.v
        chroma := if d.keepChroma then c0.chroma else d.chroma.v
        ramp := rampOf d.tgt.v }
  let allow := match cmd with
    | none => true
    | some d => d.allowCorr
  let c2 : Composed :=
    if g.corrEn && allow && i.corr && c1.flux < fluxOf i.pass then
      { c1 with flux := fluxOf i.pass, ramp := rampOf i.pass, boost := true }
    else c1
  if c2.flux = 0 then c2
  else { c2 with flux := min (max c2.flux (max k.floor g.floor)) (min k.ceil g.ceil) }

/-! ## Records and classes (R142 to R145) -/

/-- A colour class, when it is configured and its pairs have not failed (R145, R159). -/
def colourClass (s : State) (i : Nat) : Option ColourClass :=
  if s.lgt.badClasses.contains i then none else (tget s.lgt.classes i).map classOf

/-- The classes of the strings, when all are configured. -/
def classesOf (s : State) (n : Nat) (l : List Nat) : Option (List ColourClass) := (l.take n).mapM (colourClass s)

/-- The nominal string of a class (R144). -/
def nominalString (c : ColourClass) : BinString := { x := c.nomX, y := c.nomY, z := c.nomZ, ceilCode := 0xFFF, iLsb := 250 }

/-- |det| of the matrix of strings 0 to 2 is at least 0.002 (R143). -/
def detOk (b : List BinString) : Bool :=
  if b.length < 3 then true
  else
    let d := det3 (stringCol (nth b 0 {})) (stringCol (nth b 1 {})) (stringCol (nth b 2 {}))
    rdiv (2 * fxOne) 1000 ≤ (if d < 0 then -d else d)

/-- R143's tests of a record for a channel. With no NAT entry of the channel there is none that the EUI64 differs from (DEDUCED). -/
def recordOk (s : State) (c : Nat) (r : BinRecord) : Bool :=
  r.crcOk && r.pairsOk && r.formOk && (classesOf s r.strings r.classes).isSome && detOk (r.data.take r.strings) &&
    (match natOfChan s c with
     | some p => p.2.ext = r.eui64
     | none => true) &&
    (match chanCfg s c with
     | some k => k.strings = r.strings
     | none => false)

/-- The strings of a channel with their classes; whether they are nominal (R144). None when the channel is INVALID. -/
def stringsOf (s : State) (k : ChanCfg) (c : LgtChan) : Option (List (ColourClass × BinString) × Bool) :=
  if c.recBad then none
  else match c.binRec with
  | some r =>
    match classesOf s r.strings r.classes with
    | some cl => some (cl.zip r.data, false)
    | none => none
  | none =>
    match classesOf s k.strings k.classes with
    | some cl => if detOk (cl.map nominalString) then some (cl.map fun x => (x, nominalString x), true) else none
    | none => none

/-! ## Stages 2 to 5 -/

/-- The temperature of each string (R157), in fixed point. -/
def stringTemp (t : Option Int) (c : ColourClass) : Int := fxOf (t.getD c.staleT) 8

/-- The contexts of a channel's strings. -/
def stringCtxs (c : LgtChan) (l : List (ColourClass × BinString)) : List StringCtx :=
  ((List.range l.length).zip l).map fun p =>
    { cls := p.2.1, bin := p.2.2, temp := stringTemp c.temp p.2.1, hours := nth c.hours p.1 0 }

/-- A code word (R161). -/
def codeWord (even odd : Nat) : Word := pack [(16, odd), (0, even)]

/-- Codes of a pair of code words. -/
def codesOf (a b : Word) : List Nat := [a.field 11 0, a.field 27 16, b.field 11 0, b.field 27 16]

/-- Flags of a channel (R161). -/
def chanFlags (hold pend stale invalid pair fold ceil gamut nominal tbad tstale : Bool) : Nat :=
  b2n hold * 1024 + b2n pend * 512 + b2n stale * 256 + b2n invalid * 128 + b2n pair * 64 + b2n fold * 32 + b2n ceil * 16 +
    b2n gamut * 8 + b2n nominal * 4 + b2n tbad * 2 + b2n tstale

/-- LGT_TEMP of a stroke (R161): the temperature that Catch froze, its age at the boundary. -/
def tempWord (s : State) (c : LgtChan) : Word :=
  match c.frozen with
  | some (v, at_) => pack [(16, min 0xFFFF ((s.cox.start - at_) / giga)), (0, sfield 16 v)]
  | none => 0xFFFF8000

/-- A channel's results with a given composed target (R148 to R154), and the other registers that are published with them (R132). -/
def computeOut (s : State) (k : ChanCfg) (c : LgtChan) (t : Composed) : ChanOut :=
  let pend := s.lgt.recq.any (fun r => r.1 = k.chan) || s.lgt.ready.any (fun r => r.1 = k.chan)
  let base : ChanOut :=
    { c.out with target := pairOf (targetWord t.form t.ramp t.flux), chroma := pairOf t.chroma, temp := tempWord s c, sent01 := c.sent01,
                 sent23 := c.sent23, hours := c.hours, held := heldFrac s k, bin := c.binRec }
  match stringsOf s k c with
  | none =>
    { base with flags := chanFlags true pend c.staleInput true c.pairBad false false false (c.binRec = none) c.badFrozen c.temp.isNone }
  | some (l, nominal) =>
    let r := solve (stringCtxs c l) (heldFrac s k) t.flux (chromaXy t.form t.chroma)
    { base with
      codes01 := pairOf (codeWord (nth r.codes 0 0) (nth r.codes 1 0))
      codes23 := pairOf (codeWord (nth r.codes 2 0) (nth r.codes 3 0))
      sflux := r.sflux
      cur := r.cur
      fold := (rdiv (r.fold * 32768) fxOne).toNat
      flags := chanFlags false pend c.staleInput false c.pairBad (r.fold < fxOne) r.ceil r.gamut nominal c.badFrozen c.temp.isNone }

/-- Whether a channel's codes are held (R144, R159). -/
def heldOut (o : ChanOut) : Bool := o.flags / 1024 % 2 = 1

/-- Whether codes differ from those last sent enough to be queued (R155). -/
def codesMoved (deadband : Nat) (new old : List Nat) : Bool :=
  (new.zip old).any fun p => (max p.1 p.2 - min p.1 p.2 > deadband) || ((p.1 = 0) ≠ (p.2 = 0))

/-- R155 for a computed channel; while nothing has been sent since the start there are no codes last sent that it could equal. -/
def queueNeeded (s : State) (k : ChanCfg) (c : LgtChan) (o : ChanOut) : Bool :=
  !heldOut o &&
    ((c.fed && !c.wasSent) || o.target.v ≠ c.sentTgt || o.chroma.v ≠ c.sentChroma ||
      codesMoved (deadbandEff s) (codesOf o.codes01.v o.codes23.v) (codesOf c.sent01.v c.sent23.v) ||
      s.lgt.force.any fun f => f = 256 || f = k.chan)

/-- The change-list entry of a channel (R155). -/
def entryOf (k : ChanCfg) (o : ChanOut) (cls : EntCls) (apply : Option Nat) (slot : Option (Nat × Nat)) : LightEntry :=
  { chan := k.chan, strings := k.strings, codes01 := o.codes01, codes23 := o.codes23, target := o.target.v, chroma := o.chroma.v,
    apply := apply, cls := cls, slot := slot }

/-- Hours at a stroke (R153): 10 ms more for each string whose last code sent is non-zero. -/
def addHours (c : LgtChan) : LgtChan :=
  let on := codesOf c.sent01.v c.sent23.v
  let fr := (c.hfrac.zip on).map fun p => if p.2 = 0 then p.1 else p.1 + 1
  { c with hours := (c.hours.zip fr).map fun p => if p.2 ≥ 3600 then satAdd 32 p.1 1 else p.1
           hfrac := fr.map fun f => if f ≥ 3600 then f - 3600 else f }

/-- The hours of the stroke that ends, whether LGT has missed its Finish or not (R153). -/
def lgtHours (s : State) : State :=
  setLgt s fun l => { l with chans := l.chans.map fun p => (p.1, addHours p.2), strokes := l.strokes + 1 }

/-- A channel in a stroke (R130): its results and its change-list entry. -/
def computeChan (s : State) (k : ChanCfg) : ChanOut × Option LightEntry :=
  let c := chan s k.chan
  let cmd := selectCmd s k none
  let t := compose k (groupOverlay s k.group) c.inp (cmd.map Prod.snd)
  let o := computeOut s k c t
  let cls := if t.boost then EntCls.l else .plain
  (o,
    if queueNeeded s k c o then some (entryOf k o cls none none) else none)

/-- Slots whose timed codes are computed in this stroke (R140): the first whose start plus the lead reaches the apply boundary (log entry 107). -/
def timedSlots (s : State) : List Nat :=
  (List.range 32).filter fun k =>
    let c := lgtCmd s k
    c.state = .pending && c.seen && !c.timed && toBoundary c.exec ≤ s.cox.start + timedLead s

/-- The timed entries of a slot (R140): channels for which it would be selected were it alone to become ACTIVE (log entry 107), and that were in contact at
admission (R53). -/
def timedEntries (s : State) (n : Nat) : List LightEntry :=
  let d := lgtCmd s n
  (cLight s).channels.filterMap fun k =>
    match selectCmd s k (some n) with
    | some (m, _) =>
      if m ≠ n || d.outOf.contains k.chan then none
      else
        let c := chan s k.chan
        let o := computeOut s k c (compose k (groupOverlay s k.group) c.inp (some d))
        if heldOut o then none else some (entryOf k o .h (some (toBoundary d.exec)) (some (n, d.serial)))
    | none => none

/-- The Drive step of LGT (R130 to R133, R140, R143): computed now, visible at publication. -/
def lgtDrive (s : State) : State :=
  let r := ((cLight s).channels.mergeSort fun a b => a.chan ≤ b.chan).map fun k => (k.chan, computeChan s k)
  setLgt s fun l =>
    { l with work := some { outs := r.map fun p => (p.1, p.2.1), list := r.filterMap fun p => p.2.2, timed := (timedSlots s).flatMap (timedEntries s),
                            slots := timedSlots s, recs := (s.lgt.recq.take 16).map fun x => (x.1, x.2, recordOk s x.1 x.2) } }

/-- A channel's published results; its flags change an EVQ record (R159). -/
def publishChan (s : State) (p : Nat × ChanOut) : State :=
  let old := (chan s p.1).out.flags
  let s := setChan s p.1 fun c => { c with out := p.2 }
  if old = p.2.flags then s else event s .lgt 0x0601 p.1 (2147483648 + p.2.flags) 0

/-- A record that R143 refuses leaves its channel NOMINAL. -/
def refuseRecord (s : State) (c : Nat) : State :=
  setLgt (setChan s c fun x => { x with binRec := none }) fun l => { l with recRefused := satAdd 16 l.recRefused 1 }

/-- Publication (R132): codes, per-channel registers and change list at one instant, `cyc` SYS cycles into the stroke. -/
def lgtPublish (s : State) (cyc : Nat) : State :=
  match s.lgt.work with
  | none => s
  | some w =>
    let s := w.outs.foldl publishChan s
    let s := (w.recs.filter fun r => !r.2.2).foldl (fun s r => refuseRecord s r.1) s
    let us := cyc / 400 - 500
    setLgt s fun l =>
      { l with work := none, list := w.list, timedOut := l.timedOut ++ w.timed, listAt := s.cox.start + cyc * 5 / 2,
               changed := w.list.length, usedUs := us, worst := max l.worst us, recq := l.recq.drop w.recs.length,
               ready := (w.recs.filter fun r => r.2.2).map fun r => (r.1, r.2.1), force := [],
               cmds := ((List.range 32).zip l.cmds).map fun p => if w.slots.contains p.1 then { p.2 with timed := true } else p.2 }

/-- A crab of LGT (R24): the computed results are discarded; CHANGED stays that of the last change list (R161). -/
def lgtDiscard (s : State) : State := setLgt s fun l => { l with work := none, list := [] }

/-- String hours go to the ledger (R153, R415, R435). -/
def hoursSaved (s : State) : State :=
  if isRunning s .lgt then
    (ledgerWrite s .lgt fun s =>
      setLgt (setLedr s fun l => { l with hours := s.lgt.chans.map fun p => (p.1, p.2.hours) }) fun l => { l with strokes := 0 }).1
  else s

/-- HOURS_SAVE (R153): once every 360,000 strokes. -/
def hoursSave (s : State) : State := if 360000 ≤ s.lgt.strokes then hoursSaved s else s

/-! ## Temperature reports (R157, R158) -/

/-- Whether a report is implausible (R158), against a value fresh at its receipt. -/
def implausible (c : LgtChan) (v : Int) (at_ : Nat) : Bool :=
  v < -45 * 256 || 155 * 256 < v ||
    (match c.lamp with
     | some (o, t) => at_ < t + 60 * giga && (v - o > 30 * 256 || o - v > 30 * 256)
     | none => false)

/-- TEMPERATURE_REPORT_ACCEPT (R158): a lantern report's TEMP; 0x8000 gives no reading (R296). -/
def tempReport (s : State) (c : Nat) (v : Int) (at_ : Nat) : State :=
  if v = -32768 || (chanCfg s c).isNone || !isRunning s .lgt then s
  else if implausible (chan s c) v at_ then setChan s c fun x => { x with lampBad := true }
  else setChan s c fun x => { x with lamp := some (v, at_), lampBad := false }

/-- TEMP_STALE (R157): 60 s after its receipt a temperature is stale; LGT finds it so from the stroke that begins then. -/
def tempStale (s : State) (c : Nat) : State :=
  match (chan s c).lamp with
  | some (_, at_) => advanceTo s (at_ + 60 * giga)
  | none => s

/-! ## Station reset (R36, R139) -/

/-- A channel after an LGT station reset: records, hours and last codes sent are kept, and what CRS published last (R39). -/
def chanReset (c : LgtChan) : LgtChan :=
  { inp := c.inp, given := c.given, fed := c.fed, sent01 := c.sent01, sent23 := c.sent23, sentTgt := c.sentTgt, sentChroma := c.sentChroma, hours := c.hours, hfrac := c.hfrac,
    binRec := c.binRec, recBad := c.recBad, lamp := none, timed := c.timed, wasSent := c.wasSent, out := { c.out with sflux := [0, 0, 0, 0], cur := [0, 0, 0, 0], fold := 0x8000 } }

/-- Commands that an LGT reset ends (R139). -/
def cmdsLost (s : State) : State :=
  (List.range 32).foldl (fun s k =>
    let st := (lgtCmd s k).state
    if st = .pending || st = .active then event s .lgt 0x0602 k Err.stnReset.code 0 else s) s

/-- An LGT station reset (R36): slots and engine state clear. -/
def lgtStationReset (s : State) : State :=
  let s := cmdsLost s
  setLgt s fun l =>
    { chans := l.chans.map fun p => (p.1, chanReset p.2), classes := l.classes, serial := l.serial, deadband := (cLight s).deadband, strokes := l.strokes,
      recq := l.recq ++ l.ready, mode := l.mode }

/-- A channel that has not been computed yet: hours from the ledger, HELD_FRAC from the Rig. -/
def newChan (s : State) (k : ChanCfg) : LgtChan :=
  let h := tgetD s.ledr.hours k.chan [0, 0, 0, 0]
  { hours := h, out := { hours := h, held := k.heldFrac } }

/-- LGT at a module start: channels of the Rig, hours from the ledger (R153), records from the archive (R126). -/
def lgtStart (s : State) (recs : List (Nat × BinRecord)) : State :=
  setLgt s fun _ =>
    { chans := (cLight s).channels.foldl (fun t k => tput t k.chan (newChan s k)) []
      classes := rigClasses (cLight s)
      deadband := (cLight s).deadband
      recq := recs.filter fun r => (chanCfg s r.1).isSome }

/-! ## Registers (R161) -/

/-- Codes of slot states. -/
def SlotSt.code : SlotSt → Nat
  | .free => 0 | .pending => 1 | .active => 2 | .ended => 3

/-- A command slot's registers. -/
def lgtCmdRead (c : LgtCmd) (o : Nat) : Word :=
  match o with
  | 0x00 => pack [(28, c.state.code), (24, c.prio), (20, c.scope), (19, b2n c.allowCorr), (18, b2n c.keepFlux),
      (17, b2n c.keepChroma), (0, c.addr)]
  | 0x04 => c.tgt.v
  | 0x08 => c.tgt.n
  | 0x0C => c.chroma.v
  | 0x10 => c.chroma.n
  | 0x14 => w32 c.execLo
  | 0x18 => w32 c.execHi
  | 0x1C => w32 c.execNs
  | 0x20 => w32 c.endLo
  | 0x24 => w32 c.endHi
  | 0x28 => w32 c.endNs
  | 0x2C => pack [(16, c.addressed), (0, c.confirmed)]
  | _ => 0

/-- A word and its complement by register parity. -/
def pairSide (w : Word) (o : Nat) : Word := if o / 4 % 2 = 0 then w else ~~~ w

/-- A stored pair's word by register parity (R69). -/
def pairWord (p : Pair) (o : Nat) : Word := if o / 4 % 2 = 0 then p.v else p.n

/-- The classes of a channel's strings: those of its record, or of the Rig while it has none. -/
def chanClasses (s : State) (k : ChanCfg) : List Nat :=
  match (chan s k.chan).binRec with
  | some r => r.classes.take r.strings
  | none => k.classes.take k.strings

/-- A colour class's registers: its words as stored (R69). -/
def classRead (s : State) (i o : Nat) : Word :=
  if o < 0x148 then pairWord (nth (tgetD s.lgt.classes i []) (o / 8) {}) o
  else pack [(31, b2n (colourClass s i).isSome), (0, ((cLight s).channels.filter fun k => (chanClasses s k).contains i).length)]

/-- A binning record's registers of a channel: its words as stored, those of no record zero with all-ones complements. -/
def binRead (r : Option BinRecord) (o : Nat) : Word :=
  match r with
  | some r => r.word (4 + (o - 0x80) / 4)
  | none => if o / 4 % 2 = 0 then 0 else 0xFFFFFFFF

/-- A channel's registers. -/
def chanRead (s : State) (n o : Nat) : Word :=
  let c := chan s n
  let k := (chanCfg s n).getD { strings := 0, ceil := 0 }
  let conf := (chanCfg s n).isSome
  match o with
  | 0x00 => c.out.target.v | 0x04 => c.out.target.n | 0x08 => c.out.chroma.v | 0x0C => c.out.chroma.n
  | 0x10 => c.out.codes01.v | 0x14 => c.out.codes01.n | 0x18 => c.out.codes23.v | 0x1C => c.out.codes23.n
  | 0x20 => c.out.sent01.v | 0x24 => c.out.sent01.n | 0x28 => c.out.sent23.v | 0x2C => c.out.sent23.n
  | 0x50 => c.out.temp
  | 0x54 => pack [(31, b2n conf), (0, c.out.flags)]
  | 0x58 => if conf then pack [(16, c.out.held), (8, k.feeder), (4, k.group), (0, k.strings)] else 0
  | 0x5C => pack [(16, k.ceil), (0, k.floor)]
  | 0x70 => w32 c.out.fold
  | 0x74 =>
    match c.out.bin with
    | some r => pack ((31, 1) :: ((List.range 4).map fun i => (4 * i, nth r.classes i 0)))
    | none => 0
  | _ =>
    if 0x30 ≤ o ∧ o < 0x40 then w32 (nth c.out.sflux ((o - 0x30) / 4) 0)
    else if 0x40 ≤ o ∧ o < 0x50 then w32 (nth c.out.cur ((o - 0x40) / 4) 0)
    else if 0x60 ≤ o ∧ o < 0x70 then w32 (nth c.out.hours ((o - 0x60) / 4) 0)
    else if 0x80 ≤ o then binRead c.out.bin o
    else 0

/-- A light group's registers. -/
def groupRead (s : State) (g o : Nat) : Word :=
  let v := groupOverlay s g
  match o with
  | 0 => pack [(31, b2n v.corrEn), (30, b2n v.chromaSet), (29, b2n v.form), (0, v.scale)]
  | 4 => v.chroma
  | 8 => pack [(16, v.ceil), (0, v.floor)]
  | _ => 0

/-- LGT's registers. -/
def lgtRead (s : State) (off : Nat) : Word :=
  if off = 0x0000 then 0x01000001
  else if off = 0x0004 then pack [(8, deadbandEff s), (0, s.lgt.deadband)]
  else if off = 0x0008 then pack [(16, s.lgt.usedUs), (0, s.lgt.changed)]
  else if off = 0x000C then w32 s.lgt.worst
  else if off = 0x0010 then pack [(16, s.lgt.recRefused), (0, min 31 s.lgt.recq.length)]
  else if off = 0x0014 then w32 ((s.lgt.chans.filter fun p => p.2.out.flags ≠ 0).length)
  else if off = 0x001C then w32 ((s.lgt.cmds.filter fun c => c.state = .pending || c.state = .active).length)
  else if 0x0100 ≤ off ∧ off < 0x01C0 then
    let l := locus ((off - 0x0100) / 4)
    pack [(16, l.1), (0, l.2)]
  else if 0x0200 ≤ off ∧ off < 0x0300 then groupRead s ((off - 0x0200) / 0x10) (off % 0x10)
  else if 0x1000 ≤ off ∧ off < 0x1800 then lgtCmdRead (lgtCmd s ((off - 0x1000) / 0x40)) (off % 0x40)
  else if 0x4000 ≤ off ∧ off < 0x8000 then classRead s ((off - 0x4000) / 0x400) (off % 0x400)
  else if 0x10000 ≤ off ∧ off < 0x20000 then chanRead s ((off - 0x10000) / 0x100) (off % 0x100)
  else 0

end Sys2Proof.Machine
end

