-- ==== Sys2Proof/Machine/LocalTime.lean ====
section
/-! DEFINITION. Local time and the sun (R164 to R168). -/
namespace Sys2Proof.Machine

/-- The day (since 1970) of an occurrence of a weekday in a month (R164): week 5 is the last. -/
def nthWeekday (y m week wday : Nat) : Nat :=
  let first := daysOf y m 1
  let d := first + (wday + 7 - weekdayOf first) % 7 + 7 * (week - 1)
  if d ≥ first + monthLen y m then d - 7 else d

/-- The rule that governs a year (R164). -/
def tzRule (s : State) (y : Nat) : TzRule :=
  ((cIdentity s).tz.foldl (fun (a : Option TzRule) r =>
    if r.fromYear ≤ y then
      match a with
      | none => some r
      | some b => if b.fromYear < r.fromYear then some r else some b
    else a) none).getD {}

/-- Start and end of summer time in a year, in UTC seconds (R164). -/
def summerSpan (r : TzRule) (y : Nat) : Nat × Nat :=
  (nthWeekday y r.startMonth r.startWeek r.startWday * 86400 + r.startUtc * 60,
    nthWeekday y r.endMonth r.endWeek r.endWday * 86400 + r.endUtc * 60)

/-- The year of a UTC second. -/
def yearAt (u : Nat) : Nat := (dateOf (u / 86400)).1

/-- Whether summer time is in force at a UTC second (R164). -/
def summerAt (s : State) (u : Nat) : Bool :=
  let r := tzRule s (yearAt u)
  let p := summerSpan r (yearAt u)
  r.dstDelta ≠ 0 && (if p.1 < p.2 then p.1 ≤ u && u < p.2 else !(p.2 ≤ u && u < p.1))

/-- The local offset in force at a UTC second, in minutes (R164). -/
def offsetAt (s : State) (u : Nat) : Int :=
  let r := tzRule s (yearAt u)
  if summerAt s u then r.stdOffset + r.dstDelta else r.stdOffset

/-- Local seconds since 1970 of a UTC second. -/
def localAt (s : State) (u : Nat) : Nat := ((u : Int) + offsetAt s u * 60).toNat

/-- The years whose rules can govern a local second: that of its date and its neighbours. -/
def yearsAbout (l : Nat) : List Nat := [yearAt l - 1, yearAt l, yearAt l + 1]

/-- The earliest of some instants. -/
def earliest (l : List Nat) : Option Nat :=
  l.foldl (fun (a : Option Nat) u => match a with
    | none => some u
    | some b => some (min b u)) none

/-- The UTC seconds at which local clocks show a local second. -/
def shownAt (s : State) (l : Nat) : List Nat :=
  ((yearsAbout l).flatMap fun y =>
    let r := tzRule s y
    [((l : Int) - (r.stdOffset + r.dstDelta) * 60).toNat, ((l : Int) - r.stdOffset * 60).toNat]).filter fun u => localAt s u = l

/-- The changes of the local offset about a local second: starts and ends of summer time, and the New Year at which another rule may begin. -/
def changesAbout (s : State) (l : Nat) : List Nat :=
  (yearsAbout l).flatMap fun y =>
    let p := summerSpan (tzRule s y) y
    [p.1, p.2, daysOf y 1 1 * 86400]

/-- The UTC second of a local second (R165): the first occurrence; a local time that does not exist maps to the change that skips it. -/
def utcOfLocal (s : State) (l : Nat) : Nat :=
  match earliest (shownAt s l) with
  | some u => u
  | none =>
    (earliest ((changesAbout s l).filter fun u => localAt s (u - 1) < l && l < localAt s u)).getD
      ((l : Int) - (tzRule s (yearAt l)).stdOffset * 60).toNat

/-- UTC at a network time in ns (R164), held at second 59 through an inserted leap second (R166). -/
def utcHeld (s : State) (ns : Nat) : Nat :=
  let u := (((ns / giga : Nat) : Int) - s.tim.taiUtc).toNat
  if s.tim.leap = 1 && u % 86400 = 0 && (dateOf (u / 86400)).2.2 = 1 then u - 1 else u

/-- The altitude of an event in 0.001 degree and whether the sun rises through it (R167): kinds 0 CIVIL_DAWN, 1 SUNRISE, 2 SUNSET,
3 CIVIL_DUSK. -/
def sunMark (kind : Nat) : Int × Bool := (if kind = 1 || kind = 2 then -833 else -6000, kind < 2)

/-- Whether the sun crosses an event's altitude in its direction within the second that ends at UTC second `u`. -/
def sunCrosses (s : State) (kind u : Nat) : Bool :=
  let alt := Config.sunAltitude (cIdentity s).lat (cIdentity s).lon
  let m := sunMark kind
  if m.2 then alt (u - 1) < m.1 && m.1 ≤ alt u else m.1 < alt (u - 1) && alt u ≤ m.1

/-- The error of a computed event: within 60 s for latitudes up to 65 degrees and the years 2000 to 2399 (R167). -/
def sunError (s : State) (kind u : Nat) : Int :=
  let i := cIdentity s
  let e := Config.sunError kind i.lat i.lon u
  if i.lat.natAbs ≤ 65000000 && 2000 ≤ yearAt u && yearAt u < 2400 then max (-60) (min 60 e) else e

/-- A solar event of a local date, in seconds after local midnight, none when the sun does not cross the altitude between that midnight and
the next (R167, R168). -/
def sunSec (s : State) (kind day : Nat) : Option Nat :=
  let m := utcOfLocal s (day * 86400)
  let len := utcOfLocal s ((day + 1) * 86400) - m
  ((List.range len).find? fun n => sunCrosses s kind (m + n)).map fun n =>
    min ((Int.ofNat n + sunError s kind (m + n)).toNat) (len - 1)

/-- Whether a local date is a special date (R171). -/
def specialDay (s : State) (day : Nat) : Bool :=
  let d := dateOf day
  (cSchedules s).special.any fun x => x.1 = d.2.1 && x.2.1 = d.2.2 && (x.2.2 = 0 || x.2.2 = d.1)

/-- The local date now, in days since 1970. -/
def localDay (s : State) : Nat := localAt s (utcHeld s (nowNs s)) / 86400

/-- ASTRONOMICAL_EVENTS (R167): the date for which events are held moves on in the first Recovery after local midnight. -/
def sunUpdate (s : State) : State :=
  if !timeValid s then s else { s with crs := { s.crs with sunDay := some (localDay s) } }

end Sys2Proof.Machine
end

