-- ==== Sys2Proof/Machine/Schedule.lean ====
section
/-! DEFINITION. Schedule programs, modes, mode requests (R169 to R176) and the registers of CRS that show them. -/
namespace Sys2Proof.Machine

/-- CRS's state changed. -/
def setCrs (s : State) (f : CrsState → CrsState) : State := { s with crs := f s.crs }

/-! ## Steps (R169 to R172) -/

def stepKind (t : Word) : Nat := t.field 31 29
def stepDays (t : Word) : Nat := t.field 28 21
def stepMode (t : Word) : Nat := t.field 20 18
def stepFallback (t : Word) : Nat := t.field 17 11
def stepOfs (t : Word) : Nat := t.field 10 0

/-- R170's test of a step as it will stand. -/
def stepOk (t tgt chroma : Word) : Bool :=
  let k := stepKind t
  let ofs := sval 11 (stepOfs t)
  k < 6 && stepMode t ≠ 5 && stepMode t ≠ 6 && stepFallback t ≤ 95 &&
    (k ≠ 1 || stepOfs t < 1440) && (k < 2 || (-720 ≤ ofs && ofs ≤ 720)) && (k = 0 || targetOk tgt chroma)

/-- The pairs of a step all match (R70). -/
def stepPairs (x : Step) : Bool := pairOk x.trig && pairOk x.tgt && pairOk x.chroma

/-- A program as CRS holds it. -/
def program (s : State) (p : Nat) : List Step := nth s.crs.progs p []

/-- The trigger instant of a step on a local date, in UTC seconds (R172). -/
def trigger (s : State) (t : Word) (day : Nat) : Int :=
  let k := stepKind t
  if k = 1 then utcOfLocal s (day * 86400 + stepOfs t * 60)
  else
    match sunSec s (k - 2) day with
    | some n => (utcOfLocal s (day * 86400) : Int) + n + sval 11 (stepOfs t) * 60
    | none => utcOfLocal s (day * 86400 + stepFallback t * 900)

/-- Whether a program has steps for special days (R171). -/
def hasSpecial (l : List Step) : Bool := l.any fun x => stepKind x.trig.v ≠ 0 && stepDays x.trig.v / 128 = 1

/-- Whether a step applies on a local date (R171). -/
def applies (s : State) (l : List Step) (t : Word) (day : Nat) : Bool :=
  stepKind t ≠ 0 && stepKind t < 6 &&
    (if specialDay s day && hasSpecial l then stepDays t / 128 = 1
     else stepDays t / 2 ^ weekdayOf day % 2 = 1)

/-- The step in force (R172) among those that `sel` takes, at UTC second `u`, over local dates D−1 and D. -/
def inForce (s : State) (l : List Step) (sel : Word → Bool) (u : Nat) : Option Nat :=
  let day := localAt s u / 86400
  let cand := [day - 1, day].flatMap fun d =>
    ((List.range l.length).zip l).filterMap fun p =>
      if stepPairs p.2 && sel p.2.trig.v && applies s l p.2.trig.v d && trigger s p.2.trig.v d ≤ u then
        some (trigger s p.2.trig.v d, p.1)
      else none
  (cand.foldl (fun (a : Option (Int × Nat)) c =>
    match a with
    | none => some c
    | some b => if b.1 < c.1 || (b.1 = c.1 && b.2 < c.2) then some c else some b) none).map Prod.snd

/-- The steps skipped on a pair mismatch, one bit per step (R70, R194). -/
def skippedSteps (l : List Step) : Nat :=
  (((List.range l.length).zip l).filter fun p => !stepPairs p.2).foldl (fun a p => a + 2 ^ p.1) 0

/-- The state of a program at a UTC second: STEP and skipped steps. -/
def progEval (s : State) (u p : Nat) : Nat × Nat :=
  let l := program s p
  ((inForce s l (fun _ => true) u).getD 0x1F, skippedSteps l)

/-- The base mode at a UTC second (R173). -/
def baseModeAt (s : State) (u : Nat) : Nat :=
  let l := program s (cSchedules s).modeProgram
  match inForce s l (fun t => stepMode t ≠ 7) u with
  | some i => stepMode (nth l i {}).trig.v
  | none => 2

/-- The schedule words of a program's step in force (R172): target and chromaticity, flux 0 when there is none. -/
def progLevel (s : State) (p step : Nat) : Word × Word :=
  if step = 0x1F then (0, 0)
  else
    let x := nth (program s p) step {}
    (x.tgt.v, x.chroma.v)

/-! ## Mode requests (R174, R175) -/

/-- A slot. -/
def mreq (s : State) (m : Nat) : MReq := nth s.crs.mreqs m {}

/-- The state with a slot changed. -/
def setMreq (s : State) (m : Nat) (f : MReq → MReq) : State := setCrs s fun c => { c with mreqs := upd c.mreqs m f }

def MReq.start (m : MReq) : Nat := m.startHi * frac + m.startLo
def MReq.endSec (m : MReq) : Nat := m.endHi * frac + m.endLo

/-- R174's tests of a request that is to become PENDING. -/
def mreqErr (s : State) (m : MReq) : Err :=
  if m.endSec ≠ 0 && m.endSec ≤ m.start then .range
  else if m.start ≠ 0 && !timeAdmits s then .noSlack
  else .ok

/-- A request becomes PENDING (R174): a START of 0 or past applies under R26. -/
def mreqPending (s : State) (m : Nat) : State :=
  setMreq s m fun r =>
    { r with state := .pending, cancelAt := none,
             dueAt := if r.start = 0 || r.start * giga ≤ nowNs s then some (dueBoundary s) else none }

/-- STATE 0x0 written to a request slot (R174). -/
def mreqCancel (s : State) (m : Nat) : State :=
  setMreq s m fun r =>
    match r.state with
    | .free => r
    | .ended => {}
    | _ => if r.cancelAt = none then { r with cancelAt := some (dueBoundary s) } else r

/-- A request at a stroke boundary (R174): but for a cancel its state follows network time as it stands, also back over a negative step (R163). -/
def mreqAtBoundary (s : State) (r : MReq) : MReq :=
  let due := fun (o : Option Nat) (d : Bool) => match o with
    | some b => decide (b ≤ s.cox.count)
    | none => d
  if r.state = .free || r.cancelled then r
  else if due r.cancelAt false then { r with state := .ended, cancelAt := none, cancelled := true }
  else if !due r.dueAt true || s.cox.start < r.start * giga then { r with state := .pending }
  else if r.endSec ≠ 0 && r.endSec * giga ≤ s.cox.start then { r with state := .ended, cancelAt := none }
  else { r with state := .active }

/-- The current mode that the base mode and the ACTIVE requests give (R175). -/
def modeOf (base : Nat) (l : List MReq) : Nat :=
  l.foldl (fun a r => if r.state = .active then max a r.mode else a) base

/-- The cause of a mode change (R175, R403). -/
def modeCause (s : State) (new : Nat) : Nat :=
  if s.crs.baseMode = new then 0
  else 0x10 + ((List.range 8).find? fun m => (mreq s m).state = .active && (mreq s m).mode = new).getD 0

/-- MODE_CHANGE (R175): at Catch the current mode is judged; a change brings the mode's Trim and an EVQ record. -/
def modeAtBoundary (s : State) : State :=
  let s := setCrs s fun c => { c with mreqs := c.mreqs.map (mreqAtBoundary s) }
  let new := modeOf s.crs.baseMode s.crs.mreqs
  let old := s.crs.mode
  if new = old then s
  else
    let s := { setCrs s fun c => { c with mode := new } with cfg := { s.cfg with overlayMode := new } }
    event s .crs 0x0701 0 (modeCause s new * 256 + old * 16 + new) 0

/-- SUSP (R176). -/
def suspNow (s : State) : Bool := s.rtc.osf && !timeValid s

/-- STAGGER in use (R125, R177). -/
def staggerEff (s : State) : Nat := trimmed s .stagger s.crs.stagger

/-- Schedule steps and CRS_CTRL writes whose boundary has come (R26, R170): part `.2.2.1` 0 trigger, 1 target, 2 chromaticity. -/
def crsDues (s : State) : State :=
  let due := fun (b : Nat) => decide (b ≤ s.cox.count)
  let steps := s.crs.stepsNext.filter fun x => due x.2.2.2.2
  let putStep := fun (l : List (List Step)) (x : Nat × Nat × Nat × Word × Nat) =>
    upd l x.1 fun p => upd p x.2.1 fun t =>
      match x.2.2.1 with
      | 0 => { t with trig := pairOf x.2.2.2.1 }
      | 1 => { t with tgt := pairOf x.2.2.2.1 }
      | _ => { t with chroma := pairOf x.2.2.2.1 }
  setCrs s fun c =>
    { c with
      progs := steps.foldl putStep c.progs
      stepsNext := c.stepsNext.filter fun x => !due x.2.2.2.2
      stagger := match c.staggerNext with
        | some (v, b) => if due b then v else c.stagger
        | none => c.stagger
      staggerNext := match c.staggerNext with
        | some (v, b) => if due b then none else some (v, b)
        | none => none }

/-- A step as it stands after the writes that wait for their boundary (R170). -/
def stepPending (s : State) (p i : Nat) : Word × Word × Word :=
  let x := nth (program s p) i {}
  let last := fun (k : Nat) (d : Word) =>
    ((s.crs.stepsNext.reverse.find? fun y => y.1 = p && y.2.1 = i && y.2.2.1 = k).map fun y => y.2.2.2.1).getD d
  (last 0 x.trig.v, last 1 x.tgt.v, last 2 x.chroma.v)

/-- The Rig's programs as CRS holds them after a module reset (R169, R170). -/
def rigPrograms (s : State) : List (List Step) :=
  (List.range 32).map fun p => (List.range 24).map fun i =>
    let x := nth (nth (cSchedules s).programs p []) i {}
    { trig := pairOf x.trig, tgt := pairOf x.tgt, chroma := pairOf x.chroma }

end Sys2Proof.Machine
end

