-- ==== Sys2Proof/Machine/Corridor.lean ====
section
/-! DEFINITION. Corridors, handoffs, start stagger and the evaluation of a stroke (R162, R163, R177 to R194). -/
namespace Sys2Proof.Machine

/-! ## Courses (R179, R180) -/

/-- A course with the values in use of its trimmable parameters (R125, R179). -/
def course (s : State) (c : Nat) : CourseCfg :=
  let k := nth (cCourses s).courses c {}
  { k with enable := trimmed s (.courseEnable c) (b2n k.enable) = 1, classMask := trimmed s (.courseClassMask c) k.classMask,
           pass := w32 (trimmed s (.coursePass c) k.pass.toNat), lead := trimmed s (.courseLead c) k.lead,
           dwell := trimmed s (.courseDwell c) k.dwell, rampDn := trimmed s (.courseRampDn c) k.rampDn }

/-- The binding of a detector (R180). -/
def binding (s : State) (nat : Nat) : Option DetectorCfg := (cCourses s).detectors.find? fun d => d.nat = nat

/-- A speed clamped to a course (R182). -/
def clampSpeed (k : CourseCfg) (v : Nat) : Nat := max k.vMin (min v k.vMax)

/-- Whether a class is in the mask (R182). -/
def classIn (k : CourseCfg) (cls : Nat) : Bool := cls < 3 && k.classMask / 2 ^ cls % 2 = 1

/-! ## Prediction (R183, R184) -/

/-- The distance ahead of the detection point in 0.1 m. -/
def ahead (c : Corridor) (chainage : Nat) : Int :=
  if c.neg then (c.cd : Int) - chainage else (chainage : Int) - c.cd

/-- Travel time in ns of a distance in 0.1 m at a speed in cm/s, truncated. -/
def travel (d : Int) (v : Nat) : Nat := d.toNat * 10 * giga / v

/-- The predicted arrival at a chainage, when it is covered (R183). -/
def arrivalAt (k : CourseCfg) (c : Corridor) (chainage : Nat) : Option Nat :=
  let d := ahead c chainage
  let t := travel (max d 0) c.speed
  if d < -(k.back : Int) || t > k.tHor * 10000000 then none else some (c.td + t)

/-- t_dl of the port that serves a lantern, in ns (R184). -/
def tDl (s : State) (chan : Nat) : Nat :=
  let p := match natOfChan s chan with
    | some e => e.2.port
    | none => 0
  let k := radCfg s p
  20000000 + (1 + k.rDn) * (1 + k.hDn) * (if k.slot10 then 10000000 else 5000000) + 10000000

/-- The window of a covered entry: ramp start and end of the hold, in ns (R183). -/
def windowOf (k : CourseCfg) (t : Nat) : Int × Int := ((t : Int) - k.lead * 10000000, (t : Int) + k.dwell * 10000000)

/-- The boost a corridor gives a channel at time `t` (R184). -/
def boostOf (s : State) (t : Nat) (c : Corridor) (ch : Nat) : Option Boost :=
  let k := course s c.course
  let at_ := t + tDl s ch
  (k.entries.filter fun e => e.1 = ch).findSome? fun e =>
    match arrivalAt k c e.2 with
    | some a =>
      let w := windowOf k a
      if w.1 ≤ at_ && (at_ : Int) < w.2 then some { start := w.1, pass := k.pass, rampDn := k.rampDn } else none
    | none => none

/-- The boost a channel gets (R186): the highest pass flux, and of those the earliest ramp start. -/
def bestBoost (s : State) (t : Nat) (l : Tab Corridor) (ch : Nat) : Option Boost :=
  (l.filterMap fun p => boostOf s t p.2 ch).foldl (fun a b =>
    match a with
    | none => some b
    | some x =>
      if fluxOf x.pass < fluxOf b.pass || (fluxOf x.pass = fluxOf b.pass && b.start < x.start) then some b else some x) none

/-- Whether some entry of a corridor is active or still to become active at time `t` (R186). -/
def corrLive (s : State) (t : Nat) (c : Corridor) : Bool :=
  let k := course s c.course
  k.entries.any fun e =>
    match arrivalAt k c e.2 with
    | some a => ((t + tDl s e.1 : Nat) : Int) < (windowOf k a).2
    | none => false

/-! ## Handoff conditions (R188) -/

/-- The link and the predicted arrival at the end lantern in the direction of travel, when covered and linked. -/
def endOf (s : State) (c : Corridor) : Option (CourseLink × Nat) :=
  let k := course s c.course
  let link := if c.neg then k.linkLo else k.linkHi
  match (if c.neg then k.entries.head? else k.entries.getLast?) with
  | none => none
  | some e =>
    match arrivalAt k c e.2 with
    | some a => if link.valid then some (link, a) else none
    | none => none

/-- The neighbour arrival time (R188). -/
def nbrArrival (s : State) (c : Corridor) : Option (CourseLink × Nat) :=
  (endOf s c).map fun p => (p.1, p.2 + travel p.1.gap c.speed)

/-- Whether a corridor waits for its handoff or for a handoff's outcome (R186). -/
def handoffOpen (s : State) (r : Nat) (c : Corridor) : Bool :=
  (c.owed && (endOf s c).isSome) || s.crs.hoMet.contains r || s.crs.handoffs.any fun h => h.corr = r && h.outcome = none

/-! ## Events (R181, R182, R186, R187, R192) -/

/-- The fields of a detector payload (R181): type, REV, SPEED_VALID, class, speed, age. -/
def payloadOf (b : List Byte) : Nat × Bool × Bool × Nat × Nat × Nat :=
  let g := fun i => (nth b i 0).toNat
  (g 0, g 1 % 2 = 1, g 1 / 2 % 2 = 1, g 1 / 4 % 4, g 2 + 256 * g 3, g 4 + 256 * g 5)

/-- Counts of CRS, saturating. -/
def evtRefused (s : State) : State := setCrs s fun c => { c with evtRef := inc32 c.evtRef }

/-- The DETECTOR record of an event (R402). -/
def detectorRecord (s : State) (e : CorrEvent) (result : Nat) : State :=
  record s 2 0x12 .crs result e.sfd e.qual [BitVec.ofNat 64 (ofLe (leBytes 2 e.nat ++ e.payload.take 6))]

/-- R182's tests in order: 0 when the event makes a corridor. -/
def eventResult (s : State) (e : CorrEvent) : Nat :=
  let p := payloadOf e.payload
  if p.1 ≠ 1 then 7
  else
    match binding s e.nat with
    | none => 1
    | some d =>
      let k := course s d.course
      if !k.enable then 2
      else if !classIn k p.2.2.2.1 then 3
      else if p.2.2.2.2.2 > 20000 then 4
      else if s.crs.susp then 5
      else 0

/-- The corridor an accepted event asks for (R182). -/
def eventCorridor (s : State) (e : CorrEvent) : Corridor :=
  let p := payloadOf e.payload
  let d := (binding s e.nat).getD {}
  let k := course s d.course
  { course := d.course, neg := p.2.1 ≠ d.reverse, speed := if p.2.2.1 then clampSpeed k p.2.2.2.2.1 else k.vDef, cls := p.2.2.2.1,
    td := e.td, cd := d.chainage, nat := e.nat }

/-- The corridor an accepted handoff makes (R192). -/
def handoffCorridor (s : State) (e : CorrEvent) : Corridor :=
  { course := e.course, neg := e.neg, speed := clampSpeed (course s e.course) e.speed, cls := e.cls, td := e.td, cd := e.cd,
    ident := e.ident, nbr := e.nbr }

/-- The lowest free corridor record. -/
def freeCorr (s : State) : Option Nat := (List.range 256).find? fun r => tget s.crs.corrs r = none

/-- The record a full table merges into (R186): same course and direction, latest t_d. -/
def mergeTarget (s : State) (c : Corridor) : Option Nat :=
  ((s.crs.corrs.filter fun p => p.2.course = c.course && p.2.neg = c.neg).foldl (fun (a : Option (Nat × Corridor)) p =>
    match a with
    | none => some p
    | some q => if q.2.td < p.2.td then some p else some q) none).map Prod.fst

/-- A merged record (R186, R188): a neighbour arrival moved by more than 1 s owes a new handoff. -/
def mergedCorr (s : State) (old new : Corridor) : Corridor :=
  let c := { old with td := new.td, cd := new.cd, speed := new.speed }
  let moved := match old.arrival, nbrArrival s c with
    | some a, some b => decide (max a b.2 - min a b.2 > giga)
    | _, _ => false
  { c with owed := old.owed || moved }

/-- A corridor is put in a record (R186): a free one, or a merge; none left is FULL. -/
def addCorridor (s : State) (c : Corridor) : State × Bool :=
  match freeCorr s with
  | some r =>
    let c := if c.nbr.isSome then c else { c with ident := s.crs.nextIdent }
    (setCrs s fun x =>
      { x with corrs := tput x.corrs r c, nextIdent := if c.nbr.isSome then x.nextIdent else (x.nextIdent + 1) % frac }, true)
  | none =>
    match mergeTarget s c with
    | some r =>
      (setCrs s fun x => { x with corrs := tput x.corrs r (mergedCorr s (tgetD x.corrs r {}) c), merged := inc32 x.merged }, true)
    | none => (s, false)

/-- A detector event is evaluated (R182). -/
def evalEvent (s : State) (e : CorrEvent) : State :=
  let r := eventResult s e
  if r ≠ 0 then
    let s := detectorRecord s e r
    if r = 7 then s else evtRefused s
  else
    let a := addCorridor s (eventCorridor s e)
    if a.2 then setCrs (detectorRecord a.1 e 0) fun c => { c with evtIn := inc32 c.evtIn }
    else evtRefused (detectorRecord a.1 e 6)

/-- An accepted handoff is evaluated (R192): it replaces the corridor with the same SENDER and CORRIDOR. -/
def evalHandoff (s : State) (e : CorrEvent) : State :=
  let c := handoffCorridor s e
  match s.crs.corrs.find? fun p => p.2.nbr = e.nbr && p.2.ident = e.ident with
  | some p => setCrs s fun x => { x with corrs := tput x.corrs p.1 c }
  | none => (addCorridor s c).1

/-- The order of events of one stroke (R187). -/
def eventLe (a b : CorrEvent) : Bool :=
  let key := fun (e : CorrEvent) => match e.nbr with
    | some n => n
    | none => 8 + e.nat
  a.td < b.td || (a.td = b.td && key a ≤ key b)

/-- Events and handoffs accepted before this stroke are evaluated (R162, R187). -/
def evalEvents (s : State) : State :=
  let now := s.crs.events.filter fun e => e.accepted < s.cox.count
  let s := setCrs s fun c => { c with events := c.events.filter fun e => !(e.accepted < s.cox.count) }
  (now.mergeSort eventLe).foldl (fun s e => if e.nbr.isSome then evalHandoff s e else evalEvent s e) s

/-! ## Handoffs sent (R188, R189, R191, R193) -/

/-- A neighbour entry. -/
def nbrCfg (s : State) (n : Nat) : Option NeighbourCfg := (cCourses s).neighbours[n]?

/-- The state towards a neighbour. -/
def nbr (s : State) (n : Nat) : NbrState := nth s.crs.nbrs n {}

/-- The state with that towards a neighbour changed. -/
def setNbr (s : State) (n : Nat) (f : NbrState → NbrState) : State := setCrs s fun c => { c with nbrs := upd c.nbrs n f }

/-- The handoff key of a neighbour (R191). -/
def nbrKey (s : State) (n : Nat) : Option Key := (nbrCfg s n).bind fun k => sharedKey s k.keySlot

/-- Whether messages to and from a neighbour may be made: its key is held and no floor is lost (R191, R275). -/
def nbrReady (s : State) (n : Nat) : Bool := (nbrKey s n).isSome && !(nbr s n).suspended

/-- The next COUNTER towards a neighbour, its floor saved first (R191, R273): none when the write fails. -/
def nbrCounter (s : State) (n : Nat) : State × Option Nat :=
  let c := (nbr s n).tx
  let f := floorOf s.ledr.hoTx n
  let w := if f / 256 < c / 256 then ledgerWrite s .crs fun s => setLedr s fun l => { l with hoTx := floorPut l.hoTx n (c / 256 * 256) }
           else (s, true)
  if w.2 then (setNbr w.1 n fun x => { x with tx := c + 1 }, some c) else (w.1, none)

/-- Octets of a handoff datagram's frame: 18 of Ethernet, IP, UDP, header, body and tag (R190). -/
def handoffOctets (s : State) (n body : Nat) : Nat :=
  max 64 (18 + (if ((nbrCfg s n).getD {}).ipv6 then 40 else 20) + 8 + 20 + body + 16)

/-- The body of a handoff (R190). -/
def handoffBody (c : Corridor) (l : CourseLink) (arr : Nat) : List Byte :=
  leBytes 1 l.course ++ leBytes 1 (b2n (c.neg ≠ l.rev) + c.cls * 4) ++ leBytes 2 c.speed ++ leBytes 4 c.ident ++
    leBytes 4 l.entry ++ leBytes 6 (arr / giga) ++ leBytes 4 (arr % giga) ++ leBytes 2 0

/-- The header of a message to a neighbour (R190). -/
def handoffHeader (s : State) (typ counter : Nat) : List Byte :=
  leBytes 4 0x464F4856 ++ leBytes 1 1 ++ leBytes 1 typ ++ leBytes 2 0 ++ leBytes 4 (cIdentity s).segId ++ leBytes 8 counter

/-- The nonce of a message: SENDER followed by COUNTER, the octets 8 to 19 of its header (R190). -/
def handoffNonce (header : List Byte) : List Byte := header.drop 8

/-- A message sealed under the handoff key of a neighbour: header, ciphertext and tag (R190). -/
def sealHandoff (k : Key) (header body : List Byte) : List Byte :=
  let c := gcmCrypt (keyBytes k) (handoffNonce header) body
  header ++ c ++ gcmTag (keyBytes k) (handoffNonce header) header c

/-- A message opened (R190, R192): its body, none when its form is wrong or its tag fails. -/
def openHandoff (k : Key) (typ size : Nat) (data : List Byte) : Option (List Byte) :=
  let header := data.take 20
  let c := (data.drop 20).take size
  if data.length = 20 + size + 16 && header.take 6 = leBytes 4 0x464F4856 ++ leBytes 1 1 ++ leBytes 1 typ &&
      data.drop (20 + size) = gcmTag (keyBytes k) (handoffNonce header) header c then
    some (gcmCrypt (keyBytes k) (handoffNonce header) c)
  else none

/-- A message to a neighbour, under its key. -/
def handoffDatagram (s : State) (n typ counter : Nat) (body : List Byte) : List Byte :=
  match nbrKey s n with
  | some k => sealHandoff k (handoffHeader s typ counter) body
  | none => []

/-- HANDOFF_BUILD (R189): in Drive of the stroke after R188 is met. -/
def buildHandoff (s : State) (r : Nat) : State :=
  match tget s.crs.corrs r with
  | none => s
  | some c =>
    match nbrArrival s c with
    | none => s
    | some (l, arr) =>
      if !nbrReady s l.nbr then s
      else
        let q := nbrCounter s l.nbr
        match q.2 with
        | none => setCrs q.1 fun x => { x with hoMet := x.hoMet ++ [r] }
        | some n =>
          setCrs q.1 fun x =>
            { x with
              corrs := tput x.corrs r { c with arrival := some arr }
              handoffs := x.handoffs ++ [{ nbr := l.nbr, corr := r, ident := c.ident, counter := n,
                                           data := handoffDatagram s l.nbr 1 n (handoffBody c l arr) }] }

/-- A record of a handoff (R403 code 0x0702). -/
def handoffEvent (s : State) (h : Handoff) (result : Nat) : State := event s .crs 0x0702 (h.nbr * 256 + result) h.ident h.counter

/-- The port a neighbour's datagrams leave by. -/
def nbrPort (s : State) (n : Nat) : Nat := ((nbrCfg s n).getD {}).port

/-- A handoff datagram is given to ETH in the express class (R189). -/
def transmitHandoff (s : State) (h : Handoff) : State :=
  (ethQueue s (nbrPort s h.nbr) 0 ⟨.handoff h.nbr h.data, handoffOctets s h.nbr 24⟩).1

/-- The state with the handoff of a neighbour and counter changed. -/
def setHandoff (s : State) (n counter : Nat) (f : Handoff → Handoff) : State :=
  setCrs s fun c => { c with handoffs := c.handoffs.map fun h => if h.nbr = n && h.counter = counter then f h else h }

/-- HANDOFF_SEND: CRS releases what it has built at Finish (R189). -/
def releaseHandoffs (s : State) : State :=
  (s.crs.handoffs.filter fun h => h.firstAt = none).foldl (fun s h =>
    let s := handoffEvent (transmitHandoff s h) h 0xFE
    let s := setHandoff s h.nbr h.counter fun h => { h with firstAt := some (nowNs s), attempts := 1 }
    setCrs s fun c =>
      { c with hoSent := inc32 c.hoSent
               corrs := match tget c.corrs h.corr with
                 | some k => tput c.corrs h.corr { k with handed := true }
                 | none => c.corrs }) s

/-- HANDOFF_REPEAT (R189): the identical datagram, T_Srep after an attempt, r_S times. -/
def handoffRepeat (s : State) (n counter : Nat) : State :=
  match s.crs.handoffs.find? fun h => h.nbr = n && h.counter = counter with
  | none => s
  | some h =>
    match h.firstAt with
    | none => s
    | some t =>
      if h.outcome ≠ none || h.attempts > (cGuar s).rS || !isRunning s .crs then s
      else
        let s := advanceTo s (t + h.attempts * (cGuar s).tSrep * 1000)
        setHandoff (transmitHandoff s h) n counter fun h => { h with attempts := h.attempts + 1 }

/-- An opened ack (R193): matched by COUNTER and CORRIDOR. `result` as R192. -/
def handoffAnswered (s : State) (n counter corridor result : Nat) : State :=
  match s.crs.handoffs.find? fun h => h.nbr = n && h.counter = counter with
  | none => s
  | some h =>
    if h.ident ≠ corridor || h.firstAt = none || !isRunning s .crs then s
    else
      match h.outcome with
      | some o => if o = 0xFF && result ≤ 1 then handoffEvent s h result else s
      | none =>
        let s := handoffEvent s h result
        if result ≤ 1 then setHandoff s n counter fun h => { h with outcome := some result } else s

/-- The neighbour with a segment id. -/
def nbrOf (s : State) (sender : Nat) : Option Nat :=
  (List.range (cCourses s).neighbours.length).find? fun n => (nth (cCourses s).neighbours n {}).segId = sender

/-- A received datagram of a type (R192): the neighbour that sent it and its body, none where it is dropped: MAGIC, VERSION or form wrong,
SENDER no neighbour, key absent, tag failed. -/
def handoffOpened (s : State) (typ size : Nat) (data : List Byte) : Option (Nat × List Byte) :=
  match nbrOf s (argAt data 8 4) with
  | none => none
  | some n =>
    if !nbrReady s n || !isRunning s .crs then none
    else ((nbrKey s n).bind fun k => openHandoff k typ size data).map fun b => (n, b)

/-- HANDOFF_ACK (R190, R193). -/
def handoffAck (s : State) (data : List Byte) : State :=
  match handoffOpened s 2 16 data with
  | none => s
  | some (n, b) => handoffAnswered s n (argAt b 4 8) (argAt b 0 4) (argAt b 12 1)

/-- HANDOFF_UNCONFIRMED (R193): 50 ms after the first attempt. -/
def handoffUnconfirmed (s : State) (n counter : Nat) : State :=
  match s.crs.handoffs.find? fun h => h.nbr = n && h.counter = counter with
  | none => s
  | some h =>
    match h.firstAt, h.outcome with
    | some t, none =>
      let s := advanceTo s (t + 50000000)
      let s := handoffEvent (setHandoff s n counter fun h => { h with outcome := some 0xFF }) h 0xFF
      setCrs s fun c => { c with hoUnconf := inc32 c.hoUnconf }
    | _, _ => s

/-! ## Handoffs received (R192) -/

/-- The fields of an opened HANDOFF (R190). -/
def handoffMsg (data body : List Byte) : HandoffMsg :=
  let f := argAt body 1 1
  { counter := argAt data 12 8, course := argAt body 0 1, neg := f % 2 = 1, cls := f / 4 % 4, speed := argAt body 2 2,
    corridor := argAt body 4 4, entry := argAt body 8 4, arrSec := argAt body 12 6, arrNs := argAt body 18 4 }

/-- Whether a course has a link to a neighbour. -/
def linkedTo (s : State) (c n : Nat) : Bool :=
  let k := course s c
  c < 64 && k.valid && ((k.linkLo.valid && k.linkLo.nbr = n) || (k.linkHi.valid && k.linkHi.nbr = n))

/-- The RESULT of a handoff that is new (R192). -/
def handoffResult (s : State) (n : Nat) (m : HandoffMsg) : Nat :=
  let arr := m.arrSec * giga + m.arrNs
  let k := course s m.course
  if !linkedTo s m.course n then 2
  else if arr + 2 * giga < nowNs s then 3
  else if nowNs s + 60 * giga ≤ arr then 4
  else if !k.enable || !classIn k m.cls || s.crs.susp then 5
  else 0

/-- The ack of a handoff (R190, R192). -/
def sendHandoffAck (s : State) (n : Nat) (m : HandoffMsg) (result : Nat) : State :=
  let q := nbrCounter s n
  match q.2 with
  | none => q.1
  | some c =>
    (ethQueue q.1 (nbrPort s n) 0 ⟨.handoffAck n (handoffDatagram s n 2 c (leBytes 4 m.corridor ++ leBytes 8 m.counter ++
      leBytes 1 result ++ leBytes 3 0)), handoffOctets s n 16⟩).1

/-- The highest accepted COUNTER of a neighbour and its datagram; its floor is owed to this stroke's Recovery (R191, R274). A datagram
answered with a refusal is not accepted: its COUNTER is not taken (R192). -/
def acceptCounter (s : State) (n counter : Nat) (data : List Byte) : State :=
  setCrs (setNbr s n fun x => { x with rx := counter, rxMsg := some data }) fun c =>
    { c with floorOwed := if c.floorOwed.contains n then c.floorOwed else c.floorOwed ++ [n] }

/-- CRS's Recovery work on receive floors (R274): what cannot be written stays owed. -/
def nbrFloorsSave (s : State) : State :=
  s.crs.floorOwed.foldl (fun s n =>
    let c := (nbr s n).rx
    let w := if floorOf s.ledr.hoRx n / 256 < c / 256 then
        ledgerWrite s .crs fun s => setLedr s fun l => { l with hoRx := floorPut l.hoRx n (c / 256 * 256) }
      else (s, true)
    if w.2 then setCrs w.1 fun x => { x with floorOwed := x.floorOwed.erase n } else w.1) s

/-- The corridor event of an accepted handoff (R192). -/
def handoffEventOf (s : State) (n : Nat) (m : HandoffMsg) : CorrEvent :=
  { accepted := s.cox.count, td := m.arrSec * giga + m.arrNs, nbr := some n, course := m.course, neg := m.neg, cd := m.entry, speed := m.speed,
    cls := m.cls, ident := m.corridor }

/-- HANDOFF_RECEIVE (R192). -/
def handoffReceive (s : State) (data : List Byte) : State :=
  match handoffOpened s 1 24 data with
  | none => s
  | some (n, b) =>
    let x := nbr s n
    let m := handoffMsg data b
    if m.counter < x.rx then s
    else if m.counter = x.rx then
      match x.rxMsg with
      | none => s
      | some old => if old = data then sendHandoffAck s n m 1 else event s .crs 0x0702 (n * 256 + 0xFD) m.corridor m.counter
    else
      let r := handoffResult s n m
      if r ≠ 0 then setCrs (sendHandoffAck s n m r) fun c => { c with hoRef := inc32 c.hoRef }
      else
        setCrs (sendHandoffAck (acceptCounter s n m.counter data) n m 0) fun c =>
          { c with hoRecv := inc32 c.hoRecv, events := c.events ++ [handoffEventOf s n m] }

/-! ## Composing the inputs (R162) and handing them (R177, R178, R185) -/

/-- What the schedule and the corridors want for a channel at time `t`; the schedule words are those of the last evaluation (R176). -/
def wanted (s : State) (t : Nat) (k : ChanCfg) : Wanted :=
  let l := match (cSchedules s).assign.find? fun a => a.1 = k.chan with
    | some a => nth s.crs.levels a.2 (0, 0)
    | none => (0, 0)
  { chan := k.chan, group := k.group, feeder := k.feeder, tgt := l.1, chroma := l.2, boost := bestBoost s t s.crs.corrs k.chan }

/-- What is wanted of every configured channel (R162). -/
def composeInputs (s : State) (t : Nat) : State :=
  let ks := (cLight s).channels.mergeSort fun a b => a.chan ≤ b.chan
  setCrs s fun c => { c with next := some (ks.map (wanted s t)) }

/-- The flux handed for a schedule word, scaled by its group's overlay (R136, R177). -/
def handedFlux (s : State) (w : Wanted) : Nat := scaleFlux (fluxOf w.tgt) (groupOverlay s w.group).scale

/-- A channel's own start is due (R177): flux from 0 to non-zero. -/
def startDue (s : State) (w : Wanted) : Bool := !(tgetD s.crs.chans w.chan {}).lit && handedFlux s w ≠ 0

/-- A boost that starts a channel whose handed flux is 0 (R178). -/
def boostStart (s : State) (w : Wanted) : Bool :=
  let c := tgetD s.crs.chans w.chan {}
  w.boost.isSome && !c.flag && !c.lit

/-- The starts released in this stroke on a feeder (R177, R178): boosts first, then the oldest due, then by channel. -/
def releases (s : State) (due boosts : List (Nat × Nat × Nat)) (feeder : Nat) : List Nat :=
  let b := (boosts.filter fun x => x.2.2 = feeder).map fun x => x.2.1
  let q := ((due.filter fun x => x.2.2 = feeder && !b.contains x.2.1).mergeSort fun x y =>
    x.1 < y.1 || (x.1 = y.1 && x.2.1 ≤ y.2.1)).map fun x => x.2.1
  b ++ q.take (staggerEff s - b.length)

/-- The largest RAMP_DN of the courses a channel belongs to (R185). -/
def maxRampDn (s : State) (chan : Nat) : Nat :=
  (List.range (cCourses s).courses.length).foldl (fun a i =>
    let k := course s i
    if k.entries.any fun e => e.1 = chan then max a k.rampDn else a) 0

/-- The ramp of the schedule level handed (R185): RAMP_DN in the stroke in which the flag turns inactive. -/
def handedRamp (s : State) (w : Wanted) : Nat :=
  let c := tgetD s.crs.chans w.chan {}
  if !c.flag || (w.boost.isSome && !s.crs.afterReset) then rampOf w.tgt
  else if s.crs.afterReset then maxRampDn s w.chan else c.rampDn

/-- The input handed for a channel, and what CRS keeps of it (R162, R185). -/
def inputOf (s : State) (deferred : Bool) (w : Wanted) : LightInput × CrsChan :=
  let c := tgetD s.crs.chans w.chan {}
  let boost := if s.crs.afterReset && c.flag then none else w.boost
  ({ sched := pairOf (targetWord (formOf w.tgt) (handedRamp s w) (if deferred then 0 else fluxOf w.tgt)), chroma := pairOf w.chroma,
     corr := boost.isSome, pass := (boost.map Boost.pass).getD 0 },
    { flag := boost.isSome, lit := !deferred && handedFlux s w ≠ 0, rampDn := (boost.map Boost.rampDn).getD c.rampDn })

/-- Catch (R162): the inputs are handed to LGT under the mode that now applies, with at most STAGGER starts on a feeder (R177). -/
def handInputs (s : State) (ws : List Wanted) : State :=
  let dueOf := fun (c : Nat) => ((s.crs.deferQ.find? fun d => d.2 = c).map Prod.fst).getD s.cox.count
  let due := (ws.filter (startDue s)).map fun w => (dueOf w.chan, w.chan, w.feeder)
  let boosts := (ws.filter (boostStart s)).map fun w => (0, w.chan, w.feeder)
  let rel := (List.range 8).flatMap fun f => releases s due boosts f
  let held := due.filter fun d => !rel.contains d.2.1
  let out := ws.map fun w => (w.chan, inputOf s (held.any fun d => d.2.1 = w.chan) w)
  lgtInputs (setCrs s fun c =>
    { c with chans := out.map fun p => (p.1, p.2.2), afterReset := false, deferQ := held.map fun d => (d.1, d.2.1), deferredNow := held.length, next := none,
             staggerCnt := if held = [] then c.staggerCnt else satAdd 16 c.staggerCnt 1 }) (out.map fun p => (p.1, p.2.1))

/-- Programs and the base mode are evaluated (R172, R173), unless R176 suspends them. -/
def evalPrograms (s : State) (t : Nat) : State :=
  if s.crs.susp then s
  else
    let u := utcHeld s t
    let sel := (List.range 32).map (progEval s u)
    let l := localAt s u
    let bad := ((List.range 32).zip sel).any fun p => p.2.2 ≠ (nth s.crs.progState p.1 (0x1F, 0)).2 && p.2.2 ≠ 0
    let s := if bad then pairEvent s .crs 0 else s
    setCrs s fun c =>
      { c with progState := sel, levels := ((List.range 32).zip sel).map fun p => progLevel s p.1 p.2.1, baseMode := baseModeAt s u, localSec := l, utcOfs := offsetAt s u, summer := summerAt s u,
               special := specialDay s (l / 86400), evaluated := true }

/-- Corridors that R188 lets hand over in this stroke. -/
def handoffsMet (s : State) (t : Nat) : List Nat :=
  (s.crs.corrs.filter fun p => p.2.owed &&
    (match nbrArrival s p.2 with
     | some (_, a) => decide (a < t + 50 * giga)
     | none => false)).map Prod.fst

/-- Corridor records that are done (R186). -/
def freeCorridors (s : State) (t : Nat) : State :=
  setCrs s fun c => { c with corrs := c.corrs.filter fun p => corrLive s t p.2 || handoffOpen s p.1 p.2 }

/-- The evaluation of a stroke (R162, R176): for the boundary that begins the next one. It is complete when CRS's Drive step
signals done. -/
def crsEvaluate (s : State) : State :=
  let t := s.cox.ends
  let s := setCrs s fun c => { c with susp := suspNow s }
  let s := evalPrograms s t
  let old := s.crs.hoMet
  let s := setCrs s fun c => { c with hoMet := [] }
  let s := old.foldl buildHandoff s
  let s := evalEvents s
  let met := handoffsMet s t
  let s := setCrs s fun c =>
    { c with hoMet := c.hoMet ++ met
             corrs := c.corrs.map fun p => if met.contains p.1 then (p.1, { p.2 with owed := false }) else p }
  composeInputs (freeCorridors s t) t

/-! ## Station reset and start (R36, R185, R191) -/

/-- A CRS station reset: corridors, their events and handoffs are lost; programs, mode, requests, flags last handed and the counters
towards neighbours are kept. -/
def crsStationReset (s : State) : State :=
  setCrs s fun c =>
    { mode := c.mode, baseMode := c.baseMode, susp := c.susp, evaluated := c.evaluated, localSec := c.localSec, utcOfs := c.utcOfs,
      summer := c.summer, special := c.special, stagger := (cSchedules s).stagger, progs := c.progs, stepsNext := c.stepsNext,
      progState := c.progState, levels := c.levels, mreqs := c.mreqs, sunDay := c.sunDay, nbrs := c.nbrs, chans := c.chans, afterReset := true,
      nextIdent := c.nextIdent, floorOwed := c.floorOwed }

/-- Whether a neighbour's floor is lost at a start (R275). -/
def nbrFloorGone (s : State) (n : Nat) : Bool := floorGone s.ledr.hoTx n || floorGone s.ledr.hoRx n

/-- The state towards a neighbour at a start (R191, R274, R275). -/
def nbrStart (s : State) (n : Nat) : NbrState :=
  if nbrFloorGone s n then { suspended := true } else { tx := floorOf s.ledr.hoTx n + 256, rx := floorOf s.ledr.hoRx n }

/-- The records of the handoff floors that are lost (R70, R275): those of neighbours whose key is held. -/
def nbrFloorsLost (s : State) : State :=
  ((List.range 8).filter fun n => (nbrKey s n).isSome && nbrFloorGone s n).foldl (fun s n =>
    floorLostEvent (pairEvent s .sec 0) (0x8000 + ((nbrCfg s n).getD {}).keySlot) 3) s

/-- CRS at a module start: the Rig's programs, mode NIGHT until an evaluation (R176). -/
def crsStart (s : State) : State :=
  let s := nbrFloorsLost s
  setCrs s fun _ =>
    { stagger := (cSchedules s).stagger, progs := rigPrograms s, nbrs := (List.range 8).map (nbrStart s) }

/-! ## Registers (R194) -/

/-- A link's words: the link register and the ENTRY register. -/
def linkWords (l : CourseLink) : Word × Word :=
  (pack [(31, b2n l.valid), (30, b2n l.rev), (24, l.nbr), (16, l.course), (0, l.gap)], w32 l.entry)

/-- A course's registers. -/
def courseRead (s : State) (c o : Nat) : Word :=
  let k := course s c
  match o with
  | 0x00 => pack [(31, b2n k.valid), (30, b2n k.enable), (16, k.classMask), (0, k.entries.length)]
  | 0x04 => k.pass
  | 0x08 => pack [(16, k.lead), (0, k.dwell)]
  | 0x0C => w32 k.rampDn
  | 0x10 => pack [(16, k.vMax), (0, k.vMin)]
  | 0x14 => w32 k.vDef
  | 0x18 => pack [(16, k.back), (0, k.tHor)]
  | 0x1C => (linkWords k.linkLo).1
  | 0x20 => (linkWords k.linkLo).2
  | 0x24 => (linkWords k.linkHi).1
  | 0x28 => (linkWords k.linkHi).2
  | _ =>
    if 0x100 ≤ o ∧ o < 0x500 then
      let e := nth k.entries ((o - 0x100) / 8) (0, 0)
      if o / 4 % 2 = 0 then w32 e.2 else w32 e.1
    else 0

/-- A corridor record's registers. -/
def corrRead (s : State) (r o : Nat) : Word :=
  match tget s.crs.corrs r with
  | none => 0
  | some c =>
    match o with
    | 0x00 => pack [(31, 1), (30, b2n c.handed), (29, b2n c.nbr.isSome), (26, c.cls), (25, b2n c.neg), (16, c.course), (0, c.speed)]
    | 0x04 => w32 (c.td / giga)
    | 0x08 => w32 (c.td / giga / frac)
    | 0x0C => w32 (c.td % giga)
    | 0x10 => w32 c.cd
    | 0x14 => w32 c.ident
    | 0x18 => pack [(31, b2n c.nbr.isSome), (24, c.nbr.getD 0), (0, c.nat)]
    | _ => 0

/-- A neighbour's registers. -/
def nbrRead (s : State) (n o : Nat) : Word :=
  let k := (nbrCfg s n).getD { segId := 0, keySlot := 0, udpPort := 0 }
  let x := nbr s n
  match o with
  | 0x00 => w32 k.segId
  | 0x04 => pack [(31, b2n (nbrCfg s n).isSome), (30, b2n k.ipv6), (29, k.port), (16, k.keySlot), (0, k.udpPort)]
  | 0x08 => w32 x.tx
  | 0x0C => w32 (x.tx / frac)
  | 0x10 => w32 x.rx
  | 0x14 => w32 (x.rx / frac)
  | _ => 0

/-- A program's registers. -/
def progRead (s : State) (p o : Nat) : Word :=
  if o = 0x300 then
    let x := nth s.crs.progState p (0x1F, 0)
    pack [(24, x.1), (0, x.2)]
  else
    let t := nth (program s p) (o / 0x20) {}
    match o % 0x20 with
    | 0x00 => t.trig.v | 0x04 => t.trig.n | 0x08 => t.tgt.v | 0x0C => t.tgt.n | 0x10 => t.chroma.v | 0x14 => t.chroma.n
    | _ => 0

/-- A mode request's registers. -/
def mreqRead (r : MReq) (o : Nat) : Word :=
  match o with
  | 0x00 => pack [(28, r.state.code), (0, r.mode)]
  | 0x04 => w32 r.startLo
  | 0x08 => w32 r.startHi
  | 0x0C => w32 r.endLo
  | 0x10 => w32 r.endHi
  | _ => 0

/-- CRS_SUN registers (R167): events of date D. -/
def sunWord (s : State) (k : Nat) : Word :=
  match s.crs.sunDay.bind (sunSec s k) with
  | some n => w32 n
  | none => pack [(31, 1)]

/-- The one-word registers of CRS. -/
def crsReadTop (s : State) (off : Nat) : Word :=
  let c := s.crs
  let d := dateOf (c.localSec / 86400)
  match off with
  | 0x0000 => 0x00400020
  | 0x0004 => pack [(28, c.mode), (24, c.baseMode), (23, b2n c.susp), (22, b2n c.summer), (21, b2n c.special), (0, c.corrs.length)]
  | 0x0008 => w32 c.stagger
  | 0x000C => w32 (cIdentity s).segId
  | 0x0010 => pack [(16, d.1), (8, d.2.1), (0, d.2.2)]
  | 0x0014 => pack [(24, weekdayOf (c.localSec / 86400)), (16, c.localSec / 3600 % 24), (8, c.localSec / 60 % 60), (0, c.localSec % 60)]
  | 0x0018 => w32 (sfield 16 c.utcOfs)
  | 0x0020 => sunWord s 0
  | 0x0024 => sunWord s 1
  | 0x0028 => sunWord s 2
  | 0x002C => sunWord s 3
  | 0x0030 => w32 c.evtIn
  | 0x0034 => w32 c.evtRef
  | 0x0038 => w32 c.merged
  | 0x003C => pack [(16, c.staggerCnt), (0, c.deferredNow)]
  | 0x0040 => w32 c.hoSent
  | 0x0044 => w32 c.hoUnconf
  | 0x0048 => w32 c.hoRecv
  | 0x004C => w32 c.hoRef
  | 0x0050 => w32 (cSchedules s).modeProgram
  | _ => 0

/-- CRS's registers. -/
def crsRead (s : State) (off : Nat) : Word :=
  if off < 0x0100 then crsReadTop s off
  else if off < 0x0200 then mreqRead (mreq s ((off - 0x0100) / 0x20)) (off % 0x20)
  else if off < 0x0280 then
    match (cSchedules s).special[(off - 0x0200) / 4]? with
    | some d => pack [(31, 1), (16, d.2.2), (8, d.1), (0, d.2.1)]
    | none => 0
  else if 0x1000 ≤ off ∧ off < 0x9000 then progRead s ((off - 0x1000) / 0x400) (off % 0x400)
  else if 0x9000 ≤ off ∧ off < 0x9400 then
    match (cSchedules s).assign.find? fun a => a.1 = (off - 0x9000) / 4 with
    | some a => pack [(31, 1), (0, a.2)]
    | none => 0
  else if 0x10000 ≤ off ∧ off < 0x30000 then courseRead s ((off - 0x10000) / 0x800) (off % 0x800)
  else if 0x30000 ≤ off ∧ off < 0x32000 then corrRead s ((off - 0x30000) / 0x20) (off % 0x20)
  else if 0x40000 ≤ off ∧ off < 0x40100 then nbrRead s ((off - 0x40000) / 0x20) (off % 0x20)
  else if 0x50000 ≤ off ∧ off < 0x50800 then
    match (cCourses s).detectors[(off - 0x50000) / 8]? with
    | some d => if off / 4 % 2 = 0 then pack [(31, 1), (24, b2n d.reverse), (16, d.course), (0, d.nat)] else w32 d.chainage
    | none => 0
  else 0

end Sys2Proof.Machine
end

