-- ==== Sys2Proof/Machine/Frames.lean ====
section
/-! DEFINITION. The octets of the frames the module sends: nonces (R270), headers and security (R206, R209, R216, R268, R269, R276, R279, R286), FCS.
CCM*, its authenticated octets and the FCS are those of IEEE 802.15.4-2020, which the spec names (log entry 116). -/
namespace Sys2Proof.Machine

/-! ## Check sequences -/

/-- One bit of the 2-octet FCS (reflected, polynomial 0x8408). -/
def fcs16Bit (c : BitVec 16) : BitVec 16 := if c.getLsbD 0 then (c >>> 1) ^^^ 0x8408#16 else c >>> 1

/-- The 2-octet FCS. -/
def fcs16 (l : List Byte) : Nat :=
  (l.foldl (fun (c : BitVec 16) b =>
    fcs16Bit (fcs16Bit (fcs16Bit (fcs16Bit (fcs16Bit (fcs16Bit (fcs16Bit (fcs16Bit (c ^^^ b.setWidth 16))))))))) 0#16).toNat

/-- One bit of the 4-octet FCS (reflected, polynomial 0xEDB88320). -/
def fcs32Bit (c : Word) : Word := if c.getLsbD 0 then (c >>> 1) ^^^ 0xEDB88320#32 else c >>> 1

/-- The 4-octet FCS. -/
def fcs32 (l : List Byte) : Nat :=
  (~~~ l.foldl (fun (c : Word) b =>
    fcs32Bit (fcs32Bit (fcs32Bit (fcs32Bit (fcs32Bit (fcs32Bit (fcs32Bit (fcs32Bit (c ^^^ b.setWidth 32))))))))) 0xFFFFFFFF#32).toNat

/-- A PSDU with the FCS of its port (R196). -/
def withFcs (k : PortCfg) (l : List Byte) : List Byte := l ++ (if k.profile.fcs = 4 then leBytes 4 (fcs32 l) else leBytes 2 (fcs16 l))

/-! ## Nonces (R270) -/

/-- The counter form. -/
def ctrNonce (source counter level : Nat) : List Byte := beBytes 8 source ++ beBytes 4 counter ++ leBytes 1 level

/-- The ASN form. -/
def asnNonce (source asn : Nat) : List Byte := beBytes 8 source ++ leBytes 1 0xFF ++ beBytes 4 asn

/-! ## Headers (R276, R279, R286) -/

/-- The auxiliary security header and the link-sequence IE of a data frame: of the explicit regime (R279) or of normal service (R276). -/
def secHeader (explicit_ : Bool) (keyIndex counter : Nat) : List Byte :=
  if explicit_ then leBytes 1 0x0E ++ leBytes 4 counter ++ leBytes 1 keyIndex
  else leBytes 1 0x2E ++ leBytes 1 keyIndex ++ leBytes 2 0x2402 ++ leBytes 2 counter

/-- The header of a data frame up to MTYPE (R286). -/
def dataHeader (fcf pan : Nat) (dest src : List Byte) (explicit_ : Bool) (keyIndex counter : Nat) : List Byte :=
  leBytes 2 fcf ++ leBytes 2 pan ++ dest ++ src ++ secHeader explicit_ keyIndex counter ++ leBytes 2 0x3F80

/-! ## Secured frames (R269) -/

/-- Level 6: the payload encrypted, a MIC of 8 octets over header and payload. -/
def secured6 (k : PortCfg) (key : Key) (nonce header payload : List Byte) : List Byte :=
  withFcs k (header ++ ccmCrypt (keyBytes key) nonce payload ++ ccmTag (keyBytes key) nonce header payload 8)

/-- Level 1: nothing encrypted, a MIC of 4 octets. -/
def secured1 (k : PortCfg) (key : Key) (nonce all : List Byte) : List Byte := withFcs k (all ++ ccmTag (keyBytes key) nonce all [] 4)

/-- A data frame of the module under a key (R269, R286): to a node, under its extended address when `ext`, or broadcast. `ack` asks for an ack. -/
def dataFrame (s : State) (p mtype : Nat) (node : Option (Nat × NatEnt)) (ext ack explicit_ : Bool) (key : Key) (keyIndex counter : Nat)
    (body : List Byte) (octets start : Nat) : AirFrame :=
  let k := radCfg s p
  let fcf := (if ext then 0xEF49 else 0xAB49) + (if ack then 0x20 else 0)
  let dest := match node with
    | some n => if ext then leBytes 8 n.2.ext else leBytes 2 n.2.short
    | none => leBytes 2 0xFFFF
  let src := if ext then leBytes 8 Config.eui else leBytes 2 0
  let header := dataHeader fcf (cRadio s).panId dest src explicit_ keyIndex counter
  let nonce := ctrNonce Config.eui counter 6
  { mtype := mtype, node := node.map Prod.fst, extDest := if ext then node.map fun n => n.2.ext else none, keyIndex := keyIndex
    counter := counter, explicit_ := explicit_, body := body, octets := octets, nonce := nonce
    psdu := secured6 k key nonce header (leBytes 1 mtype ++ body), start := start }

/-- A broadcast of a port under its group key (R269): none when it may not use a counter now. -/
def broadcast (s : State) (p mtype : Nat) (body : List Byte) (octets start : Nat) : State × Option AirFrame :=
  match sharedKey s (groupUse s p) with
  | none => (s, none)
  | some key =>
    let index := sharedIndex (groupUse s p)
    let c := groupCounter s p
    match c.2 with
    | none => (c.1, none)
    | some n => (c.1, some (dataFrame s p mtype none false false true key index n body octets start))

/-- The Enhanced Ack (R216, R217) to the transmitter of a frame: short address, or the extended one of an unknown source. `seq` is the link sequence it
echoes, or the low 16 bits of an explicit counter. -/
def ackFrame (s : State) (p asn : Nat) (node : Option Nat) (dest : Nat) (ext pend nack : Bool) (corr : Int) (seq keyIndex : Nat) (key : Option Key)
    (octets start : Nat) : AirFrame :=
  let k := radCfg s p
  let fcf := (if pend then 0xAB5A else 0xAB4A) + (if ext then 0x400 else 0)
  let ies := leBytes 2 0x0F02 ++ leBytes 2 (sfield 12 corr + (if nack then 32768 else 0)) ++ leBytes 2 0x2402 ++ leBytes 2 seq
  let all := leBytes 2 fcf ++ leBytes 2 (cRadio s).panId ++ (if ext then leBytes 8 dest else leBytes 2 dest) ++ leBytes 2 0 ++
    leBytes 1 0x29 ++ leBytes 1 keyIndex ++ ies
  let nonce := asnNonce Config.eui asn
  { mtype := 0, node := node, extDest := if ext then some dest else none, level := 1, keyIndex := keyIndex, counter := asn, body := ies
    octets := octets, nonce := nonce, psdu := secured1 k (key.getD {}) nonce all, start := start }

end Sys2Proof.Machine
end

