-- ==== Sys2Proof/Machine/Session.lean ====
section
/-! DEFINITION. Sessions, requests and replies, CALL records (R452 to R468, R473, R474). -/
namespace Sys2Proof.Machine

/-! ## Sessions (R453 to R456) -/

/-- A session. -/
def sess (s : State) (i : Nat) : Session := nth s.vtp.sessions i {}

/-- The state with a session changed. -/
def setSess (s : State) (i : Nat) (f : Session → Session) : State :=
  { s with vtp := { s.vtp with sessions := upd s.vtp.sessions i f } }

/-- A session closes (R454, R474): what was kept and the replies that have not left are discarded, and its reports end (R406). -/
def closeSession (s : State) (i : Nat) : State :=
  let s := discardReplies s i
  let s := match s.vtp.resetReply with
    | some (j, tid) => if j = i then replyLeft s j tid else s
    | none => s
  let s := setSess s i fun x => { x with state := .closed, kept := [], outstanding := [] }
  if s.evq.enable && s.evq.session = i then { s with evq := { s.evq with enable := false } } else s

/-- A session opens (R454, R456, R464); its counters go on (R477). -/
def openSession (s : State) (i port peer : Nat) (ipv6 : Bool) : State :=
  setSess s i fun x =>
    { state := .open_, port := port, ipv6 := ipv6, peer := peer, creditAt := s.tim.cyc, opened := s.tim.cyc,
      lastRec := s.tim.cyc, req := x.req, limit := x.limit, dup := x.dup }

/-- The numbers a DTLS session may take (R454, R456). -/
def usable (s : State) : List Nat := if s.pins.srvEn then [0, 1, 2] else [0, 1, 2, 3]

/-- The usable numbers that are free. -/
def freeNumbers (s : State) : List Nat := (usable s).filter fun i => (sess s i).state = .closed

/-- Octets of a DTLS datagram with `n` octets of plaintext on the wire of a session (R457; header sizes of UDP, IP and DTLS 1.2,
log entry 13). -/
def datagramOctets (ipv6 : Bool) (n : Nat) : Nat := max 64 (18 + (if ipv6 then 40 else 20) + 8 + 37 + n)

/-- A handshake message or alert leaves in TQ1. -/
def dtlsSend (s : State) (port kind peer : Nat) : State := (ethQueue s port 1 ⟨.dtls kind peer, 128⟩).1

/-- A handshake is refused with a fatal handshake_failure alert and counted (R454). -/
def refuseHello (s : State) (port peer : Nat) : State := dtlsSend (ipCount s 5) port 3 peer

/-- One ClientHello more in this second of a port (R453): whether it is accepted. -/
def helloAccepted (s : State) (port : Nat) : State × Bool :=
  let sec := s.tim.cyc / secCyc 1
  let e := nth s.vtp.hello port (0, 0)
  let n := if e.1 = sec then e.2 else 0
  ({ s with vtp := { s.vtp with hello := upd s.vtp.hello port fun _ => (sec, min 5 (n + 1)) } }, n < 4)

/-- CLIENT_HELLO (R453, R454): with every usable number taken it is refused; without a cookie the module answers HelloVerifyRequest and keeps nothing;
`resume` asks for resumption or renegotiation, which is refused. -/
def clientHello (s : State) (port peer : Nat) (ipv6 cookie resume : Bool) : State :=
  if !isRunning s .eth || !isRunning s .sys || !(ethPort s port).up || s.sys.start.rig = 0xF then s
  else
    let r := helloAccepted s port
    let s := r.1
    if !r.2 then s
    else if freeNumbers s = [] then refuseHello s port peer
    else if !cookie then dtlsSend s port 0 peer
    else if resume then refuseHello s port peer
    else
      let hs := s.vtp.hands.filter fun h => !(h.port = port && h.peer = peer)
      dtlsSend { s with vtp := { s.vtp with hands := hs ++ [⟨port, peer, ipv6, s.tim.cyc⟩] } } port 1 peer

/-- Whether a client certificate is accepted (R453): signed by the city certificate of BACKHAUL, on P-256, and within its validity
unless quality is INVALID. -/
def certOk (s : State) (signedBy : KeyId) (p256 : Bool) (notBefore notAfter : Nat) : Bool :=
  signedBy = (cBackhaul s).cityCert && p256 &&
    (s.tim.qual = .invalid || (notBefore ≤ utcSec s && utcSec s ≤ notAfter))

/-- HANDSHAKE_END (R453, R454): the session takes the lowest free number. -/
def handshakeEnd (s : State) (port peer : Nat) (signedBy : KeyId) (p256 : Bool) (notBefore notAfter : Nat) : State :=
  match s.vtp.hands.find? fun h => h.port = port && h.peer = peer with
  | none => s
  | some h =>
    let s := { s with vtp := { s.vtp with hands := s.vtp.hands.erase h } }
    match freeNumbers s, certOk s signedBy p256 notBefore notAfter with
    | i :: _, true => dtlsSend (openSession s i port peer h.ipv6) port 2 peer
    | _, _ => refuseHello s port peer

/-- HANDSHAKE_TIMEOUT (R58): after 10 s the handshake's state is dropped. -/
def handshakeTimeout (s : State) (port peer : Nat) : State :=
  match s.vtp.hands.find? fun h => h.port = port && h.peer = peer with
  | none => s
  | some h =>
    let s := advanceCyc s (h.start + secCyc 10)
    { s with vtp := { s.vtp with hands := s.vtp.hands.erase h } }

/-- SESSION_CLOSE: a close_notify or fatal alert from the peer (R454). -/
def sessionClose (s : State) (i : Nat) : State :=
  if (sess s i).state = .open_ && (sess s i).port ≠ 2 then closeSession s i else s

/-- SESSION_IDLE_TIMEOUT (R454): IDLE seconds without a valid record. -/
def sessionIdle (s : State) (i : Nat) : State :=
  let x := sess s i
  if x.state = .open_ && x.port ≠ 2 then closeSession (advanceCyc s (x.lastRec + secCyc (cBackhaul s).idle)) i else s

/-- The peers that a port sends datagrams to: those of its sessions and its neighbours. -/
def peersOf (s : State) (p : Nat) : List (Bool × Nat) :=
  ((s.vtp.sessions.filter fun x => x.state = .open_ && x.port = p).map fun x => (x.ipv6, x.peer)) ++
    (((cCourses s).neighbours.filter fun n => n.port = p).map fun n => (n.ipv6, n.addr))

/-- In the Recovery of stroke 99 the stack asks for the gateways and peers that its caches do not hold (R452, log entry 127). -/
def peersAsked (s : State) : State :=
  if s.cox.abs % 100 ≠ 99 || !isRunning s .sys then s
  else
    [0, 1].foldl (fun s p =>
      if !(ethPort s p).up then s
      else ((peersOf s p).filterMap fun a => (nextHop s p a.1 a.2).map fun h => (a.1, h)).eraseDups.foldl (fun s a => askFor s p a.1 a.2) s) s

/-- SRV_EN_RISE (R91, R455, R456). -/
def srvEnRise (s : State) : State :=
  let s := { s with pins := { s.pins with srvEn := true, srvTxd := if moduleUp s then .high else s.pins.srvTxd },
                    vtp := { s.vtp with baud := 0, baudAt := none } }
  if !moduleUp s then s
  else
    let s := if (sess s 3).state = .open_ then closeSession s 3 else s
    openSession s 3 2 0 false

/-- SRV_EN_FALL (R91). -/
def srvEnFall (s : State) : State :=
  let s := { s with pins := { s.pins with srvEn := false, srvTxd := .zPu } }
  if (sess s 3).state = .open_ && (sess s 3).port = 2 then closeSession s 3 else s

/-- BAUD_REVERT (R455): 2 s at a new rate without a valid frame. -/
def baudRevert (s : State) : State :=
  match s.vtp.baudAt with
  | none => s
  | some t =>
    let s := advanceCyc s (t + secCyc 2)
    { s with vtp := { s.vtp with baud := 0, baudAt := none } }

/-- SERVICE_FRAME_DROPPED (R455): a frame whose FCS fails or that is too long. -/
def serviceDropped (s : State) : State :=
  if s.pins.srvEn && moduleUp s then { s with vtp := { s.vtp with srvDropped := satAdd 16 s.vtp.srvDropped 1 } } else s

/-! ## Requests (R457 to R464) -/

/-- The reply to a request. -/
def replyOf (q : VtpReq) (e : Err) (d : List Word) : VtpReply :=
  { typ := q.typ % 128 + 128, err := e, station := q.station, tid := q.tid, offset := q.offset,
    data := if e = .ok then d else [] }

/-- Codes of CALL states (R466). -/
def CallSt.code : CallSt → Nat
  | .free => 0 | .queued => 1 | .running => 2 | .partial_ => 3 | .done => 4 | .failed => 5 | .cancelled => 6 | .refused => 7

/-- The status word (R466). -/
def callStatus (c : CallRec) : Word :=
  pack [(28, c.state.code), (24, if c.bounded then 8 else 0),
    (16, if c.state = .failed || c.state = .refused then c.err.code else 0), (0, c.progress)]

/-- A refused CALL's reply, with its REFUSED status word (R458, R466): it keeps no record and has no bound. -/
def refusedCall (q : VtpReq) (e : Err) : VtpReply :=
  { replyOf q e [] with data := [0, callStatus { state := .refused, err := e }, 0, 0, 0] }

/-- The reply to a request that is refused (R458): a CALL's carries its REFUSED status word. -/
def refusal (q : VtpReq) (e : Err) : VtpReply := if q.typ = 3 then refusedCall q e else replyOf q e []

/-- Whether a record comes a second time, or from before the replay window of 64 (R453). -/
def replayed (s : State) (q : VtpReq) : Bool :=
  let x := sess s q.session
  x.port ≠ 2 && match q.record, x.top with
    | some n, some t => n + 64 ≤ t || x.seen.contains n
    | _, _ => false

/-- A record is taken into the replay window (R453). -/
def noteRecord (x : Session) (r : Option Nat) : Session :=
  let n := r.getD ((x.top.map (· + 1)).getD 0)
  let t := max n (x.top.getD 0)
  { x with top := some t, seen := (n :: x.seen).filter fun k => t < k + 64 }

/-- The tokens of a session now, in ns (R464). -/
def tokens (s : State) (x : Session) : Nat := min 160000000 (x.credit + (s.tim.cyc - x.creditAt) * 4)

/-- The octets of a reply (R457). -/
def replyBytes (r : VtpReply) : List Byte :=
  leBytes 1 1 ++ leBytes 1 r.typ ++ leBytes 1 r.err.code ++ leBytes 1 r.station ++ leBytes 4 r.tid ++ leBytes 4 r.offset ++
    leBytes 2 (4 * r.data.length) ++ leBytes 2 0 ++ bytesOf r.data

/-- One step of the CRC-16 of a service frame: polynomial 0x1021, reflected (R455). -/
def srvCrcBit (c : BitVec 16) : BitVec 16 := if c.getLsbD 0 then (c >>> 1) ^^^ 0x8408#16 else c >>> 1

/-- The CRC-16 of a service frame (R455). -/
def srvCrc (l : List Byte) : Nat :=
  (~~~ l.foldl (fun (c : BitVec 16) b =>
    srvCrcBit (srvCrcBit (srvCrcBit (srvCrcBit (srvCrcBit (srvCrcBit (srvCrcBit (srvCrcBit (c ^^^ b.setWidth 16))))))))) 0xFFFF#16).toNat

/-- An octet as a service frame carries it (R455). -/
def srvEscape (b : Byte) : List Byte := if b = 0x7E#8 || b = 0x7D#8 then [0x7D#8, b ^^^ 0x20#8] else [b]

/-- A message in its service frame (R455). -/
def srvFrame (m : List Byte) : List Byte := 0x7E#8 :: (m ++ leBytes 2 (srvCrc m)).flatMap srvEscape ++ [0x7E#8]

/-- A reply leaves: at once on the service port, which sends nothing while SYS is in reset (R74), through TQ1 of its port for a DTLS session (R315, R454). `counts` says that its
transaction is outstanding until then (R464). -/
def sendReply (s : State) (i : Nat) (r : VtpReply) (counts : Bool) : State :=
  let x := sess s i
  if x.port = 2 then (if inReset s .sys then s else { s with vtp := { s.vtp with srvOut := srvFrame (replyBytes r) } })
  else
    let q := ethQueue s x.port 1 ⟨.reply i r.tid (replyBytes r), datagramOctets x.ipv6 (16 + 4 * r.data.length)⟩
    if !counts then q.1
    else if q.2 then setSess q.1 i fun x => { x with outstanding := x.outstanding ++ [r.tid] }
    else replyLeft q.1 i r.tid

/-- Refusals with LIMIT are counted (R464). -/
def limitCount (s : State) (i : Nat) (e : Err) : State :=
  if e = .limit then setSess s i fun x => { x with limit := inc32 x.limit } else s

/-- A request that fails checks 1 to 4 of R459 is answered and nothing is kept of it (log entry 14). -/
def refuse (s : State) (q : VtpReq) (e : Err) : State :=
  sendReply (limitCount s q.session e) q.session (refusal q e) false

/-- An EASY entry has been committed and not abandoned (R414). -/
def entryCommitted (s : State) : Bool :=
  match s.pwr.entry with
  | some e => e.step ≠ 0
  | none => false

/-- UPD's registers and work that its reset does not preserve (R36, R451). -/
def updCleared (s : State) : State :=
  { s with upd := { s.upd with xfer := { s.upd.xfer with busy := false }, blkCrc := 0, dist := { phase := 0, round := 0 } } }

/-- A power-gated UPD is powered up, with its reset sequence from what R36 preserves (R411). -/
def updPowered (s : State) : State :=
  if s.pwr.updGated then
    setStn (updCleared { s with pwr := { s.pwr with updGated := false } }) .upd fun r => { r with state := .running }
  else s

/-- A request reaches UPD (R411): a power-gated UPD is powered up first. -/
def updUse (s : State) : State := updPowered { s with pwr := { s.pwr with updAt := s.tim.cyc } }

/-- Whether a station serves requests (R34, R113): in ROM recovery the boot ROM serves SYS and UPD. -/
def serves (s : State) (n : Stn) : Bool :=
  if s.modp = .recovery then n = .sys || n = .upd else isRunning s n

/-- Checks 5 to 7 of R459. -/
def admitErr (s : State) (q : VtpReq) (lenOk : Bool) (octets : Nat) : Err :=
  match Stn.ofIdx q.station with
  | none => .address
  | some n =>
    if q.offset % 4 ≠ 0 || q.offset + octets > 0x01000000 then .address
    else if !lenOk then .length
    else if !serves s n then .stnReset
    else if entryCommitted s && q.typ ≠ 1 && q.typ ≠ 4 then .sleeping
    else .ok

/-- The request has been received (R454, R455, R477). -/
def received (s : State) (q : VtpReq) : State :=
  let s := setSess s q.session fun x => noteRecord { x with req := inc32 x.req, lastRec := s.tim.cyc } q.record
  if (sess s q.session).port = 2 then
    { s with vtp := { s.vtp with srvAccepted := satAdd 16 s.vtp.srvAccepted 1, baudAt := none } }
  else s

/-- A token is taken (R464). -/
def takeToken (s : State) (i : Nat) : State :=
  setSess s i fun x => { x with credit := tokens s x - 5000000, creditAt := s.tim.cyc }

/-- The state in which a request that passes checks 1 to 4 of R459 meets the rest: its token is taken, a gated UPD is up. -/
def atServe (s : State) (q : VtpReq) : State :=
  if q.station = 11 && s.modp = .running then updUse (takeToken s q.session) else takeToken s q.session

/-- A request's reply is kept and sent (R459, R463). -/
def answer (s : State) (q : VtpReq) (r : VtpReply) : State :=
  sendReply (setSess (limitCount s q.session r.err) q.session fun x => { x with kept := lastN 32 (x.kept ++ [(q, r)]) }) q.session r true

/-- An admitted request is served and answered. -/
def serveAdmitted (s : State) (q : VtpReq) (lenOk : Bool) (octets : Nat) (serve : State → State × VtpReply) : State :=
  match admitErr (atServe s q) q lenOk octets with
  | .ok => answer (serve (atServe s q)).1 q (serve (atServe s q)).2
  | e => answer (atServe s q) q (refusal q e)

/-- A VTP request is handled in the order of R459. -/
def vtpServe (s : State) (q : VtpReq) (lenOk : Bool) (octets : Nat) (serve : State → State × VtpReply) : State :=
  if !moduleUp s || (sess s q.session).state ≠ .open_ || replayed s q then s
  else
    let s := received s q
    let x := sess s q.session
    if q.version ≠ 1 then refuse s q .version
    else if q.typ = 0 || q.typ > 5 then refuse s q .typ
    else if x.outstanding.contains q.tid then s
    else
      match x.kept.find? fun k => k.1.tid = q.tid with
      | some k =>
        if { k.1 with record := none } = { q with record := none } then
          sendReply (setSess s q.session fun x => { x with dup := inc32 x.dup }) q.session k.2 false
        else refuse s q .dupTid
      | none =>
        if x.outstanding.length ≥ 16 || tokens s x < 5000000 then refuse s q .limit
        else serveAdmitted s q lenOk octets serve

/-! ## CALL records (R465 to R468) -/

/-- A CALL record. -/
def call (s : State) (h : Nat) : CallRec := nth s.calls h {}

/-- The state with a CALL record changed. -/
def setCall (s : State) (h : Nat) (f : CallRec → CallRec) : State :=
  { s with calls := upd s.calls h f }

/-- The handle (R465). -/
def callHandle (s : State) (h : Nat) : Nat := (call s h).gen % 8192 * 8 + h

/-- Whether a CALL has ended. -/
def callFinal (c : CallRec) : Bool := c.state = .done || c.state = .failed || c.state = .cancelled

/-- Whether a CALL is under way. -/
def callLive (c : CallRec) : Bool := c.state = .queued || c.state = .running || c.state = .partial_

/-- The record a handle names (R465). -/
def handleRec (s : State) (handle : Nat) : Option Nat :=
  let h := handle % 8
  if (call s h).state ≠ .free && callHandle s h = handle then some h else none

/-- Records of UPD's CALLs go to EVQ at each change of STATE (R427). -/
def callEvent (s : State) (h : Nat) : State :=
  let c := call s h
  if c.station = 11 then event s .upd 0x0B01 0 (callStatus c).toNat (callHandle s h) else s

/-- A CALL changes its state. -/
def callState (s : State) (h : Nat) (f : CallRec → CallRec) : State :=
  let old := (call s h).state
  let s := setCall s h f
  if (call s h).state = old then s else callEvent s h

/-- A CALL ends (R466). -/
def endCall (s : State) (h : Nat) (st : CallSt) (e : Err) : State :=
  if !callLive (call s h) then s
  else callState s h fun c =>
    { c with state := st, err := e, progress := if st = .done then 10000 else c.progress, finalAt := some s.tim.cyc,
             cancelAt := none, todo := [] }

/-- Entries a result window holds (R467). -/
def winCapacity (c : CallRec) : Nat := if c.size = 0 then 0 else 65536 / c.size

/-- An entry is written to the result window (R466, R467); with the window full a CALL that cannot pause ends FAILED. -/
def callEntry (s : State) (h : Nat) (b : List Byte) : State :=
  let c := call s h
  if !callLive c then s
  else if c.results - c.taken ≥ winCapacity c then endCall s h .failed .limit
  else callState s h fun c =>
    { c with win := tput c.win (c.results % winCapacity c) b, results := c.results + 1, state := .partial_ }

/-- An entry of one register word. -/
def callWord (s : State) (h : Nat) (w : Word) : State := callEntry s h (leBytes 4 w.toNat)

/-- PROGRESS of an export (R469). -/
def exportProgress (c : CallRec) : Nat := if c.matched = 0 then 0 else c.results * 10000 / c.matched

/-- An export writes entries while the window has room, and is DONE after the last (R467, R469). -/
def exportRun (s : State) (h : Nat) : Nat → State
  | 0 => s
  | n + 1 =>
    let c := call s h
    match c.todo with
    | [] => endCall s h .done .ok
    | b :: r =>
      if c.results - c.taken ≥ winCapacity c then s
      else
        let s := callEntry s h b
        exportRun (setCall s h fun c => { c with todo := r, progress := min 9999 (exportProgress c) }) h n

/-- What an admitted CALL starts with. `bound` is its completion bound in ns of network time (R468). -/
structure CallPlan where
  op : Nat := 0
  size : Nat := 0
  bound : Option Nat := none
  queued : Bool := false
  deriving DecidableEq, Repr

/-- The lowest free record (log entry 15). -/
def freeCall (s : State) : Option Nat := (List.range 8).find? fun h => (call s h).state = .free

/-- The test of a CALL's DEADLINE (R51, R468). -/
def deadlineErr (p : CallPlan) (deadline : Nat) : Err :=
  if deadline = 0 then .ok
  else match p.bound with
    | none => .noSlack
    | some b => if b ≤ deadline then .ok else .noSlack

/-- A record is taken (R465, R466). -/
def takeCall (s : State) (h station : Nat) (p : CallPlan) : State :=
  setCall s h fun c =>
    { state := if p.queued then .queued else .running, bounded := p.bound.isSome, gen := (c.gen + 1) % 8192,
      station := station, op := p.op, size := p.size, bound := p.bound.getD 0, admAt := nowSec s }

/-- The data of a CALL's reply (R458). -/
def callReplyData (s : State) (h : Nat) : List Word :=
  let c := call s h
  [w32 (callHandle s h), callStatus c, w32 (c.bound / giga), w32 (c.bound / giga / frac), w32 (c.bound % giga)]

/-- A CALL (R459, R465 to R468): `check` gives the CALL's own refusal, `plan` its record, `start` what it does once admitted, `bad` what its own refusal
leaves. -/
def vtpCall (s : State) (q : VtpReq) (check : State → Err) (plan : State → CallPlan) (start : State → Nat → State)
    (bad : Err → State → State := fun _ s => s) : State :=
  vtpServe s q true 0 fun s =>
    let p := plan s
    match check s with
    | .ok =>
      match deadlineErr p q.deadline, freeCall s with
      | .ok, some h =>
        let s := callEvent (takeCall s h q.station p) h
        let s := start s h
        (s, replyOf q .ok (callReplyData s h))
      | .ok, none => (s, refusedCall q .limit)
      | e, _ => (s, refusedCall q e)
    | e => (bad e s, refusedCall q e)

/-- The TYPE of a row's request: the row's own unless the request carries one that R457 does not list. -/
def ownType (m : VtpMeta) (own : Nat) : Nat := if m.typ = 0 || m.typ > 5 then m.typ else own

/-- The request a CALL row spells (R457, R458). -/
def callReq (m : CallMeta) (station op : Nat) (args : List Byte) : VtpReq :=
  { record := m.vtp.record, session := m.vtp.session, tid := m.vtp.tid, version := m.vtp.version, typ := ownType m.vtp 3,
    station := station, length := op, args := args, deadline := m.deadline.getD 0 }

/-- POLL (R458, R465): the status word, RESULTS and TAKEN; a final state seen starts the 60 s after which the record is freed. -/
def pollServe (q : VtpReq) (handle : Nat) (s : State) : State × VtpReply :=
  match handleRec s handle with
  | none => (s, replyOf q .handle [])
  | some h =>
    let c := call s h
    let s := if callFinal c && c.polledAt = none then setCall s h fun c => { c with polledAt := some s.tim.cyc } else s
    (s, replyOf q .ok [callStatus c, w32 c.results, w32 c.taken])

/-- CALL_RECORD_FREE (R465): 60 s after a POLL returned the final state or 3,600 s after it was entered. -/
def callFree (s : State) (h : Nat) : State :=
  let c := call s h
  match c.finalAt with
  | none => s
  | some f =>
    let due := match c.polledAt with
      | some p => min (p + secCyc 60) (f + secCyc 3600)
      | none => f + secCyc 3600
    setCall (advanceCyc s due) h fun c => { gen := c.gen }

end Sys2Proof.Machine
end

