-- ==== Sys2Proof/Machine/Radio.lean ====
section
/-! DEFINITION. The radio ports: slots and cells, beacons, frames sent in DOWN cells, wake trains, retries, port states (R195 to R210,
R219, R226 to R240, R252 to R256, R287 to R292). -/
namespace Sys2Proof.Machine

/-! ## Slots and cells (R200 to R202) -/

/-- The port's slot number at a network time. -/
def asnAt (k : PortCfg) (ns : Nat) : Nat := ns / slotNs k

/-- Slot within the superframe, and superframe, of an ASN. -/
def slotOf (k : PortCfg) (asn : Nat) : Nat := asn % slotsPer k
def superOf (k : PortCfg) (asn : Nat) : Nat := asn / slotsPer k

/-- The start of a slot in ns. -/
def slotStart (k : PortCfg) (asn : Nat) : Nat := asn * slotNs k

/-- A cell of the plan: FREE where nothing is assigned. -/
def cellAt (k : PortCfg) (slot ofs : Nat) : PlanCell :=
  (k.plan.find? fun c => c.slot = slot && c.ofs = ofs).getD { slot := slot, ofs := ofs }

/-- The cell word (R202). -/
def cellWord (c : PlanCell) : Word :=
  let ref := if [2, 4, 8].contains c.kind then c.ref else if c.kind = 6 || c.kind = 7 then c.ref % 256 else 0xFFF
  pack [(28, c.kind), (16, ref), (12, if c.kind = 7 then c.attempt else 0), (8, if [2, 4, 9].contains c.kind then c.depth else 0)]

/-- Whether an UP cell belongs to a node in a superframe (R202). -/
def ownsUp (k : PortCfg) (e : NatEnt) (asn : Nat) : Bool :=
  e.upSlot = slotOf k asn && superOf k asn % (max 1 e.upPeriod) = e.upPhase

/-- Nodes of a port whose UP cell is this slot. -/
def upNodes (s : State) (p asn : Nat) : List (Nat × NatEnt) :=
  s.rad.nat.filter fun x => x.2.port = p && ownsUp (radCfg s p) x.2 asn

/-! ## Port states (R239) -/

/-- Codes of port states. -/
def PortSt.code : PortSt → Nat
  | .off => 0 | .reset => 1 | .init => 2 | .run => 3 | .quiet => 4 | .rxOnly => 5 | .noLight => 6 | .fault => 7

/-- RAD_PORTn_STATE (R241). -/
def portWord (p : RadPort) : Word := pack [(28, p.state.code), (24, p.cause), (8, p.initFails)]

/-- A port changes its state, with its EVQ record (R403 code 0x0403). -/
def setPortState (s : State) (p : Nat) (st : PortSt) (cause : Nat) : State :=
  let old := radPort s p
  if old.state = st && old.cause = cause then s
  else
    let s := setRadPort s p fun x => { x with state := st, cause := cause }
    if old.state = st then s else event s .rad 0x0403 p (portWord (radPort s p)).toNat 0

/-- The state an initialised port should have now (R239): the most restrictive cause wins. -/
def portTarget (s : State) (crab : Bool) : PortSt × Nat :=
  if inReset s .sys then (.rxOnly, 3)
  else if s.cox.bridging then (.rxOnly, 2)
  else if s.sys.start.mode = .paddle then (.quiet, 7)
  else if crab then (.quiet, 1)
  else if inReset s .lgt then (.noLight, 4)
  else (.run, 0)

/-- Ports that are up follow the causes of R239. -/
def portStates (s : State) (crab : Bool) : State :=
  (List.range 4).foldl (fun s p =>
    match (radPort s p).state with
    | .off | .reset | .init | .fault => s
    | _ => setPortState s p (portTarget s crab).1 (portTarget s crab).2) s

/-- The last stroke's crab of RAD (R24), while it stays in the stroke programs. -/
def radCrabbed (s : State) : Bool := isRunning s .rad && (stn s .rad).hist.head? = some true

/-- RAD serves its ports: RUNNING, or HELD while SYS is in reset (R38). -/
def radServes (s : State) : Bool :=
  match (stn s .rad).state with
  | .running | .held => true
  | _ => false

/-- Whether a port transmits frames of the plan, beacons, and light frames (R239). -/
def txPlan (p : RadPort) : Bool := p.state = .run || p.state = .noLight
def txBeacon (p : RadPort) : Bool := txPlan p || p.state = .quiet
def rxOpen (p : RadPort) : Bool := txBeacon p || p.state = .rxOnly

/-! ## Queues from LGT (R155, R233) -/

/-- The port that serves a channel. -/
def portOfChan (s : State) (c : Nat) : Option Nat := (natOfChan s c).map fun p => p.2.port

/-- An entry goes to the queue of its port, replacing one for its channel not yet framed (R155). -/
def enqueueEntry (s : State) (e : LightEntry) : State :=
  match portOfChan s e.chan with
  | none => s
  | some p =>
    let e := { e with since := s.cox.start }
    setRadPort s p fun x =>
      if e.apply.isSome then { x with timedq := x.timedq ++ [e] }
      else { x with queue := (x.queue.filter fun y => y.chan ≠ e.chan) ++ [e], refresh := x.refresh.filter fun c => c ≠ e.chan }

/-- What RAD has staged in Drive is queued at the boundary (R22, R233). -/
def radBoundary (s : State) : State :=
  let l := s.rad.staged ++ s.rad.stagedTimed
  l.foldl enqueueEntry (setRad s fun r => { r with staged := [], stagedTimed := [] })

/-- Channels due for refresh (R233): no entry sent for RAD_REFRESH seconds; one that has been sent no codes since the start has none to repeat. -/
def refreshDue (s : State) : List Nat :=
  let per := trimmed s .radRefresh s.rad.refresh * giga
  ((s.rad.nat.filter fun p => isLantern p.2 && p.2.enrolled && (nodeDyn s p.1).entryAt + per ≤ nowNs s &&
      (chanCfg s p.2.channel).isSome && (chan s p.2.channel).wasSent).map fun p => p.2.channel)

/-- A crab of RAD: what LGT published is framed once RAD frames again (R22, R24). -/
def radLate (s : State) : State :=
  let old := s.rad.lateList.filter fun e => !(s.lgt.list.any fun f => f.chan = e.chan)
  setLgt (setRad s fun r => { r with lateList := old ++ s.lgt.list }) fun l => { l with list := [] }

/-- The Drive work of RAD (R22, R233): the change list published by 4.0 ms, one published late in the stroke before, and timed entries are
staged, refreshes queued. -/
def radDrive (s : State) : State :=
  let taken := s.lgt.list ≠ [] && s.lgt.listAt ≤ s.cox.start + 4000000
  let timed := s.lgt.timedOut
  let now := if taken then s.lgt.list else []
  let old := s.rad.lateList.filter fun e => !(now.any fun f => f.chan = e.chan)
  let s := setRad s fun r => { r with staged := old ++ now, stagedTimed := timed, lateList := if taken then [] else s.lgt.list }
  let s := setLgt s fun l => { l with list := [], timedOut := [] }
  (refreshDue s).foldl (fun s c =>
    match portOfChan s c with
    | none => s
    | some p => setRadPort s p fun x =>
        if x.refresh.contains c || x.queue.any (fun e => e.chan = c) then x else { x with refresh := x.refresh ++ [c] }) s

/-! ## Relays (R227, R229) -/

/-- The relays between the module and a node, nearest the node first. -/
def relaysOf (s : State) (i : Nat) : Nat → List (Nat × NatEnt)
  | 0 => []
  | n + 1 =>
    match natEnt s i with
    | none => []
    | some e =>
      if e.parent = 0xFFF then []
      else
        match natEnt s e.parent with
        | some r => (e.parent, r) :: relaysOf s e.parent n
        | none => []

/-- Whether a relay has another action in a slot (R229): a cell that names it other than a DOWN copy, its own UP cell, an UP cell of a
child, an EVENT or EVENT_REPEAT cell of a child's group, or an OPEN cell of the depth below it. -/
def relayBusy (s : State) (p i : Nat) (e : NatEnt) (asn : Nat) : Bool :=
  let k := radCfg s p
  let slot := slotOf k asn
  let groups := (s.rad.nat.filter fun x => x.2.parent = i && x.2.role = 3).map fun x => x.2.eventGroup
  (k.plan.any fun c => c.slot = slot && (c.kind = 6 || c.kind = 7) && c.ofs = e.depth + 1 && groups.contains (c.ref % 256)) ||
  (k.plan.any fun c => c.slot = slot &&
      ((c.ref = i && (c.kind = 2 || c.kind = 8)) || (c.kind = 9 && c.ofs = e.depth + 1 && c.depth = e.depth + 1))) ||
    ownsUp k e asn || (s.rad.nat.any fun x => x.2.parent = i && ownsUp k x.2 asn)

/-- Whether the copies of a frame sent in this slot towards a node are free (R229). -/
def copyFree (s : State) (p asn i : Nat) : Bool :=
  (relaysOf s i 3).all fun r => !relayBusy s p r.1 r.2 (asn + r.2.depth + 1)

/-- The same for a channel. -/
def chanFree (s : State) (p asn c : Nat) : Bool :=
  match natOfChan s c with
  | some x => copyFree s p asn x.1
  | none => false

/-! ## Light frames (R233, R287, R288) -/

/-- Octets of an entry (R288). -/
def entryOct (e : LightEntry) : Nat := 4 + 3 * e.strings

/-- A code pair on air (R288). -/
def codePair (c : Nat) : Nat := c % 4096 + (4095 - c % 4096) * 4096

/-- The octets of an entry (R288). -/
def entryBytes (e : LightEntry) : List Byte :=
  leBytes 1 e.chan ++ leBytes 1 (e.strings - 1) ++ leBytes 2 (rampOf e.target) ++
    ((codesOf e.codes01.v e.codes23.v).take e.strings).flatMap fun c => leBytes 3 (codePair c)

/-- Entries that fit one frame, in order, and the rest (R233): at most 8, within the light frame limit. -/
def takeEntries (k : PortCfg) (used n : Nat) : List LightEntry → List LightEntry × List LightEntry
  | [] => ([], [])
  | e :: r =>
    if n < 8 && airOct k (psduOf (used + entryOct e)) ≤ limLight k then
      let t := takeEntries k (used + entryOct e) (n + 1) r
      (e :: t.1, t.2)
    else
      let t := takeEntries k used n r
      (t.1, e :: t.2)

/-- The body of a light frame (R287). -/
def lightBody (l : List LightEntry) : List Byte :=
  match (l.head?.bind LightEntry.apply) with
  | some a => leBytes 1 (l.length + 16) ++ leBytes 3 (a / strokeNs) ++ l.flatMap entryBytes
  | none => leBytes 1 l.length ++ l.flatMap entryBytes

/-- Octets of LHDR and APPLY. -/
def lightHead (timed : Bool) : Nat := if timed then 4 else 1

/-- A frame goes on air (R260): loaded, armed, and RADn_TXGO raised. -/
def onAir (s : State) (p : Nat) (f : AirFrame) : State :=
  txGo (trxSend (setRadPort (radCount s p 7) p fun x => { x with last := some f }) p f) p f

/-- Where the preamble of a frame of a slot starts (R203): at T_LOFS when it is for lanterns or relays only, which a broadcast is (R204, log entry
118), and otherwise at T_OFS. -/
def preambleAt (k : PortCfg) (asn : Nat) (lantern : Bool) : Nat := slotStart k asn + (if lantern then tLofs else tOfsUs k) * 1000

/-- The channel's last codes sent (R155, R140): a timed entry counts from its apply boundary. -/
def markSent (s : State) (e : LightEntry) : State :=
  let s := setChan s e.chan fun c =>
    if e.apply.isSome then { c with timed := some e }
    else { c with sent01 := e.codes01, sent23 := e.codes23, sentTgt := e.target, sentChroma := e.chroma, wasSent := true }
  match natOfChan s e.chan with
  | some x => setDyn s x.1 fun d => { d with entryAt := nowNs s }
  | none => s

/-- An entry whose outcome a report will decide (R291). -/
def awaitOutcome (s : State) (counter : Nat) (last : Bool) (e : LightEntry) : State :=
  match e.slot, natOfChan s e.chan with
  | some (k, n), some x =>
    setRad s fun r =>
      { r with outs := (r.outs.filter fun o => !(o.chan = e.chan && o.slot = k && o.serial = n)) ++
          [{ chan := e.chan, nat := x.1, slot := k, serial := n, counter := counter, lastNs := nowNs s, last := last }] }
  | _, _ => s

/-- R264: a classed frame that no pool can carry is not sent; each entry ends UNCONFIRMED. -/
def classedUnsent (s : State) (p : Nat) (l : List LightEntry) : State :=
  l.foldl (fun s e =>
    let s := setRad s fun r => { r with late := inc32 r.late, outs := r.outs.filter fun o => !(o.chan = e.chan && e.slot = some (o.slot, o.serial)) }
    let s := event s .rad 0x0404 e.chan ((if e.cls = .h then 1 else 2) * 16 + acctOf s p) 0
    match e.slot, natOfChan s e.chan with
    | some (k, n), some x => cmdOutcome s k n x.1 2
    | _, _ => s) s

/-- The bound by which a classed entry's first transmission is due (R234): the apply boundary, or the class L window. -/
def classBound (k : PortCfg) (e : LightEntry) : Nat :=
  match e.apply with
  | some a => a
  | none => e.since + (1 + k.rDn) * (1 + k.hDn) * slotNs k

/-- Classed entries first sent after their bound are counted and recorded (R234). -/
def classedLate (s : State) (p : Nat) (l : List LightEntry) : State :=
  (l.filter fun e => e.cls ≠ .plain && classBound (radCfg s p) e ≤ nowNs s).foldl (fun s e =>
    event (setRad s fun r => { r with late := inc32 r.late }) .rad 0x0404 e.chan ((if e.cls = .h then 1 else 2) * 16 + acctOf s p) 0) s

/-- The class of a frame: the first class among its entries. -/
def frameCls (l : List LightEntry) : EntCls := ((l.find? fun e => e.cls ≠ .plain).map LightEntry.cls).getD .plain

/-- What a light frame is charged to (R262, R263): class L and H to RESERVE, and in STORM and EVACUATE all change-list frames. -/
def chargeLight (s : State) (p ms : Nat) (classed refresh : Bool) : State × Bool :=
  if classed || (!refresh && s.crs.mode ≥ 6) then chargeReserve s p ms else chargeOrShed s p .d3 ms

/-- Whether a pool carries such a charge. -/
def lightFits (s : State) (p ms : Nat) (classed refresh : Bool) : Bool :=
  if classed || (!refresh && s.crs.mode ≥ 6) then
    usedMs (duty s (acctOf s p)) .reserve + ms ≤ (dutyCfg s (acctOf s p)).reserve || generalFits s p .top ms
  else generalFits s p .d3 ms

/-- A light frame with these entries is sent (R233, R264): whether something was sent or used up, and what stays queued. What its counter withholds is
not charged. -/
def sendLight (s : State) (p asn : Nat) (l : List LightEntry) (refresh : Bool) : State × Bool :=
  let k := radCfg s p
  let bad := l.filter fun e => !(pairOk e.codes01 && pairOk e.codes23)
  let s := bad.foldl (fun s _ => pairEvent s .rad 0) s
  let l := l.filter fun e => pairOk e.codes01 && pairOk e.codes23
  if l = [] then (s, false)
  else
    let classed := frameCls l ≠ .plain
    let oct := airOct k (psduOf (lightBody l).length)
    if !lightFits s p (chargeMs k oct) classed refresh then
      let s := (chargeLight s p (chargeMs k oct) classed refresh).1
      if classed then (classedUnsent s p l, true) else (s, false)
    else
      let b := broadcast s p 1 (lightBody l) oct (preambleAt k asn true)
      match b.2 with
      | none => (b.1, false)
      | some f =>
        let s := (chargeLight b.1 p (chargeMs k oct) classed refresh).1
        let left := if classed then k.rDn else 0
        let s := onAir (classedLate s p l) p f
        let s := l.foldl (fun s e => awaitOutcome (markSent s e) f.counter (left = 0) e) s
        let s := if left = 0 then s else setRadPort s p fun x =>
          { x with frames := x.frames ++ [{ frame := f, entries := l, cls := frameCls l, left := left, due := asn + 1 + k.hDn }] }
        (s, true)

/-- Item 1 of R232: a repeat now due of a frame that carries classed entries, once every copy of it is free (R229). One that no pool can carry is not
sent, nor any after it (R264). -/
def downRepeat (s : State) (p asn : Nat) : State × Bool :=
  let k := radCfg s p
  match (radPort s p).frames.find? fun f => f.due ≤ asn && f.entries.all fun e => chanFree s p asn e.chan with
  | none => (s, false)
  | some f =>
    let c := chargeReserve s p (chargeMs k f.frame.octets)
    if !c.2 then
      (classedUnsent (setRadPort c.1 p fun x => { x with frames := x.frames.erase f }) p f.entries, false)
    else
      let s := onAir c.1 p { f.frame with start := preambleAt k asn true }
      let s := setRadPort s p fun x =>
        { x with frames := if f.left ≤ 1 then x.frames.erase f
                           else x.frames.map fun g => if g = f then { f with left := f.left - 1, due := asn + 1 + k.hDn } else g }
      (f.entries.foldl (fun s e => awaitOutcome s f.frame.counter (f.left ≤ 1) e) s, true)

/-- Item 2 of R232: timed entries of one apply boundary. -/
def downTimed (s : State) (p asn : Nat) : State × Bool :=
  let k := radCfg s p
  let ok := (radPort s p).timedq.filter fun e =>
    chanFree s p asn e.chan && (e.apply.getD 0) / strokeNs < absStroke (nowNs s) + 8388000
  match ok with
  | [] => (s, false)
  | e :: _ =>
    let t := takeEntries k (lightHead true) 0 (ok.filter fun x => x.apply = e.apply)
    let r := sendLight s p asn t.1 false
    if r.2 then (setRadPort r.1 p fun x => { x with timedq := x.timedq.filter fun y => !t.1.contains y }, true) else r

/-- The refresh entry of a channel (R233): its last codes sent. -/
def refreshEntry (s : State) (c : Nat) : Option LightEntry :=
  match chanCfg s c with
  | none => none
  | some k =>
    let x := chan s c
    some { chan := c, strings := k.strings, codes01 := pairOf x.sent01.v, codes23 := pairOf x.sent23.v, target := x.sentTgt,
           chroma := x.sentChroma }

/-- Untimed entries a frame may be filled with, first those of class L, then the change list, then refreshes (R232). -/
def untimedEntries (s : State) (p asn : Nat) (withL withPlain : Bool) : List LightEntry :=
  let x := radPort s p
  let free := fun (e : LightEntry) => chanFree s p asn e.chan
  let ref := (x.refresh.filterMap (refreshEntry s)).filter free
  (if withL then (x.queue.filter fun e => e.cls = .l).filter free else []) ++
    (if withPlain then (x.queue.filter fun e => e.cls = .plain).filter free else []) ++ ref

/-- Entries that have been framed leave the queues. -/
def dequeue (s : State) (p : Nat) (l : List LightEntry) : State :=
  setRadPort s p fun x =>
    { x with queue := x.queue.filter fun e => !(l.any fun y => y.chan = e.chan)
             refresh := x.refresh.filter fun c => !(l.any fun y => y.chan = c) }

/-- Items 4, 5 and 7 of R232, as `lead` says: class L entries, other change-list entries, refreshes; the rest fills up. -/
def downUntimed (s : State) (p asn lead : Nat) : State × Bool :=
  let x := radPort s p
  let any := match lead with
    | 4 => x.queue.any fun e => e.cls = .l && chanFree s p asn e.chan
    | 5 => x.queue.any fun e => e.cls = .plain && chanFree s p asn e.chan
    | _ => x.refresh.any fun c => chanFree s p asn c
  if !any || x.state = .noLight then (s, false)
  else
    let t := takeEntries (radCfg s p) (lightHead false) 0 (untimedEntries s p asn (lead = 4) (lead ≤ 5))
    let r := sendLight s p asn t.1 (lead = 7)
    if r.2 then (dequeue r.1 p t.1, true) else r

/-! ## Unicasts (R219, R232, R250 to R254, R295, R298, R301) -/

/-- The MTYPE of a unicast (R209). -/
def uniMtype : UniKind → Nat
  | .command => 3 | .downlink => 0x22 | .enrol => 0x12 | .rejoin => 0x14 | .resync => 0x21

/-- Whether another downlink for the node waits behind this one (R249 MORE). -/
def moreFor (x : RadPort) (u : Unicast) : Bool := ((x.uni.filter fun v => v.node = u.node && v.kind = .downlink).length > 1)

/-- The body after MTYPE of a unicast. -/
def uniBody (x : RadPort) (u : Unicast) : List Byte :=
  match u.kind with
  | .command => leBytes 1 u.cmd ++ u.data
  | .downlink => leBytes 1 (b2n (moreFor x u)) ++ leBytes 1 u.cmd ++ u.data
  | _ => u.data

/-- The counter of a unicast and its key index (R269): device-key frames draw from the device counter. -/
def uniCounter (s : State) (u : Unicast) : State × Option Nat :=
  if u.device then deviceCounter s else linkCounter s u.node

/-- A queued unicast of a port replaced. -/
def setUni (s : State) (p : Nat) (u v : Unicast) : State :=
  setRadPort s p fun x => { x with uni := x.uni.map fun w => if w = u then v else w }

/-- A queued unicast of a port removed. -/
def dropUni (s : State) (p : Nat) (u : Unicast) : State := setRadPort s p fun x => { x with uni := x.uni.erase u }

/-- The key of a unicast (R268, R269). -/
def uniKey (s : State) (u : Unicast) (e : NatEnt) : Option Key := if u.device then tget s.keys.device u.node else linkKey s u.node (genOf e)

/-- A unicast is sent in this cell (R219, R269): charged to the shed class of its kind, its counter's floor first; RAD then receives its ack. A downlink
with MORE is followed by the next while the node stays awake (R250). -/
def sendUni (s : State) (p asn : Nat) (u : Unicast) (cls : ShedCls) : State × Bool :=
  let k := radCfg s p
  match natEnt s u.node with
  | none => (dropUni s p u, false)
  | some e =>
    let body := uniBody (radPort s p) u
    let more := moreFor (radPort s p) u
    let oct := airOct k (psduOf body.length + (if u.device then 12 else 0))
    if !generalFits s p cls (chargeMs k oct) then ((chargeOrShed s p cls (chargeMs k oct)).1, false)
    else
      match uniKey s u e with
      | none => (s, false)
      | some key =>
        let c := uniCounter s u
        match c.2 with
        | none => (c.1, false)
        | some n =>
          let s := (chargeOrShed c.1 p cls (chargeMs k oct)).1
          let s := onAir s p (dataFrame s p (uniMtype u.kind) (some (u.node, e)) u.extAddr true (u.device || e.explicit_) key
            (if u.device then 0x30 else e.keyIndex) n body oct (preambleAt k asn (isLantern e)))
          let s := setUni (trxReceive s p) p u { u with left := u.left - 1, tries := u.tries + 1, sent := some (asn, n), rdv := none }
          (if u.kind = .downlink then setDyn s u.node fun d => { d with owed := if more then some asn else none } else s, true)

/-- Whether a sensor listens for a downlink in this cell (R250, R251): within PEND_SLOTS of the uplink, or of the downlink with MORE, at `a`. -/
def listens (s : State) (p asn a : Nat) (u : Unicast) (e : NatEnt) : Bool :=
  a < asn && asn + e.depth ≤ a + (cRadio s).pendSlots && copyFree s p asn u.node

/-- Whether this is the first DOWN cell after `a` whose copy reaches the node (R232, R251). -/
def firstDown (s : State) (p asn a : Nat) (u : Unicast) : Bool :=
  (List.range (asn - a - 1)).all fun j =>
    !((cellAt (radCfg s p) (slotOf (radCfg s p) (a + 1 + j)) 0).kind = 3 && copyFree s p (a + 1 + j) u.node)

/-- A downlink for which a sensor listens now; `first` restricts it to the first DOWN cell after the uplink. -/
def owedUni (s : State) (p asn : Nat) (first : Bool) : Option Unicast :=
  (radPort s p).uni.find? fun u =>
    u.sent = none && u.kind = .downlink &&
      match natEnt s u.node, (nodeDyn s u.node).owed with
      | some e, some a => isSensor e && listens s p asn a u e && (!first || firstDown s p asn a u)
      | _, _ => false

/-- A response to a sensor (R298): it stands in the place of item 3 and needs no pending bit, since the node listens in every DOWN cell. -/
def owedResponse (s : State) (p asn : Nat) : Option Unicast :=
  (radPort s p).uni.find? fun u =>
    u.sent = none && (u.kind = .enrol || u.kind = .rejoin) &&
      match natEnt s u.node with
      | some e => isSensor e && copyFree s p asn u.node
      | none => false

/-- Item 3 of R232: a downlink owed to a sensor whose uplink was acknowledged with the pending bit, in the first DOWN cell after it (R251), or a
response to a sensor (R298). -/
def downOwed (s : State) (p asn : Nat) : State × Bool :=
  match (owedUni s p asn true).orElse fun _ => owedResponse s p asn with
  | some u => sendUni s p asn u .d1
  | none => (s, false)

/-- Item 9 of R232: a downlink for which its sensor still listens. -/
def downListening (s : State) (p asn : Nat) : State × Bool :=
  match owedUni s p asn false with
  | some u => sendUni s p asn u .d1
  | none => (s, false)

/-- Item 6 of R232: a lantern command, or a response in its place (R298, R301). -/
def downCommand (s : State) (p asn : Nat) : State × Bool :=
  let due := (radPort s p).uni.find? fun u =>
    u.sent = none && u.kind ≠ .downlink &&
      (match natEnt s u.node with
       | some e => isLantern e && copyFree s p asn u.node
       | none => true)
  match due with
  | some u => sendUni s p asn u .d1
  | none => (s, false)

/-! ## Wake trains (R252 to R254, R256) -/

/-- Whether a slot is a sampling slot of a node (R243). -/
def samples (k : PortCfg) (e : NatEnt) (slot : Nat) : Bool :=
  let n := slotsPer k
  let pl := e.lpl * 1000000 / slotNs k
  pl ≠ 0 && (slot + 2 * n - (e.upSlot + 1)) % n % pl = 0

/-- Octets on air of a wake-train frame (R249). -/
def wakeOct (k : PortCfg) : Nat := airOct k 30

/-- The period of a train in ns (R252). -/
def trainPeriod (k : PortCfg) : Nat := octNs k (wakeOct k) + 300000

/-- The number of copies of a train for a guard in µs (R252). -/
def trainCopies (k : PortCfg) (g : Nat) : Nat := cdiv (2 * g * 1000) (trainPeriod k) + 1

/-- The charge of a train (R260): from the start of its first copy to the end of its last. -/
def trainMs (k : PortCfg) (g : Nat) : Nat :=
  cdiv ((trainCopies k g - 1) * trainPeriod k + octNs k (wakeOct k)) 1000000

/-- The first DOWN cell at least one slot later (R252): searched over a superframe. -/
def nextDown (k : PortCfg) (asn : Nat) : Nat → Nat
  | 0 => asn
  | n + 1 => if (cellAt k (slotOf k asn) 0).kind = 3 then asn else nextDown k (asn + 1) n

/-- A wake train (R249, R252, R260): `n` copies of one frame under the link key of its node, `period` ns apart, charged as one transmission of `ms`;
what its counter withholds is not charged. The frame, when it was sent. -/
def sendTrain (s : State) (p asn i : Nat) (resync urgent : Bool) (ms start n period : Nat) : State × Option AirFrame :=
  let k := radCfg s p
  if !generalFits s p .d2 ms then ((chargeOrShed s p .d2 ms).1, none)
  else
    match (natEnt s i).bind fun e => (linkKey s i (genOf e)).map fun key => (e, key) with
    | none => (s, none)
    | some (e, key) =>
      let c := linkCounter s i
      match c.2 with
      | none => (c.1, none)
      | some ctr =>
        let s := (chargeOrShed c.1 p .d2 ms).1
        let body := leBytes 1 (b2n resync + 2 * b2n urgent) ++ leBytes 2 (nextDown k (asn + 1) (slotsPer k))
        let f := dataFrame s p 0x21 (some (i, e)) false false e.explicit_ key e.keyIndex ctr body (wakeOct k) start
        let f := { f with copies := n, period := period }
        (onAir s p f, some f)

/-- A count of RAD_SNS_CNTj. -/
def snsCount (s : State) (j : Nat) : State := setRad s fun r => { r with sns := bump r.sns j }

/-- A wake train has gone for a downlink: it is counted; one with RESYNC is done, any other has its rendezvous (R252). -/
def trainBegun (s : State) (p : Nat) (u : Unicast) (rdv : Nat) : State :=
  if u.kind = .resync then dropUni (snsCount s 2) p u else setUni (snsCount s 2) p u { u with rdv := some rdv }

/-- The wake train of a downlink in a slot: over twice the guard of its node about the slot's instant (R252). -/
def guardTrain (s : State) (p asn : Nat) (u : Unicast) : State × Option AirFrame :=
  let k := radCfg s p
  let e := (natEnt s u.node).getD {}
  let ts := slotStart k asn + tOfsUs k * 1000
  let g := min (guardCap s p) (guardAt s u.node e ts)
  let again := u.kind = .resync
  sendTrain s p asn u.node again (!again) (trainMs k g) (ts - g * 1000) (trainCopies k g) (trainPeriod k)

/-- The outcome of `guardTrain`: the downlink has its train when the frame was sent. -/
def trainSent (r : State × Option AirFrame) (p : Nat) (u : Unicast) (rdv : Nat) : State × Bool :=
  match r.2 with
  | none => (r.1, false)
  | some _ => (trainBegun r.1 p u rdv, true)

/-- Item 8 of R232: a wake train for an urgent downlink, or one with RESYNC after a start (R282). -/
def downTrain (s : State) (p asn : Nat) : State × Bool :=
  let k := radCfg s p
  let due := (radPort s p).uni.find? fun u =>
    (u.kind = .resync || u.train) && u.sent = none && u.rdv = none &&
      (match natEnt s u.node with
       | some e => e.depth = 0 && !e.adrift && samples k e (slotOf k asn)
       | none => false)
  match due with
  | none => (s, false)
  | some u => trainSent (guardTrain s p asn u) p u (nextDown k (asn + 1) (slotsPer k))

/-- Item 9 of R232: the downlink a train has announced, in its RDV cell (R252). -/
def downRdv (s : State) (p asn : Nat) : State × Bool :=
  match (radPort s p).uni.find? fun u => u.sent = none && u.rdv = some asn with
  | some u => sendUni s p asn u .d2
  | none => (s, false)

/-- Copies that fill a DOWN cell from T_LOFS to 40 µs before its end (R256). -/
def fillCopies (k : PortCfg) : Nat := (slotNs k - (tLofs + 40) * 1000 - octNs k (wakeOct k)) / trainPeriod k + 1

/-- A full-interval train under way fills every DOWN cell of its interval (R256): it has been charged whole (R260). -/
def fullGoesOn (s : State) (p asn : Nat) : State × Bool :=
  match (radPort s p).full with
  | some (_, f, till) =>
    if till ≤ asn then (setRadPort s p fun x => { x with full := none }, false)
    else (onAir s p { f with start := preambleAt (radCfg s p) asn true }, true)
  | none => (s, false)

/-- The node for which a full-interval train may begin (R256). -/
def fullReady (s : State) (p : Nat) : Option (Nat × NatEnt) :=
  if (duty s (acctOf s p)).full.length ≥ (cRadio s).fullWtMax then none
  else s.rad.nat.find? fun x => x.2.port = p && x.2.adrift && x.2.depth = 0 && x.2.lpl ≠ 0 &&
    match (nodeDyn s x.1).lastFull with
    | some t => decide (t + 60 * giga ≤ nowNs s)
    | none => true

/-- A full-interval train under way to a node: it is counted, and fills the cells of its port up to `last` (R256). -/
def fullBegun (s : State) (p i : Nat) (f : AirFrame) (last : Nat) : State :=
  let s := setDuty (snsCount s 3) (acctOf s p) fun a => { a with full := a.full ++ [s.rad.binNo] }
  let s := setRadPort s p fun y => { y with full := some (i, f, last) }
  setDyn s i fun d => { d with lastFull := some (nowNs s) }

/-- The slots of one LPL_MS of a node (R256). -/
def lplSlots (k : PortCfg) (e : NatEnt) : Nat := e.lpl * 1000000 / slotNs k

/-- The full-interval train to a node from a slot on: every DOWN cell of its LPL_MS (R256). -/
def fillTrain (s : State) (p asn i : Nat) (e : NatEnt) : State × Option AirFrame :=
  let k := radCfg s p
  let last := ((List.range (lplSlots k e)).filter fun j => (cellAt k (slotOf k (asn + j)) 0).kind = 3).getLastD 0
  let ms := cdiv (last * slotNs k + slotNs k - (tLofs + 40) * 1000) 1000000
  sendTrain s p asn i true false ms (preambleAt k asn true) (fillCopies k) (trainPeriod k)

/-- The outcome of `fillTrain`: the train begins when its frame was sent. -/
def fullSent (r : State × Option AirFrame) (p i last : Nat) : State × Bool :=
  match r.2 with
  | none => (r.1, false)
  | some f => (fullBegun r.1 p i f last, true)

/-- Item 8 of R232: a full-interval train begins (R256). It is one transmission, from the start of its first copy to the end of its last (R260). -/
def fullTrain (s : State) (p asn : Nat) : State × Bool :=
  match fullReady s p with
  | none => (s, false)
  | some x => fullSent (fillTrain s p asn x.1 x.2) p x.1 (asn + lplSlots (radCfg s p) x.2)

/-! ## Bulk blocks (R448) -/

/-- A 4,096-octet block of the lantern image in staging, padded with zero (R448). -/
def imageBlock (s : State) (i : Nat) : List Byte :=
  let l := (bytesOf (tgetD s.flash.staging i [])).take (s.upd.dist.image.length - i * 4096)
  l ++ List.replicate (4096 - l.length) 0

/-- Item 10 of R232 and the BULK cells: the next chunk of a distribution. -/
def sendBulk (s : State) (p asn : Nat) : State × Bool :=
  let k := radCfg s p
  match (radPort s p).bulk with
  | [(c, total)] =>
    if total ≤ c then (s, false)
    else
      let half := limLight k < airOct k (psduOf 141)
      let oct := airOct k (psduOf (if half then 77 else 141))
      if !generalFits s p .d1 (chargeMs k oct) then ((chargeOrShed s p .d1 (chargeMs k oct)).1, false)
      else
        let size := if half then 64 else 128
        let blk := imageBlock s (c * size / 4096)
        let hdr := leBytes 2 s.upd.dist.image.hash8.toNat ++ leBytes 3 c ++ leBytes 3 total ++ leBytes 1 (b2n half) ++
          ((blk.drop (c * size % 4096)).take size) ++ leBytes 4 (crc32c blk)
        let b := broadcast s p 0x40 hdr oct (preambleAt k asn true)
        match b.2 with
        | none => (b.1, false)
        | some f =>
          let s := onAir (chargeOrShed b.1 p .d1 (chargeMs k oct)).1 p f
          (setRadPort s p fun x => { x with bulk := [(c + 1, total)] }, true)
  | _ => (s, false)

/-! ## Fallback instruction (R292) -/

/-- FB_MODE now (R292): HOLD in PADDLE, PHOTOCELL while R176 applies. -/
def fbMode (s : State) : Nat := if s.sys.start.mode = .paddle then 1 else if s.crs.susp then 2 else 0

/-- The UTC minute of a solar event today (R292). -/
def sunMinute (s : State) (kind dflt : Nat) : Nat :=
  let u := utcSec s
  match sunSec s kind (localAt s u / 86400) with
  | some n => (utcOfLocal s (localAt s u / 86400 * 86400) + n) / 60 % 1440
  | none => dflt

/-- The body of the fallback instruction (R292). -/
def fbBody (s : State) : List Byte :=
  leBytes 1 (fbMode s) ++ leBytes 2 (sunMinute s 2 0) ++ leBytes 2 (sunMinute s 1 0) ++ leBytes 2 (cRadio s).lostHold

/-- Whether the instruction is owed in this superframe (R292). -/
def fbOwed (s : State) (p : Nat) : Bool :=
  let x := radPort s p
  let sec := nowSec s
  if x.lastFb = sec then false
  else fbMode s ≠ 0 || sec < x.fbSince + 60 || x.lastFb + trimmed s .radRefresh s.rad.refresh ≤ sec

/-- The instruction is sent in one DOWN cell of the superframe (R292), as a broadcast in shed class D3. -/
def sendFallback (s : State) (p asn : Nat) : State × Bool :=
  let k := radCfg s p
  if !fbOwed s p then (s, false)
  else
    let oct := airOct k (psduOf 7)
    if !generalFits s p .d3 (chargeMs k oct) then ((chargeOrShed s p .d3 (chargeMs k oct)).1, false)
    else
      let b := broadcast s p 2 (fbBody s) oct (preambleAt k asn true)
      match b.2 with
      | none => (b.1, false)
      | some f =>
        let s := onAir (chargeOrShed b.1 p .d3 (chargeMs k oct)).1 p f
        (setRadPort s p fun x => { x with lastFb := nowSec s }, true)

/-- A change of FB_MODE starts its 60 s (R292). -/
def fbTrack (s : State) (p : Nat) : State :=
  let m := fbMode s
  setRadPort s p fun x => if x.fbMode = m then x else { x with fbMode := m, fbSince := nowSec s }

/-! ## The slot (R205, R211, R232, R255) -/

/-- The first of some items that sends (R232). -/
def firstItem (s : State) : List (State → State × Bool) → State
  | [] => s
  | f :: r =>
    let x := f s
    if x.2 then x.1 else firstItem x.1 r

/-- DOWN_CELL_TRANSMIT (R232). A full-interval train under way fills the cell before any of the list, and light frames due in it take the next (R256). -/
def downCell (s : State) (p asn : Nat) : State :=
  let light := (radPort s p).state ≠ .noLight
  if !txPlan (radPort s p) then
    (if (radPort s p).state = .quiet && s.sys.start.mode = .paddle then (sendFallback s p asn).1 else s)
  else
    let none_ : State → State × Bool := fun s => (s, false)
    firstItem s
      [fun s => fullGoesOn s p asn,
       if light then fun s => downRepeat s p asn else none_,
       if light then fun s => downTimed s p asn else none_,
       fun s => downOwed s p asn,
       fun s => downUntimed s p asn 4,
       fun s => downUntimed s p asn 5,
       fun s => sendFallback s p asn,
       fun s => downCommand s p asn,
       fun s => downUntimed s p asn 7,
       fun s => downTrain s p asn,
       fun s => fullTrain s p asn,
       fun s => downRdv s p asn,
       fun s => downListening s p asn,
       fun s => sendBulk s p asn]

/-- The Ryudan beacon payload (R207). -/
def beaconPayload (s : State) (k : PortCfg) : List Byte :=
  leBytes 1 1 ++ leBytes 1 (b2n k.slot10 + 2 * s.tim.qual.code + 8 * b2n (s.sys.start.mode = .paddle)) ++
    leBytes 1 (sfield 8 s.tim.taiUtc) ++ leBytes 1 s.tim.leap ++ leBytes 2 (cRadio s).planId ++ leBytes 1 s.led.starts ++
    leBytes 1 (k.open0 + 16 * k.open1)

/-- The beacon's PSDU up to the MIC (R206). -/
def beaconPsdu (s : State) (k : PortCfg) (asn : Nat) : List Byte :=
  leBytes 2 0xA308 ++ leBytes 2 (cRadio s).panId ++ leBytes 2 0 ++ leBytes 1 0x29 ++ leBytes 1 (sharedIndex s.sec.beaconGen) ++
    leBytes 2 0x3F00 ++ leBytes 2 0x8808 ++ leBytes 2 0x1A06 ++ leBytes 5 asn ++ leBytes 1 0 ++ leBytes 2 0xF800 ++ beaconPayload s k

/-- The beacon as it goes on air (R205, R206, R269, R270). -/
def beaconFrame (s : State) (k : PortCfg) (asn : Nat) : AirFrame :=
  let all := beaconPsdu s k asn
  let nonce := asnNonce Config.eui asn
  { mtype := 0, level := 1, keyIndex := sharedIndex s.sec.beaconGen, counter := asn, body := all, octets := beaconOct k, nonce := nonce
    psdu := secured1 k ((sharedKey s s.sec.beaconGen).getD {}) nonce all, start := preambleAt k asn false }

/-- BEACON (R205, R271): sent unless the port is RX_ONLY or its ASN has been used already under the key. -/
def beacon (s : State) (p asn : Nat) : State :=
  let k := radCfg s p
  let x := radPort s p
  if !txBeacon x || asn ≤ x.maxAsn || (sharedKey s s.sec.beaconGen).isNone then radCount s p 12
  else
    let s := chargeBeacon s p
    let s := setRadPort (radCount s p 11) p fun x => { x with maxAsn := asn }
    onAir s p (beaconFrame s k asn)

/-- ADRIFT sets (R255, R256). -/
def setAdrift (s : State) (i : Nat) : State :=
  match natEnt s i with
  | some e =>
    if e.adrift then s
    else event (snsCount (setNat s i fun e => { e with adrift := true }) 0) .rad 0x0401 i 0xFFFF 0
  | none => s

/-- The guard of a sensor node in its UP cell (R246, R255): ADRIFT when it exceeds the cap. -/
def openWindow (s : State) (p asn i : Nat) : State :=
  match natEnt s i with
  | none => s
  | some e =>
    let k := radCfg s p
    if !isSensor e || e.adrift || !e.enrolled || superOf k asn < (nodeDyn s i).served then s
    else
      let g := guardAt s i e (slotStart k asn + tOfsUs k * 1000 + octNs k (shrOct k))
      if g > guardCap s p then setAdrift s i else setNat s i fun e => { e with guard_ := g }

/-- An outcome of a CALL's unicast: the entry of a node send, which is then DONE (R471), or a node's entry of a scan (R472). -/
def sendOutcome (s : State) (h i outcome : Nat) : State :=
  if (call s h).op = 2 then
    let e := (natEnt s i).getD {}
    callEntry s h (leBytes 8 e.ext ++ leBytes 1 e.port ++ leBytes 1 2 ++ leBytes 1 (sfield 8 e.rssi) ++ leBytes 1 e.lq ++ leBytes 2 i ++
      leBytes 1 outcome ++ leBytes 1 0)
  else endCall (callWord s h (pack [(28, outcome), (16, i)])) h .done .ok

/-- A unicast ends without acknowledgement (R219, R471, R298): counted, its CALL told. -/
def uniUnconfirmed (s : State) (p : Nat) (u : Unicast) : State :=
  let s := radCount (dropUni s p u) p 10
  let s := setNat s u.node fun e => { e with txUnconf := satAdd 16 e.txUnconf 1 }
  let s := if u.kind = .downlink then snsCount s 5 else s
  match u.call with
  | some h => sendOutcome s h u.node 2
  | none => s

/-- An announced downlink whose cell has passed unused waits for another train (R254). -/
def rdvPassed (s : State) (p asn : Nat) : State :=
  setRadPort s p fun x => { x with uni := x.uni.map fun u =>
    if u.sent = none && (u.rdv.any fun a => decide (a < asn)) then { u with rdv := none } else u }

/-- UNICAST_RETRY (R219): attempts whose ack has not come are retried in the node's next owed cell, or ended after the last. -/
def retries (s : State) (p asn : Nat) : State :=
  let s := rdvPassed s p asn
  ((radPort s p).uni.filter fun u => match u.sent with
    | some (a, _) => a < asn
    | none => false).foldl (fun s u =>
      let last := u.left = 0 && !(u.kind = .downlink && u.call.isSome)
      if last then uniUnconfirmed s p u else setUni s p u { u with sent := none, left := max 1 u.left }) s

/-- The ASN of the port's next slot (R200): the slot that begins now, or the next one. -/
def nextAsn (s : State) (p : Nat) : Nat :=
  let k := radCfg s p
  let cur := asnAt k (nowNs s)
  match (radPort s p).asn with
  | some a => if a = cur then cur + 1 else if nowNs s < slotStart k cur + 5 then cur else cur + 1
  | none => if nowNs s < slotStart k cur + 5 then cur else cur + 1

/-- A cell of a port in INIT or FAULT: a beacon not sent is counted (R205); in INIT a cell to receive in counts in RX_WIN and a cell to send in counts in
TX_UNCONF (R240). -/
def lostCell (s : State) (p asn : Nat) : State :=
  match (cellAt (radCfg s p) (slotOf (radCfg s p) asn) 0).kind with
  | 1 => radCount s p 12
  | 5 => if (radPort s p).state = .init && upNodes s p asn ≠ [] then radCount s p 5 else s
  | 6 | 7 | 8 | 9 => if (radPort s p).state = .init then radCount s p 5 else s
  | 3 => if (radPort s p).state = .init then radCount s p 10 else s
  | _ => s

/-- What RAD does in the port's cell on offset 0 (R202): to receive, the transceiver is armed (R199). -/
def cellAct (s : State) (p asn : Nat) : State :=
  let k := radCfg s p
  let s := (upNodes s p asn).foldl (fun s x => openWindow s p asn x.1) s
  match (cellAt k (slotOf k asn) 0).kind with
  | 1 => beacon s p asn
  | 3 => downCell s p asn
  | 5 | 6 | 7 | 8 | 9 => trxReceive s p
  | 0xA => if txPlan (radPort s p) then (sendBulk s p asn).1 else s
  | _ => s

/-- The slot of a port that begins at the present instant. -/
def slotBegins (s : State) (p asn : Nat) : State :=
  let s := fbTrack (setRadPort s p fun x => { x with asn := some asn, ack := none, spi := [] }) p
  let s := retries s p asn
  if !radServes s then s
  else if !rxOpen (radPort s p) then lostCell s p asn
  else cellAct s p asn

/-- Whether a port has slots. -/
def hasSlots (s : State) (p : Nat) : Bool := (radCfg s p).enabled && s.tim.set && (radPort s p).state ≠ .off

/-- The ports below `p` on its account whose slot of instant `t` has not begun: their decisions come first (R260). -/
def portsBefore (s : State) (p t : Nat) : List Nat :=
  (List.range p).filter fun q => hasSlots s q && acctOf s q = acctOf s p && slotStart (radCfg s q) (nextAsn s q) = t

/-- SLOT_START (R200): the next radio slot of a port begins, and RAD acts in its cell on offset 0 as the plan assigns; ports with the same account
whose slot begins at the same instant are served in ascending order (R260). -/
def portSlot (s : State) (p : Nat) : State :=
  if !hasSlots s p then s
  else
    let asn := nextAsn s p
    let t := slotStart (radCfg s p) asn
    let first := (portsBefore s p t).map fun q => (q, nextAsn s q)
    let s := first.foldl (fun s q => slotBegins s q.1 q.2) (advanceTo s t)
    slotBegins s p asn

/-- Beacons of superframes that a step of network time passes over, from old time `a` to new time `b` in ns (R30, R205), on every used port. -/
def beaconsPassed (s : State) (a b : Nat) : State :=
  let n := cdiv b giga - cdiv a giga
  if n = 0 then s
  else (List.range 4).foldl (fun s p =>
    if (radCfg s p).enabled then setRadPort s p fun x => { x with cnt := upd x.cnt 12 fun c => satAdd 32 c n } else s) s

/-! ## Transceivers (R195, R240, R80) -/

/-- A transceiver is reset (R80, R240): RADn_RST_N low for 100 µs, then the ready time of the profile, and INIT follows; frames in the gap are lost. -/
def trxReset (s : State) (p cause : Nat) : State :=
  let rst := s.tim.cyc + 25000
  let s := setRadPort (radCount s p 13) p fun x =>
    { x with ack := none, rstUntil := rst, readyAt := rst + (radCfg s p).profile.tRst * 250 }
  setPortState s p .init cause

/-- A light entry that its port can no longer send ends UNCONFIRMED (R53, R240). -/
def entryEnds (s : State) (e : LightEntry) : State :=
  match e.slot, natOfChan s e.chan with
  | some (k, n), some x => cmdOutcome s k n x.1 2
  | _, _ => s

/-- A port enters FAULT (R240): its nodes drop out of contact and requests to them end as R53 provides. -/
def portFaulted (s : State) (p : Nat) : State :=
  let x := radPort s p
  let s := (s.rad.nat.filter fun e => e.2.port = p).foldl (fun s e => setDyn s e.1 fun d => { d with contact := none }) s
  let s := x.timedq.foldl entryEnds s
  let s := x.frames.foldl (fun s f => f.entries.foldl (fun s e => awaitOutcome s f.frame.counter true e) s) s
  let s := (x.uni.filter fun u => u.call.isSome).foldl (fun s u => uniUnconfirmed s p u) s
  setRadPort (setPortState s p .fault 6) p fun y => { y with timedq := [], frames := [], full := none, faultAt := s.tim.cyc }

/-- TRX_TMO (R58, R240): a template did not pass within T_CMD after its retries; the third INIT failure in a row is a FAULT. -/
def trxTmo (s : State) (p : Nat) : State :=
  let x := radPort s p
  if x.state = .off || x.state = .reset || x.state = .fault then s
  else if x.state = .init then
    let n := satAdd 8 x.initFails 1
    let s := setRadPort s p fun x => { x with initFails := n }
    if n ≥ 3 then portFaulted s p else trxReset s p 6
  else trxReset s p 5

/-- TRANSCEIVER_RESET_DONE (R80, R195): the ready time is over, INIT and the channel of offset 0 have been set, and the port runs. -/
def trxDone (s : State) (p : Nat) : State :=
  if (radPort s p).state ≠ .init then s
  else
    let s := advanceCyc s (max s.tim.cyc (radPort s p).readyAt)
    let s := trxInit (trxIdleOwed s p) p
    let s := setRadPort s p fun x => { x with initFails := 0 }
    setPortState s p (portTarget s (radCrabbed s)).1 (portTarget s (radCrabbed s)).2

/-- PORT_INIT_RETRY (R240): every 60 s a port in FAULT tries INIT again. -/
def portRetry (s : State) (p : Nat) : State :=
  if (radPort s p).state = .fault then trxReset (advanceCyc s (max s.tim.cyc ((radPort s p).faultAt + secCyc 60))) p 6 else s

/-- PORT_BRING_UP (R195): used ports release RADn_RST_N when RAD leaves its station reset, wait T_RST and start INIT; the others stay OFF. -/
def portBringUp (s : State) : State :=
  (List.range 4).foldl (fun s p =>
    if (radCfg s p).enabled then
      let s := if s.pwr.holdA then s else { s with pins := { s.pins with radRst := upd s.pins.radRst p fun _ => .high } }
      let s := setRadPort s p fun x => { x with readyAt := s.tim.cyc + (radCfg s p).profile.tRst * 250, idleOwed := true }
      setPortState s p .init 0
    else setRadPort s p fun x => { x with state := .off, cause := 0 }) s

/-- A RAD station reset (R36): frame buffers and transmissions in progress are lost; NAT, keys, counters and duty are kept. -/
def radStationReset (s : State) : State :=
  setRad s fun r =>
    { r with ports := r.ports.map fun x => { asn := x.asn, maxAsn := x.maxAsn, fbMode := x.fbMode, fbSince := x.fbSince, bulk := x.bulk,
                                             uni := x.uni.map fun u => { u with sent := none } }
             late := 0, findShort := false, findLo := 0, findHi := 0, cmdStat := 0, cmdErr := .ok, evictAt := none,
             sns := List.replicate 7 0, outs := [], staged := [], stagedTimed := [], lateList := [], waits := [], refresh := (cRadio s).refresh, refreshNext := none
             duty := r.duty.map fun a => { a with shed := [0, 0, 0, 0, 0] } }

/-- The lowest number from `b` on that a list does not hold. -/
def lowestFree (l : List Nat) (b : Nat) : Nat := ((List.range (l.length + 1)).find? fun i => !l.contains (b + i)).getD 0 + b

/-- REJOIN_RANK of an entry that joins a NAT (R237): unique within the port and depth of a lantern and counted from 0. -/
def rankFor (nat : Tab NatEnt) (e : NatEnt) : Nat :=
  let peers := (nat.filter fun p => isLantern p.2 && p.2.port = e.port && p.2.depth = e.depth).map fun p => p.2.rejoinRank
  if !isLantern e then 0 else if peers.contains e.rejoinRank then lowestFree peers 0 else e.rejoinRank

/-- The NAT entry of a NODES entry (R116, R224), its rank unique among those before it (R237). -/
def nodeEnt (nat : Tab NatEnt) (n : NodeCfg) : NatEnt :=
  let e : NatEnt :=
    { ext := n.ext, short := n.short, role := n.role, port := n.port, depth := n.depth, channel := n.channel, parent := n.parent,
      keyIndex := n.keyIndex, drift := n.driftClass, rejoinRank := n.rejoinRank, eventGroup := n.eventGroup, upmax := n.upmax,
      upSlot := n.upSlot, upOfs := n.upOfs, upPeriod := n.upPeriod, upPhase := n.upPhase, lpl := n.lplMs }
  { e with rejoinRank := rankFor nat e }

/-- A rebuilt entry (R224): the saved fields, counters from their floors, every link in the explicit regime. -/
def rebuiltEnt (s : State) (i : Nat) (e : NatEnt) (lost : Bool) : NatEnt :=
  { ext := e.ext, short := e.short, role := e.role, port := e.port, depth := e.depth, channel := e.channel, parent := e.parent,
    keyIndex := e.keyIndex, drift := e.drift, rejoinRank := e.rejoinRank, eventGroup := e.eventGroup, upmax := e.upmax,
    upSlot := e.upSlot, upOfs := e.upOfs, upPeriod := e.upPeriod, upPhase := e.upPhase, lpl := e.lpl,
    enrolled := !lost && (linkKey s i (genOf e)).isSome, txFc := floorOf s.ledr.linkTx i + 256, rxFc := floorOf s.ledr.linkRx i }

/-- RAD at a module start (R224, R261, R282): the NAT from the ledger or the NODES section, duty bins resumed, RESYNC trains queued. -/
def radStart (s : State) : State :=
  let lost := s.ledr.nat.isNone
  let src : Tab NatEnt := match s.ledr.nat with
    | some t => t
    | none => (cNodes s).foldl (fun t n => tput t n.index (nodeEnt t n)) []
  let nat := src.map fun p => (p.1, rebuiltEnt s p.1 p.2 lost)
  let d := if s.ledr.duty = [] then List.replicate 4 {} else s.ledr.duty
  let s := setRad s fun _ =>
    { nat := nat, dyn := s.ledr.devRx.map fun p => (p.1, { devRx := floorOf s.ledr.devRx p.1 }), hash := hashBuild nat 0, refresh := (cRadio s).refresh, binAt := s.tim.cyc
      duty := d.map fun a => { bins := (0, 0, 0) :: a.bins.take 3599 } }
  let s := keysStart s
  (s.rad.nat.filter fun p => p.2.enrolled && isSensor p.2 && p.2.depth = 0 && p.2.lpl ≠ 0).foldl (fun s p =>
    queueUni s { node := p.1, kind := .resync }) s

end Sys2Proof.Machine
end

