-- ==== Sys2Proof/Machine/RadioRx.lean ====
section
/-! DEFINITION. Frames received (R211 to R222, R235 to R238, R249 to R257, R276 to R281, R291, R296 to R301), acks, RAD's registers (R241,
R266). -/
namespace Sys2Proof.Machine

/-! ## Windows and checks (R211, R212) -/

/-- Where a received frame fails (R211, R212); `barred` is a source of the NAT that is not entitled to the cell. -/
inductive RxFail where
  | win | filt | unknown | barred (i : Nat)
  deriving DecidableEq, Repr

/-- The counter of a failed check (R212). -/
def RxFail.idx : RxFail → Nat
  | .filt | .barred _ => 1
  | .unknown => 2
  | .win => 5

/-- The SFD time of a frame (R211): the captured edge of RADn_SFD less T_SFDLAT. -/
def sfdOf (s : State) (f : RxFrame) : Nat := f.edge - (radCfg s f.port).profile.tSfdLat

/-- The end of a frame (R215): E = SFD time + (2 + PSDU) × T_oct. -/
def frameEnd (s : State) (f : RxFrame) : Nat := sfdOf s f + octNs (radCfg s f.port) (2 + f.psdu)

/-- The cell a frame arrives in. -/
def frameAsn (s : State) (f : RxFrame) : Nat := asnAt (radCfg s f.port) (sfdOf s f)
def frameCell (s : State) (f : RxFrame) : PlanCell :=
  let k := radCfg s f.port
  cellAt k (slotOf k (frameAsn s f)) 0

/-- The node whose UP cell on offset 0 this slot is. -/
def cellOwner (s : State) (p asn : Nat) : Option (Nat × NatEnt) := (upNodes s p asn).find? fun x => x.2.upOfs = 0

/-- Whether a sensor node's own cells are served (R111, R256, R257): not in PADDLE, while it is adrift, or before the superframe after its return. -/
def sensorServed (s : State) (p asn i : Nat) (e : NatEnt) : Bool :=
  s.sys.start.mode ≠ .paddle && !e.adrift && (nodeDyn s i).served ≤ superOf (radCfg s p) asn

/-- The SFD window of a cell in ns: start and end (R211); none where the module does not receive. -/
def sfdWindow (s : State) (p asn : Nat) : Option (Int × Int) :=
  let k := radCfg s p
  let c := cellAt k (slotOf k asn) 0
  let base := slotStart k asn
  let win := fun (ofs g : Nat) =>
    let e : Int := base + ofs * 1000 + octNs k (shrOct k)
    some (e - g * 1000, e + g * 1000)
  match c.kind with
  | 5 =>
    match cellOwner s p asn with
    | some x =>
      if isLantern x.2 then win tLofs gL
      else if sensorServed s p asn x.1 x.2 then win (tOfsUs k) x.2.guard_ else none
    | none => none
  | 6 | 7 => if s.sys.start.mode = .paddle then none else win (tOfsUs k) (tOfsUs k)
  | 8 => win tLofs gL
  | 9 =>
    match win (tOfsUs k) (tOfsUs k) with
    | some w => some (w.1, w.2 - octNs k 6)
    | none => none
  | _ => none

/-- The nominal SFD time of a cell (R211), for the time correction of R217. -/
def expectedSfd (s : State) (p asn : Nat) : Nat :=
  let k := radCfg s p
  let lan := match (cellAt k (slotOf k asn) 0).kind with
    | 8 => true
    | 5 => match cellOwner s p asn with
      | some x => isLantern x.2
      | none => false
    | _ => false
  slotStart k asn + (if lan then tLofs else tOfsUs k) * 1000 + octNs k (shrOct k)

/-- The length limit of a cell in octets on air (R204, R212). -/
def cellLimit (s : State) (p asn : Nat) : Nat :=
  let k := radCfg s p
  match (cellAt k (slotOf k asn) 0).kind with
  | 8 => limLanternUp k
  | 5 =>
    match cellOwner s p asn with
    | some x => if isLantern x.2 then limLanternUp k else min x.2.upmax k.upmax
    | none => 0
  | _ => k.upmax

/-- Octets on air of a frame whose PHR gives a PSDU length (R204). -/
def onAirOct (k : PortCfg) (psdu : Nat) : Nat := shrOct k + 2 + psdu

/-- The filters made on the header (R212): length, version, type, PAN, destination, security. -/
def headerOk (s : State) (f : RxFrame) : Bool :=
  onAirOct (radCfg s f.port) f.psdu ≤ cellLimit s f.port (frameAsn s f) && f.fcf / 4096 % 4 = 2 && f.fcf % 8 = 1 &&
    f.destPan = (cRadio s).panId && (if f.destExt then f.dest = Config.eui else f.dest = 0) && f.fcf / 8 % 2 = 1

/-- The NAT entry of a frame's source (R213). -/
def rxSource (s : State) (f : RxFrame) : Option Nat := findNat s (!f.srcExt) f.src

/-- Whether a source is entitled to the cell (R202, R212); in PADDLE there is no sensor service (R111). -/
def entitled (s : State) (f : RxFrame) (i : Nat) (e : NatEnt) : Bool :=
  let c := frameCell s f
  e.port = f.port && (isLantern e || s.sys.start.mode ≠ .paddle) &&
    match c.kind with
    | 5 => (cellOwner s f.port (frameAsn s f)).map Prod.fst = some i
    | 6 | 7 => e.role = 3 && e.eventGroup = c.ref % 256 && !e.adrift
    | 8 => ((relaysOf s i 3).map Prod.fst).contains c.ref
    | 9 => e.depth = c.depth
    | _ => false

/-- The checks up to the source (R211, R212): the source, none for an unknown extended source in an OPEN cell. -/
def rxHeader (s : State) (f : RxFrame) : Except RxFail (Option Nat) :=
  match sfdWindow s f.port (frameAsn s f) with
  | none => .error .win
  | some w =>
    if !(w.1 ≤ sfdOf s f && (sfdOf s f : Int) < w.2) then .error .win
    else if !headerOk s f then .error .filt
    else
      match rxSource s f with
      | none => if f.srcExt && (frameCell s f).kind = 9 then .ok none else .error .unknown
      | some i =>
        match natEnt s i with
        | none => .error .unknown
        | some e => if entitled s f i e then .ok (some i) else .error (.barred i)

/-- A frame refused after lookup (R221). -/
def dropped (s : State) (i : Nat) : State := setNat s i fun e => { e with rxDrop := satAdd 16 e.rxDrop 1 }

/-- A frame fails a check up to the source (R212): the transceiver returns to receive, the failure is counted. -/
def rxFails (s : State) (p : Nat) (e : RxFail) : State :=
  let s := radCount (trxRearm s p) p e.idx
  match e with
  | .barred i => dropped s i
  | _ => s

/-- A frame has ended (R215): its SFD is kept, and it no longer waits for resources. -/
def rxEnds (s : State) (f : RxFrame) : State :=
  let s := setRadPort (advanceTo s (frameEnd s f)) f.port fun x => { x with sfd := ts32 (sfdOf s f) }
  setRad s fun r => { r with waits := r.waits.filter fun w => w.1 ≠ .frame f }

/-! ## The ack (R214 to R217) -/

/-- Bits [11:0] of the Time Correction IE (R217): expected − measured, in whole µs, saturating. -/
def timeCorrection (s : State) (f : RxFrame) : Int :=
  max (-2048) (min 2047 (((expectedSfd s f.port (frameAsn s f) : Int) - sfdOf s f).tdiv 1000))

/-- The pending bit of an ack as decided (R214). -/
def ackPend (s : State) (i : Option Nat) : Bool :=
  match i with
  | some i => pendingOf s i ≠ 0
  | none => false

/-- The node an ack is addressed to (R216, R227): the relay that transmitted in a FORWARD cell, else the source; none for an unknown source. -/
def ackNode (s : State) (f : RxFrame) (i : Option Nat) : Option Nat :=
  if (frameCell s f).kind = 8 then some (frameCell s f).ref else i

/-- Key index and key of an ack (R216, R227, R297): that of the frame, a relay's own in a FORWARD cell, the beacon key for an unknown source. -/
def ackKey (s : State) (f : RxFrame) (i : Option Nat) : Nat × Option Key :=
  match ackNode s f i with
  | none => (sharedIndex s.sec.beaconGen, sharedKey s s.sec.beaconGen)
  | some n =>
    if (frameCell s f).kind = 8 then
      let e := (natEnt s n).getD {}
      (e.keyIndex, linkKey s n (genOf e))
    else if f.keyIndex = 0x30 then (0x30, tget s.keys.device n)
    else (f.keyIndex, linkKey s n (f.keyIndex - 0x20))

/-- The ack is decided and armed (R214, R215, R260, R271): withheld when it cannot be charged or its ASN has been used. An ack to an
unknown extended source takes the addressing bits of R286's extended-destination frame control (R216). -/
def armAck (s : State) (f : RxFrame) (i : Option Nat) (nack : Bool) : State :=
  let k := radCfg s f.port
  let node := ackNode s f i
  let oct := ackOct k + (if node.isNone then 6 else 0)
  let asn := frameAsn s f
  if asn ≤ (radPort s f.port).maxAsn then s
  else
    let c := chargeOrShed s f.port .top (chargeMs k oct)
    if !c.2 then c.1
    else
      let key := ackKey s f i
      let dest := match node with
        | some n => ((natEnt s n).getD {}).short
        | none => f.src
      let a := ackFrame s f.port asn node dest node.isNone (ackPend s i) nack (timeCorrection s f) (f.counter % 65536) key.1 key.2 oct
        (frameEnd s f + 400000)
      trxSend (setRadPort c.1 f.port fun x => { x with ack := some (a, a.start) }) f.port a

/-- ACK_WITHDRAWN (R215): TXGO is not raised, and the transceiver returns to receive by way of IDLE (R212). -/
def withdrawAck (s : State) (p : Nat) : State :=
  let s := trxRearm s p
  if (radPort s p).ack.isSome then radCount (setRadPort s p fun x => { x with ack := none }) p 9 else s

/-- An accepted frame whose ack carries the pending bit owes its node a downlink (R251). -/
def ackOwes (s : State) (f : RxFrame) (i : Nat) (pend : Bool) : State :=
  if pend && (radPort s f.port).ack.isSome then setDyn s i fun d => { d with owed := some (frameAsn s f) } else s

/-- ACK_TXGO (R215): RADn_TXGO rises at E + 400 µs − T_TXLAT, so that the ack's preamble starts at E + 400 µs. -/
def ackTxgo (s : State) (p : Nat) : State :=
  match (radPort s p).ack with
  | none => s
  | some (a, t) =>
    if !rxOpen (radPort s p) then s
    else
      let s := txGo (advanceTo s (t - (radCfg s p).profile.tTxLat)) p a
      setRadPort (radCount s p 8) p fun x => { x with ack := none, maxAsn := max x.maxAsn a.counter, last := some a }

/-! ## Keys, MIC and sequence (R268, R276 to R281) -/

/-- What the sequence rules make of a frame: `undeliv` passes but is of a type not delivered in the explicit regime, `unchecked` cannot be checked
there. -/
inductive SecRes where
  | deliver | dup | undeliv | unchecked | replay
  deriving DecidableEq, Repr

/-- The sequence and regime rules for a frame under the link key (R277, R280, R281). `typed` says its type may be delivered in the
explicit regime. -/
def linkJudge (s : State) (i : Nat) (e : NatEnt) (f : RxFrame) (typed : Bool) : SecRes :=
  let new : SecRes := if typed then .deliver else .undeliv
  if f.explicit_ then
    if e.explicit_ then (if e.rxFc < f.counter then new else if f.counter = e.rxFc then .dup else .replay)
    else if rxTop e < f.counter then new else .replay
  else
    let last := if e.explicit_ then 0 else e.rxSeq
    if e.explicit_ && (nodeDyn s i).newEpoch.isNone then .unchecked
    else if f.counter = last && !e.explicit_ then .dup
    else if last < f.counter && f.counter ≤ last + 4096 then .deliver
    else .replay

/-- A first frame of a node that has restarted sets EXPLICIT and RX_FC whatever its type (R280). -/
def restartSeen (s : State) (i : Nat) (f : RxFrame) : State :=
  match natEnt s i with
  | some e =>
    if f.explicit_ && !e.explicit_ && rxTop e < f.counter then
      let s := setNat (setNat s i NatEnt.explicitNow) i fun e => { e with rxFc := f.counter }
      rxFloor (setDyn s i fun d => { d with newEpoch := none }) i
    else s
  | none => s

/-- The counters of a delivered frame (R222, R274, R281): the first normal frame of a new epoch ends the explicit regime; a worn key is replaced
(R283). -/
def acceptCounterOf (s : State) (i : Nat) (f : RxFrame) : State :=
  match natEnt s i with
  | none => s
  | some e =>
    let s := if f.explicit_ then setNat s i fun e => { e with rxFc := f.counter }
      else if e.explicit_ then
        let ep := (nodeDyn s i).newEpoch.getD (e.linkEpoch + 1)
        let s := setNat s i fun e => { e with explicit_ := false, linkEpoch := ep, rxSeq := f.counter, txSeq := 0 }
        setDyn s i fun d => { d with newEpoch := none }
      else setNat s i fun e => { e with rxSeq := f.counter }
    rekeyWorn (rxFloor s i) i (((natEnt s i).map rxTop).getD 0)

/-- A frame under the idle generation confirms a rekey whose acknowledgement was lost (R283). -/
def confirmRekey (s : State) (i : Nat) (f : RxFrame) : State :=
  match natEnt s i with
  | some e =>
    if (nodeDyn s i).rekeying && f.micOk && f.keyIndex ≠ e.keyIndex && (f.keyIndex = 0x20 || f.keyIndex = 0x21) then
      rekeyDone (setRadPort s e.port fun x => { x with uni := x.uni.filter fun u => !(u.node = i && u.cmd = 2) }) i
    else s
  | none => s

/-- Whether the key a frame names is the link key in use and is held (R268). -/
def linkKeyOk (s : State) (i : Nat) (f : RxFrame) : Bool :=
  match natEnt s i with
  | some e => f.keyIndex = e.keyIndex && (linkKey s i (genOf e)).isSome
  | none => false

/-- A node whose link key is gone is told to enrol again (R275, R301). -/
def enrolAgain (s : State) (i : Nat) (f : RxFrame) : State :=
  let queued := s.rad.ports.any fun p => p.uni.any fun u => u.node = i && u.kind = .rejoin
  if queued || (tget s.keys.device i).isNone then s
  else queueUni s { node := i, kind := .rejoin, device := true, extAddr := true,
                    data := leBytes 1 1 ++ leBytes 4 f.counter ++ leBytes 2 0 ++ leBytes 1 s.led.starts ++ leBytes 4 0 }

/-- Counts of a frame that fails MIC or sequence (R212, R277, R302), its ack withdrawn; refused after lookup in the node's entry. -/
def micFail (s : State) (f : RxFrame) (i : Nat) (cnt : Nat) : State :=
  let s := dropped (radCount (withdrawAck s f.port) f.port 4) i
  if cnt < 6 then secCount s cnt else s

/-- A frame fails its FCS (R212, R221): its ack is withdrawn; in an EVENT or OPEN cell it counts as a collision too. -/
def fcsFail (s : State) (f : RxFrame) (i : Option Nat) : State :=
  let s := radCount (withdrawAck s f.port) f.port 3
  let s := match i with
    | some i => dropped s i
    | none => s
  if [6, 7, 9].contains (frameCell s f).kind then radCount s f.port 6 else s

/-! ## Accepted frames (R222, R246, R257) -/

/-- A node has made contact: a wake train not yet sent is cancelled and its downlink goes by the pending bit (R254); KEY and REKEY it still owes are
queued again (R283, R284). -/
def madeContact (s : State) (i : Nat) : State :=
  match natEnt s i with
  | none => s
  | some e =>
    let s := setRadPort s e.port fun x =>
      { x with uni := (x.uni.filter fun u => !(u.node = i && u.kind = .resync)).map fun u =>
          if u.node = i && u.rdv = none then { u with train := false } else u }
    let s := if (nodeDyn s i).rekeying then queueRekey s i else s
    let queued := (radPort s e.port).uni.any fun u => u.node = i && u.cmd = 1
    if queued then s
    else (nodeDyn s i).keyOwed.foldl (fun s slot =>
      let sw := ((s.rad.switches.find? fun x => x.1 = slot).map fun x => x.2.1).getD (nowSec s)
      queueKey s i slot sw) s

/-- A node returns from ADRIFT (R257): its UP cells are served from the next superframe, and a full-interval train to it ends (R256). -/
def adriftEnds (s : State) (f : RxFrame) (i : Nat) (e : NatEnt) : State :=
  let s := setDyn (setNat s i fun e => { e with adrift := false }) i fun d =>
    { d with served := superOf (radCfg s f.port) (frameAsn s f) + 1 }
  let s := setRadPort s f.port fun x => { x with full := if x.full.any fun y => y.1 = i then none else x.full }
  event (snsCount s 1) .rad 0x0402 i e.guard_ 0

/-- R222: one update of the source's entry, a duplicate's too (DEDUCED: R222 parts accepted from delivered, and R277 acknowledges a
duplicate); the reference contact (R246); a frame of an OPEN cell, also one a relay forwards, ends ADRIFT (R257, log entry 119). -/
def acceptFrame (s : State) (f : RxFrame) (i : Nat) : State :=
  let sfd := sfdOf s f
  let s := setNat (radCount s f.port 0) i fun e =>
    { e with lastTs32 := ts32 sfd, lastSec := sfd / giga % frac, rssi := f.rssi, rxOk := satAdd 16 e.rxOk 1, missed := 0,
             lq := e.lq - e.lq / 8 + f.lqi / 8 }
  let s := setDyn s i fun d => { d with tref := some sfd, trefStep := s.tim.stepSeq, contact := some sfd }
  let s := match natEnt s i with
    | some e => if e.adrift && ((frameCell s f).kind = 9 || (frameCell s f).kind = 8) then adriftEnds s f i e else s
    | none => s
  madeContact s i

/-- The report packet RAD has begun to write from a frame leaves its queue when the MIC fails (R398): the queue and the packet's words. -/
def reportRewound (s : State) : Option (Nat × Nat) → State
  | some (q, n) => rewound s q n
  | none => s

/-- What its entry says of a frame under the link key whose FCS, node and key are right (R217, R277, R280): whether it is delivered. `pend` says that a
downlink was owed before it. -/
def rxDecided (s : State) (f : RxFrame) (i : Nat) (e : NatEnt) (typed buffer pend : Bool) (pkt : Option (Nat × Nat)) : State × Option Nat :=
  let j := linkJudge s i e f typed
  let s := armAck s f (some i) (j = .deliver && f.micOk && !buffer)
  if j = .replay then (micFail s f i 1, none)
  else if j = .unchecked then (micFail s f i 6, none)
  else if !f.micOk then (reportRewound (micFail s f i 0) pkt, none)
  else
    let s := oldKeyGone s i
    if j = .dup then (ackOwes (acceptFrame (secCount s 2) f i) f i pend, none)
    else if j = .undeliv then (restartSeen (micFail s f i 6) i f, none)
    else if !buffer then (dropped s i, none)
    else (ackOwes (acceptFrame (acceptCounterOf (restartSeen s i f) i f) f i) f i pend, some i)

/-- A frame of a known source under the link key: FCS, key and MIC, then what its entry says (R212, R217, R277). -/
def rxKnown (s : State) (f : RxFrame) (i : Nat) (typed buffer : Bool) (pkt : Option (Nat × Nat)) : State × Option Nat :=
  let pend := ackPend s (some i)
  let s := trxRead s f.port f.psdu
  if !f.fcsOk then (fcsFail (armAck s f (some i) false) f (some i), none)
  else
    let s := confirmRekey s i f
    match natEnt s i with
    | none => (s, none)
    | some e =>
      if !linkKeyOk s i f then
        let s' := micFail (armAck s f (some i) false) f i 6
        (if (linkKey s i (genOf e)).isNone && !e.enrolled then enrolAgain s' i f else s', none)
      else rxDecided s f i e typed buffer pend pkt

/-- What the check of a frame's header leads to (R212, R214): `h` is the check's outcome. -/
def rxHeaded (s : State) (f : RxFrame) (typed buffer : Bool) (pkt : Option (Nat × Nat)) (h : Except RxFail (Option Nat)) :
    State × Option Nat :=
  match h with
  | .error e => (rxFails s f.port e, none)
  | .ok none =>
    let s := armAck (trxRead s f.port f.psdu) f none false
    (if f.fcsOk then radCount (withdrawAck s f.port) f.port 4 else fcsFail s f none, none)
  | .ok (some i) => rxKnown s f i typed buffer pkt

/-- Checks, ack and counts of a frame under the link key (R212 to R218, R277, R280): whether it is delivered. `buffer` says that a frame buffer was
acquired; without one the ack carries NACK and the frame is dropped (R217, R58). `pkt` is the report packet that the frame gives. -/
def rxJudge (s : State) (f : RxFrame) (typed buffer : Bool) (pkt : Option (Nat × Nat)) : State × Option Nat :=
  if !rxOpen (radPort s f.port) || !radServes s then (s, none)
  else rxHeaded (rxEnds s f) f typed buffer pkt (rxHeader (rxEnds s f) f)

/-- A frame that needs no wait for its resources (R57). -/
def rxLink (s : State) (f : RxFrame) (typed : Bool) : State × Option Nat := rxJudge s f typed true none

/-- A frame that gives a report packet. -/
def rxReport (s : State) (f : RxFrame) (q n : Nat) : State × Option Nat := rxJudge s f false true (some (q, n))

/-- RX_FRAME_ABORTED (R211, R212): a frame that fails a check is aborted and counted; one that passes them all is not such an event. -/
def rxAborted (s : State) (f : RxFrame) : State :=
  let r := rxLink s f false
  match r.2 with
  | none => r.1
  | some _ => s

/-! ## Light outcomes (R291) -/

/-- Outcomes that a report decides (R291). -/
def reportOutcomes (s : State) (c sfd lfCtr : Nat) : State :=
  (s.rad.outs.filter fun o => o.chan = c && o.last && o.lastNs < sfd).foldl (fun s o =>
    cmdOutcome (setRad s fun r => { r with outs := r.outs.erase o }) o.slot o.serial o.nat (if o.counter ≤ lfCtr then 1 else 2)) s

/-- LIGHT_OUTCOME_TIMEOUT (R291): no report within 2 × UP_PERIOD + 1 s of the last transmission. -/
def outcomeTimeout (s : State) (c : Nat) : State :=
  match s.rad.outs.find? fun o => o.chan = c && o.last with
  | none => s
  | some o =>
    let per := ((natEnt s o.nat).getD {}).upPeriod
    let s := advanceTo s (o.lastNs + (2 * per + 1) * giga)
    cmdOutcome (setRad s fun r => { r with outs := r.outs.erase o }) o.slot o.serial o.nat 2

/-- The lantern's codes differ from those last sent (R233): its channel is queued again, for the frames that the next Drive builds. -/
def requeueChan (s : State) (c : Nat) (codes : List Nat) : State :=
  match chanCfg s c, refreshEntry s c with
  | some k, some e =>
    if codes.take k.strings = (codesOf (chan s c).sent01.v (chan s c).sent23.v).take k.strings then s
    else setRad s fun r => { r with lateList := (r.lateList.filter fun x => x.chan ≠ c) ++ [e] }
  | _, _ => s

/-- The octets of a report body (R296). -/
def reportBytes (b : LanternBody) : List Byte :=
  leBytes 1 b.flags ++ leBytes 2 (sfield 16 b.temp) ++ leBytes 1 b.tAge ++
    leBytes 6 (nth b.codes 0 0 + nth b.codes 1 0 * 4096 + nth b.codes 2 0 * 4096 ^ 2 + nth b.codes 3 0 * 4096 ^ 3) ++
    leBytes 4 b.lfCtr ++ leBytes 2 b.power ++ leBytes 4 b.energy ++ leBytes 2 b.vmains ++ leBytes 2 b.fw ++ leBytes 1 b.fwdDrop

/-- 64-bit words of octets, padded with zero. -/
def words64 (n : Nat) (l : List Byte) : List Word64 := (List.range n).map fun j => BitVec.ofNat 64 (ofLe ((l.drop (8 * j)).take 8))

/-- The LANTERN_REPORT record (R402). -/
def reportRecord (s : State) (i : Nat) (f : RxFrame) (b : LanternBody) : State :=
  record s 6 0x10 .rad 0 (sfdOf s f) s.tim.qual.code
    (words64 4 (reportBytes b ++ leBytes 1 (sfield 8 f.rssi) ++ leBytes 2 i ++ leBytes 4 0))

/-- What RAD and LGT do with a delivered report (R158, R218, R233, R291, R296). -/
def lanternReported (s : State) (i : Nat) (f : RxFrame) (b : LanternBody) : State :=
  match natEnt s i with
  | none => s
  | some e =>
    let s := reportRecord s i f b
    let s := tempReport s e.channel b.temp (nowNs s)
    let s := reportOutcomes s e.channel (sfdOf s f) b.lfCtr
    requeueChan s e.channel b.codes

/-! ## Detectors and sensors (R181, R210, R249) -/

/-- DETECTOR_EVENT (R210, R218): delivered to CRS, its delivery time is the acceptance time. -/
def detectorEvent (s : State) (f : RxFrame) (payload : List Byte) : State :=
  let r := rxLink s f false
  match r.2 with
  | none => r.1
  | some i =>
    let s := r.1
    if !isRunning s .crs then s
    else
      let age := (payloadOf payload).2.2.2.2.2
      setCrs s fun c =>
        { c with events := c.events ++ [{ accepted := s.cox.count, td := sfdOf s f - age * 100000, nat := i, payload := payload,
                                          sfd := sfdOf s f, qual := s.tim.qual.code }] }

/-- SENSOR_HEARTBEAT (R249, R257): to EVQ as a sensor report; DATA is not interpreted. -/
def sensorHeartbeat (s : State) (f : RxFrame) (flags batt : Nat) (data : List Byte) : State :=
  let m := min 104 data.length
  let r := rxReport s f 7 (3 + cdiv m 8)
  match r.2 with
  | none => r.1
  | some i =>
    let s := if flags / 2 % 2 = 1 then snsCount r.1 6 else r.1
    record s 7 0x11 .rad 0 (sfdOf s f) s.tim.qual.code
      (words64 (1 + cdiv m 8) (leBytes 2 i ++ leBytes 1 flags ++ leBytes 1 batt ++ leBytes 1 m ++ leBytes 1 (sfield 8 f.rssi) ++
        leBytes 2 0 ++ data.take m))

/-- UNLISTED_MTYPE (R209): to EVQ only. -/
def unlistedMtype (s : State) (f : RxFrame) (mtype : Nat) : State :=
  let r := rxLink s f false
  match r.2 with
  | none => r.1
  | some i => eventAt r.1 .rad (sfdOf s f) r.1.tim.qual.code 0x0405 i mtype 0

/-- RX_WINDOW_CLOSE (R255): a window of a node's UP cell closes without an accepted frame. -/
def windowClose (s : State) (i : Nat) : State :=
  match natEnt s i with
  | none => s
  | some e =>
    if !radServes s || (isSensor e && !sensorServed s e.port ((radPort s e.port).asn.getD 0) i e) then s
    else
      let s := setNat s i fun e => { e with missed := satAdd 8 e.missed 1 }
      if isSensor e && e.missed + 1 ≥ 3 then setAdrift s i else s

/-! ## Enrolment (R297, R298) -/

/-- The five parts of an enrolment response (R298), 9 octets each. -/
def enrolParts (s : State) (e : NatEnt) (key : Key) (reqCtr : Nat) : List (List Byte) :=
  let kb := keyBytes key
  let parent := if e.parent = 0xFFF then 0 else ((natEnt s e.parent).getD {}).short
  [leBytes 1 0 ++ leBytes 1 0 ++ leBytes 4 reqCtr ++ leBytes 2 1 ++ leBytes 1 s.led.starts,
   leBytes 1 1 ++ kb.take 8,
   leBytes 1 2 ++ kb.drop 8,
   leBytes 1 3 ++ leBytes 2 e.short ++ leBytes 1 e.channel ++ leBytes 1 e.depth ++ leBytes 2 parent ++ leBytes 1 e.rejoinRank ++
     leBytes 1 e.eventGroup,
   leBytes 1 4 ++ leBytes 1 e.upSlot ++ leBytes 1 e.upOfs ++ leBytes 1 e.upPeriod ++ leBytes 1 e.upPhase ++ leBytes 2 e.lpl ++
     leBytes 1 e.upmax ++ leBytes 1 (b2n (isLantern e))]

/-- Parts a frame to a node holds (R204, R298). -/
def partsPerFrame (s : State) (e : NatEnt) : Nat :=
  let k := radCfg s e.port
  let lim := if isLantern e then limUniLantern k else limUniSensor k
  max 1 (min 5 ((List.range 6).foldl (fun a n => if airOct k (psduOf (9 * n) + 12) ≤ lim then n else a) 0))

/-- A response is queued in frames of whole parts (R298). -/
def queueParts (s : State) (i n : Nat) (l : List (List Byte)) (from_ : Nat) : Nat → State
  | 0 => s
  | fuel + 1 =>
    if l = [] then s
    else
      let s := queueUni s { node := i, kind := .enrol, device := true, extAddr := true, data := (l.take n).flatten,
                            parts := (List.range (min n l.length)).map (· + from_) }
      queueParts s i n (l.drop n) (from_ + n) fuel

/-- The answer to an enrolment request of a node in the NAT (R279, R281, R298). -/
def answerEnrol (s : State) (i reqCtr : Nat) : State :=
  match natEnt s i with
  | none => s
  | some e =>
    let s := setRadPort s e.port fun x => { x with uni := x.uni.filter fun u => !(u.node = i && (u.kind = .enrol || u.kind = .rejoin || u.cmd = 2)) }
    let held := if (nodeDyn s i).parts = [] then none else linkKey s i (genOf e)
    let k := match held with
      | some k => (s, k)
      | none => newKey s
    let s := putLink k.1 i (genOf e) k.2
    let s := setNat s i fun e => { e with enrolled := false, explicit_ := true, txFc := 1, rxFc := 0, linkEpoch := 0, txSeq := 0, rxSeq := 0 }
    let s := setLedr s fun l => { l with linkTx := tput l.linkTx i floorZero, linkRx := tput l.linkRx i floorZero }
    let s := setSec s fun x => { x with floorLost := x.floorLost.erase i }
    let s := setDyn s i fun d => { d with parts := [0, 1, 2, 3, 4], newEpoch := some 1, rekeying := false }
    queueParts s i (partsPerFrame s e) (enrolParts s e k.2 reqCtr) 0 6

/-- An unknown joiner (R297, R472): JOIN_UNKNOWN, and an entry of a scan the first time it is heard. -/
def unknownJoiner (s : State) (f : RxFrame) : State :=
  let s := eventAt s .sec (sfdOf s f) s.tim.qual.code 0x0501 f.port 0 f.src
  match s.rad.scan with
  | none => s
  | some c =>
    if c.ports / 2 ^ f.port % 2 = 0 || c.seen.contains f.src then s
    else
      let s := setRad s fun r => { r with scan := some { c with seen := c.seen ++ [f.src] } }
      callEntry s c.call (leBytes 8 f.src ++ leBytes 1 f.port ++ leBytes 1 1 ++ leBytes 1 (sfield 8 f.rssi) ++ leBytes 1 f.lqi ++
        leBytes 2 0xFFFF ++ leBytes 1 0 ++ leBytes 1 0)

/-- A request of a node of the NAT (R297, R272, R274): its device key, counter and MIC, then the answer. -/
def enrolKnown (s : State) (f : RxFrame) (i : Nat) (pend buffer : Bool) : State :=
  let last := (nodeDyn s i).devRx
  let keyOk : Bool := f.keyIndex = 0x30 && (tget s.keys.device i).isSome
  let s := armAck s f (some i) (keyOk && last < f.counter && f.micOk && !buffer)
  if !keyOk then micFail s f i 6
  else if f.counter < last then micFail s f i 1
  else if !f.micOk then micFail s f i 0
  else if f.counter = last then ackOwes (acceptFrame (secCount s 2) f i) f i pend
  else if !buffer then dropped s i
  else answerEnrol (rxFloor (setDyn (ackOwes (acceptFrame s f i) f i pend) i fun d => { d with devRx := f.counter }) i) i f.counter

/-- Checks, ack and effect of an enrolment request (R212, R297); `buffer` as in `rxJudge`. -/
def enrolJudge (s : State) (f : RxFrame) (buffer : Bool) : State :=
  let p := f.port
  if !rxOpen (radPort s p) || !radServes s then s
  else
    let s := rxEnds s f
    match rxHeader s f with
    | .error e => rxFails s p e
    | .ok i =>
      let pend := ackPend s i
      let s := trxRead s p f.psdu
      if !f.fcsOk then fcsFail (armAck s f i false) f i
      else
        match i with
        | none =>
          let s := armAck s f none (!buffer)
          if buffer then unknownJoiner (radCount s p 0) f else s
        | some i => enrolKnown s f i pend buffer

/-- ENROLMENT_REQUEST (R297): under the device key for a node of the NAT; an unknown source is acknowledged under the beacon key. -/
def enrolRequest (s : State) (f : RxFrame) : State := enrolJudge s f true

/-! ## Rejoin (R281, R300, R301) -/

/-- FALLBACK_SET (R295): the codes of the channel's fallback target with every string at STALE_T. -/
def fallbackCodes (s : State) (k : ChanCfg) : List Nat :=
  let c := { chan s k.chan with temp := none }
  let t : Composed := { flux := fluxOf k.fbTarget, form := formOf k.fbTarget, chroma := k.fbChroma }
  let o := computeOut s k c t
  (codesOf o.codes01.v o.codes23.v).take k.strings

/-- FALLBACK_SET is queued for a lantern. -/
def queueFallback (s : State) (i : Nat) : State :=
  match natEnt s i with
  | none => s
  | some e =>
    match isLantern e, chanCfg s e.channel with
    | true, some k =>
      let l := fallbackCodes s k
      setDyn (queueCommand s i 3 (leBytes 1 k.pcOn ++ leBytes 1 k.pcOff ++ l.flatMap fun c => leBytes 3 (codePair c))) i fun d =>
        { d with fbCodes := l }
    | _, _ => s

/-- FALLBACK_SET goes out again when a code moves by more than DEADBAND (R295). -/
def fallbackTrack (s : State) : State :=
  (s.rad.nat.filter fun p => isLantern p.2 && p.2.enrolled && (nodeDyn s p.1).fbCodes ≠ []).foldl (fun s p =>
    match chanCfg s p.2.channel with
    | some k =>
      let new := fallbackCodes s k
      if (new.zip (nodeDyn s p.1).fbCodes).any fun x => max x.1 x.2 - min x.1 x.2 > deadbandEff s then queueFallback s p.1 else s
    | none => s) s

/-- REJOIN_REQUEST (R300, R301): answered with a rejoin response; UPLOAD_REC when the record's CRC differs. -/
def rejoinRequest (s : State) (f : RxFrame) (recCrc : Nat) : State :=
  let r := rxLink s f true
  match r.2 with
  | none => r.1
  | some i =>
    let s := r.1
    if (nodeDyn s i).test then s
    else
      let s := queueRejoin s i f.counter
      match natEnt s i with
      | some e =>
        if !isLantern e then s
        else
          let s := queueFallback s i
          let crc := match (chan s e.channel).binRec with
            | some b => b.crc
            | none => 0
          if recCrc = crc then s else queueCommand s i 4 []
      | none => s

/-! ## Binning record uploads (R299) -/

/-- UPLOAD_REC is sent again, up to 3 times; then the channel stays NOMINAL, with a record (R299). -/
def uploadAgain (s : State) (i : Nat) : State :=
  let n := (nodeDyn s i).recTries
  let c := ((natEnt s i).getD {}).channel
  if n < 3 then setDyn (queueCommand s i 4 []) i fun d => { d with recParts := [], recTries := n + 1 }
  else event (setDyn s i fun d => { d with recParts := [], recTries := 0 }) .rad 0x0406 c (n + 1) 0

/-- The octets of the record that a part carries (R299). -/
def partOctets (part : Nat) : Nat := if part = 4 then 20 else 32

/-- The record that the parts kept of a node spell. -/
def partsRecord (d : NodeDyn) : BinRecord := BinRecord.ofBytes ((List.range 5).flatMap fun j => tgetD d.recParts j [])

/-- A part of a record arrives (R299): the node and the whole record when it is complete and its CRC right. -/
def recordPart (s : State) (f : RxFrame) (part : Nat) (data : List Byte) : State × Option (Nat × BinRecord) :=
  let r := rxLink s f true
  match r.2 with
  | none => (r.1, none)
  | some i =>
    let s := setDyn r.1 i fun d =>
      { d with recAt := if d.recParts = [] then nowNs r.1 else d.recAt, recParts := if part < 5 then tput d.recParts part (data.take (partOctets part)) else d.recParts }
    let rec_ := partsRecord (nodeDyn s i)
    if (nodeDyn s i).recParts.length < 5 then (s, none)
    else if !rec_.crcOk then (uploadAgain s i, none)
    else
      let c := ((natEnt s i).getD {}).channel
      let s := setDyn s i fun d => { d with recParts := [], recTries := 0 }
      (setLgt s fun l => { l with recq := l.recq ++ [(c, rec_)] }, some (i, rec_))

/-- RECORD_UPLOAD_TIMEOUT (R299): 60 s after the first part. -/
def recordTimeout (s : State) (i : Nat) : State :=
  let d := nodeDyn s i
  if d.recParts = [] then s else uploadAgain (advanceTo s (d.recAt + 60 * giga)) i

/-! ## Enhanced Acks (R219) -/

/-- All five parts are acknowledged (R298): ENROLLED, then KEY for the group and beacon keys, of a renewal under way too (R284), and FALLBACK_SET. -/
def enrolled (s : State) (i : Nat) : State :=
  match natEnt s i with
  | none => s
  | some e =>
    let s := setNat s i fun e => { e with enrolled := true }
    let s := queueKey s i (groupUse s e.port) (nowSec s)
    let s := queueKey s i s.sec.beaconGen (nowSec s)
    let ahead := s.rad.switches.filter fun x => x.2.2 = 0 && (x.1 = idleGroup s e.port || x.1 = idleBeacon s)
    queueFallback (ahead.foldl (fun s x => queueKey s i x.1 x.2.1) s) i

/-- What the acknowledgement of a unicast completes (R283, R284, R295, R298, R471). -/
def uniConfirmed (s : State) (p : Nat) (u : Unicast) : State :=
  let s := dropUni s p u
  let s := if u.kind = .downlink then snsCount s 4 else s
  let s := match u.call with
    | some h => sendOutcome s h u.node 1
    | none => s
  match u.kind with
  | .enrol =>
    let left := (nodeDyn s u.node).parts.filter fun x => !u.parts.contains x
    let s := setDyn s u.node fun d => { d with parts := left }
    if left = [] then enrolled s u.node else s
  | .rejoin => s
  | _ =>
    if u.cmd = 2 && (nodeDyn s u.node).rekeying then rekeyDone s u.node
    else if u.cmd = 1 then
      let slot := let x := (nth u.data 0 0).toNat; if x < 3 then x - 1 else x - 0x10 + 2
      setDyn s u.node fun d => { d with keyOwed := d.keyOwed.erase slot }
    else s

/-- The unicast whose ack a port awaits. -/
def awaited (s : State) (p : Nat) : Option Unicast :=
  (radPort s p).uni.find? fun u => match u.sent with
    | some (a, _) => (radPort s p).asn = some a
    | none => false

/-- The end of the module's unicast in ns. -/
def uniEnd (s : State) (p : Nat) : Nat :=
  let a := (radPort s p).last.getD {}
  a.start + octNs (radCfg s p) a.octets

/-- Whether an acknowledgement's SFD lies outside its interval (R219): [E + 400 µs + T_SHR − 20 µs, … + 20 µs). -/
def ackOutside (s : State) (f : RxFrame) : Bool :=
  let c := uniEnd s f.port + 400000 + octNs (radCfg s f.port) (shrOct (radCfg s f.port))
  !(c ≤ sfdOf s f + 20000 && sfdOf s f < c + 20000)

/-- The filters on the header of an acknowledgement (R212, R216): length, version, type ack, PAN, destination, security. -/
def ackHeaderOk (s : State) (f : RxFrame) : Bool :=
  onAirOct (radCfg s f.port) f.psdu ≤ ackOct (radCfg s f.port) && f.fcf / 4096 % 4 = 2 && f.fcf % 8 = 2 && f.destPan = (cRadio s).panId &&
    (if f.destExt then f.dest = Config.eui else f.dest = 0) && f.fcf / 8 % 2 = 1

/-- The key index and the echo that the acknowledgement of a unicast carries (R216, R268, R279). -/
def ackEchoOk (s : State) (f : RxFrame) (u : Unicast) : Bool :=
  f.keyIndex = (if u.device then 0x30 else ((natEnt s u.node).getD {}).keyIndex) && (u.sent.any fun x => x.2 % 65536 = f.counter % 65536)

/-- An acknowledgement from the addressed node confirms the unicast and counts as heard (R212, R219, R222, R246). -/
def ackConfirms (s : State) (f : RxFrame) (u : Unicast) : State :=
  let sfd := sfdOf s f
  let s := setNat (radCount s f.port 0) u.node fun e =>
    { e with lastTs32 := ts32 sfd, lastSec := sfd / giga % frac, rssi := f.rssi, rxOk := satAdd 16 e.rxOk 1, missed := 0,
             lq := e.lq - e.lq / 8 + f.lqi / 8 }
  let s := setDyn s u.node fun d => { d with tref := some (frameEnd s f), trefStep := s.tim.stepSeq, contact := some sfd }
  uniConfirmed s f.port u

/-- The checks of a frame that arrives while a port awaits the acknowledgement of `u` (R212, R219). -/
def ackJudged (s : State) (f : RxFrame) (u : Unicast) : State :=
  let p := f.port
  if ackOutside s f then rxFails s p .win
  else if !ackHeaderOk s f then rxFails s p .filt
  else
    match rxSource s f with
    | none => rxFails s p .unknown
    | some i =>
      if i ≠ u.node then rxFails s p (.barred i)
      else if !f.fcsOk then fcsFail (trxRead s p f.psdu) f (some i)
      else if !f.micOk then micFail (trxRead s p f.psdu) f i 0
      else if !ackEchoOk s f u then micFail (trxRead s p f.psdu) f i 6
      else ackConfirms (trxRead s p f.psdu) f u

/-- ENHANCED_ACK_RECEIVE (R212, R219): accepted from the addressed node; with no acknowledgement awaited no window is open. -/
def ackReceive (s : State) (f : RxFrame) : State :=
  if !rxOpen (radPort s f.port) || !radServes s then s
  else
    match awaited s f.port with
    | none => rxFails s f.port .win
    | some u => ackJudged (rxEnds s f) f u

/-- DOWNLINK_UNCONFIRMED (R254): an urgent downlink not delivered within 60 s of being queued. -/
def downlinkUnconfirmed (s : State) (i : Nat) : State :=
  match natEnt s i with
  | none => s
  | some e =>
    match (radPort s e.port).uni.find? fun u => u.node = i && u.kind = .downlink && u.urgent with
    | none => s
    | some u => uniUnconfirmed (advanceTo s (u.queuedNs + 60 * giga)) e.port u

/-- NODE_SEND_TIMEOUT (R471): the queued unicast of a CALL ends UNCONFIRMED. -/
def nodeSendTimeout (s : State) (h : Nat) : State :=
  match (List.range 4).findSome? fun p => ((radPort s p).uni.find? fun u => u.call = some h).map fun u => (p, u) with
  | none => s
  | some (p, u) =>
    let per := ((natEnt s u.node).getD {}).upPeriod
    let s := if u.kind = .downlink && !u.urgent then advanceTo s (u.queuedNs + (3 * per + 60) * giga)
             else if u.kind = .downlink then advanceTo s (u.queuedNs + 60 * giga) else s
    uniUnconfirmed s p u

/-! ## Resources (R57, R58, R217, R218) -/

/-- The place of a resource in the fixed order (R57): NAT entries, then key-store slots, then frame buffers, each ascending. -/
def resourceOrder (r : Resource) (index : Nat) : Nat × Nat :=
  match r with
  | .natEntry => (0, index)
  | .keySlot => (1, index)
  | .frameBuffer => (2, index)

/-- The key-store slot of a frame's key. -/
def frameKeySlot (s : State) (f : RxFrame) : Nat :=
  match rxSource s f with
  | some i => 3 * i + (if f.keyIndex = 0x30 then 0 else f.keyIndex - 0x1F)
  | none => 3 * 4096 + s.sec.beaconGen

/-- Whether a unit of work acquires a resource: a frame, in this order, the entry of its source, the slot of its key, a frame buffer (R57, R218). -/
def needs (s : State) (w : Work) (r : Resource) (index : Nat) : Bool :=
  match w, r with
  | .frame f, .natEntry => rxSource s f = some index
  | .frame f, .keySlot => index = frameKeySlot s f
  | _, _ => true

/-- How long an acquisition waits, in ns (R58). -/
def resourceWaitNs : Resource → Nat
  | .natEntry => 20000
  | .keySlot => 50000
  | .frameBuffer => 200000

/-- A frame for which the NAT entry or the key-store slot was not acquired (R58): `h` is the outcome of its header's check. -/
def unservedHeaded (s : State) (f : RxFrame) (r : Resource) (h : Except RxFail (Option Nat)) : State :=
  match h with
  | .error e => rxFails s f.port e
  | .ok i =>
    let s := match r with
      | .keySlot => withdrawAck (armAck (trxRead s f.port f.psdu) f i false) f.port
      | _ => trxRearm s f.port
    match i with
    | some i => dropped s i
    | none => s

/-- A frame fails with RESOURCE_TMO (R58): with no NAT entry it is not acknowledged, with no key-store slot its MIC stays unchecked and its ack is
withdrawn, with no frame buffer its ack carries NACK (R217); each time it is dropped and counted (log entry 120). -/
def frameUnserved (s : State) (f : RxFrame) (r : Resource) : State :=
  match r with
  | .frameBuffer =>
    if f.keyIndex = 0x30 || (rxSource s f).isNone then enrolJudge s f false else (rxJudge s f true false none).1
  | _ => unservedHeaded (rxEnds s f) f r (rxHeader (rxEnds s f) f)

/-- A time-out of a unit of work (R57, R58): it holds nothing while it is counted here, and tries again unless this was the last of its 3 retries. -/
def waitTimesOut (s : State) (w : Work) (r : Resource) : State × Bool :=
  let n := ((s.rad.waits.find? fun x => x.1 = w).map fun x => x.2).getD 0
  let rest := s.rad.waits.filter fun x => x.1 ≠ w
  (setRad (advanceTo s (nowNs s + resourceWaitNs r)) fun x => { x with waits := if n < 3 then rest ++ [(w, n + 1)] else rest }, n < 3)

/-! ## Registers (R241, R266) -/

/-- DEPTH_MAX (R241): the deepest node on the port. -/
def portDepth (s : State) (p : Nat) : Nat := ((s.rad.nat.filter fun x => x.2.port = p).map fun x => x.2.depth).foldl max 0

/-- A port's registers. -/
def radPortRead (s : State) (p o : Nat) : Word :=
  let k := radCfg s p
  let x := radPort s p
  let ch := fun i => nth k.profile.channels i 0
  let used := k.enabled
  match o with
  | 0x00 => if used then pack [(31, 1), (30, b2n k.slot10), (28, portDepth s p), (26, k.hUp), (24, k.hDn), (22, k.rUp), (20, k.rDn),
      (0, k.profile.rate)] else 0
  | 0x04 => portWord x
  | 0x08 => if used then pack [(16, ch 1), (0, ch 0)] else 0
  | 0x0C => if used then pack [(16, ch 3), (0, ch 2)] else 0
  | 0x10 => if used then pack [(16, tOfsUs k), (0, tLofs)] else 0
  | 0x14 => if used then pack [(16, limLight k), (0, k.upmax)] else 0
  | 0x18 => pack [(16, min 511 (x.timedq.length + (x.queue.filter fun e => e.cls ≠ .plain).length)),
      (0, min 511 (x.timedq.length + x.queue.length + x.refresh.length))]
  | 0x1C => w32 x.sfd
  | _ => if 0x20 ≤ o ∧ o < 0x58 then w32 (nth x.cnt ((o - 0x20) / 4) 0) else 0

/-- The one-word registers of RAD. -/
def radReadTop (s : State) (off : Nat) : Word :=
  let r := s.rad
  match off with
  | 0x0000 => 0x00041000
  | 0x0004 => pack [(31, b2n ((cRadio s).ports.length ≠ 0)), (16, ((List.range 4).filter fun p => (radPort s p).state = .run).foldl
      (fun a p => a + 2 ^ p) 0), (0, s.led.starts % 256)]
  | 0x0008 => w32 (cRadio s).panId
  | 0x000C => w32 (cRadio s).planId
  | 0x0010 => pack [(16, r.nat.length), (0, (r.nat.filter fun p => isSensor p.2).length)]
  | 0x0014 => pack [(16, r.hash.gen), (8, b2n r.hash.rebuild), (0, r.hash.stash.length)]
  | 0x0018 => w32 r.refresh
  | 0x001C => w32 r.late
  | 0x0020 => w32 (b2n r.findShort)
  | 0x0024 => w32 r.findLo
  | 0x0028 => w32 r.findHi
  | 0x002C => findResult s
  | 0x0034 => pack [(28, r.cmdStat), (16, r.cmdErr.code)]
  | 0x0040 => pack [(24, (cRadio s).pendSlots), (16, (cRadio s).fullWtMax), (0, (cRadio s).g0)]
  | 0x0044 => pack [(16, (r.nat.filter fun p => p.2.adrift).length),
      (0, (r.ports.map fun p => (p.uni.filter fun u => u.urgent && u.kind = .downlink).length).foldl (· + ·) 0)]
  | _ => 0

/-- RAD's registers. -/
def radRead (s : State) (off : Nat) : Word :=
  if off < 0x0050 then radReadTop s off
  else if off < 0x006C then w32 (nth s.rad.sns ((off - 0x0050) / 4) 0)
  else if 0x0080 ≤ off ∧ off < 0x00A0 then
    let d := nth (cRadio s).drift ((off - 0x0080) / 4) {}
    pack [(16, d.hbMax), (0, d.ppm)]
  else if 0x0100 ≤ off ∧ off < 0x0500 then radPortRead s ((off - 0x0100) / 0x100) (off % 0x100)
  else if 0x0800 ≤ off ∧ off < 0x0900 then dutyRead s ((off - 0x0800) / 0x40) (off % 0x40)
  else if 0x20000 ≤ off ∧ off < 0x24000 then
    let k := radCfg s ((off - 0x20000) / 0x1000)
    cellWord (cellAt k (off % 0x1000 / 0x10) (off % 0x10 / 4))
  else if 0x100000 ≤ off ∧ off < 0x140000 then
    let i := (off - 0x100000) / 0x40
    match natEnt s i with
    | some e => natWord e (pendingOf s i) (off % 0x40 / 4)
    | none => 0
  else 0

/-- R241's refusals of RAD_NAT_CMD. -/
def natCmdErr (s : State) (op i : Nat) : Err :=
  if op ≠ 1 && op ≠ 2 then .range
  else if (natEnt s i).isNone then .range
  else if op = 2 && s.rad.evictAt.isSome then .slotBusy else .ok

/-- NAT_CMD_CLEAR and NAT_CMD_EVICT (R241, R26); a clear done while an eviction waits leaves STAT pending. -/
def natCmd (s : State) (op i : Nat) : State :=
  if op = 1 then setRad (natClear s i) fun r => { r with cmdStat := if r.evictAt.isSome then 1 else 2, cmdErr := .ok }
  else setRad s fun r => { r with evictAt := some (i, dueBoundary s), cmdStat := 1, cmdErr := .ok }

/-- RAD at a boundary (R26): evictions and RAD_REFRESH whose boundary has come. -/
def radDues (s : State) : State :=
  let due := fun (b : Nat) => decide (b ≤ s.cox.count)
  let s := match s.rad.evictAt with
    | some (i, b) => if due b then setRad (natEvict s i) fun r => { r with evictAt := none, cmdStat := 2, cmdErr := .ok } else s
    | none => s
  match s.rad.refreshNext with
  | some (v, b) => if due b then setRad s fun r => { r with refresh := v, refreshNext := none } else s
  | none => s

end Sys2Proof.Machine
end

