-- ==== Sys2Proof/Machine/Metering.lean ====
section
/-! DEFINITION. Feeder metering: samples, energy, intervals, saves and reconciliation (R367 to R394). -/
namespace Sys2Proof.Machine

/-- MTR's state changed. -/
def setMtr (s : State) (f : MtrState → MtrState) : State := { s with mtr := f s.mtr }

/-- A feeder, and the state with it changed. -/
def feeder (s : State) (f : Nat) : FeederSt := nth s.mtr.feeders f {}

def setFeeder (s : State) (f : Nat) (g : FeederSt → FeederSt) : State := setMtr s fun m => { m with feeders := upd m.feeders f g }

/-- MTR's part of the ledger changed. -/
def setLedm (s : State) (g : LedgerMtr → LedgerMtr) : State := { s with ledm := g s.ledm }

/-- Configuration of a channel and of a feeder. -/
def mtrChanCfg (s : State) (c : Nat) : MeterChanCfg := nth (cMeter s).channels c {}

def feederCfg (s : State) (f : Nat) : FeederCfg := nth (cMeter s).feeders f {}

/-- The used feeders. -/
def usedFeeders (s : State) : List Nat := (List.range 8).filter fun f => (feederCfg s f).used

/-- Whether a feeder carries a conductor: 0 L1 to 2 L3, 3 N. -/
def carries (s : State) (f p : Nat) : Bool := (feederCfg s f).phases / 2 ^ p % 2 = 1

/-- Channels a feeder uses (R369): the current of each conductor it carries, the busbar voltage of each phase. -/
def feederChans (s : State) (f : Nat) : List Nat :=
  ((List.range 4).filter (carries s f)).map (fun p => 4 + 4 * f + p) ++ (List.range 3).filter (carries s f)

/-! ## Numbers -/

/-- Newton's steps towards the integer square root. -/
def isqrtGo (n : Nat) : Nat → Nat → Nat
  | 0, x => x
  | k + 1, x => let y := (x + n / x) / 2; if y < x then isqrtGo n k y else x

/-- The integer square root, truncated. -/
def isqrt (n : Nat) : Nat := if n = 0 then 0 else isqrtGo n 300 (2 ^ (n.log2 / 2 + 1))

/-- The square root rounded to nearest. -/
def isqrtNear (n : Nat) : Nat := (isqrt (4 * n) + 1) / 2

/-- Σ over a list of products. -/
def dot (a b : List Int) : Int := (a.zipWith (· * ·) b).foldl (· + ·) 0

/-! ## Channels (R370, R373, R374) -/

/-- The calibration of a channel, when it has one whose pairs have not failed (R70). -/
def chanCal (s : State) (c : Nat) : Option MeterCal := if s.mtr.badCal.contains c then none else s.mtr.cal.chan c

/-- The sensor class of a channel. -/
def chanClass (s : State) (c : Nat) : SensorClass := s.mtr.cal.cls (mtrChanCfg s c).cls

/-- A channel without usable calibration (R70). -/
def uncalibrated (s : State) (c : Nat) : Bool :=
  (mtrChanCfg s c).used && ((chanCal s c).isNone || !(chanClass s c).valid || s.mtr.badCal.contains (40 + (mtrChanCfg s c).cls))

/-- The units that MTR uses: its channels and their classes. -/
def calUnits (s : State) : List Nat :=
  let used := (List.range 40).filter fun c => (mtrChanCfg s c).used
  used ++ (List.range 8).filterMap fun k => if used.any fun c => (mtrChanCfg s c).cls = k then some (40 + k) else none

/-- A unit's constants reloaded (R70): from the Rigger's validated copy, then from the calibration archive, where their pairs match. -/
def reloadUnit (s : State) (r : MeterRecord) (u : Nat) : MeterRecord :=
  let arch := (calMeter (calInUse s)).getD {}
  if s.cfg.meter.unitOk u then r.withUnit s.cfg.meter u
  else if arch.crcOk && arch.unitOk u then r.withUnit arch u else r

/-- Calibration constants are checked once per stroke (R70): a unit whose pairs fail is uncalibrated in this stroke and reloaded for the next. -/
def calCheck (s : State) : State :=
  let bad := (calUnits s).filter fun u => !s.mtr.cal.unitOk u
  let s := setMtr s fun m => { m with badCal := bad, cal := bad.foldl (reloadUnit s) m.cal }
  bad.foldl (fun s _ => pairEvent s .mtr 0) s

/-- Whether a channel is INVALID (R70, R370). -/
def chanInvalid (s : State) (c : Nat) : Bool :=
  let x := nth s.mtr.chans c {}
  x.stuck || x.overload || uncalibrated s c

/-- MTR_CHc_STAT. -/
def chanStat (s : State) (c : Nat) : Word :=
  let x := nth s.mtr.chans c {}
  pack [(31, b2n (chanInvalid s c)), (30, b2n x.stuck), (29, b2n x.overload), (0, min x.overs 65535)]

/-- A sensor. -/
def temp (s : State) (k : Nat) : TempSt := nth s.mtr.temps k {}

/-- Whether a sensor is STALE: also until its first accepted reading (R374). -/
def tempIsStale (s : State) (k : Nat) : Bool := (temp s k).stale || (temp s k).val.isNone

/-- The board temperature of a channel, s8.8: 25 °C until the first accepted reading (R374). -/
def chanTemp (s : State) (c : Nat) : Int := (temp s (mtrChanCfg s c).sensor).val.getD (25 * 256)

/-- The points of a sensor class, at −40 °C + 10 °C × k in s8.8 (R373). -/
def classPoints (k : SensorClass) (f : Nat × Int → Int) : List (Int × Int) :=
  (List.range 16).zipWith (fun (j : Nat) p => ((j : Int) * 2560 - 10240, f p)) k.points

/-- Interpolation of R146 between whole numbers, rounded to nearest. -/
def interpInt : List (Int × Int) → Int → Int
  | [], _ => 0
  | [p], _ => p.2
  | p :: q :: r, x =>
    if x ≤ p.1 then p.2
    else if x < q.1 then p.2 + rdiv ((q.2 - p.2) * (x - p.1)) (q.1 - p.1)
    else interpInt (q :: r) x

/-- TGAIN at the channel's temperature, with 24 bits of fraction (R371, R373). -/
def tgain (s : State) (c : Nat) : Int := interpInt (classPoints (chanClass s c) fun p => (p.1 * 512 : Nat)) (chanTemp s c)

/-- The delay of stage 3 in 10 ns (R371, R373): the filter that realises it lies before the samples a command brings. -/
def chanDelay (s : State) (c : Nat) : Int :=
  clampI (-11111) 11111 (((chanCal s c).getD {}).delay + interpInt (classPoints (chanClass s c) Prod.snd) (chanTemp s c))

/-- Stage 4 (R371): raw × GAIN × TGAIN(T) + OFFSET, clamped to signed 24 bits. -/
def calibrate (s : State) (c : Nat) (raw : Int) : Int :=
  let k := (chanCal s c).getD {}
  sclamp 24 (rdiv (raw * k.gain * tgain s c) (2 ^ 48) + k.offset)

/-- SHIFT of a current channel. -/
def chanShift (s : State) (c : Nat) : Nat := (chanClass s c).shift

/-! ## Intervals (R382, R383) -/

/-- Seconds of an interval. -/
def intSec (s : State) : Nat := (cMeter s).minutes * 60

/-- The number of the interval that contains an instant: intervals since 1970 in UTC (R382). -/
def intIdx (s : State) (ns : Nat) : Nat := utcHeld s ns / max 1 (intSec s)

/-- START of the interval that contains an instant. -/
def intStart (s : State) (ns : Nat) : Nat := ns / giga - (utcHeld s ns - intIdx s ns * intSec s)

/-- Bits of FLAGS (R383). -/
def fEst : Nat := 16
def fUnsaved : Nat := 32
def fCut : Nat := 64
def fGap : Nat := 128
def fSleep : Nat := 256
def fStepped : Nat := 512
def fLate : Nat := 1024
def fInvalid : Nat := 2048
def fTempStale : Nat := 4096
def fReconSkip : Nat := 8192
def fReconAlarm : Nat := 16384
def fLanSubst : Nat := 32768

/-- The REV flags that a set of import and export strokes gives. -/
def revFlags (seen : Nat) : Nat :=
  ((List.range 4).filter fun t => seen.testBit t && seen.testBit (4 + t)).foldl (fun a t => a + 2 ^ t) 0

/-- The total accumulators of a feeder. -/
def totals (x : FeederSt) : List Nat := x.acc.drop 21

/-- The open interval closes at a second; the flags of R383 that its strokes decide are set. -/
def closeInt (x : FeederSt) (o : OpenInt) (ends : Nat) : FeederSt :=
  { x with open_ := none, closed := x.closed ++ [{ int_ := { o with flags := o.flags ||| revFlags o.seen }, ends := ends,
                                                   counts := totals x }] }

/-- An interval opens. -/
def openInt (x : FeederSt) (idx start flags : Nat) : FeederSt :=
  { x with open_ := some { idx := idx, start := start, flags := flags, counts := totals x } }

/-- The gap record of a run of whole intervals (R385). -/
def gapRec (s : State) (f start n flags : Nat) : IntRec :=
  { start := start % frac, feeder := f, minutes := (cMeter s).minutes, flags := fGap ||| flags, eimp := n }

/-- A feeder moves on to the interval of a stroke (R382, R385): `why` are the flags of what interrupted accumulation, 0 in service. -/
def moveTo (s : State) (f idx start why : Nat) : State :=
  let x := feeder s f
  match x.open_ with
  | none => setFeeder s f fun x => openInt x idx start why
  | some o =>
    if idx = o.idx then (if why = 0 then s else setFeeder s f fun x => { x with open_ := some { o with flags := o.flags ||| why } })
    else if idx < o.idx then setFeeder s f fun x => { x with open_ := some { o with flags := o.flags ||| why ||| fStepped } }
    else
      let missed := idx - o.idx - 1
      let step := if missed ≠ 0 && why = 0 then fStepped else 0
      let ends := if missed = 0 then start else o.start + intSec s
      let s := setFeeder s f fun x => openInt (closeInt x { o with flags := o.flags ||| why ||| step } ends) idx start (why ||| step)
      if missed = 0 then s
      else setMtr s fun m =>
        { m with gapq := m.gapq ++ [gapRec s f ends missed ((if why = fSleep then fSleep else fUnsaved) ||| step)] }

/-! ## The stroke (R376, R377, R380) -/

/-- The exact ratio from Σ v × i over samples to 2^-32 mWh (R373, R376): 0.1 mV × 10 µA × 125 µs over 3.6 J. -/
def energyDiv : Nat := 28800000000000

/-- A sum in units, with the remainder carried into the same quantity of the next stroke (R376). -/
def toUnits (sum carry : Int) : Int × Int :=
  let x := sum * frac + carry
  (x.tdiv energyDiv, x.tmod energyDiv)

/-- Σ scaled from the settled samples to the whole stroke (R368). -/
def scaleSettled (n used : Nat) (v : Int) : Int := if used = n || used = 0 then v else (v * n).tdiv used

/-- The samples of a stroke by channel: the output of stage 3 and, of a voltage, its quadrature in output LSB. -/
abbrev StrokeSamples := List (List (Int × Int))

/-- The calibrated samples of a channel and its quadrature, without those that have not settled (R368). -/
def chanSamples (s : State) (x : StrokeSamples) (skip c : Nat) : List Int × List Int :=
  if (mtrChanCfg s c).used then
    let l := (nth x c []).drop skip
    (l.map fun p => calibrate s c p.1, l.map Prod.snd)
  else ([], [])

/-- R376 for a feeder: the stroke's energies with the carries of `x`, and what it carries on. -/
def feederStroke (s : State) (f n skip draw : Nat) (samples : StrokeSamples) (x : FeederSt) : FeederStroke × List Int :=
  let used := n - skip
  let sh : Nat → Nat := fun p => 2 ^ chanShift s (4 + 4 * f + p)
  let per := (List.range 3).map fun p =>
    if !carries s f p then (((0 : Int), (0 : Int)), (0 : Nat))
    else if used = 0 && n ≠ 0 then
      ((Config.unsettled draw f p, Config.unsettled draw f (3 + p)), (Config.unsettled draw f (6 + p)).natAbs)
    else
      let v := chanSamples s samples skip p
      let i := chanSamples s samples skip (4 + 4 * f + p)
      ((scaleSettled n used (dot v.1 i.1 * sh p), scaleSettled n used (dot v.2 i.1 * sh p)),
       isqrt ((dot v.1 v.1).toNat * (dot i.1 i.1).toNat * frac * frac) * sh p * n / (max 1 used))
  let c := fun k => nth x.carry k 0
  let e := (List.range 3).map fun p => toUnits (nth per p ((0, 0), 0)).1.1 (c p)
  let q := (List.range 3).map fun p => toUnits (nth per p ((0, 0), 0)).1.2 (c (3 + p))
  let a := (List.range 3).map fun p =>
    let y : Int := ((nth per p ((0, 0), 0)).2 : Int) + c (6 + p)
    (y / energyDiv, y % energyDiv)
  let chans := feederChans s f
  let flags := (if chans.any (chanInvalid s) then fInvalid else 0) +
    (if chans.any fun k => tempIsStale s (mtrChanCfg s k).sensor then fTempStale else 0) + (if skip ≠ 0 then fStepped else 0)
  let i2 := (List.range 4).map fun p =>
    if carries s f p then
      let i := (chanSamples s samples skip (4 + 4 * f + p)).1
      (dot i i).toNat * sh p * sh p
    else 0
  ({ e := e.map Prod.fst, q := q.map Prod.fst, s := a.map fun y => y.1.toNat, i2 := i2, flags := flags },
   (e ++ q ++ a).map Prod.snd)

/-- METER_STROKE_CLOSE (R376): at Catch, before a step in network time is applied, the stroke that ends is closed. -/
def mtrClose (s : State) (samples : StrokeSamples) : State :=
  if !s.mtr.running then s
  else
    let s := calCheck s
    let n := (samples.map List.length).foldl max 0
    let skip := min s.mtr.settle n
    let per := (List.range 8).map fun f =>
      if (feederCfg s f).used then feederStroke s f n skip s.free samples (feeder s f) else ({}, (feeder s f).carry)
    let start := s.cox.start
    let v : MeterStroke :=
      { start := start, len := nowNs s - start, samples := n, idx := intIdx s start, intStart := intStart s start,
        late := s.mtr.lateNext, bridge := s.cox.bridging, feeders := per.map Prod.fst }
    let s := if skip ≠ 0 && skip = n then drawn s else s
    setMtr s fun m =>
      { m with pend := m.pend ++ [v], lateNext := false, settle := m.settle - skip, closeNs := nowNs s, closeCyc := s.tim.cyc,
               feeders := m.feeders.zipWith (fun (x : FeederSt) (p : FeederStroke × List Int) => { x with carry := p.2 }) per,
               temps := m.temps.map fun t => match t.next with
                 | some v => { t with val := some v, next := none }
                 | none => t }

/-- MCLK_REALIGN (R368): at a second boundary with the MCLK edge more than 2 ns away; 100 samples settle. -/
def mclkCheck (s : State) (misalign : Int) : State :=
  if s.pins.mclkRuns && s.cox.start % giga = 0 && misalign.natAbs > 2 then setMtr s fun m => { m with settle := 100 } else s

/-- The quadrant of R377. -/
def quadrant (e q : Int) : Nat := if e ≥ 0 then (if q ≥ 0 then 1 else 4) else (if q ≥ 0 then 2 else 3)

/-- Accumulators 7t to 7t + 6 after a stroke (R377). -/
def signSet (acc : List Nat) (t : Nat) (e q : Int) (a : Nat) : List Nat :=
  let acc := if e > 0 then upd acc (7 * t) (· + e.toNat) else acc
  let acc := if e < 0 then upd acc (7 * t + 1) (· + e.natAbs) else acc
  let acc := upd acc (7 * t + 1 + quadrant e q) (· + q.natAbs)
  upd acc (7 * t + 6) (· + a)

/-- The four sets of a feeder's stroke. -/
def strokeSets (x : FeederStroke) : List (Int × Int × Nat) :=
  let e := x.e.foldl (· + ·) 0
  let q := x.q.foldl (· + ·) 0
  let a := x.s.foldl (· + ·) 0
  (List.range 3).map (fun p => (nth x.e p 0, nth x.q p 0, nth x.s p 0)) ++ [(e, q, a)]

/-- The strokes with import (bit t) and export (bit 4 + t) that a stroke adds. -/
def strokeSeen (l : List (Int × Int × Nat)) : Nat :=
  (List.range 4).foldl (fun a t =>
    let e := (nth l t (0, 0, 0)).1
    a + (if e > 0 then 2 ^ t else 0) + (if e < 0 then 2 ^ (4 + t) else 0)) 0

/-- SIGN_RULE for a feeder (R377). -/
def addStroke (s : State) (v : MeterStroke) (f : Nat) : State :=
  let x := nth v.feeders f {}
  let l := strokeSets x
  let s := moveTo s f v.idx v.intStart 0
  setFeeder s f fun y =>
    { y with acc := (List.range 4).foldl (fun a t =>
               let p := nth l t (0, 0, 0)
               signSet a t p.1 p.2.1 p.2.2) y.acc,
             open_ := y.open_.map fun o =>
               { o with flags := o.flags ||| x.flags ||| (if v.late then fLate else 0) ||| (if v.est then fEst else 0),
                        seen := o.seen ||| strokeSeen l, i2t := o.i2t.zipWith (· + ·) x.i2 } }

/-- Intervals that end with the strokes taken so far close (R382): the stroke that runs starts at or after their end. -/
def closeDue (s : State) : State :=
  let i := intIdx s s.cox.start
  (usedFeeders s).foldl (fun s f => match (feeder s f).open_ with
    | some o => if o.idx < i then moveTo s f i (intStart s s.cox.start) 0 else s
    | none => s) s

/-- SIGN_RULE (R377): every closed stroke is added to the accumulators; the last is the one to be published. -/
def signRule (s : State) : State :=
  match s.mtr.pend.getLast? with
  | none => s
  | some v =>
    let pend := s.mtr.pend
    let s := pend.foldl (fun s v => (usedFeeders s).foldl (fun s f => addStroke s v f) s) s
    let s := setMtr s fun m => { m with pend := [], shown := some { v with est := pend.any MeterStroke.est, late := pend.any MeterStroke.late } }
    closeDue s

/-- Mean power in mW of an energy in 2^-32 mWh over a stroke (R380). -/
def meanPower (e : Int) (len : Nat) : Int := rdiv (e * 3600000000000) (frac * len : Nat)

/-- The powers of a stroke, by set. -/
def strokePowers (v : MeterStroke) (f : Nat) : List Power :=
  (strokeSets (nth v.feeders f {})).map fun p =>
    { p := meanPower p.1 v.len, q := meanPower p.2.1 v.len, s := (meanPower p.2.2 v.len).toNat }

/-- The stroke word (R394). -/
def strokeWord (v : MeterStroke) : Word :=
  pack [(31, b2n v.late), (30, b2n v.est), (29, b2n v.bridge), (8, v.samples % 256), (0, absStroke v.start % 100)]

/-- METER_PUBLISH (R380): accumulators, stroke values and stamp at one instant; windows that have ended with them (R378). A register pair that
does not match is found before the accumulator replaces it (R70). -/
def mtrPublish (s : State) : State :=
  let s := match s.mtr.rmsNext with
    | some r => setMtr s fun m => { m with rms := r, rmsNext := none }
    | none => s
  let s := match s.mtr.freqNext with
    | some r => setMtr s fun m => { m with freq := r.1, freqValid := r.2, freqNext := none }
    | none => s
  match s.mtr.shown with
  | none => s
  | some v =>
    let bad := s.mtr.feeders.filter fun x => !x.pub.all Total.ok
    let s := bad.foldl (fun s _ => pairEvent s .mtr 0) s
    setMtr s fun m =>
      { m with shown := none, pubSec := v.start / giga % frac, pubWord := strokeWord v,
               feeders := m.feeders.zipWith (fun x f =>
                 { x with pub := x.acc.map Total.of, powers := strokePowers v f,
                          sflags := (strokeSets (nth v.feeders f {})).map fun p => b2n (p.1 < 0) * 4 + (quadrant p.1 p.2.1 - 1),
                          intShown := match x.closed.getLast? with
                            | some c => some c
                            | none => x.intShown }) (List.range 8) }

/-- A crab of MTR (R24): the strokes concerned are published in the next stroke, each flagged LATE. -/
def mtrCrab (s : State) : State :=
  setMtr s fun m => { m with pend := m.pend.map fun v => { v with late := true }, lateNext := true }

/-! ## Channel faults, sensors, windows (R370, R374, R378) -/

/-- The state with a channel changed. -/
def setMtrChan (s : State) (c : Nat) (f : MtrChan → MtrChan) : State := setMtr s fun m => { m with chans := upd m.chans c f }

/-- A channel's fault invalidates the open intervals of every feeder that uses it (R370). -/
def invalidates (s : State) (c : Nat) : State :=
  (usedFeeders s).foldl (fun s f =>
    if (feederChans s f).contains c then
      setFeeder s f fun x => { x with open_ := x.open_.map fun o => { o with flags := o.flags ||| fInvalid } }
    else s) s

/-- CHANNEL_STUCK (R370). -/
def channelStuck (s : State) (c : Nat) : State :=
  if isRunning s .mtr && (mtrChanCfg s c).used then invalidates (setMtrChan s c fun x => { x with stuck := true }) c else s

/-- CHANNEL_OVERLOAD (R370). -/
def channelOverload (s : State) (c : Nat) : State :=
  if isRunning s .mtr && (mtrChanCfg s c).used then
    invalidates (setMtrChan s c fun x => { x with overload := true, overs := satAdd 16 x.overs 1 }) c
  else s

/-- CHANNEL_FAULT_PERSIST (R370): a condition has lasted 1 s. -/
def channelPersist (s : State) (c : Nat) : State :=
  let x := nth s.mtr.chans c {}
  if isRunning s .mtr && (x.stuck || x.overload) then event s .mtr 0x0801 c (chanStat s c).toNat 0 else s

/-- CHANNEL_FAULT_CLEAR (R370): 1 s without the condition. -/
def channelClear (s : State) (c : Nat) (overload : Bool) : State :=
  if isRunning s .mtr then setMtrChan s c fun x => if overload then { x with overload := false } else { x with stuck := false } else s

/-- Whether a reading is accepted (R374), in s8.8. -/
def readingOk (t : TempSt) (v : Int) : Bool :=
  -11520 ≤ v && v ≤ 39680 && match (match t.next with | some x => some x | none => t.val) with
    | some l => (v - l).natAbs ≤ 2560
    | none => true

/-- SENSOR_READ (R374): the readings of the configured sensors, none where the read failed. -/
def sensorRead (s : State) (l : List (Option Int)) : State :=
  setMtr s fun m =>
    { m with temps := m.temps.zipWith (fun (t : TempSt) k =>
        if k < (cBoard s).sensors.length then
          match nth l k none with
          | some v => if readingOk t v then { t with next := some v, stale := false } else t
          | none => t
        else t) (List.range 4) }

/-- SENSOR_STALE (R374): no accepted reading for 10 s. -/
def sensorStale (s : State) (k : Nat) : State :=
  if isRunning s .mtr && k < (cBoard s).sensors.length then setMtr s fun m => { m with temps := upd m.temps k fun t => { t with stale := true } }
  else s

/-- The RMS of a channel from Σx² over n samples (R378): mV of a voltage, µA of a current. -/
def rmsOf (s : State) (c sum n : Nat) : Nat :=
  if n = 0 then 0
  else if c < 4 then isqrtNear (sum / (100 * n))
  else isqrtNear (sum * 100 * 4 ^ chanShift s c / n)

/-- A residual channel after a window (R378): RESIDUAL_ALARM. -/
def residualWindow (s : State) (r rms : Nat) : State :=
  let k := nth (cMeter s).residual r (0, 0)
  if !(mtrChanCfg s (36 + r)).used then s
  else
    let x := nth s.mtr.res r {}
    let above := if rms > k.2 * 1000 then min (x.above + 1) 2 else 0
    let below := if rms < k.2 * 800 then min (x.below + 1) 10 else 0
    let alarm := if above ≥ 2 then true else if below ≥ 10 then false else x.alarm
    let y : ResSt := { above := above, below := below, alarm := alarm,
                       alarms := if alarm && !x.alarm then satAdd 16 x.alarms 1 else x.alarms }
    let s := setMtr s fun m => { m with res := upd m.res r fun _ => y }
    if alarm = x.alarm then s
    else event s .mtr 0x0803 r (pack [(31, b2n y.alarm), (0, y.alarms)]).toNat rms

/-- A window has ended with these Σx² and n by channel. -/
def windowEnds (s : State) (sums : List (Nat × Nat)) : State :=
  let rms := (List.range 40).map fun c => let x := nth sums c (0, 0); rmsOf s c x.1 x.2
  let s := setMtr s fun m => { m with rmsNext := some rms }
  (List.range 4).foldl (fun s r => residualWindow s r (nth rms (36 + r) 0)) s

/-- Σx² and n of samples by channel. -/
def sumsOf (s : State) (x : StrokeSamples) (skip : Nat) : List (Nat × Nat) :=
  (List.range 40).map fun c => let v := (chanSamples s x skip c).1; ((dot v v).toNat, v.length)

/-- RMS_WINDOW_END (R378): a window of 10 or 12 cycles between zero crossings `us` microseconds apart, with its settled samples (R368). While
the windows are fixed ones, one whose frequency is not VALID ends none. -/
def rmsWindowEnd (s : State) (us : Nat) (x : StrokeSamples) : State :=
  if !s.mtr.running || us = 0 then s
  else
    let net60 := (cMeter s).net60
    let f := (rdiv ((if net60 then 12 else 10) * 1000000000) us).toNat
    let ok := if net60 then 55000 ≤ f && f ≤ 65000 else 45000 ≤ f && f ≤ 55000
    let s := if ok || !s.mtr.fixed then windowEnds s (sumsOf s x 0) else s
    setMtr s fun m => { m with freqNext := some (f % 2 ^ 17, ok), fixed := !ok, fixSums := if m.fixed && !ok then m.fixSums else none }

/-- FIXED_WINDOW_FALLBACK (R378): no crossing for 100 ms. -/
def fixedFallback (s : State) : State :=
  if s.mtr.running then
    setMtr s fun m => { m with fixed := true, fixSums := if m.fixed then m.fixSums else none, freqNext := some (m.freq, false) }
  else s

/-- Fixed windows (R378): 200 ms from every twentieth stroke boundary. The first `skip` samples have not settled (R368). -/
def fixedWindows (s : State) (x : StrokeSamples) (skip : Nat) : State :=
  if !s.mtr.fixed then s
  else
    let sums := sumsOf s x skip
    let s := setMtr s fun m => { m with fixSums := m.fixSums.map fun l => l.zipWith (fun a b => (a.1 + b.1, a.2 + b.2)) sums }
    if absStroke (nowNs s) % 20 ≠ 0 then s
    else
      let s := match s.mtr.fixSums with
        | some l => windowEnds s l
        | none => s
      setMtr s fun m => { m with fixSums := some (List.replicate 40 (0, 0)) }

/-! ## Saves (R386 to R388) -/

/-- Whether a slot is valid (R386): MAGIC, CRC and every pair. -/
def MtrSave.valid (v : MtrSave) : Bool :=
  v.magic = [0x56, 0x4D, 0x54, 0x53] && v.crcOk && v.acc.all (fun l => l.all Total.ok) && v.opensN = v.opens && v.powerN = v.power

/-- The newest valid save. -/
def newestSave (l : LedgerMtr) : Option (MtrSave × Bool) :=
  match l.slot0.filter MtrSave.valid, l.slot1.filter MtrSave.valid with
  | some a, some b => if a.seq < b.seq then some (b, true) else some (a, false)
  | some a, none => some (a, false)
  | none, some b => some (b, true)
  | none, none => none

/-- A save of a KIND with its snapshot boundary (R386): into the slot that does not hold the newest; a failure leaves it for the next. -/
def mtrSave (s : State) (kind snap : Nat) : State × Bool :=
  let n := newestSave s.ledm
  let slot := match n with
    | some x => !x.2
    | none => false
  let pw := fun f => match s.mtr.shown with
    | some v => (nth (strokePowers v f) 3 {}).p
    | none => (nth (feeder s f).powers 3 {}).p
  let v : MtrSave :=
    { seq := (match n with
        | some x => x.1.seq
        | none => 0) + 1, snapSec := snap / giga % frac, snapStk := snap / strokeNs % 100, kind := kind,
      acc := s.mtr.feeders.map fun x => x.acc.map Total.of, opens := s.mtr.feeders.map fun x => (x.open_, x.closed)
      opensN := s.mtr.feeders.map fun x => (x.open_, x.closed), power := (List.range 8).map pw, powerN := (List.range 8).map pw }
  let r := ledgerWrite s .mtr fun s => setLedm s fun l =>
    if slot then { l with slot1 := some v, heldInPaddle := false } else { l with slot0 := some v, heldInPaddle := false }
  if r.2 then (setMtr r.1 fun m => { m with saveFinal := kind = 2, saveSlot := slot, saveSeq := v.seq }, true)
  else (setMtr r.1 fun m => { m with saveFails := satAdd 16 m.saveFails 1 }, false)

/-- The saves of step 1 of R415, MTR's of a KIND (R415, R435): totals, TIM, NAT entries and the duty bin, string hours, and the floors of the counters.
Whether all were made. -/
def stepSaves (s : State) (kind : Nat) : State × Bool :=
  let m := mtrSave s kind (nowNs s)
  let t := ledgerWrite m.1 .tim timSave
  let bad := t.1.ledBad.any fun w => w = .rad || w = .lgt || w = .sec
  let s := natSaved t.1
  let duty := s.rad.duty
  let s := (ledgerWrite s .rad fun s => setLedr s fun l => { l with duty := duty }).1
  let s := hoursSaved s
  (nbrFloorsSave (rxFloorsSave (ledgerWrite s .sec id).1), m.2 && t.2 && !bad)

/-- PFI is below its threshold (R86): tripped, and not yet above 1.05 V again. -/
def pfiTripped (s : State) : Bool :=
  s.pins.pfi && match s.pins.pfiRise with
    | some t => s.tim.cyc < t
    | none => true

/-- FINAL_SAVE (R388): at a boundary while PFI stays tripped the stroke that ended is taken at once, then a FINAL save with that boundary. -/
def mtrFinal (s : State) : State := if pfiTripped s && s.mtr.pfMode && s.mtr.running then (mtrSave (signRule s) 2 (nowNs s)).1 else s

/-- PERIODIC_SAVE (R387): in the Recovery of stroke 99; of KIND SLEEP while an EASY entry whose SLEEP save stands is under way. -/
def mtrPeriodic (s : State) : State :=
  let sleeping : Bool := match s.pwr.entry with
    | some e => e.step ≥ 2
    | none => false
  if s.cox.abs % 100 = 99 then (mtrSave s (if sleeping then 3 else 1) s.cox.start).1 else s

/-- PFI_TRIP (R86, R388): PF_MODE sets and the trip is counted in the ledger. -/
def pfiTrip (s : State) : State :=
  let again := pfiTripped s
  let s := { s with pins := { s.pins with pfi := true, pfiRise := s.ahead.pfiRise.map fun us => s.tim.cyc + us * 250 } }
  if s.modp ≠ .running || again then s
  else
    let s := (ledgerWrite s .mtr fun s => { s with led := { s.led with pfCnt := inc32 s.led.pfCnt } }).1
    event (setMtr s fun m => { m with pfMode := true }) .mtr 0x0802 0 1 s.led.pfCnt

/-- PF_MODE_END (R388): PFI has stayed above 1.05 V for 100 ms. -/
def pfModeEnd (s : State) : State :=
  let s := match s.pins.pfiRise with
    | some t => advanceCyc s (t + msCyc 100)
    | none => s
  let s := { s with pins := { s.pins with pfi := false, pfiRise := none } }
  if s.mtr.pfMode then event (setMtr s fun m => { m with pfMode := false }) .mtr 0x0802 0 0 s.led.pfCnt else s

/-! ## Interruptions (R37, R385, R389) -/

/-- Flags an interruption gives the intervals on either side (R389). -/
def GapWhy.flags : GapWhy → Nat
  | .stationReset | .moduleReset => fEst
  | .cut => fCut
  | .unsaved => fUnsaved
  | .sleep => fSleep

/-- The estimate of a power over a gap, in 2^-32 units (R37, R389). -/
def estimate (p : Int) (ns : Nat) : Int := rdiv (p * (ns * frac : Nat)) 3600000000000

/-- The stroke that stands for an estimate of a feeder's sets: phases of a station reset, the total alone of a module reset, whose save
keeps no phases. -/
def addEstimate (s : State) (g : Gap) (ns f : Nat) : State :=
  let pw := nth g.power f []
  setFeeder s f fun y =>
    { y with acc := (List.range 4).foldl (fun a t => match pw[t]? with
        | some p => signSet a t (estimate p.p ns) (estimate p.q ns) (estimate p.s ns).toNat
        | none => a) y.acc,
             open_ := y.open_.map fun o => { o with flags := o.flags ||| fEst } }

/-- MISSING of an interruption (R389): half a second of the last stroke's power, in 0.1 Wh. -/
def missingOf (p : Int) : Int := rdiv p 720000

/-- Accumulation resumes with the stroke that begins now (R37, R385, R389). -/
def mtrResume (s : State) : State :=
  match s.mtr.gap with
  | none => s
  | some g =>
    let ns := if g.why = .stationReset then (s.tim.cyc - s.mtr.closeCyc) * 4 else nowNs s - g.start
    let s := (usedFeeders s).foldl (fun s f =>
      let s := if g.why = .stationReset || g.why = .moduleReset then
          addEstimate (match (feeder s f).open_ with
            | some _ => s
            | none => moveTo s f (intIdx s g.start) (intStart s g.start) 0) g ns f
        else if g.why = .unsaved then
          let m := missingOf (nth (nth g.power f []) 3 {}).p
          setFeeder s f fun x => { x with missing := m, open_ := x.open_.map fun o => { o with missing := m } }
        else s
      moveTo s f (intIdx s (nowNs s)) (intStart s (nowNs s)) g.why.flags) s
    setMtr s fun m => { m with gap := none }

/-- MTR takes part in the stroke that begins now. -/
def mtrBegin (s : State) : State :=
  if isRunning s .mtr then setMtr (mtrResume s) fun m => { m with running := true, closeNs := nowNs s, closeCyc := s.tim.cyc }
  else s

/-- An MTR station reset (R36, R37, R74): accumulators, ledger state and calibration are kept, the filters and stroke values are lost. -/
def mtrStationReset (s : State) : State :=
  let m := s.mtr
  let g : Gap := { why := .stationReset, start := m.closeNs, power := m.feeders.map FeederSt.powers }
  { s with mtr :=
      { ({} : MtrState) with
        feeders := m.feeders.map fun x => { x with powers := List.replicate 4 {}, sflags := [0, 0, 0, 0], otherStart := 0, other := {},
                                                   otherGiven := false }
        cal := m.cal, badCal := m.badCal, calNext := m.calNext, pend := m.pend, shown := m.shown, loaded := m.loaded, pfMode := m.pfMode,
        ledgerLost := m.ledgerLost, saveFinal := m.saveFinal, saveSlot := m.saveSlot, saveFails := m.saveFails, saveSeq := m.saveSeq,
        gap := some ((if m.running then some g else m.gap).getD g), closeNs := m.closeNs, closeCyc := m.closeCyc, lan := m.lan,
        gapq := m.gapq, archDay := m.archDay } }

/-- What interrupted accumulation before a start with this CAUSE (R111, R389). -/
def gapWhyOf (kind cause : Nat) (paddle : Bool) : GapWhy :=
  if paddle then .unsaved
  else if kind = 3 then .sleep
  else if [0x02, 0x03, 0x04, 0x05, 0x06, 0x08, 0x09, 0x10, 0x11].contains cause then .moduleReset
  else if kind = 2 then .cut
  else .unsaved

/-- MTR at a module start (R386, R389): totals resume from the valid slot with the larger SEQ; with none, LEDGER_LOST (R70). -/
def mtrStart (s : State) (cal : MeterRecord) : State :=
  let base : MtrState := { cal := cal, loaded := true }
  match newestSave s.ledm with
  | none => pairEvent { s with mtr := { base with ledgerLost := true } } .mtr 0
  | some (v, slot) =>
    let feeders := (List.range 8).map fun f =>
      let o := nth v.opens f (none, [])
      let a := nth v.acc f (List.replicate 28 {})
      ({ acc := a.map fun t => t.v.toNat, pub := a, open_ := o.1, closed := o.2 } : FeederSt)
    let why := gapWhyOf v.kind s.sys.start.cause s.ledm.heldInPaddle
    let power := (List.range 8).map fun f => List.replicate 3 ({} : Power) ++ [{ p := nth v.power f 0 }]
    { s with mtr := { base with feeders := feeders, saveFinal := v.kind = 2, saveSlot := slot, saveSeq := v.seq,
                                gap := some { why := why, start := v.snapSec * giga + v.snapStk * strokeNs, power := power } } }

/-! ## Reconciliation (R390 to R392) -/

/-- A lantern's report reaches reconciliation (R296, R391): kept while an interval may still need it. -/
def lanReport (s : State) (i at_ energy power : Nat) : State :=
  let keep := at_ - (2 * intSec s + 300) * giga
  setMtr s fun m => { m with lan := tput m.lan i (((tgetD m.lan i []).filter fun r => keep ≤ r.at_) ++
    [{ at_ := at_, energy := energy, power := power }]) }

/-- ENERGY at a boundary in mWh modulo 2^32 × 100 (R391): between the two reports whose SFD times bracket it, both within 60 s. -/
def energyAt (l : List LanReport) (b : Nat) : Option Int :=
  match (l.filter fun r => r.at_ ≤ b).getLast?, (l.filter fun r => b < r.at_).head? with
  | some r0, some r1 =>
    if b ≤ r0.at_ + 60 * giga && r1.at_ ≤ b + 60 * giga then
      some ((r0.energy : Int) * 100 + rdiv (((r1.energy + frac - r0.energy % frac) % frac * 100 * (b - r0.at_) : Nat)) (r1.at_ - r0.at_ : Nat))
    else none
  | _, _ => none

/-- What a lantern contributes to an interval in mWh, and whether it is substituted (R391). -/
def lanEnergy (l : List LanReport) (t0 t1 : Nat) : Nat × Bool :=
  let ins := l.filter fun r => t0 * giga ≤ r.at_ && r.at_ < t1 * giga
  let sec := t1 - t0
  let subst := (((ins.getLast?.map LanReport.power).getD 0) * 100 * sec + 1800) / 3600
  match energyAt l (t0 * giga), energyAt l (t1 * giga) with
  | some a, some b =>
    let d := ((b - a) % (frac * 100 : Nat)).toNat
    let top := (ins.map LanReport.power).foldl max 0
    if d * 3600 > top * 150 * sec + 3600000 then (subst, true) else (d, false)
  | _, _ => (subst, true)

/-- The enrolled lanterns of a feeder (R391). -/
def feederLanterns (s : State) (f : Nat) : List Nat :=
  (cLight s).channels.filterMap fun k =>
    if k.feeder = f then match natOfChan s k.chan with
      | some (i, e) => if e.enrolled && isLantern e then some i else none
      | none => none
    else none

/-- e_loss in 2^-32 mWh (R390): mΩ × Σi² of 10 µA samples at 125 µs. -/
def lossOf (k : FeederCfg) (i2t : List Nat) : Int :=
  let i := (i2t.take 3).foldl (· + ·) 0
  rdiv (((k.rEff * i + k.rEffN * nth i2t 3 0) * frac : Nat)) 288000000000000000

/-- A closed interval is reconciled (R390 to R392): its flags and residue, and the feeder's alarms. -/
def reconcile (s : State) (f : Nat) (c : ClosedInt) : State × Nat × Int :=
  let k := feederCfg s f
  let x := feeder s f
  let d : Nat → Int := fun a => ((nth c.counts a 0 : Nat) : Int) - nth c.int_.counts a 0
  let meas := d 0 - d 1
  let lans := feederLanterns s f
  let per := lans.map fun i => lanEnergy (tgetD s.mtr.lan i []) c.int_.start c.ends
  let lan : Nat := (per.map Prod.fst).foldl (· + ·) 0
  let subst := (per.filter Prod.snd).length
  let loss := lossOf k c.int_.i2t
  let given := x.otherGiven && x.otherStart = c.int_.start % frac
  let other : Int := if given then x.other.v.toInt * frac else rdiv (k.pOther * ((c.ends - c.int_.start) * 10 * frac : Nat)) 36
  let res : Int := meas - (lan * frac : Nat) - loss - other
  let th := max ((k.absTh * 1000 * frac : Nat) : Int) (rdiv ((d 0 + d 1) * k.relTh) 10000)
  let bad := c.int_.flags &&& (fUnsaved ||| fCut ||| fEst ||| fSleep ||| fInvalid)
  let skip := !k.reconEn || 10 * subst > lans.length || bad ≠ 0
  let mwh := fun (v : Int) => rdiv v frac
  let view : RecView :=
    if skip then { x.rec_ with skip := true, otherDefault := false, subst := subst }
    else
      { start := c.int_.start, meas := mwh meas, lan := lan, loss := mwh loss, other := mwh other, res := sclamp 32 (mwh res), skip := false,
        otherDefault := !given, subst := subst }
  let hi := if skip then x.hi else if res > th then min (x.hi + 1) 255 else 0
  let lo := if skip then x.lo else if res < -th then min (x.lo + 1) 255 else 0
  let within := if skip then x.within else if res > th || res < -th then 0 else min (x.within + 1) 255
  let aHi := if skip then x.alarmHi else if hi ≥ k.run then true else if within ≥ k.run then false else x.alarmHi
  let aLo := if skip then x.alarmLo else if lo ≥ k.run then true else if within ≥ k.run then false else x.alarmLo
  let s := setFeeder s f fun x =>
    { x with rec_ := view, hi := hi, lo := lo, within := within, alarmHi := aHi, alarmLo := aLo }
  let flags := c.int_.flags ||| (if skip then fReconSkip else 0) ||| (if aHi || aLo || x.alarmHi || x.alarmLo then fReconAlarm else 0) |||
    (if subst ≠ 0 then fLanSubst else 0)
  let stat := pack [(31, b2n aHi), (30, b2n aLo), (29, b2n skip), (28, b2n (!given && !skip)), (16, min subst 255), (0, max hi lo)]
  let s := if aHi = x.alarmHi && aLo = x.alarmLo then s else event s .mtr 0x0804 f stat.toNat (sfield 64 view.res)
  (s, flags, if bad &&& fUnsaved ≠ 0 then sclamp 16 c.int_.missing else if skip then 0 else sclamp 16 (rdiv res (1000 * frac : Nat)))

/-- A record goes into the ledger ring (R384): a full ring loses its oldest record, counted when it was not archived. -/
def ringPut (s : State) (r : IntRec) : State × Bool :=
  let old := if s.ledm.ring.length ≥ 32768 then s.ledm.ring.head? else none
  let lost := match old with
    | some o => !o.archived
    | none => false
  let w := ledgerWrite s .mtr fun s => setLedm s fun l =>
    { l with ring := (if l.ring.length ≥ 32768 then l.ring.drop 1 else l.ring) ++ [r], head := (l.head + 1) % 32768,
             archLost := if lost then inc32 l.archLost else l.archLost }
  if w.2 && lost then
    let o := old.getD {}
    (event w.1 .mtr 0x0805 o.feeder w.1.ledm.archLost o.start, true)
  else w

/-- The record of a closed interval (R383). -/
def recordOf (s : State) (f : Nat) (c : ClosedInt) (flags : Nat) (residue : Int) : IntRec :=
  let w := fun a => nth c.counts a 0 / frac - nth c.int_.counts a 0 / frac
  let q := fun a => min 16777215 (nth c.counts a 0 / frac / 100 - nth c.int_.counts a 0 / frac / 100)
  { start := c.int_.start % frac, feeder := f, minutes := (cMeter s).minutes, flags := flags, eimp := w 0 % frac, eexp := w 1 % frac,
    eq := [q 2, q 3, q 4, q 5], residue := residue }

/-- RECONCILIATION and INTERVAL_RECORD_WRITE for a feeder: the oldest closed interval, in the Recovery of the first stroke that starts 60 s
or more past its end. -/
def recordDue (s : State) (f : Nat) : State :=
  match (feeder s f).closed with
  | [] => s
  | c :: r =>
    if s.cox.start < (c.ends + 60) * giga then s
    else
      let x := reconcile s f c
      let w := ringPut x.1 (recordOf x.1 f c x.2.1 x.2.2)
      if w.2 then
        setFeeder w.1 f fun y =>
          { y with closed := r, intShown := y.intShown.map fun v => if v.int_.start = c.int_.start then { v with int_ := { v.int_ with
            flags := x.2.1 } } else v }
      else
        { s with ledBad := w.1.ledBad }

/-- Gap records that wait are written (R385). -/
def gapsDue (s : State) : State :=
  s.mtr.gapq.foldl (fun s r =>
    let w := ringPut s r
    if w.2 then setMtr w.1 fun m => { m with gapq := m.gapq.drop 1 } else w.1) s

/-- A flash operation of a station (R58): one that FLASH_TMO has announced does not happen. -/
def flashWrite (s : State) (w : Stn) (f : State → State) : State × Bool :=
  if s.flashBad.contains w then ({ s with flashBad := s.flashBad.erase w }, false) else (f s, true)

/-- One sector of the archive: up to 128 records (R384). -/
def archiveSector (s : State) (l : List IntRec) : State × Bool :=
  flashWrite s .cfg fun s =>
    { s with flash := { s.flash with archive := lastN (max 1 Config.archiveSectors) (s.flash.archive ++ [l]) }
             ledm := { s.ledm with ring := s.ledm.ring.map fun r => if l.contains r then { r with archived := true } else r } }

/-- The records of a day in sectors, while the flash takes them. -/
def archiveAll (s : State) (l : List IntRec) : Nat → State × Bool
  | 0 => (s, true)
  | n + 1 =>
    if l = [] then (s, true)
    else
      let w := archiveSector s (l.take 128)
      if w.2 then archiveAll w.1 (l.drop 128) n else (w.1, false)

/-- PROFILE_ARCHIVE (R384): after 00:10 UTC the records of the previous UTC day go to the archive. -/
def profileArchive (s : State) : State :=
  let u := utcHeld s (nowNs s)
  let day := u / 86400
  if u % 86400 < 600 || s.mtr.archDay = day || !isRunning s .cfg then s
  else
    let l := s.ledm.ring.filter fun r => !r.archived && (((r.start : Int) - s.tim.taiUtc).toNat / 86400 + 1 = day)
    let w := archiveAll s l 512
    if w.2 then setMtr w.1 fun m => { m with archDay := day } else w.1

/-- MTR's Recovery work (R374, R384, R387, R390): `temps` are the readings of the sensors in stroke 50. -/
def mtrRecovery (s : State) (temps : List (Option Int)) : State :=
  if !isRunning s .mtr then s
  else
    let s := if s.cox.abs % 100 = 50 then sensorRead s temps else s
    let s := gapsDue s
    let s := (usedFeeders s).foldl recordDue s
    let s := profileArchive s
    mtrPeriodic s

/-- Metering calibration whose boundary has come (R26, R393). -/
def mtrDues (s : State) : State :=
  match s.mtr.calNext with
  | some (r, b) =>
    if b ≤ s.cox.count then event (setMtr s fun m => { m with cal := r, calNext := none }) .mtr 0x0806 0 (s.cox.abs % frac) 0 else s
  | none => s

/-- OTHER_START must name a closed interval that awaits reconciliation (R390). -/
def otherStartOk (s : State) (f start : Nat) : Bool := (feeder s f).closed.any fun c => c.int_.start % frac = start

/-! ## Records and registers (R383, R394, R469) -/

/-- One bit of CRC-16 (polynomial 0x1021, not reflected). -/
def crc16Bit (c : BitVec 16) : BitVec 16 := if c.getLsbD 15 then (c <<< 1) ^^^ 0x1021#16 else c <<< 1

/-- CRC-16 over octets (R383). -/
def crc16Go (c : BitVec 16) : List Byte → BitVec 16
  | [] => c
  | b :: r =>
    let x := c ^^^ (b.setWidth 16 <<< 8)
    crc16Go (crc16Bit (crc16Bit (crc16Bit (crc16Bit (crc16Bit (crc16Bit (crc16Bit (crc16Bit x)))))))) r

/-- The 32 octets of a record (R383). -/
def recordBytes (r : IntRec) : List Byte :=
  let b := leBytes 4 r.start ++ leBytes 1 r.feeder ++ leBytes 1 r.minutes ++ leBytes 2 r.flags ++ leBytes 4 r.eimp ++ leBytes 4 r.eexp ++
    r.eq.flatMap (leBytes 3) ++ leBytes 2 (sfield 16 r.residue)
  b ++ leBytes 2 (crc16Go 0xFFFF#16 b).toNat

/-- Records of the ring and of the archive that an export selects (R469). -/
def profileMatches (s : State) (from_ till feeders : Nat) : List IntRec :=
  let sel := fun (r : IntRec) => from_ ≤ r.start && r.start < till && feeders.testBit r.feeder
  let ring := s.ledm.ring.filter sel
  let arch := (s.flash.archive.flatten.filter sel).filter fun r =>
    !ring.any fun x => x.start = r.start && x.feeder = r.feeder && x.flags = r.flags && x.eimp = r.eimp
  (ring ++ arch).mergeSort fun a b => a.start < b.start || (a.start = b.start && a.feeder ≤ b.feeder)

/-- A feeder's set and accumulator registers. -/
def feederRead (s : State) (f o : Nat) : Word :=
  let k := feederCfg s f
  let x := feeder s f
  if 0x40 ≤ o ∧ o < 0xC0 then
    let t := (o - 0x40) / 0x20
    let p := nth x.powers t {}
    match (o - 0x40) % 0x20 with
    | 0x00 => i32 p.p
    | 0x04 => i32 p.q
    | 0x08 => w32 p.s
    | 0x0C => w32 (nth s.mtr.rms (4 + 4 * f + t) 0)
    | 0x10 => w32 (nth x.sflags t 0)
    | _ => 0
  else
    let c := x.intShown.getD {}
    let d : Nat → Nat := fun a => nth c.counts a 0 / frac - nth c.int_.counts a 0 / frac
    match o with
    | 0x00 => pack [(31, b2n k.used), (30, b2n k.reconEn), (24, k.phases), (20, k.run), (0, (feederLanterns s f).length)]
    | 0x04 => pack [(16, k.rEffN), (0, k.rEff)]
    | 0x08 => pack [(16, k.absTh), (0, k.relTh)]
    | 0x0C => i32 k.pOther
    | 0x10 => w32 x.otherStart
    | 0x14 => x.other.v
    | 0x18 => x.other.n
    | 0x1C => i32 x.missing
    | 0xC0 => w32 c.int_.start
    | 0xC4 => w32 (d 0)
    | 0xC8 => w32 (d 1)
    | 0xCC => w32 c.int_.flags
    | 0xD0 => w32 x.rec_.start
    | 0xD4 => i32 x.rec_.meas
    | 0xD8 => i32 x.rec_.lan
    | 0xDC => i32 x.rec_.loss
    | 0xE0 => i32 x.rec_.other
    | 0xE4 => i32 x.rec_.res
    | 0xE8 => pack [(31, b2n x.alarmHi), (30, b2n x.alarmLo), (29, b2n x.rec_.skip), (28, b2n x.rec_.otherDefault), (16, min x.rec_.subst 255),
        (0, max x.hi x.lo)]
    | _ => 0

/-- A feeder's accumulator registers: the published copies as stored (R69). -/
def accRead (s : State) (f o : Nat) : Word :=
  if o = 0x3F0 then w32 s.mtr.pubSec
  else if o = 0x3F4 then s.mtr.pubWord
  else
    let t := nth (feeder s f).pub (7 * (o / 0x100) + (o % 0x100) / 0x18) {}
    w32 ((if o % 8 = 0 then t.v else t.n).toNat / 2 ^ (32 * (o % 0x100 % 0x18 / 8)))

/-- A channel's registers, its constants as stored (R69). -/
def mtrChanRead (s : State) (c o : Nat) : Word :=
  let k := mtrChanCfg s c
  match o with
  | 0x00 => pack [(31, b2n k.used), (28, if c < 4 then 0 else if c < 36 then 1 else 2), (24, k.cls), (20, k.sensor)]
  | 0x04 => chanStat s c
  | _ => if 0x08 ≤ o ∧ o < 0x20 then s.mtr.cal.word (meterChanAt c 0 + (o - 0x08) / 4) else 0

/-- A sensor class's registers, its words as stored (R69). -/
def sensorClassRead (s : State) (k o : Nat) : Word := s.mtr.cal.word (meterClassAt k 0 + o / 4)

/-- MTR_STATUS. -/
def mtrStatus (s : State) : Word :=
  let used := (List.range 40).filter fun c => (mtrChanCfg s c).used
  let mask := fun (p : Nat → Bool) (n : Nat) => ((List.range n).filter p).foldl (fun a i => a + 2 ^ i) 0
  pack [(31, b2n s.mtr.running), (30, b2n (pfiTripped s)), (29, b2n s.mtr.pfMode), (28, b2n s.mtr.ledgerLost), (27, b2n (used.any (chanInvalid s))),
    (26, b2n (used.any fun c => tempIsStale s (mtrChanCfg s c).sensor)),
    (16, mask (fun f => (feeder s f).alarmHi || (feeder s f).alarmLo) 8), (8, mask (fun r => (nth s.mtr.res r {}).alarm) 4),
    (0, mask (fun f => (feederCfg s f).used) 8)]

/-- The one-word registers of MTR. -/
def mtrReadTop (s : State) (o : Nat) : Word :=
  let m := s.mtr
  match o with
  | 0x0000 => 0x00080028
  | 0x0004 => mtrStatus s
  | 0x0008 => w32 m.pubSec
  | 0x000C => m.pubWord
  | 0x0010 => pack [(31, b2n m.freqValid), (0, m.freq)]
  | 0x0014 => pack [(31, b2n m.saveFinal), (30, b2n m.saveSlot), (0, m.saveFails)]
  | 0x0018 => w32 m.saveSeq
  | 0x001C => w32 s.led.pfCnt
  | 0x0030 => pack [(16, min 65535 (s.ledm.ring.countP fun r => !r.archived)), (0, s.ledm.head)]
  | 0x0034 => w32 s.ledm.archLost
  | 0x0038 => pack [(8, b2n (cMeter s).net60), (0, (cMeter s).minutes)]
  | _ =>
    if 0x20 ≤ o ∧ o < 0x30 then
      let t := temp s ((o - 0x20) / 4)
      match t.val with
      | some v => pack [(31, 1), (30, b2n t.stale), (0, sfield 16 v)]
      | none => pack [(30, b2n t.stale), (0, 0x8000)]
    else if 0x40 ≤ o ∧ o < 0x50 then w32 (nth m.rms ((o - 0x40) / 4) 0)
    else 0

/-- MTR's registers. -/
def mtrRead (s : State) (off : Nat) : Word :=
  if off < 0x400 then mtrReadTop s off
  else if off < 0x900 then mtrChanRead s ((off - 0x400) / 0x20) (off % 0x20)
  else if off < 0x940 then
    let r := (off - 0x900) / 0x10
    let k := nth (cMeter s).residual r (0, 0)
    let x := nth s.mtr.res r {}
    match off % 0x10 with
    | 0 => w32 (nth s.mtr.rms (36 + r) 0)
    | 4 => pack [(24, k.1), (0, k.2)]
    | 8 => pack [(31, b2n x.alarm), (0, x.alarms)]
    | _ => 0
  else if off < 0x2000 then sensorClassRead s ((off - 0x1000) / 0x100) (off % 0x100)
  else if off < 0x3000 then feederRead s ((off - 0x2000) / 0x200) (off % 0x200)
  else if 0x10000 ≤ off then accRead s ((off - 0x10000) / 0x1000) (off % 0x1000)
  else 0

end Sys2Proof.Machine
end

