-- ==== Sys2Proof/Machine/Calendar.lean ====
section
/-! DEFINITION. RTC: the calendar, captures and commits, compensation and ageing, alarms (R351 to R366, R497). -/
namespace Sys2Proof.Machine

/-- The prescaler count (R352): AON cycles since the last second edge. -/
def prescaler (s : State) : Nat := min (s.rtc.len - 1) ((s.tim.cyc - s.rtc.edgeCyc) * 32768 / 250000000)

/-- The calendar registers RTC_SEC to RTC_WDAY of a reading (R351). -/
def calRegs (c : Cal) : List Nat :=
  [bcd c.sec, bcd c.min, bcd c.hour, bcd c.day, bcd c.month, bcd (c.year % 100), bcd (c.year / 100), c.wday]

/-- The first instant of the next day, with the weekday and the wrap after 2399 (R352 to R354). -/
def nextDay (c : Cal) : Cal × Bool :=
  let w := (c.wday + 1) % 7
  let z : Cal := { c with sec := 0, min := 0, hour := 0, wday := w }
  if c.day < monthLen c.year c.month then ({ z with day := c.day + 1 }, false)
  else if c.month < 12 then ({ z with day := 1, month := c.month + 1 }, false)
  else if c.year < 2399 then ({ z with day := 1, month := 1, year := c.year + 1 }, false)
  else ({ z with day := 1, month := 1, year := 2000 }, true)

/-- The calendar one second on, without leap seconds (R352). -/
def nextSecond (c : Cal) : Cal × Bool :=
  if c.sec < 59 then ({ c with sec := c.sec + 1 }, false)
  else if c.min < 59 then ({ c with sec := 0, min := c.min + 1 }, false)
  else if c.hour < 23 then ({ c with sec := 0, min := 0, hour := c.hour + 1 }, false)
  else nextDay c

/-- Whether a reading lies in the last day of its month at 23:59 (R355). -/
def lastMinute (c : Cal) : Bool := c.day = monthLen c.year c.month && c.hour = 23 && c.min = 59

/-- The length of second j of a compensation window in AON cycles (R361). -/
def secondLen (n : Int) (j : Nat) : Nat :=
  (32768 - ((((j : Int) + 1) * n) / 60 - ((j : Int) * n) / 60)).toNat

/-- RTC_STATUS (R366). -/
def rtcStatus (r : RtcState) : Word :=
  let pend := match r.commit with
    | some c => c.onSecond
    | none => false
  pack [(31, b2n r.osf), (30, b2n r.epochWrap), (29, b2n r.setErr), (28, b2n r.snapValid), (27, b2n r.stgDirty),
    (26, b2n pend), (25, b2n r.learn), (17, b2n r.alm1), (16, b2n r.alm0), (0, r.cause)]

/-- Whether an alarm's selected fields equal the calendar's (R365). -/
def alarmMatches (a : Alarm) (c : Cal) : Bool :=
  let sel (b : Nat) (x y : Nat) : Bool := !a.mask.testBit b || x = y
  a.armed && sel 0 (a.time % 256) (bcd c.sec) && sel 1 (a.time / 256 % 256) (bcd c.min) &&
    sel 2 (a.time / 65536 % 256) (bcd c.hour) && sel 3 (a.date % 256) (bcd c.day) &&
    sel 4 (a.date / 256 % 256) (bcd c.month) && sel 5 (a.date / 65536 % 256) (bcd (c.year % 100))

/-- The records of an alarm match go to EVQ while the module runs (R365, R403). -/
def alarmEvent (s : State) (a : Nat) : State :=
  if s.modp = .easy || s.modp = .off then s else event s .rtc 0x0301 a (rtcStatus s.rtc).toNat 0

/-- Both alarms at the start of a second (R365). -/
def alarmCheck (s : State) : State :=
  let m0 := alarmMatches s.rtc.alarm0 s.rtc.cal
  let m1 := alarmMatches s.rtc.alarm1 s.rtc.cal
  let s := { s with rtc := { s.rtc with alm0 := s.rtc.alm0 || m0, alm1 := s.rtc.alm1 || m1 } }
  let s := if m0 then alarmEvent s 0 else s
  if m1 then alarmEvent s 1 else s

/-- The quality condition of R363. -/
def learnCond (s : State) : Bool :=
  s.tim.set && (s.tim.qual = .locked || (s.tim.qual = .holdover && errEst s < 10000))

/-- The phase of a second edge now, in µs (R363): the edge minus the nearest UTC second boundary of network time. -/
def phaseNow (s : State) : Int :=
  let f : Int := nowFrac s
  (if f ≥ 500000000 then f - 1000000000 else f) / 1000

/-- A second edge is stamped while the condition holds; otherwise the window of R363 restarts. -/
def stampPhase (s : State) (skip : Bool) : State :=
  if !learnCond s then { s with rtc := { s.rtc with learn := false, phases := none } }
  else if skip then { s with rtc := { s.rtc with learn := true } }
  else
    let p := phaseNow s
    let w := match s.rtc.phases with
      | none => (p, p, 0)
      | some (a, _, n) => (a, p, n + 1)
    { s with rtc := { s.rtc with learn := true, phase := p, phases := some w } }

/-- The weekday and fields UTC gives now (R364). -/
def utcCal (s : State) : Cal := calOf (utcSec s)

/-- The times at which R364 makes no check, by network time: the last two seconds of a UTC day with an announced leap second (23:59:57 and 58 where
59 is deleted), and an inserted leap second, which the count of seconds still shows as the day's 86,401st. -/
def checkBarred (s : State) : Bool :=
  match s.tim.leap with
  | 1 => utcSec s % 86400 ≥ 86398 || utcSec s % 86400 = 0
  | 2 => utcSec s % 86400 = 86397 || utcSec s % 86400 = 86398
  | _ => false

/-- Firmware commits the calendar from network time with ON_SECOND (R364): the fields of the second that begins at the next
boundary, through the staging registers as any commit (R358; log entry 123). -/
def commitUtc (s : State) : State :=
  match s.rtc.commit with
  | some _ => s
  | none =>
    let c : Commit := { cal := calOf (utcSec s + 1), onSecond := true, at_ := (nowSec s + 1) * giga }
    { s with rtc := { s.rtc with stg := calRegs c.cal, stgDirty := true, commit := some c } }

/-- CALENDAR_CHECK (R364). -/
def calendarCheck (s : State) : State :=
  if !learnCond s then s
  else if checkBarred s then { s with rtc := { s.rtc with checkOwed := true } }
  else
    let s := { s with rtc := { s.rtc with checkOwed := false } }
    if s.rtc.osf || s.rtc.cal ≠ utcCal s || s.rtc.phase.natAbs > 2000 then commitUtc s else s

/-- A capture (R356, R357). -/
def rtcCapture (s : State) : State :=
  let regs := calRegs s.rtc.cal
  { s with rtc := { s.rtc with
    snap := regs, subsec := prescaler s, snapValid := true, stg := if s.rtc.stgDirty then s.rtc.stg else regs } }

/-- A staging register takes a value (R357). -/
def stagingWrite (s : State) (i v : Nat) : State :=
  let c := match s.rtc.commit with
    | some c => some { c with stgAfter := true }
    | none => none
  { s with rtc := { s.rtc with stg := upd s.rtc.stg i (fun _ => v), stgDirty := true, commit := c } }

/-- The reading the staging registers give. -/
def stagedCal (g : List Nat) : Cal :=
  { sec := unbcd (nth g 0 0), min := unbcd (nth g 1 0), hour := unbcd (nth g 2 0), day := unbcd (nth g 3 0),
    month := unbcd (nth g 4 0), year := unbcd (nth g 6 0) * 100 + unbcd (nth g 5 0), wday := nth g 7 0 }

/-- The cause of a commit's failure, 0 when it passes (R358). -/
def commitCause (s : State) (onSecond : Bool) : Nat :=
  let g := s.rtc.stg
  let c := stagedCal g
  if !((List.range 7).all fun i => bcdOk (nth g i 0)) then 1
  else if c.sec > 59 || c.min > 59 || c.hour > 23 || c.day = 0 || c.month = 0 || c.month > 12 ||
      c.year < 2000 || c.year > 2399 then 2
  else if c.day > monthLen c.year c.month then 3
  else if c.wday ≥ 7 then 4
  else if onSecond && !timeValid s then 5
  else 0

/-- A commit that waits for a second boundary (R358 COMMIT_PEND). -/
def commitPending (s : State) : Bool :=
  match s.rtc.commit with
  | some c => c.onSecond
  | none => false

/-- A write of RTC_COMMIT with GO whose checks pass (R358). -/
def commitGo (s : State) (onSecond : Bool) : State :=
  let c : Commit :=
    { cal := stagedCal s.rtc.stg, onSecond := onSecond, at_ := if onSecond then (nowSec s + 1) * giga else 0 }
  { s with rtc := { s.rtc with commit := some c } }

/-- A refused commit records its cause (R358). -/
def commitRefused (s : State) (cause : Nat) : State := { s with rtc := { s.rtc with setErr := true, cause := cause } }

/-- The fields a commit sets at its AON edge (R358); the second it begins is compared with the alarms (R365). -/
def commitSets (s : State) (c : Commit) : State :=
  alarmCheck { s with rtc := { s.rtc with
    cal := c.cal, edgeCyc := s.tim.cyc, osf := false, rep := false, stgDirty := s.rtc.stgDirty && c.stgAfter, commit := none, phases := none } }

/-- COMMIT_APPLY: a valid commit applies at its AON edge (R358, R359). -/
def commitApply (s : State) : State :=
  match s.rtc.commit with
  | none => s
  | some c => commitSets (if c.onSecond then advanceTo s c.at_ else s) c

/-- The commit that applies at this AON edge (R358): one without ON_SECOND at the first edge after its write, one with it at the first edge
at or after its network-time second. -/
def commitHere (s : State) : Option Commit := s.rtc.commit.filter fun c => !c.onSecond || c.at_ ≤ nowNs s

/-- The running second ends, where no commit applies at its edge (R352 to R355, R361, R363, R365). -/
def rollover (s : State) : State :=
  let r := s.rtc
  let hold := r.leap = 1 && lastMinute r.cal && r.cal.sec = 59 && !r.rep
  let skip := r.leap = 2 && lastMinute r.cal && r.cal.sec = 58
  let ends := skip || (r.leap = 1 && lastMinute r.cal && r.cal.sec = 59)
  let nx := if hold then (r.cal, false) else if skip then nextDay r.cal else nextSecond r.cal
  let j := (r.j + 1) % 60
  let s := { s with rtc := { r with
    cal := nx.1, epochWrap := r.epochWrap || nx.2, rep := hold, leap := if ends && !hold then 0 else r.leap,
    edgeCyc := s.tim.cyc, j := j, len := secondLen r.n j } }
  let s := stampPhase s (hold || skip)
  if hold then s else alarmCheck s

/-- SECOND_END: at the edge of a commit the rollover is discarded, and the commit alone sets the fields (R359). -/
def secondEnd (s : State) : State :=
  match commitHere s with
  | some c => commitSets s c
  | none => rollover s

/-- COMPENSATION_WINDOW: D and n from the crystal temperature (R361). The factory curve is data of the module. -/
def compWindow (s : State) (t : Int) : State :=
  let dt := t - Config.curveT0
  let x := clampI 0 38400 (t + 10240)
  let k := (x / 2560).toNat
  let r0 := Config.curveResid k
  let r1 := Config.curveResid (min 15 (k + 1))
  let num := Config.curveBeta * dt * dt * 5 + 10000 * (r0 * 2560 + (r1 - r0) * (x % 2560)) * 128 +
    10000 * s.rtc.aging * 327680
  let n := clampI (-480) 480 (rdiv (num * 1966080) (327680 * 100000000000))
  { s with rtc := { s.rtc with temp := t, d := rdiv num 327680000, n := n, j := 0, len := secondLen n 0 } }

/-- AGING takes a value, with its complement (R67). -/
def agingSet (s : State) (g : Int) : State := { s with rtc := { s.rtc with aging := g, agingN := ~~~ w32 (sfield 16 g) } }

/-- AGING takes a value that the AON store and the ledger keep (R363). -/
def agingSave (s : State) (g : Int) : State :=
  (ledgerWrite { agingSet s g with aon := { s.aon with aging := some g } } .rtc fun s => { s with led := { s.led with aging := some g } }).1

/-- The AGING that the stores hold (R363), the AON store's before the ledger's. -/
def agingStored (s : State) : Option Int := s.aon.aging.orElse fun _ => s.led.aging

/-- AGING is checked once per stroke (R70); where its pair does not match it is taken from its stores again (log entry 108). -/
def agingCheck (s : State) : State :=
  if s.rtc.agingN = ~~~ w32 (sfield 16 s.rtc.aging) then s else agingSet (pairEvent s .rtc 0) ((agingStored s).getD 0)

/-- AGING_UPDATE at the end of a 24 h window (R363). -/
def agingUpdate (s : State) : State :=
  match s.rtc.phases with
  | some (a, b, n + 1) =>
    let step := clampI (-5) 5 (rdiv ((b - a) * 10) (2 * (n + 1)))
    agingSave { s with rtc := { s.rtc with phases := none } } (clampI (-255) 255 (s.rtc.aging + step))
  | _ => s

/-- The calendar starts (R360): every field at 2000-01-01 00:00:00, weekday 0, the prescaler at 0, OSF set. -/
def calendarStarts (s : State) : State :=
  { s with rtc := { s.rtc with cal := {}, edgeCyc := s.tim.cyc, len := secondLen s.rtc.n 0, j := 0, osf := true, rep := false } }

/-- VBAT_APPLIED (R360). -/
def vbatApplied (s : State) : State := calendarStarts { s with pins := { s.pins with vbat := true } }

/-- A power-up of a board without VBAT starts the calendar (R89, R360). -/
def vaonUp (s : State) : State := if s.pins.vbat then s else calendarStarts s

/-- OSF is set by an oscillator stop or a low VBAT (R360). -/
def setOsf (s : State) : State := { s with rtc := { s.rtc with osf := true } }

/-- What an RTC station reset and a module reset do to RTC (R36, R365, R497). -/
def rtcStationReset (s : State) : State :=
  { s with rtc := { s.rtc with
    stg := List.replicate 8 0, stgDirty := false, setErr := false, cause := 0, snapValid := false,
    snap := List.replicate 8 0, subsec := 0, alm0 := false, alm1 := false, commit := none, alarm0 := {}, alarm1 := {},
    learn := false, checkOwed := false } }

/-- LEAP follows TIM's leap indication while quality is LOCKED or HOLDOVER (R355). -/
def copyLeap (s : State) : State := if timeAdmits s then { s with rtc := { s.rtc with leap := s.tim.leap } } else s

/-- A check that fell in a barred time is made once that time is over (R364). -/
def owedCheck (s : State) : State := if s.rtc.checkOwed && !checkBarred s then calendarCheck s else s

/-- What firmware does for the calendar once every superframe (R355, R364): in its stroke 50, away from the second's edge (log entry 123). -/
def calendarKept (s : State) : State :=
  if isRunning s .rtc && s.cox.abs % 100 = 50 then owedCheck (copyLeap s) else s

/-- AGING_LEARN shows the condition of R363, and its loss restarts the window. -/
def learnFollows (s : State) : State :=
  let c := isRunning s .rtc && learnCond s
  { s with rtc := { s.rtc with learn := c, phases := if c then s.rtc.phases else none } }

/-! ## Registers (R366) -/

/-- An alarm's registers. -/
def alarmRead (a : Alarm) (o : Nat) : Word :=
  match o with
  | 0x0 => pack [(31, b2n a.armed), (30, b2n a.wake), (0, a.mask)]
  | 0x4 => w32 a.time
  | 0x8 => w32 a.date
  | _ => 0

/-- RTC's registers; RTC_SEC returns the seconds of the capture the read itself makes. -/
def rtcRead (s : State) (off : Nat) : Word :=
  if 0x0080 ≤ off ∧ off < 0x0100 then
    let v := w32 (sfield 8 (Config.curveResid ((off - 0x0080) / 8)))
    if off % 8 = 0 then v else ~~~ v
  else match off with
  | 0x0000 => w32 0x00020100
  | 0x0004 => rtcStatus s.rtc
  | 0x0008 => w32 s.rtc.leap
  | 0x0020 => w32 (bcd s.rtc.cal.sec)
  | 0x0024 => w32 (nth s.rtc.snap 1 0)
  | 0x0028 => w32 (nth s.rtc.snap 2 0)
  | 0x002C => w32 (nth s.rtc.snap 3 0)
  | 0x0030 => w32 (nth s.rtc.snap 4 0)
  | 0x0034 => w32 (nth s.rtc.snap 5 0)
  | 0x0038 => w32 (nth s.rtc.snap 6 0)
  | 0x003C => w32 (nth s.rtc.snap 7 0)
  | 0x0040 => w32 s.rtc.subsec
  | 0x0050 => i32 s.rtc.phase
  | 0x0054 => w32 (sfield 16 s.rtc.temp)
  | 0x0058 => pack [(16, sfield 16 s.rtc.n), (0, sfield 16 s.rtc.d)]
  | 0x005C => w32 (sfield 16 s.rtc.aging)
  | 0x0060 => s.rtc.agingN
  | 0x0064 => w32 (sfield 16 Config.curveT0)
  | 0x0068 => ~~~ w32 (sfield 16 Config.curveT0)
  | 0x006C => w32 (sfield 16 Config.curveBeta)
  | 0x0070 => ~~~ w32 (sfield 16 Config.curveBeta)
  | 0x0100 => alarmRead s.rtc.alarm0 0
  | 0x0104 => alarmRead s.rtc.alarm0 4
  | 0x0108 => alarmRead s.rtc.alarm0 8
  | 0x0120 => alarmRead s.rtc.alarm1 0
  | 0x0124 => alarmRead s.rtc.alarm1 4
  | 0x0128 => alarmRead s.rtc.alarm1 8
  | _ => 0

end Sys2Proof.Machine
end

