-- ==== Sys2Proof/Machine/Power.lean ====
section
/-! DEFINITION. Power states, the decision to sleep, the entry into EASY and its hold on the pads (R410 to R419, R423, R425). -/
namespace Sys2Proof.Machine

/-- PWR's state changed. -/
def setPwr (s : State) (f : PwrState → PwrState) : State := { s with pwr := f s.pwr }

/-! ## DRIVE and FEATHER (R410, R411) -/

/-- Whether an update CALL has been admitted and not ended (R411). -/
def updCallLive (s : State) : Bool := s.calls.any fun c => callLive c && c.station = 11

/-- FEATHER_EN in use (R125, R411). -/
def featherEn (s : State) : Bool := trimmed s .featherEn (b2n (s.pwr.feather.getD (cPower s).featherEn)) ≠ 0

/-- The power state changes. -/
def setPower (s : State) (p : PwrSt) : State :=
  if s.pwr.state = p then s else setPwr s fun x => { x with state := p, since := s.tim.cyc, updGated := if p = .drive then false else x.updGated }

/-- FEATHER_CHANGE (R411): at a boundary FEATHER is taken in DAY with FEATHER_EN, and left otherwise or for an update CALL. -/
def featherAtBoundary (s : State) : State :=
  let s := match s.pwr.featherNext with
    | some (v, b) => if b ≤ s.cox.count then setPwr s fun x => { x with feather := some v, featherNext := none } else s
    | none => s
  let want := s.crs.mode = 0 && featherEn s && !updCallLive s
  if s.pwr.state = .drive && want then setPower s .feather
  else if s.pwr.state = .feather && !want then setPower (updPowered s) .drive
  else s

/-- UPD_POWER_GATE (R410): 60 s in FEATHER without an update CALL, an open transfer or a request. -/
def updGate (s : State) : State :=
  if s.pwr.state = .feather && isRunning s .upd && !updCallLive s && s.upd.xfer.state ≠ .open_ then
    let s := advanceCyc s (s.pwr.updAt + secCyc 60)
    setStn (setPwr s fun x => { x with updGated := true }) .upd fun r => { r with state := .off }
  else s

/-! ## Entering EASY (R412 to R414) -/

/-- The planned wake of the day schedule as TIME_SEC (R412): WAKE_LEAD before the next event, which may lie less than that ahead. -/
def dayWake (s : State) : Nat :=
  let u := utcHeld s (nowNs s)
  let plan := fun (d : Nat) =>
    match sunSec s 3 d with
      | some n => utcOfLocal s (d * 86400) + n
      | none => match sunSec s 2 d with
        | some n => utcOfLocal s (d * 86400) + n
        | none => utcOfLocal s (d * 86400 + (cPower s).wakeLocal * 60)
  let d0 := localDay s
  let w := (((List.range 3).map fun i => plan (d0 + i)).find? fun w => u < w).getD (plan (d0 + 3))
  ((w : Int) + s.tim.taiUtc).toNat - (cPower s).wakeLead

/-- Whether a compare unit has an edge before an instant in ns (R413). -/
def cmpBefore (u : CmpUnit) (ns : Nat) : Bool :=
  (u.state = .armed || u.state = .running) && (u.lowAt.isSome || (!seriesDone u && cmpInstant u u.k < ns * 2))

/-- Whether an armed alarm's time is at or before the calendar's (R419): of an alarm that compares every field, as a reading; of another,
when it matches now. -/
def alarmPending (a : Alarm) (c : Cal) : Bool :=
  a.armed && a.wake && (alarmMatches a c ||
    (a.mask = 0x3F && a.date * 2 ^ 24 + a.time ≤
      (bcd (c.year % 100) * 65536 + bcd c.month * 256 + bcd c.day) * 2 ^ 24 + bcd c.hour * 65536 + bcd c.min * 256 + bcd c.sec))

/-- The wake sources pending (R419): bit 0 WAKE_CMP, 1 alarm 0, 2 alarm 1, 3 frame. -/
def wakePending (s : State) : Nat :=
  b2n ((cPower s).switched && (s.pins.wakeCmp || s.pwr.cmpQualifying)) + 2 * b2n (alarmPending s.rtc.alarm0 s.rtc.cal) +
    4 * b2n (alarmPending s.rtc.alarm1 s.rtc.cal) + 8 * b2n (s.pwr.frameArmed && s.pwr.frameMatched)

/-- The checks of R413 for a planned wake (TIME_SEC), in order. -/
def easyErr (s : State) (wake : Nat) : Err :=
  let ns := wake * giga
  let slack := s.lgt.cmds.any (fun c => (c.state = .pending || c.state = .active) && (c.exec < ns || match c.endAt with
      | some e => e < ns
      | none => false)) ||
    s.crs.mreqs.any (fun r => (r.state = .pending && r.start < wake) || (r.state = .active && r.endSec ≠ 0 && r.endSec < wake)) ||
    s.tim.cmps.any (fun u => cmpBefore u ns) || s.calls.any callLive || s.crs.corrs ≠ [] ||
    s.crs.handoffs.any (fun h => h.outcome.isNone) || s.tim.head.state = .pending || s.rtc.commit.isSome
  if !(cPower s).easyEn || s.aon.easyLock || s.led.easyLock then .easyLocked
  else if s.sys.start.mode = .paddle || s.modp ≠ .running || !s.sys.start.steady then .easyLocked
  else if slack then .noSlack
  else if wakePending s ≠ 0 then .wakePending
  else if !timeAdmits s && s.rtc.osf then .noSlack
  else .ok

/-- The planned wake goes to alarm 0 with WAKE set (R412). -/
def setAlarm0 (s : State) (wake : Nat) : State :=
  let c := calOf ((wake : Int) - s.tim.taiUtc).toNat
  { s with rtc := { s.rtc with alarm0 := { armed := true, wake := true, mask := 0x3F,
                                           time := bcd c.hour * 65536 + bcd c.min * 256 + bcd c.sec,
                                           date := bcd (c.year % 100) * 65536 + bcd c.month * 256 + bcd c.day } } }

/-- An entry that passes its checks waits for the next Finish (R415). -/
def easyAsked (s : State) (trigger wake : Nat) : State :=
  setPwr (setAlarm0 s wake) fun x => { x with entry := some { trigger := trigger, wakePlan := wake, from_ := x.state } }

/-- An entry is refused (R413, R425): RESULT, with record 0x0A01. -/
def easyRefused (s : State) (trigger : Nat) (e : Err) : State :=
  event (setPwr s fun x => { x with stat := { result := 2, trigger := trigger, err := e }, entry := none, sleepState := 0 }) .pwr 0x0A01 0 e.code 0

/-- A try of the day schedule fails a check: it is tried again at the next superframe (R413). A try that fails as the one before writes no further
record (log entry 125). -/
def dayRefused (s : State) (e : Err) : State :=
  let again := s.pwr.dayWait && s.pwr.stat.result = 2 && s.pwr.stat.trigger = 1 && s.pwr.stat.err = e
  setPwr (if again then s else easyRefused s 1 e) fun x => { x with dayWait := true }

/-- A try of the day schedule (R412, R413). -/
def dayTry (s : State) : State :=
  if !(cPower s).switched || s.crs.mode ≠ 0 || s.modp ≠ .running then setPwr s fun x => { x with dayWait := false }
  else if s.pwr.entry.isSome then s
  else
    let w := dayWake s
    match easyErr s w with
    | .ok => easyAsked (setPwr s fun x => { x with dayWait := false }) 1 w
    | e => dayRefused s e

/-- The next superframe tries again (R413). -/
def dayRetry (s : State) : State := if s.pwr.dayWait && s.cox.abs % 100 = 0 then dayTry s else s

/-- WAKE_CMP is below its threshold. -/
def cmpFell (s : State) : State := setPwr { s with pins := { s.pins with wakeCmp := false } } fun x => { x with cmpQualifying := false }

/-- EASY_DAY_TRIGGER (R412): WAKE_CMP has been below its threshold for 60 s. -/
def easyDay (s : State) : State := dayTry (cmpFell s)

/-- The planned wake a head-end request carries (R412). -/
def sleepWake (s : State) : Nat := s.pwr.sleepHi % 65536 * frac + s.pwr.sleepLo

/-- The checks of SLEEP_REQUEST with the registers as its WRITE leaves them (R412, R413). -/
def sleepErr (s : State) : Err :=
  let w := sleepWake s
  if w < nowSec s + 60 || nowSec s + 604800 < w then .range
  else if s.pwr.entry.isSome then .slotBusy
  else easyErr s w

/-- SLEEP_REQUEST (R412). -/
def sleepRequest (s : State) : State := easyAsked (setPwr s fun x => { x with sleepState := 1 }) 2 (sleepWake s)

/-- EASY_COMMIT (R415): at the first Finish, with the checks still met; one of the day schedule that they stop is tried again (R413). -/
def easyCommit (s : State) : State :=
  match s.pwr.entry with
  | some e =>
    if e.step ≠ 0 then s
    else match easyErr s e.wakePlan with
      | .ok =>
        setPower (setPwr s fun x => { x with sleepState := if e.trigger = 2 then 2 else x.sleepState,
                                             entry := some { e with step := 1, from_ := x.state, atNs := nowNs s, quality := s.tim.qual, stepCyc := s.tim.cyc } })
          .entering
      | r => setPwr (easyRefused s e.trigger r) fun x => { x with dayWait := e.trigger = 1 }
  | none => s

/-! ## The entry (R415 to R419) -/

/-! ## Pads (R72 to R75, R84, R91 to R94) -/

/-- The level of a driven pad. -/
def padOf (b : Bool) : Pad := if b then .high else .low

/-- The GPIO pins as the Rig assigns them (R94): outputs at their level; inputs and unassigned pins stay at Z-PD. -/
def gpioLevels (s : State) : Tab Pad :=
  (cBoard s).gpioUsed.foldl (fun g (u : GpioUse) => if u.out then tput g u.pin (padOf u.level) else g) []

/-- By radio port: `v` on a used port, `d` on one that is not (R195). -/
def onUsed (s : State) (v d : Pad) : List Pad := s.rad.ports.map fun (x : RadPort) => if x.state = .off then d else v

/-- The levels a station drives its output pads to once it is up (R72, R74, R84, R91, R94, R114); RADn_RST_N by port (R195). -/
def drivePads (s : State) (n : Stn) : State :=
  let p := s.pins
  { s with pins := match n with
    | .rad => { p with radCs := onUsed s .high .zPu, radBus := onUsed s .low .zPd, radTxgo := onUsed s .low .zPd,
                       radRst := s.rad.ports.map fun (x : RadPort) => if x.state = .off then .zPd else if x.state = .reset then .low else .high }
    | .mtr => { p with sbusCs := List.replicate 4 .high, sbus := .low, mclk := .low, mclkRuns := true }
    | .tim => { p with trgDriven := true }
    | .eth => { p with serdes := List.replicate 2 (if s.sys.start.rig = 0xF then .idle else .frames), mdc := .low }
    | .cfg => { p with qspiCs := .high, qspi := .low, qspiRst := .high }
    | .sys => { p with srvTxd := if p.srvEn then .high else .zPu, gpio := gpioLevels s, ledDriven := true, ledHeld := none }
    | _ => p }

/-- Stations that own pads in a bank (R72). -/
def bankOwners (b : Bool) : List Stn := if b then [.eth, .cfg, .sys] else [.rad, .mtr, .tim]

/-- LED0, LED1 and LED2 as R93 has them. Steady strokes are those of a start whose steadiness test has passed (log entry 100). -/
def leds (s : State) : List LedShow :=
  let paddle := s.sys.start.mode = .paddle && moduleUp s
  let led0 : LedShow := if s.modp = .running && !paddle then (if s.sys.start.steady then .on else .off) else if paddle then .blink1 else .off
  let led1 : LedShow := if s.vtp.sessions.any fun x => x.state = .open_ then .on
    else if s.eth.ports.any fun p => p.up then .blink2 else .off
  let led2 : LedShow := if s.modp = .held || s.modp = .recovery || s.sys.lastFailed || s.stns.any fun r => r.state = .fault then .on
    else if s.rtc.osf && moduleUp s && !timeValid s then .blink4 else .off
  if s.modp = .off || s.modp = .easy then [.off, .off, .off] else [led0, led1, led2]

/-- The state of the TAP (R92): TRST_N's pull-down holds it in reset, and boundary scan needs VIN and both banks. -/
def tap (s : State) : Tap :=
  if s.pins.trstN = .high && s.pins.vin && s.bankA ≠ .notValid && s.bankB ≠ .notValid then .scan else .reset

/-- What the owners drive now (R72, R74, R80, R84): a pulse on a reset pad holds it low until its end. -/
def driven (s : State) : Levels :=
  let p := s.pins
  let rst := s.rad.ports.zip p.radRst |>.map fun (x : RadPort × Pad) => if s.tim.cyc < x.1.rstUntil then .low else x.2
  { toDrivers := { p.toDrivers with radRst := rst, qspiRst := if s.tim.cyc < s.cfg.flashRstUntil then .low else p.qspiRst }
    trg := if p.trgDriven then s.tim.cmps.map fun (u : CmpUnit) => padOf u.pin else List.replicate 8 .zPd
    led := match p.ledHeld with
      | some l => l
      | none => if p.ledDriven || s.modp = .held || s.modp = .recovery || s.modp = .easy then leds s else List.replicate 3 .z }

/-- Levels with those of bank A kept at `h`. -/
def keepBankA (d h : Levels) : Levels :=
  { d with radRst := h.radRst, radCs := h.radCs, radBus := h.radBus, radTxgo := h.radTxgo, mclk := h.mclk, mclkRuns := h.mclkRuns,
           sbusCs := h.sbusCs, sbus := h.sbus, trg := h.trg }

/-- Levels with those of bank B kept at `h`. -/
def keepBankB (d h : Levels) : Levels :=
  { d with mdc := h.mdc, mdio := h.mdio, qspiCs := h.qspiCs, qspi := h.qspi, qspiIo := h.qspiIo, qspiRst := h.qspiRst, srvTxd := h.srvTxd,
           gpio := h.gpio, led := h.led }

/-- The levels on the output pads (R72, R75): a latched hold keeps those of its bank. -/
def padLevels (s : State) : Levels :=
  let d := if s.pwr.holdA then keepBankA (driven s) s.pins.latch else driven s
  if s.pwr.holdB then keepBankB d s.pins.latch else d

/-- The hold is released and the module returns to the state it left (R415, R419). -/
def easyAbandon (s : State) (e : Entry) (err : Err) (pending : Nat) : State :=
  let s := setPower s e.from_
  let s := if e.step > 2 then (bankOwners false ++ bankOwners true).foldl drivePads (portBringUp s) else s
  let s := if e.step > 2 then setMtr s fun m => { m with settle := 100 } else s
  event (setPwr s fun x =>
    { x with entry := none, sleepState := 0, holdA := false, holdB := false, cmpArmed := false, frameArmed := false, frameMatched := false,
             stat := { result := 3, trigger := e.trigger, err := err, pending := pending }, abandoned := satAdd 16 x.abandoned 1 })
    .pwr 0x0A01 0 err.code 0

/-- Step 1 has not ended within its 200 ms (R415): the entry is abandoned. -/
def easyLate (s : State) : State :=
  match s.pwr.entry with
  | some e => if e.step = 1 && e.stepCyc + msCyc 200 < s.tim.cyc then easyAbandon s e .ledgerFail 0 else s
  | none => s

/-- EASY_SAVES_DONE (R415 step 1): the saves are made; one that LEDGER_FAIL has announced fails and abandons the entry, as does a step that
takes longer than its bound. -/
def easySaves (s : State) : State :=
  match s.pwr.entry with
  | some e =>
    if e.step ≠ 1 then s
    else if e.stepCyc + msCyc 200 < s.tim.cyc then easyAbandon s e .ledgerFail 0
    else
      let w := stepSaves s 3
      if w.2 then setPwr w.1 fun x => { x with entry := some { e with step := 2, stepCyc := w.1.tim.cyc } }
      else easyAbandon w.1 e .ledgerFail 0
  | none => s

/-- The GPIO pins as they are driven, with the levels the Rig names for EASY (R416). -/
def easyGpio (s : State) : Tab Pad :=
  (cBoard s).gpioUsed.foldl (fun g (u : GpioUse) => match u.easy with
    | some b => tput g u.pin (padOf b)
    | none => g) s.pins.gpio

/-- The levels of R416: every general compare is disarmed, a transceiver is held in reset on every used port after IDLE, and the levels are latched. -/
def easyPads (s : State) : State :=
  let p := s.pins
  let s : State := (List.range 4).foldl (fun s n => if rxOpen (radPort s n) then runOp s n opIdle {} else s) s
  let s : State := (List.range 8).foldl cmpDisarm s
  let d : Drivers := { p.toDrivers with
    radRst := onUsed s .low .zPd, radCs := onUsed s .high .zPu, radBus := onUsed s .low .zPd, radTxgo := onUsed s .low .zPd,
    mclk := .low, mclkRuns := false, sbusCs := List.replicate 4 .high, sbus := .low, qspiCs := .high, qspi := .low, srvTxd := .high, gpio := easyGpio s }
  { s with
    tim := { s.tim with cmps := s.tim.cmps.map fun (u : CmpUnit) => { u with pin := false } }
    rad := { s.rad with ports := s.rad.ports.map fun (x : RadPort) => if x.state = .off then x else { x with state := .reset, ack := none } }
    pins := { p with toDrivers := d, latch := { toDrivers := d, trg := List.replicate 8 .low, led := List.replicate 3 .off } } }

/-- PWR_WAKE_LAST and PWR_WAKE_STEPS (R425). -/
def wakeLastWord (l : WakeLast) : Word :=
  pack [(28, l.source), (24, l.result), (20, l.failedStep), (16, b2n l.slow), (0, min 65535 l.lat)]

def wakeStepsWord (l : List Nat) : Word :=
  pack [(24, min 255 (nth l 0 0)), (16, min 255 (nth l 1 0)), (8, min 255 (nth l 2 0)), (0, min 255 (nth l 3 0))]

/-- The fields of the save list in the order of R417, with their sizes in octets. -/
def saveFields (v : SaveList) : List (Nat × Nat) :=
  [(4, v.entrySec), (4, v.entryNs), (1, v.quality.code), (8, v.wakePlan), (1, v.trigger), (1, v.sources), (1, v.failedWakes),
   (1, b2n v.slow + 2 * b2n v.easyLock + 4 * b2n v.retryUsed + 8 * b2n v.brownout),
   (8, (wakeLastWord v.last).toNat + (wakeStepsWord v.steps).toNat * frac)]

/-- The CRC-32C of the record (R417), each field before its complement (log entry 125). -/
def saveCrc (v n : SaveList) : Nat :=
  crc32c ((saveFields v).zip (saveFields n) |>.flatMap fun p => leBytes p.1.1 p.1.2 ++ leBytes p.2.1 (256 ^ p.2.1 - 1 - p.2.2 % 256 ^ p.2.1))

/-- The record of a save list. -/
def SaveRec.of (v : SaveList) : SaveRec := { v := v, n := v, crc := saveCrc v v }

/-- The CRC and the pairs of a record are good (R417, R420). -/
def SaveRec.ok (r : SaveRec) : Bool := r.n = r.v && r.crc = saveCrc r.v r.n

/-- The save list (R417). -/
def saveListOf (s : State) (e : Entry) : SaveRec :=
  SaveRec.of
    { entrySec := e.atNs / giga, entryNs := e.atNs % giga, quality := e.quality, wakePlan := e.wakePlan, trigger := e.trigger,
      sources := b2n (cPower s).switched + 2 * b2n s.rtc.alarm0.armed + 4 * b2n (s.rtc.alarm1.armed && s.rtc.alarm1.wake) + 8 * b2n (cPower s).frameEn,
      failedWakes := s.aon.failedWakes, slow := s.aon.slow, easyLock := s.aon.easyLock, retryUsed := false, brownout := false }

/-- SLEEP_GRACE_EXPIRY (R415 steps 2 to 6): SLEEP_GRACE has passed, or nothing is left to be acknowledged; unacknowledged packets are counted, pads
driven and latched, the save list written, the sources armed. -/
def sleepGrace (s : State) : State :=
  match s.pwr.entry with
  | some e =>
    if e.step ≠ 2 then s
    else
      let s := if s.evq.queues.all fun q => q.ring.isEmpty then s else advanceCyc s (e.stepCyc + secCyc (cPower s).grace)
      let s := { s with evq := { s.evq with queues := s.evq.queues.map fun q =>
        { q with rlost := satAdd 32 q.rlost q.ring.length, ring := [] } } }
      let s := easyPads s
      let s := { s with aon := { s.aon with save := some (saveListOf s e), retryUsed := false, brownout := false } }
      setPwr s fun x =>
        { x with holdA := true, holdB := true, cmpArmed := (cPower s).switched, frameArmed := (cPower s).frameEn, frameMatched := false,
                 entry := some { e with step := 6 } }
  | none => s

/-- The main domains are switched off (R410, R414, R419): sessions end without notice, every other station is OFF and so
is every port (R239). -/
def domainsOff (s : State) (e : Entry) : State :=
  let s := setPower s .easy
  let s := { s with modp := .easy, stns := s.stns.map fun r => { r with state := .off, inStroke := false, prog := [] },
                    cox := { s.cox with phase := .none },
                    rad := { s.rad with ports := s.rad.ports.map fun (x : RadPort) => { x with state := .off, cause := 0 } },
                    vtp := { s.vtp with sessions := List.replicate 4 {}, hands := [] }, evq := { s.evq with enable := false } }
  setPwr s fun x => { x with entry := none, sleepState := 0, entries := satAdd 16 x.entries 1,
                             stat := { result := 1, trigger := e.trigger } }

/-- EASY_FINAL_CHECK (R419): at AON edge E; `qualifying` says that the 32-cycle qualification of WAKE_CMP runs. -/
def easyFinal (s : State) (qualifying : Bool) : State :=
  let s := setPwr s fun x => { x with cmpQualifying := qualifying }
  match s.pwr.entry with
  | some e =>
    if e.step ≠ 6 then s
    else
      let p := wakePending s
      if p ≠ 0 then easyAbandon s e .wakePending p else domainsOff s e
  | none => s

/-! ## The hold after a wake (R423) -/

/-- HOLD_RELEASE (R423): a bank whose owners all read READY, or run, takes the levels they drive. A station that a PADDLE start holds owns no
pad that moves. A port in INIT has its RADn_RST_N released now and waits its ready time from here (R195). -/
def holdRelease (s : State) : State :=
  if s.modp = .easy then s
  else
    let up := fun (n : Stn) => (stn s n).state = .ready || (stn s n).state = .running || (stn s n).state = .held
    let a := s.pwr.holdA && !(bankOwners false).all up
    let b := s.pwr.holdB && !(bankOwners true).all up
    let s := if s.pwr.holdA && !a then { s with rad := { s.rad with ports := s.rad.ports.map fun (x : RadPort) =>
        { x with readyAt := x.readyAt + (s.tim.cyc - x.rstUntil), rstUntil := s.tim.cyc } } } else s
    setPwr s fun x => { x with holdA := a, holdB := b }

/-! ## Registers (R425) -/

/-- Superframes in the state, saturating. -/
def pwrSince (s : State) : Nat := min 255 ((s.tim.cyc - s.pwr.since) / 250000000)

/-- Code of PWR_STATE. -/
def PwrSt.code : PwrSt → Nat
  | .off => 0 | .drive => 1 | .feather => 2 | .entering => 3 | .easy => 0 | .waking => 0

/-- PWR's registers. -/
def pwrRead (s : State) (off : Nat) : Word :=
  let p := s.pwr
  match off with
  | 0x0000 => 0x00040100
  | 0x0004 => pack [(28, p.state.code), (16, pwrSince s)]
  | 0x0008 => pack [(31, b2n (p.feather.getD (cPower s).featherEn))]
  | 0x000C => pack [(28, p.sleepState)]
  | 0x0010 => w32 p.sleepLo
  | 0x0014 => w32 p.sleepHi
  | 0x0018 => pack [(28, p.stat.result), (24, p.stat.trigger), (16, p.stat.err.code), (0, p.stat.pending)]
  | 0x001C => pack [(31, b2n (cPower s).easyEn), (30, b2n (cPower s).switched), (29, b2n (cPower s).frameEn),
      (28, (cBackhaul s).wakePort), (16, (cPower s).wakeLead / 10), (8, (cPower s).grace), (0, (cPower s).cmpK)]
  | 0x0020 => wakeLastWord p.last
  | 0x0024 => wakeStepsWord p.steps
  | 0x0028 => pack [(31, b2n (s.aon.easyLock || s.led.easyLock)), (30, b2n s.aon.slow), (8, min 255 s.aon.failedWakes), (0, min 255 s.led.wakeTotal)]
  | 0x002C => pack [(1, b2n p.holdB), (0, b2n p.holdA)]
  | 0x0030 => pack [(31, b2n (pfiTripped s)), (30, b2n s.pins.wakeCmp)]
  | 0x0034 => pack [(16, p.entries), (0, p.abandoned)]
  | 0x0038 => w32 (min (frac - 1) s.led.easyTime)
  | _ => 0

end Sys2Proof.Machine
end

