-- ==== Sys2Proof/Machine/Rigger.lean ====
section
/-! DEFINITION. The Rigger: validation of a Rig in ten stages (R115 to R122) and of its Trims (R123 to R125). -/
namespace Sys2Proof.Machine

/-! ## Findings (R120, R496) -/

/-- A finding: its code, section TYPE and item. -/
structure Finding where
  code : Err
  typ : Nat
  item : Nat
  deriving DecidableEq, Repr

/-- The word of a finding (R120). -/
def findingWord (f : Finding) : Nat := f.code.code * 2 ^ 24 + f.typ % 65536 * 256 + min f.item 255

/-- A check of a stage: the section and item concerned when it fails. -/
def chk (typ item : Nat) (ok : Bool) : List (Nat × Nat) := if ok then [] else [(typ, item)]

/-- A check made on each element, with the element's index as the item. -/
def chkEach {α : Type} (typ : Nat) (l : List α) (ok : Nat → α → Bool) : List (Nat × Nat) :=
  l.zipIdx.flatMap fun x => chk typ x.2 (ok x.2 x.1)

/-- What a validation is made against: the trust anchor, the firmware's range of formats and its measured levels, the other Rig slot and the
metering record loaded. -/
structure RigCtx where
  anchor : Option KeyId := none
  rigMin : Nat := 0
  rigMax : Nat := 0
  bankA : BankLevel := .v33
  bankB : BankLevel := .v33
  other : Option Rig := none
  meter : Option MeterRecord := none
  deriving DecidableEq, Repr

/-! ## Stages 1 to 4 -/

/-- The octets of a Rig's header up to HEADER_CRC (R115). -/
def headerBytes (r : Rig) : List Byte :=
  r.magic.take 4 ++ leBytes 2 r.format ++ leBytes 2 r.dir.length ++ leBytes 4 r.length ++ leBytes 4 r.serial ++ leBytes 8 r.built ++
    r.segment.take 16 ++ leBytes 2 r.flags ++ leBytes 2 r.reserved

/-- A Rig whose HEADER_CRC is that of its header. -/
def sealHeader (r : Rig) : Rig := { r with headerCrc := crc32c (headerBytes r) }

/-- Whether two sections share an octet. -/
def sectionsMeet (a b : RigDirEntry) : Bool := a.offset < b.offset + b.size && b.offset < a.offset + a.size

/-- Directory entries lie within LENGTH, after the directory, and do not overlap: a finding for each that does not, named by its TYPE. -/
def dirFindings (r : Rig) : List (Nat × Nat) :=
  chk 0 0 (1 ≤ r.dir.length && r.dir.length ≤ 64) ++
    (r.dir.flatMap fun e => chk e.typ 0 (0x30 + 16 * r.dir.length ≤ e.offset && e.offset + e.size ≤ r.length)) ++
    (r.dir.zipIdx.flatMap fun a => chk a.1.typ 0 ((r.dir.take a.2).all fun b => !sectionsMeet a.1 b))

/-- Stage 1 (R115, R118): MAGIC, HEADER_CRC, LENGTH within the slot, the directory; each failure is a finding of its own. -/
def stage1 (r : Rig) : List (Nat × Nat) :=
  chk 0 0 (r.magic = [0x56, 0x52, 0x49, 0x47] && r.segment.length = 16) ++ chk 0 0 (crc32c (headerBytes r) = r.headerCrc) ++
    chk 0 0 (r.length ≤ 1048576) ++ dirFindings r

/-- Stage 2: each section's CRC. -/
def stage2 (r : Rig) : List (Nat × Nat) := r.dir.flatMap fun e => chk e.typ 0 e.crcOk

/-- The signature of a Rig that was not migrated: the city anchor, or the certificate it carries on an unbound module (R100). -/
def citySigned (c : RigCtx) (r : Rig) : Bool := r.signedBy = c.anchor.getD r.certKey

/-- R122: a migrated Rig is accepted with this module's signature and its own source, sound, in the other slot. -/
def migratedOk (c : RigCtx) (m : Migration) : Bool :=
  m.signedBy = Config.identityKey &&
    (match c.other with
     | some o => o.hash = m.srcHash && o.migration = none && (stage1 o).isEmpty && (stage2 o).isEmpty && citySigned c o
     | none => false)

/-- Stage 3. -/
def stage3 (c : RigCtx) (r : Rig) : List (Nat × Nat) :=
  chk 0 0 (match r.migration with
    | some m => migratedOk c m
    | none => citySigned c r)

/-- Stage 4: FORMAT and section VERSIONs within the supported range; a format between the minimum and the firmware's own migrates (R121). -/
def stage4 (c : RigCtx) (r : Rig) : List (Nat × Nat) :=
  chk 0 0 (c.rigMin ≤ r.format && r.format ≤ c.rigMax) ++ (r.dir.flatMap fun e => chk e.typ 0 e.versionOk)

/-! ## Stage 5: ranges by section -/

/-- R164. -/
def tzOk (t : TzRule) : Bool :=
  2000 ≤ t.fromYear && t.fromYear ≤ 2399 && -720 ≤ t.stdOffset && t.stdOffset ≤ 840 && t.dstDelta ≤ 120 &&
    1 ≤ t.startMonth && t.startMonth ≤ 12 && 1 ≤ t.endMonth && t.endMonth ≤ 12 && 1 ≤ t.startWeek && t.startWeek ≤ 5 &&
    1 ≤ t.endWeek && t.endWeek ≤ 5 && t.startWday ≤ 6 && t.endWday ≤ 6 && t.startUtc < 1440 && t.endUtc < 1440

/-- IDENTITY: 1 to 4 rules, no two of one FROM_YEAR, one that governs 2000. -/
def identityOk (x : IdentitySec) : List (Nat × Nat) :=
  chkEach 1 x.tz (fun _ t => tzOk t) ++
    chk 1 0 (1 ≤ x.tz.length && x.tz.length ≤ 4 && (x.tz.map TzRule.fromYear).eraseDups.length = x.tz.length &&
      (x.tz.any fun t => t.fromYear = 2000))

/-- The sizes a receive ring may have (R312). -/
def ringSizes : List Nat := [16, 32, 64, 128, 256, 512, 1024]

/-- BACKHAUL (R311, R312, R316, R323, R325, R332, R333, R454). -/
def backhaulOk (x : BackhaulSec) : List (Nat × Nat) :=
  chkEach 2 x.ports (fun _ p => 1 ≤ p.verifyTime && p.verifyTime ≤ 128 && p.addFrag ≤ 3 && p.defaultQ ≤ 7 && p.phyAd < 32 &&
      ringSizes.contains p.rqSize) ++
    chkEach 2 x.rules (fun _ r => r.ports < 4 && r.tag < 4 && r.vid < 4096 && r.etype < 65536 && r.action < 4 && r.queue < 8 && r.policer < 8) ++
    chk 2 0 (125 ≤ x.pdelayMs && x.pdelayMs ≤ 8000 && x.domain ≤ 127 && [0, 4, 6].contains x.transport && x.addrs.length ≤ 16 &&
      x.wakePort < 2 && x.wakeVid < 4096) ++
    chkEach 2 x.policers (fun _ p => p.rate = 0 || (p.rate ≤ 1000000 && 2000 ≤ p.burst && p.burst ≤ 131071)) ++
    chk 2 0 (x.rules.length ≤ 32 && x.policers.length ≤ 8 && 30 ≤ x.idle && x.idle ≤ 3600)

/-- GUARANTEE (R46): 0 to 3 hops and repeats, at most 4 × 16 outstanding transactions. -/
def guaranteeOk (g : GuaranteeSec) : List (Nat × Nat) :=
  chk 3 0 ((g.tiers.all fun t => t.hUp ≤ 3 && t.hDn ≤ 3 && t.rUp ≤ 3 && t.rDn ≤ 3) && g.nOut ≤ 64)

/-- A transceiver profile (R196 to R199). -/
def profileOk (k : TrxProfile) : Bool :=
  k.formOk && k.tByte ≤ 20 && k.rxFifo ≥ 16 && k.tSfdLat ≤ 20000 && k.tTxLat ≤ 100000 && k.jitter ≤ 250 && k.tTurn ≤ 300 && k.tCmd ≤ 500 &&
    50 ≤ k.rate && k.rate ≤ 400 && 4 ≤ k.preamble && k.preamble ≤ 32 && (k.fcs = 2 || k.fcs = 4) && 2 ≤ k.spiDiv && k.spiDiv ≤ 32 &&
    k.tRst ≤ 10000 && 1 ≤ k.count && k.count ≤ 24 &&
    (k.templates.filter fun t => t.op = 1).length ≤ 8 &&
    ((List.range 10).all fun j => (k.templates.filter fun t => t.op = j + 2).length = 1)

/-- RADIO (R196, R243, R245, R251, R46). -/
def radioOk (x : RadioSec) : List (Nat × Nat) :=
  chkEach 5 x.ports (fun p k => !k.enabled || (profileOk k.profile && longestTx (portCfg x {} p) ≤ k.profile.txBuf)) ++
    chkEach 5 x.drift (fun _ d => d.declared + 10 ≤ d.ppm) ++
    chk 5 0 (1 ≤ x.pendSlots && x.pendSlots ≤ 16 && 1 ≤ x.refresh && x.refresh ≤ 3600)

/-- The slot length of a port in ms. -/
def slotMs (p : RadioPortCfg) : Nat := if p.slot10 then 10 else 5

/-- A node of the NODES section (R221, R243). -/
def nodeOk (x : RadioSec) (n : NodeCfg) : Bool :=
  let t := slotMs (nth x.ports n.port {})
  1 ≤ n.role && n.role ≤ 4 && n.port < 4 && n.depth ≤ 3 && 1 ≤ n.short && n.short ≤ 0xFFFD && n.index < 4096 &&
    (n.keyIndex = 0x20 || n.keyIndex = 0x21) && 1 ≤ n.upPeriod && n.upPeriod ≤ 255 && n.upPhase < n.upPeriod &&
    (n.lplMs = 0 || (n.lplMs % t = 0 && 1000 % n.lplMs = 0 && 2 * t ≤ n.lplMs))

/-- NODES: indices and short addresses are unique. -/
def nodesOk (x : RadioSec) (l : List NodeCfg) : List (Nat × Nat) :=
  chkEach 6 l (fun _ n => nodeOk x n) ++
    chk 6 0 ((l.map NodeCfg.index).eraseDups.length = l.length && (l.map NodeCfg.short).eraseDups.length = l.length)

/-- DUTY (R259, R263). -/
def dutyOk (l : List DutyCfg) : List (Nat × Nat) :=
  chkEach 7 l (fun _ d => !d.valid || (1 ≤ d.budget && d.budget ≤ 10000 && d.shedT ≤ 100 && d.shedW ≤ 100 && d.shedR ≤ 100))

/-- A list rises strictly. -/
def strictly : List Nat → Bool
  | a :: b :: l => a < b && strictly (b :: l)
  | _ => true

/-- Values in ±0.05 as s0.15 (R134). -/
def drift05 (v : Int) : Bool := v.natAbs * 20 ≤ 32768

/-- A colour class (R145). -/
def classOk (c : ColourClass) : Bool :=
  c.relf.length = 9 && c.drift.length = 9 && c.droop.length = 9 && c.maint.length = 9 &&
    (c.relf.all fun v => 0 < v && v < 0x10000) && nth c.relf 3 0 = 0x8000 && nth c.drift 3 (0, 0) = (0, 0) && (c.drift.all fun d => drift05 d.1 && drift05 d.2) &&
    strictly (c.droop.map Prod.fst) && strictly (c.droop.map Prod.snd) && nth c.droop 0 (1, 1) = (0, 0) &&
    nth c.droop 4 (0, 0) = (350 * 16, 0x4000) &&
    strictly (c.maint.map Prod.fst) && nth c.maint 0 (1, 1) = (0, 0x8000) && (c.maint.getLastD (0, 0)).1 ≤ 10000 &&
    (c.maint.all fun m => 0x4000 ≤ m.2 && m.2 ≤ 0x8000) &&
    c.tFold < c.tMax && c.tMax ≤ 150 * 256 && 3277 ≤ c.foldMin && c.foldMin ≤ 0x8000 && 25 * 256 ≤ c.staleT && c.staleT ≤ 150 * 256 &&
    0 < c.nomY

/-- LIGHT (R130, R134, R136, R145). -/
def lightSecOk (x : LightSec) : List (Nat × Nat) :=
  chkEach 8 x.channels (fun _ k => k.chan < 256 && k.group < 16 && k.feeder < 8 && k.heldFrac ≤ 5000 && k.floor ≤ 0xFFFE && k.ceil ≤ 0xFFFE &&
      (k.fbTarget = 0 || targetOk k.fbTarget k.fbChroma)) ++
    chkEach 8 x.classes (fun _ c => c.1 < 16 && classOk c.2) ++
    chkEach 8 x.overlays (fun _ l => l.all fun o => o.scale ≤ 0x8000 && o.floor ≤ 0xFFFE && o.ceil ≤ 0xFFFE && (!o.chromaSet || lightOk (targetWord o.form 0 0) o.chroma)) ++
    chk 8 0 (x.deadband < 16 && (x.channels.map ChanCfg.chan).eraseDups.length = x.channels.length)

/-- A course (R179). -/
def courseOk (l : LightSec) (c : CourseCfg) : Bool :=
  !c.valid || (1 ≤ c.entries.length && strictly (c.entries.map Prod.snd) &&
    (c.entries.all fun e => l.channels.any fun k => k.chan = e.1) && c.classMask < 8 && fluxOf c.pass ≠ 0xFFFF &&
    c.lead ≤ 6000 && c.dwell ≤ 6000 && c.rampDn ≤ 32767 && 100 ≤ c.vMin && c.vMin ≤ c.vDef && c.vDef ≤ c.vMax && c.vMax ≤ 6000 &&
    c.back ≤ 5000 && 100 ≤ c.tHor && c.tHor ≤ 12000 && c.linkLo.nbr < 8 && c.linkHi.nbr < 8)

/-- COURSES (R179, R180): a channel in at most 4 courses, bindings to detectors. -/
def coursesOk (l : LightSec) (nodes : List NodeCfg) (x : CoursesSec) : List (Nat × Nat) :=
  chkEach 9 x.courses (fun _ c => courseOk l c) ++
    chk 9 0 (l.channels.all fun k => (x.courses.filter fun c => c.valid && c.entries.any fun e => e.1 = k.chan).length ≤ 4) ++
    chkEach 9 x.detectors (fun _ d => (nodes.any fun n => n.index = d.nat && n.role = 3) && (nth x.courses d.course {}).valid)

/-- SCHEDULES (R169, R170, R177). -/
def schedulesOk (x : SchedulesSec) : List (Nat × Nat) :=
  chkEach 10 x.programs (fun _ p => p.all fun t => stepOk t.trig t.tgt t.chroma) ++
    chk 10 0 (2 ≤ x.stagger && x.stagger ≤ 64 && x.modeProgram < 32 && (x.assign.all fun a => a.2 < 32))

/-- The lengths an interval may have (R382). -/
def minuteSet : List Nat := [1, 2, 3, 4, 5, 6, 10, 12, 15, 20, 30, 60]

/-- Whether an MDAT channel is declared used. -/
def mdatUsed (x : MeterSec) (c : Nat) : Bool := (nth x.channels c {}).used

/-- A feeder (R369): the channels of its phases are used; N has no busbar voltage of its own to be metered against. -/
def feederOk (x : MeterSec) (f : Nat) (k : FeederCfg) : Bool :=
  !k.used || (1 ≤ k.run && k.run ≤ 8 &&
    ((List.range 4).all fun p => k.phases / 2 ^ p % 2 = 0 || (mdatUsed x (4 + 4 * f + p) && (p = 3 || mdatUsed x p))))

/-- A channel's class is of its kind, as far as the loaded metering record tells (R369). -/
def kindOk (m : Option MeterRecord) (c : Nat) (k : MeterChanCfg) : Bool :=
  !k.used || (match m with
    | some r =>
      let cls := r.cls k.cls
      !cls.valid || cls.current = (4 ≤ c : Bool)
    | none => true)

/-- METER (R369, R382, R392). -/
def meterOk (m : Option MeterRecord) (x : MeterSec) : List (Nat × Nat) :=
  chkEach 11 x.channels (fun c k => kindOk m c k) ++ chkEach 11 x.feeders (fun f k => feederOk x f k) ++
    chkEach 11 x.residual (fun r k => !mdatUsed x (36 + r) || k.1 ≠ 0) ++ chk 11 0 (minuteSet.contains x.minutes)

/-- TIME (R335, R338, R346, R347). -/
def timeOk (x : TimeSec) : List (Nat × Nat) :=
  chkEach 12 x.captures (fun _ c => c.holdoff ≤ 1000000) ++
    chk 12 0 (1000 ≤ x.stepLimit && x.stepLimit ≤ 1000000000 && 100 ≤ x.lockLimit && x.lockLimit ≤ 100000 && x.captureQueue < 8 && 10000 ≤ x.holdLimit && x.holdLimit ≤ 5000000)

/-- POWER (R88, R412, R415). -/
def powerOk (x : PowerSec) : List (Nat × Nat) :=
  chk 13 0 (60 ≤ x.wakeLead && x.wakeLead ≤ 7200 && x.grace ≤ 30 && x.cmpK ≤ 15 && x.wakeLocal < 1440)

/-- BOARD (R72, R76, R83, R305): levels a bank can have, PHY addresses, GPIO pins; EASY levels for pins in use. -/
def boardOk (x : BoardSec) : List (Nat × Nat) :=
  chk 4 0 (x.vioa ≠ .notValid) ++ chk 4 1 (x.viob ≠ .notValid) ++
    chk 4 0 ((x.phyAds.all fun a => a < 32) && (x.gpioUsed.all fun g => g.pin < 16) &&
      (x.gpioUsed.map GpioUse.pin).eraseDups.length = x.gpioUsed.length && (x.sensors.all fun t => t.mode = 0 || t.mode = 3))

/-- Whether any radio port is used. -/
def anyPort (r : Rig) : Bool := (r.radio.getD {}).ports.any RadioPortCfg.enabled

/-- The radio ports of a Rig with their values of GUARANTEE (R46). -/
def portCfgs (r : Rig) : List PortCfg :=
  let x := r.radio.getD {}
  (List.range x.ports.length).map fun p => portCfg x (r.guarantee.getD {}) p

/-- Required sections, each section once (R116). -/
def sectionsOk (r : Rig) : List (Nat × Nat) :=
  chk 1 0 r.identity.isSome ++ chk 2 0 r.backhaul.isSome ++ chk 3 0 r.guarantee.isSome ++ chk 4 0 r.board.isSome ++
    chk 7 0 (r.duty.isSome || !anyPort r) ++ chk 12 0 r.time.isSome ++ chk 13 0 r.power.isSome ++
    ((List.range 13).flatMap fun t => chk (t + 1) 0 ((r.dir.filter fun e => e.typ = t + 1).length ≤ 1))

/-- What an optional section's checks give. -/
def onSec {α : Type} (x : Option α) (f : α → List (Nat × Nat)) : List (Nat × Nat) := (x.map f).getD []

/-- Stage 5 (R118). -/
def stage5 (c : RigCtx) (r : Rig) : List (Nat × Nat) :=
  sectionsOk r ++ onSec r.identity identityOk ++ onSec r.backhaul backhaulOk ++ onSec r.guarantee guaranteeOk ++ onSec r.board boardOk ++ onSec r.radio radioOk ++
    onSec r.nodes (nodesOk (r.radio.getD {})) ++ onSec r.duty dutyOk ++ onSec r.light lightSecOk ++
    onSec r.courses (coursesOk (r.light.getD {}) (r.nodes.getD [])) ++ onSec r.schedules schedulesOk ++ onSec r.meter (meterOk c.meter) ++
    onSec r.time timeOk ++ onSec r.power powerOk

/-! ## Stages 6 and 7 -/

/-- Stage 6: declared and measured bank levels (R76). -/
def stage6 (c : RigCtx) (r : Rig) : List (Nat × Nat) :=
  onSec r.board fun b => chk 4 0 (b.vioa = c.bankA) ++ chk 4 1 (b.viob = c.bankB)

/-- Stage 7: the counts of R119. -/
def stage7 (r : Rig) : List (Nat × Nat) :=
  onSec r.light (fun x => chk 8 0 (x.channels.length ≤ 256 && x.classes.length ≤ 16 && x.channels.all fun k => 1 ≤ k.strings && k.strings ≤ 4)) ++
    onSec r.nodes (fun l => chk 6 0 (l.length ≤ 4096 && (l.filter fun n => 3 ≤ n.role).length ≤ 3840)) ++
    onSec r.courses (fun x => chk 9 0 (x.courses.length ≤ 64 && (x.courses.all fun c => c.entries.length ≤ 128) &&
      x.detectors.length ≤ 256 && x.neighbours.length ≤ 8)) ++
    onSec r.schedules (fun x => chk 10 0 (x.programs.length ≤ 32 && x.programs.all fun p => p.length ≤ 24)) ++
    onSec r.meter (fun x => chk 11 0 (x.feeders.length ≤ 8 && x.channels.length ≤ 40)) ++
    onSec r.board (fun x => chk 4 0 (x.sensors.length ≤ 4)) ++ onSec r.duty (fun l => chk 7 0 (l.length ≤ 4)) ++
    onSec r.radio (fun x => chk 5 0 (x.ports.length ≤ 4 && x.drift.length ≤ 8))

/-! ## Stage 8: the slot plan (R230) -/

/-- The nodes of a port. -/
def portNodes (r : Rig) (p : Nat) : List NodeCfg := (r.nodes.getD []).filter fun n => n.port = p

/-- The lanterns of a port. -/
def portLanterns (r : Rig) (p : Nat) : List NodeCfg := (portNodes r p).filter fun n => n.role ≤ 2

/-- The EVENT and EVENT_REPEAT cells of the groups of some detectors, on the offset of their depth. -/
def eventCells (k : PortCfg) (ds : List NodeCfg) : List (Nat × Nat × Nat) :=
  (k.plan.filter fun c => (c.kind = 6 || c.kind = 7) &&
    ds.any fun d => d.role = 3 && d.eventGroup ≠ 0xFF && d.eventGroup = c.ref % 256 && d.depth = c.ofs).map fun c => (c.slot, 1, 0)

/-- Actions of a node in the plan: slot, period and phase in superframes. A detector also acts in the EVENT cells of its group, a relay in its
children's UP and EVENT cells and in the OPEN cells of the next depth. -/
def nodeActions (k : PortCfg) (nodes : List NodeCfg) (n : NodeCfg) : List (Nat × Nat × Nat) :=
  [(n.upSlot, n.upPeriod, n.upPhase)] ++ eventCells k [n] ++
    (if n.role = 2 then eventCells k (nodes.filter fun m => m.parent = n.index) else []) ++
    (if n.role = 2 then
      ((k.plan.filter fun c => (c.ref = n.index && (c.kind = 2 || c.kind = 4 || c.kind = 8)) ||
          (c.kind = 9 && c.depth = n.depth + 1)).map fun (c : PlanCell) => (c.slot, 1, 0)) ++
        ((nodes.filter fun m => m.parent = n.index).map fun (m : NodeCfg) => (m.upSlot, m.upPeriod, m.upPhase))
    else [])

/-- Two actions fall into one slot of some superframe. -/
def clash (a b : Nat × Nat × Nat) : Bool := a.1 = b.1 && (a.2.2 + a.2.1 * b.2.1 - b.2.2) % (Nat.gcd a.2.1 b.2.1) = 0

/-- No two of a list of actions clash. -/
def noClash (l : List (Nat × Nat × Nat)) : Bool := l.zipIdx.all fun a => l.zipIdx.all fun b => b.2 ≤ a.2 || !clash a.1 b.1

/-- Check 1: one transmitter in each cell, one action per node and slot, the module on offset 0 only. -/
def plan1 (k : PortCfg) (nodes : List NodeCfg) : Bool :=
  (k.plan.zipIdx.all fun a => k.plan.zipIdx.all fun b => b.2 ≤ a.2 || a.1.slot ≠ b.1.slot || a.1.ofs ≠ b.1.ofs) &&
    (k.plan.all fun c => c.slot < slotsPer k && c.ofs < 4 && (c.ofs = 0 || !(c.kind = 1 || c.kind = 3 || c.kind = 10))) &&
    (nodes.all fun n => noClash (nodeActions k nodes n)) &&
    ((List.range 4).all fun o => noClash ((nodes.filter fun n => n.upOfs = o).map fun (n : NodeCfg) => (n.upSlot, n.upPeriod, n.upPhase)))

/-- Check 2: the beacon and its copies. -/
def plan2 (k : PortCfg) (nodes : List NodeCfg) : Bool :=
  (cellAt k 0 0).kind = 1 &&
    ((nodes.filter fun n => n.role = 2).all fun n => (cellAt k (n.depth + 1) (n.depth + 1)).kind = 2)

/-- Check 3: T_OFS and the beacon. -/
def plan3 (k : PortCfg) : Bool := 200 ≤ tOfs k && beaconOct k ≤ limBeacon k

/-- Check 4: R226. -/
def plan4 (k : PortCfg) (nodes : List NodeCfg) : Bool :=
  nodes.all fun n => n.depth ≤ k.hDn && n.depth ≤ k.hUp && (n.role ≠ 2 || n.depth ≤ 2) &&
    (if n.depth = 0 then n.parent = 0xFFF
     else nodes.any fun m => m.index = n.parent && m.role = 2 && m.depth + 1 = n.depth)

/-- Check 5: the UP cells (R202, R227, R242). -/
def plan5 (x : RadioSec) (k : PortCfg) (nodes : List NodeCfg) : Bool :=
  nodes.all fun n => (cellAt k n.upSlot n.upOfs).kind = 5 && n.upOfs = n.depth &&
    (if n.role ≤ 2 then n.upPeriod ≤ 10 else n.upPeriod ≤ (nth x.drift n.driftClass {}).hbMax && n.upmax ≤ k.upmax)

/-- The relays above a node, nearest first. -/
def relaysAbove (nodes : List NodeCfg) (n : NodeCfg) : Nat → List NodeCfg
  | 0 => []
  | fuel + 1 =>
    match nodes.find? fun m => m.index = n.parent with
    | some m => if n.depth = 0 then [] else m :: relaysAbove nodes m fuel
    | none => []

/-- The copies of a frame sent in a slot towards a node are free in every superframe (R229). -/
def copiesFree (k : PortCfg) (nodes : List NodeCfg) (n : NodeCfg) (slot : Nat) : Bool :=
  (relaysAbove nodes n 3).all fun m =>
    ((nodeActions k nodes m).filter fun a => a.1 = (slot + m.depth + 1) % slotsPer k).all fun a =>
      (cellAt k a.1 (m.depth + 1)).kind = 4 && (cellAt k a.1 (m.depth + 1)).ref = m.index

/-- A DOWN cell whose copies reach a node. -/
def downFor (k : PortCfg) (nodes : List NodeCfg) (n : NodeCfg) (slot : Nat) : Bool :=
  (cellAt k (slot % slotsPer k) 0).kind = 3 && copiesFree k nodes n (slot % slotsPer k)

/-- DOWN cells `gap` slots apart counted from a slot up to a window's end, whose copies end within it. -/
def countDown (k : PortCfg) (nodes : List NodeCfg) (n : NodeCfg) (gap left : Nat) : Nat → Nat → Nat
  | _, 0 => 0
  | slot, fuel + 1 =>
    if left ≤ n.depth then 0
    else if downFor k nodes n slot then 1 + countDown k nodes n gap (left - gap) (slot + gap) fuel
    else countDown k nodes n gap (left - 1) (slot + 1) fuel

/-- Whether a lantern is on a course. -/
def onCourse (r : Rig) (n : NodeCfg) : Bool := (r.courses.getD {}).courses.any fun c => c.valid && c.entries.any fun e => e.1 = n.channel

/-- Check 6: every window of (1 + r_dn) × (1 + h_dn) slots carries a light frame and its repeats to every lantern of a course. -/
def plan6 (r : Rig) (k : PortCfg) (nodes : List NodeCfg) : Bool :=
  (nodes.filter fun n => n.role ≤ 2 && onCourse r n).all fun n =>
    (List.range (slotsPer k)).all fun slot =>
      1 + k.rDn ≤ countDown k nodes n (1 + k.hDn) ((1 + k.rDn) * (1 + k.hDn)) slot ((1 + k.rDn) * (1 + k.hDn))

/-- The slot after which a delivery taken in a slot has reached offset 0, through the FORWARD cells of the relays above. -/
def deliverySlot (k : PortCfg) (rs : List NodeCfg) (slot : Nat) : Option Nat :=
  rs.foldl (fun (a : Option Nat) (m : NodeCfg) => a.bind fun t =>
    (List.range (slotsPer k)).findSome? fun d =>
      let c := cellAt k ((t + 1 + d) % slotsPer k) m.depth
      if c.kind = 8 && c.ref = m.index then some (t + 1 + d) else none) (some slot)

/-- Event groups (R202): at most 16 detectors of one depth each. -/
def groupsOk (nodes : List NodeCfg) : Bool :=
  (nodes.filter fun d => d.role = 3 && d.eventGroup ≠ 0xFF).all fun d =>
    let members := nodes.filter fun m => m.role = 3 && m.eventGroup = d.eventGroup
    members.length ≤ 16 && members.all fun m => m.depth = d.depth

/-- Check 7: the EVENT cells of a group, on the offset of its depth, recur every P_ev, repeats lie where they should and deliver in time. -/
def plan7 (r : Rig) (k : PortCfg) (nodes : List NodeCfg) : Bool :=
  let n := slotsPer k
  let w := (1 + k.rUp) * (1 + k.hUp)
  let pe := (r.guarantee.getD {}).pEv * 1000 / slotNs k
  (nodes.filter fun d => (r.courses.getD {}).detectors.any fun b => b.nat = d.index).all fun d =>
    let evs := k.plan.filter fun c => c.kind = 6 && c.ref % 256 = d.eventGroup && c.ofs = d.depth
    d.eventGroup ≠ 0xFF && !evs.isEmpty && pe ≠ 0 &&
      evs.all fun c =>
        (evs.any fun e => e.slot = (c.slot + pe) % n) &&
        ((List.range (k.rUp + 1)).all fun j =>
          let t := c.slot + (1 + k.hUp) * j
          let rep := cellAt k (t % n) c.ofs
          (j = 0 || (rep.kind = 7 && rep.ref % 256 = d.eventGroup && rep.attempt = j)) &&
            (match deliverySlot k (relaysAbove nodes d 3) t with
             | some e => e + 1 ≤ c.slot + w
             | none => false))

/-- Check 8: eight of the longest entries in one light frame, a timed one, which APPLY lengthens (R287). -/
def plan8 (r : Rig) (k : PortCfg) (lan : List NodeCfg) : Bool :=
  let most := ((lan.map fun (n : NodeCfg) =>
    (((r.light.getD {}).channels.find? fun c => c.chan = n.channel).map ChanCfg.strings).getD 1).foldl max 1)
  airOct k (psduOf (lightHead true + 8 * (4 + 3 * most))) ≤ limLight k

/-- The slot of OPEN cell j of a depth (R231). -/
def openSlot (k : PortCfg) (d count j : Nat) : Nat :=
  let q := 3 * (j * 32 / count)
  if k.slot10 then 2 + d + q else 2 * (1 + d + q) + 1

/-- Check 9: OPEN cells by depth. -/
def plan9 (k : PortCfg) (nodes lan : List NodeCfg) : Bool :=
  1 ≤ k.open0 &&
    ((List.range 4).all fun d =>
      let count := if d = 0 then k.open0 else k.open1
      let served := d = 0 || (nodes.any fun n => n.role = 2 && n.depth + 1 = d)
      !served ||
        (cdiv (lan.filter fun n => n.depth = d).length 26 ≤ count && (k.plan.filter fun c => c.kind = 9 && c.depth = d).length = count &&
          ((List.range count).all fun j =>
            let c := cellAt k (openSlot k d count j) d
            c.kind = 9 && c.depth = d)))

/-- DOWN cells of the superframe among `n` slots from `slot` on. -/
def downsIn (k : PortCfg) (slot n : Nat) : Nat :=
  ((List.range n).filter fun i => (cellAt k ((slot + i) % slotsPer k) 0).kind = 3).length

/-- t_t in ns (R47). -/
def ttNs (g : GuaranteeSec) : Nat := 1000000 + g.nOut * 500000 + 10000000 + 4000000

/-- Check 10: the fifth condition of R48. -/
def plan10 (r : Rig) (k : PortCfg) : Bool :=
  let g := r.guarantee.getD {}
  let n := slotsPer k
  let slots := (g.hLead * 1000 - ttNs g) / slotNs k
  let least := ((List.range n).map fun i => downsIn k i (slots % n)).foldl min (downsIn k 0 (slots % n))
  cdiv g.nP 8 * (1 + k.rDn) ≤ slots / n * downsIn k 0 n + least

/-- The used ports of an account. -/
def acctOfRig (r : Rig) (b : Nat) : List PortCfg := ((portCfgs r).filter fun k => k.enabled && k.account = b)

/-- The lanterns of bound courses on the ports of an account. -/
def courseLanterns (r : Rig) (b : Nat) : Nat :=
  let bound := (r.courses.getD {}).courses.zipIdx.filter fun c => (r.courses.getD {}).detectors.any fun d => d.course = c.2
  ((r.nodes.getD []).filter fun n => n.role ≤ 2 && (nth (r.radio.getD {}).ports n.port {}).enabled &&
    (nth (r.radio.getD {}).ports n.port {}).account = b && bound.any fun c => c.1.entries.any fun e => e.1 = n.channel).length

/-- Check 11 on an account (R262, R265). -/
def acctOk (r : Rig) (b : Nat) (d : DutyCfg) : Bool :=
  let ks := acctOfRig r b
  let book := (ks.map fun k => 3600 * chargeMs k (beaconOct k)).foldl (· + ·) 0
  let res := (ks.map fun k =>
    let clf := chargeMs k (limLight k)
    32 * cdiv (r.guarantee.getD {}).nP 8 * (1 + k.rDn) * clf + d.corrRate * courseLanterns r b * 2 * (1 + k.rDn) * clf).foldl (· + ·) 0
  !d.valid || (book + d.reserve ≤ d.budget * 360 && res ≤ d.reserve)

/-- The wake train and the pending bit of sensor nodes (R248, R251, R252). -/
def sensorPlan (x : RadioSec) (k : PortCfg) (nodes : List NodeCfg) : Bool :=
  let cap := tOfsUs k
  let pwf := trainPeriod k
  (nodes.all fun n => n.role ≤ 2 ||
    (x.g0 * 10 + (nth x.drift n.driftClass {}).ppm * n.upPeriod ≤ cap * 10 &&
      (n.depth ≠ 0 || n.lplMs = 0 ||
        (List.range (slotsPer k)).any fun t => samples k { lpl := n.lplMs, upSlot := n.upSlot } t && (cellAt k t 0).kind = 3) &&
      ((List.range x.pendSlots).any fun j => downFor k nodes n (n.upSlot + 1 + j) && j + 1 + n.depth ≤ x.pendSlots))) &&
    (trainCopies k cap - 1) * pwf + octNs k (wakeOct k) + 40000 ≤ slotNs k

/-- Stage 8 (R118, R230, R320). -/
def stage8 (r : Rig) : List (Nat × Nat) :=
  let x := r.radio.getD {}
  ((portCfgs r).zipIdx.flatMap fun pk =>
    let k := pk.1
    let nodes := portNodes r pk.2
    let lan := portLanterns r pk.2
    if k.enabled then
      [plan1 k nodes, plan2 k nodes, plan3 k, plan4 k nodes, plan5 x k nodes, plan6 r k nodes, plan7 r k nodes && groupsOk nodes, plan8 r k lan, plan9 k nodes lan,
        plan10 r k, sensorPlan x k nodes].flatMap fun ok => chk 5 pk.2 ok
    else []) ++ (onSec r.duty fun l => chkEach 7 l fun b d => acctOk r b d) ++
    onSec r.backhaul fun b => chk 2 0 (max 2020 b.burst ≤ (r.guarantee.getD {}).bExp)

/-! ## Stages 9 and 10 -/

/-- t_l of a port in ns (R47). -/
def tlNs (g : GuaranteeSec) (k : PortCfg) : Nat :=
  (g.tDet + g.pEv) * 1000 + (1 + k.rUp) * (1 + k.hUp) * slotNs k + 3 * strokeNs + (1 + k.rDn) * (1 + k.hDn) * slotNs k + 10000000

/-- t_h_min of a port in ns (R47). -/
def thMinNs (g : GuaranteeSec) (k : PortCfg) : Nat :=
  ttNs g + 3 * strokeNs + cdiv g.nP 8 * g.tLf * 1000 * (1 + k.rDn) + k.hDn * slotNs k

/-- t_s in ns (R47): the backlog at a quarter of 1 Gbit/s. -/
def tsNs (g : GuaranteeSec) : Nat := 8000000 + 500000 + g.bExp * 32 + g.rS * g.tSrep * 1000

/-- Stage 9: the first four conditions of R48. -/
def stage9 (r : Rig) : List (Nat × Nat) :=
  let g := r.guarantee.getD {}
  let ks := (portCfgs r).filter fun k => k.enabled
  chk 3 0 (ks.all fun k => tlNs g k ≤ g.lTarget * 1000) ++ chk 3 1 (ks.all fun k => thMinNs g k ≤ g.hLead * 1000) ++
    chk 3 2 (tsNs g ≤ 20000000) ++ chk 3 3 (ttNs g ≤ 50000000)

/-- Stage 10: at most one wake-pattern detector. -/
def stage10 (r : Rig) : List (Nat × Nat) := onSec r.power fun p => chk 13 0 (p.detectors ≤ 1)

/-- The findings of the first stage that fails; none when every stage passes. -/
def firstFailing : List (Err × List (Nat × Nat)) → List Finding
  | [] => []
  | (e, l) :: rest => if l.isEmpty then firstFailing rest else l.map fun x => { code := e, typ := x.1, item := x.2 }

/-- Stages 5 to 10. -/
def upperStages (c : RigCtx) (r : Rig) : List Finding :=
  firstFailing [(.rigRange, stage5 c r), (.bankLevel, stage6 c r), (.rigCapacity, stage7 r), (.rigCapacity, stage8 r), (.noSlack, stage9 r),
    (.rigPower, stage10 r)]

/-- Stages 1 to 4. -/
def lowerStages (c : RigCtx) (r : Rig) : List Finding :=
  firstFailing [(.rigSyntax, stage1 r), (.rigCrc, stage2 r), (.rigSignature, stage3 c r), (.rigVersion, stage4 c r)]

/-- Whether a Rig passes its signature check (R114): stages 1 to 3. -/
def rigSigned (c : RigCtx) (r : Rig) : Bool := (stage1 r).isEmpty && (stage2 r).isEmpty && (stage3 c r).isEmpty

/-- Migration to the firmware's own format (R121); the hash of the result is not stated. -/
def migrate (c : RigCtx) (r : Rig) : Rig :=
  sealHeader { r with format := c.rigMax, flags := 1, hash := Config.migratedHash r.hash, migration := some { srcHash := r.hash, signedBy := Config.identityKey } }

/-- RIG_VALIDATION (R118): the findings, the Rig the module would run on and whether it was migrated now. -/
def validateRig (c : RigCtx) (r : Rig) : List Finding × Rig × Bool :=
  match lowerStages c r with
  | [] =>
    let old := r.format < c.rigMax
    let r := if old then migrate c r else r
    (upperStages c r, r, old)
  | l => (l, r, false)

/-! ## Trims (R123 to R125) -/

/-- A course changed by one Trim entry. -/
def trimCourse (r : Rig) (i : Nat) (f : CourseCfg → CourseCfg) : Rig :=
  { r with courses := r.courses.map fun x => { x with courses := upd x.courses i f } }

/-- A group's overlay for a mode changed by one Trim entry (R136). -/
def trimOverlay (r : Rig) (g m : Nat) (f : Overlay → Overlay) : Rig :=
  { r with light := r.light.map fun x => { x with overlays := upd x.overlays g fun l => upd l m f } }

/-- A Rig with one Trim entry applied. -/
def trimEntry (r : Rig) (e : TrimField × Nat) : Rig :=
  match e.1 with
  | .deadband => { r with light := r.light.map fun x => { x with deadband := e.2 } }
  | .heldFrac n => { r with light := r.light.map fun x => { x with channels := x.channels.map fun (k : ChanCfg) =>
      if k.chan = n then { k with heldFrac := e.2 } else k } }
  | .stagger => { r with schedules := r.schedules.map fun x => { x with stagger := e.2 } }
  | .radRefresh => { r with radio := r.radio.map fun x => { x with refresh := e.2 } }
  | .featherEn => { r with power := r.power.map fun x => { x with featherEn := e.2 ≠ 0 } }
  | .courseEnable i => trimCourse r i fun c => { c with enable := e.2 ≠ 0 }
  | .courseClassMask i => trimCourse r i fun c => { c with classMask := e.2 }
  | .coursePass i => trimCourse r i fun c => { c with pass := w32 e.2 }
  | .courseLead i => trimCourse r i fun c => { c with lead := e.2 }
  | .courseDwell i => trimCourse r i fun c => { c with dwell := e.2 }
  | .courseRampDn i => trimCourse r i fun c => { c with rampDn := e.2 }
  | .overlayScale g m => trimOverlay r g m fun o => { o with scale := e.2 }
  | .overlayCorr g m => trimOverlay r g m fun o => { o with corrEn := e.2 ≠ 0 }
  | .overlayChroma g m form => trimOverlay r g m fun o => { o with chromaSet := true, form := form, chroma := w32 e.2 }
  | .overlayFloor g m => trimOverlay r g m fun o => { o with floor := e.2 }
  | .overlayCeil g m => trimOverlay r g m fun o => { o with ceil := e.2 }
  | .untrimmable _ _ => r

/-- A Rig with Trims applied in order: a later entry overrides (R125). -/
def trimRig (r : Rig) (l : List Trim) : Rig := (l.flatMap Trim.entries).foldl trimEntry r

/-- Whether an entry names a field that is not trimmable. -/
def untrimmable (e : TrimField × Nat) : Option (Nat × Nat) :=
  match e.1 with
  | .untrimmable a b => some (a, b)
  | _ => none

/-- The hash a Trim must name: the source's for a migrated Rig (R123). -/
def trimHash (r : Rig) : Nat := ((r.migration.map Migration.srcHash).getD r.hash) % 2 ^ 64

/-- The findings about a Trim as a whole carry its marker's place. -/
def trimWhole (t : Trim) (e : Err) : Finding := { code := e, typ := 0xFF00 + t.index, item := 0xFF }

/-- The cases of R124 that a Trim's own contents show: CRC, signature, another Rig, untrimmable fields. -/
def trimOwn (c : RigCtx) (r : Rig) (t : Trim) : List Finding :=
  (if t.crcOk then [] else [trimWhole t .rigCrc]) ++
    (if t.signedBy = c.anchor.getD r.certKey then [] else [trimWhole t .rigSignature]) ++
    (if t.rigSerial = r.serial && t.rigHash % 2 ^ 64 = trimHash r then [] else [trimWhole t .trimRig]) ++
    (t.entries.filterMap untrimmable).map fun x => { code := .rigTrimField, typ := x.1, item := x.2 }

/-- Whether another Trim of the set binds the same mode (R124). A Trim that is refused for a case of its own counts as well: the model's choice (log
entry 115). -/
def trimClash (all : List Trim) (t : Trim) : Bool := t.binding ≠ 0xFF && all.any fun u => u.index ≠ t.index && u.binding = t.binding

/-- What refuses one Trim of a set (R124), every case that holds, in the table's order; the stages run on a Trim that is sound in itself. A
Trim refused for its CRC or signature still clashes with another of its BINDING (log entry 115). -/
def trimFindings (c : RigCtx) (r : Rig) (all : List Trim) (t : Trim) : List Finding :=
  let own := trimOwn c r t
  own ++ (if trimClash all t then [trimWhole t .trimBinding] else []) ++ (if own.isEmpty then upperStages c (trimRig r [t]) else [])

/-- MAGIC of a Trim (R123). -/
def trimMagic : List Byte := [0x56, 0x54, 0x52, 0x4D]

/-- The Trims of the region (R123): what carries the MAGIC and the INDEX of its place. Anything else is no Trim: the model's choice (log entry 101). -/
def trimsInRegion (t : Tab Trim) : List Trim := (t.filter fun x => x.2.magic = trimMagic && x.2.index = x.1).map Prod.snd

/-- The Trims of a set in ascending INDEX (R120). -/
def trimOrder (l : List Trim) : List Trim := (List.range 16).filterMap fun i => l.find? fun t => t.index = i

/-- Validation of a set of Trims: the findings with their markers, and the Trims loaded. -/
def validateTrims (c : RigCtx) (r : Rig) (l : List Trim) : List Finding × List Trim :=
  let ts := (trimOrder l).map fun t => (t, trimFindings c r l t)
  (ts.flatMap fun x => if x.2.isEmpty then [] else trimWhole x.1 .trim :: x.2, (ts.filter fun x => x.2.isEmpty).map Prod.fst)

/-- The findings of a new set of special Trims (R125): with every mode Trim in turn, or with none where no mode is bound. -/
def specialFindings (c : RigCtx) (r : Rig) (trims : List Trim) (set_ : List Nat) : List Finding :=
  let sp := (trimOrder trims).filter fun t => set_.contains t.index
  let modes := (trimOrder trims).filter fun t => t.binding ≠ 0xFF
  if modes.isEmpty then upperStages c (trimRig r sp)
  else (modes.map fun m => upperStages c (trimRig r (m :: sp))).flatten

/-- The findings of a validation are recorded (R496): up to 64, and OVERFLOW. -/
def recordFindings (s : State) (l : List Finding) : State :=
  { s with cfg := { s.cfg with findings := (l.take 64).map findingWord, overflow := 64 < l.length } }

/-- The first finding that is not a marker (R120). -/
def firstFinding (l : List Finding) : Err := ((l.find? fun f => f.code ≠ .trim).map Finding.code).getD .ok

/-- The half of the calibration archive in use (R440): the valid one with the larger GENERATION. -/
def calHalf (s : State) : Option (Nat × CalHalf) :=
  let a := s.flash.cal0
  let b := s.flash.cal1
  if calValid a && (!calValid b || calGeneration b ≤ calGeneration a) then some (0, a) else if calValid b then some (1, b) else none

/-- The Rig in a slot. -/
def rigInSlot (s : State) (k : Nat) : Option Rig := if k = 0 then s.flash.rigA else s.flash.rigB

/-- The context of a validation now, for a Rig whose other slot is `other`. -/
def rigCtx (s : State) (other : Option Rig) : RigCtx :=
  { anchor := s.keys.anchor, rigMin := imgRigMin s.cfg.image, rigMax := imgRigMax s.cfg.image, bankA := s.bankA, bankB := s.bankB, other := other,
    meter := (calHalf s).bind fun h => calMeter h.2 }

/-- R125's checks of the enabling of special Trims: at most three, each loaded and special; then validation against every mode Trim. -/
def specialErr (s : State) (set_ : List Nat) : Err × List Finding :=
  if 3 < set_.length || (set_.any fun i => !(s.cfg.trims.any fun t => t.index = i && t.binding = 0xFF)) then (.range, [])
  else
    let l := specialFindings (rigCtx s none) s.cfg.validated s.cfg.trims set_
    (firstFinding l, l)

/-- The special Trims enabled take effect at the boundary of R26. -/
def specialEnable (s : State) (set_ : List Nat) : State :=
  { s with cfg := { s.cfg with specialsNext := some (set_, dueBoundary s) } }

/-- The overlay of the current mode and the special Trims due (R125, R26), at a boundary. -/
def overlayAtBoundary (s : State) : State :=
  match s.cfg.specialsNext with
  | some (l, b) => if b ≤ s.cox.count then { s with cfg := { s.cfg with specials := l, specialsNext := none } } else s
  | none => s

/-- CFG's registers (R496). -/
def cfgRead (s : State) (off : Nat) : Word :=
  if off = 0 then 0x100#32
  else if off = 4 then pack [(31, b2n s.cfg.overflow), (0, s.cfg.findings.length)]
  else if 0x100 ≤ off && off < 0x200 then w32 (nth s.cfg.findings ((off - 0x100) / 4) 0)
  else 0

end Sys2Proof.Machine
end

