-- ==== Sys2Proof/Machine/Stations.lean ====
section
/-! DEFINITION. Station faults, station resets and clock losses (R18, R27, R28, R32 to R39, R44, R74). -/
namespace Sys2Proof.Machine

/-! ## Sections (R33 step 4, R116) -/

/-- The sections a station owns, from the Rigger's validated copy. -/
def ownSections (n : Stn) (v l : Rig) : Rig :=
  match n with
  | .sys => { l with identity := v.identity, guarantee := v.guarantee, board := v.board }
  | .eth => { l with backhaul := v.backhaul }
  | .rad => { l with radio := v.radio, nodes := v.nodes, duty := v.duty }
  | .lgt => { l with light := v.light }
  | .crs => { l with courses := v.courses, schedules := v.schedules }
  | .mtr => { l with meter := v.meter }
  | .tim => { l with time := v.time }
  | .pwr => { l with power := v.power }
  | _ => l

/-- A station's section is reloaded. -/
def reloadSections (s : State) (n : Stn) : State :=
  { s with cfg := { s.cfg with loaded := ownSections n s.cfg.validated s.cfg.loaded } }

/-! ## Pads during a station reset (R74) -/

/-- Step 3 sets the pads of the station being reset. -/
def resetPads (s : State) (n : Stn) : State :=
  let p := s.pins
  { s with pins := match n with
    | .rad => { p with radCs := onUsed s .high .zPu, radBus := onUsed s .low .zPd, radTxgo := onUsed s .low .zPd }
    | .mtr => { p with sbusCs := List.replicate 4 .high, sbus := .low }
    | .eth => { p with serdes := List.replicate 2 .idle, mdc := .low }
    | .cfg => { p with qspiCs := .high }
    | .sys => { p with ledHeld := some (driven s).led }
    | _ => p }

/-! ## What a station reset does to its station (R36) -/

/-- UPD's state changed. -/
def setUpd (s : State) (f : UpdState → UpdState) : State := { s with upd := f s.upd }

/-- UPD_LAST. -/
def setLast (s : State) (h op st : Nat) (e : Err) : State :=
  (ledgerWrite s .upd fun s => { s with led := { s.led with updLast := { op := op, state := st, err := e, handle := callHandle s h } } }).1

/-- Update operations that a CFG or UPD reset ends (R36, R54). -/
def updOpLost (s : State) (n : Stn) (c : StnCause) : State :=
  match s.upd.work with
  | some (h, .rig o) =>
    if n = .upd || (n = .cfg && !o.started) then setUpd (setLast (endCall s h .failed .stnReset) h 2 5 .stnReset) fun u => { u with work := none }
    else s
  | some (h, .image o) =>
    if n = .upd && c ≠ .microcode && !(o.started && o.series = [] && o.changed = []) then setUpd (setLast (endCall s h .failed .stnReset) h 1 5 .stnReset) fun u => { u with work := none }
    else s
  | some (h, _) => if n = .upd then { endCall s h .failed .stnReset with upd := { s.upd with work := none } } else s
  | none => s

/-- CALLs a station runs end FAILED with STN_RESET when it is reset (R51, R54); those of SYS are kept (R477), those of UPD as `updOpLost`. -/
def callsLost (s : State) (n : Stn) : State :=
  if n = .sys || n = .upd then s
  else (List.range 8).foldl (fun s h => if (call s h).station = n.idx then endCall s h .failed .stnReset else s) s

/-- SYS (R36, R38, R477): the Cox stops, stations with a Finish duty are HELD, the registers that are not kept take their reset values. -/
def sysReset (s : State) : State :=
  { s with
    cox := { s.cox with phase := .none, sysHeldAt := if s.cox.phase = .none then s.cox.sysHeldAt else some s.cox.abs }
    stns := (Stn.all.zip s.stns).map fun (x : Stn × StnRec) =>
      let r : StnRec := { x.2 with prog := [], started := false, inStroke := false, hist := [] }
      if finishDuty.contains x.1 && x.2.state = .running then { r with state := .held } else r
    vtp := { s.vtp with baud := 0, baudAt := none, srvDropped := 0, srvAccepted := 0, ip := List.replicate 6 0 }
    sys := { s.sys with run := 0 } }

/-- A RAD station reset for a changed Rig: nodes to enrol that the NAT does not hold are added (R116). -/
def nodesAdded (s : State) : State :=
  (cNodes s).foldl (fun s (n : NodeCfg) =>
    if (natEnt s n.index).isSome || (findNat s false n.ext).isSome then s else (natAdd s n.index (nodeEnt s.rad.nat n)).1) s

/-- The latched words of a station's wide values are lost (R3, R36). -/
def clearLatch (s : State) (n : Stn) : State := { s with latch := s.latch.filter fun p => p.1 / 16777216 ≠ n.idx }

/-- The reset rewrites the words of the station that an uncorrectable error has damaged (R64); what it writes is not stated. -/
def rewriteWords (s : State) (n : Stn) : State :=
  let s := (s.sys.badWords.filter fun x => x.1 = n).foldl (fun s x => putFree s x.2) s
  { s with sys := { s.sys with badWords := s.sys.badWords.filter fun x => x.1 ≠ n } }

/-- The state a station's reset clears (R36). `c` is the cause: after a Rig change the new section's contents are taken. -/
def resetStation (s : State) (n : Stn) (c : StnCause) : State :=
  let s := callsLost (updOpLost s n c) n
  let s := rewriteWords (clearLatch (reloadSections s n) n) n
  match n with
  | .sys => sysReset s
  | .cfg => { s with cfg := { s.cfg with pollFirst := true } }
  | .tim => timStationReset s
  | .rtc => rtcStationReset s
  | .rad =>
    let s := radStationReset s
    let s := setRad s fun r => { r with scan := none, ports := r.ports.map fun (x : RadPort) =>
      { x with uni := x.uni.filter fun u => u.call = none } }
    if c = .rig then nodesAdded s else s
  | .sec => { s with sec := { s.sec with cnt := List.replicate 6 0, cmdStat := 0, cmdErr := .ok } }
  | .lgt =>
    let s := lgtStationReset s
    if c = .rig then setLgt s fun l => { l with classes := rigClasses (cLight s), chans := (cLight s).channels.foldl (fun (t : Tab LgtChan) k =>
      tput t k.chan (tgetD l.chans k.chan (newChan s k))) [] } else s
  | .crs =>
    let s := crsStationReset s
    if c = .rig then setCrs s fun x => { x with progs := rigPrograms s, stepsNext := [] } else s
  | .mtr => mtrStationReset s
  | .eth => ethStationReset s
  | .pwr => setPwr s fun x => { x with feather := none, featherNext := none, sleepState := if x.entry = none then 0 else x.sleepState,
                                       sleepLo := 0, sleepHi := 0 }
  | .upd => updCleared s
  | .evq => { s with evq := { s.evq with queues := s.evq.queues.map evqResetQueue } }

/-! ## Faults and resets -/

/-- The 0x0001 event of a station fault or reset (R403). -/
def stnEvent (s : State) (n : Stn) : State :=
  event s .sys 0x0001 n.idx (stnWord s n).toNat (stn s n).crabs

/-- Unfinished work of a station is discarded (R24, R33 step 1). -/
def discardWork (s : State) (n : Stn) : State := if n = .lgt then lgtDiscard s else s

/-- Step 1 of R33: the station leaves its stroke program. -/
def leaveStroke (s : State) (n : Stn) : State :=
  setStn (discardWork s n) n fun r => { r with prog := [], started := false, inStroke := false }

/-- Whether stations run or start, so that one can fault. -/
def stationsUp (s : State) : Bool := s.modp = .running || s.modp = .starting

/-- The radio ports follow a station that leaves the stroke (R38, R39, R239). -/
def portsFollow (s : State) : State := if radServes s then portStates s (radCrabbed s) else s

/-- STATION_FAULT (R35): the station enters FAULT and waits for its reset. A station that is off, or in reset already, takes none. -/
def stationFault (s : State) (n : Stn) (c : StnCause) : State :=
  if !stationsUp s || inReset s n || (stn s n).state = .off then s
  else
    let s := setStn (leaveStroke s n) n fun r => { r with state := .fault }
    let s := if n = .lgt || n = .sys then portsFollow s else s
    stnEvent { s with cox := { s.cox with faults := s.cox.faults ++ [(n, c)] }, sys := { s.sys with run := 0 } } n

/-- The station reset CALLs of a station in a STATE. -/
def resetCalls (s : State) (n : Stn) (st : CallSt) : List Nat :=
  (List.range 8).filter fun h => (call s h).station = 0 && (call s h).op = 1 && (call s h).arg = n.idx && (call s h).state = st

/-- STATION_RESET_START (R33 steps 3 and 4, R35): the longest waiting fault's reset begins when none runs. -/
def stationResetStart (s : State) : State :=
  match s.cox.resetting, s.cox.faults with
  | none, (n, c) :: rest =>
    let s := { s with cox := { s.cox with faults := rest, resetting := some n } }
    let s := (resetCalls s n .queued).foldl (fun s h => callState s h fun c => { c with state := .running }) s
    let s := resetStation (resetPads s n) n c
    let s := setStn s n fun r => { r with state := .loading, cause := c, resets := min 255 (r.resets + 1), hist := [] }
    stnEvent (if n = .sys then portsFollow s else s) n
  | _, _ => s

/-- A station that is up drives its pads (R72, R74 step 6); while the hold latches them the levels stay (R423). -/
def readyPads (s : State) (n : Stn) : State := drivePads s n

/-- Stations that PADDLE does not run (R111). -/
def paddleHeld : List Stn := [.lgt, .crs, .mtr]

/-- STATION_READY (R33 step 5): READY, to join at the next boundary; in PADDLE the stations it does not run are HELD (R111). RAD brings its ports
up (R195), pads are first driven in a start and after a station reset at the boundary joined (R72, R74), PWR releases the hold of banks whose owners are ready (R423), a reset CALL is DONE. -/
def stationReady (s : State) (n : Stn) : State :=
  let runs := s.cox.resetting = some n
  if !runs && !(s.modp = .starting && (stn s n).state = .loading) then s
  else
    let held := s.sys.start.mode = .paddle && paddleHeld.contains n
    let s := setStn s n fun r => { r with state := if held then .held else .ready }
    let s := if runs then { s with cox := { s.cox with resetting := none } } else s
    let s := if n = .rad then portBringUp s else s
    let s := if held || runs then s else readyPads s n
    holdRelease (if runs then (resetCalls s n .running).foldl (fun s h => endCall s h .done .ok) s else s)

/-- STATION_RESET_CALL's admitted part (R35, R468): the station's fault with cause CALL. A station that waits already is reset once for both; one in
reset is reset again afterwards; a power-gated UPD is powered up first (R411). -/
def stationResetAsked (s : State) (h : Nat) (n : Stn) : State :=
  let s := setCall s h fun c => { c with arg := n.idx }
  let s := if n = .upd then updUse s else s
  if inReset s n then
    if s.cox.faults.any fun f => f.1 = n then s else { s with cox := { s.cox with faults := s.cox.faults ++ [(n, .call)] } }
  else stationFault s n .call

/-! ## Ready times (R36) -/

/-- Ready within, in ns. -/
def readyNs : Stn → Nat
  | .sys => 8000000 | .cfg => 2000000 | .tim => 2000000 | .rtc => 1000000 | .rad => 12000000 | .sec => 1000000 | .lgt => 6000000
  | .crs => 4000000 | .mtr => 25000000 | .eth => 3000000 | .pwr => 1000000 | .upd => 2000000 | .evq => 1000000

/-- The bound of a station reset CALL (R468): its ready time and those of the resets ahead of it. -/
def resetBound (s : State) (n : Stn) : Nat :=
  let ahead := (s.cox.resetting.toList ++ s.cox.faults.map Prod.fst).filter fun m => m ≠ n
  nowNs s + ((n :: ahead).map readyNs).foldl (· + ·) 0

/-! ## Clocks (R14, R18) -/

/-- Stations clocked from a source (R11, R14): every station has a part in the SYS domain. -/
def clockedBy : ClockSrc → List Stn
  | .pllA => Stn.all
  | .pllB => [.tim, .eth]
  | .pllC => [.mtr]
  | .pllD => [.rad]
  | .serdes _ => [.eth]

/-- PLL_LOCK_LOSS (R18): the stations clocked from the source take a station fault with cause CLOCK and stay in reset. -/
def pllLost (s : State) (c : ClockSrc) : State :=
  if s.cox.lostClocks.contains c || !stationsUp s then s
  else
    let s := { s with cox := { s.cox with lostClocks := s.cox.lostClocks ++ [c] } }
    (clockedBy c).foldl (fun s n =>
      if (stn s n).state = .off then s
      else
        let fresh := !inReset s n
        let s := leaveStroke s n
        let s := if fresh then resetStation (resetPads s n) n .clock else s
        let s := { s with cox := { s.cox with faults := s.cox.faults.filter fun f => f.1 ≠ n,
                                              resetting := if s.cox.resetting = some n then none else s.cox.resetting },
                          sys := { s.sys with run := 0 } }
        let s := setStn s n fun r => { r with state := .reset, cause := .clock, hist := [] }
        stnEvent (if n = .lgt || n = .sys then portsFollow s else s) n) s

/-- PLL_LOCK_REGAINED (R18): 1 ms of lock; stations with no clock still lost go through the reset sequence. -/
def pllRegained (s : State) (c : ClockSrc) : State :=
  if !s.cox.lostClocks.contains c then s
  else
    let lost := s.cox.lostClocks.filter fun x => x ≠ c
    let s := { s with cox := { s.cox with lostClocks := lost } }
    (clockedBy c).foldl (fun s n =>
      if (stn s n).state = .reset && !(s.cox.faults.any fun f => f.1 = n) && !(lost.any fun x => (clockedBy x).contains n) then
        { s with cox := { s.cox with faults := s.cox.faults ++ [(n, .clock)] } }
      else s) s

end Sys2Proof.Machine
end

