-- ==== Sys2Proof/Machine/RadioEvents.lean ====
section
/-! DEFINITION. The CALLs of RAD (R470 to R472) and the glue of its events to the other stations. -/
namespace Sys2Proof.Machine

/-! ## Lantern enrolment (R470) -/

/-- An entry as a node of the plan. -/
def entNode (p : Nat × NatEnt) : NodeCfg :=
  let e := p.2
  { index := p.1, ext := e.ext, short := e.short, role := e.role, port := e.port, depth := e.depth, parent := e.parent, channel := e.channel,
    keyIndex := e.keyIndex, driftClass := e.drift, rejoinRank := e.rejoinRank, eventGroup := e.eventGroup, lplMs := e.lpl, upmax := e.upmax,
    upSlot := e.upSlot, upOfs := e.upOfs, upPeriod := e.upPeriod, upPhase := e.upPhase }

/-- The entry the argument creates: RAD assigns the short address (R225) and a lantern's REJOIN_RANK (R237). -/
def enrolEnt (s : State) (a : List Byte) : NatEnt :=
  let role := argAt a 8 1
  let port := argAt a 9 1
  let depth := argAt a 10 1
  let peers := s.rad.nat.filter fun p => isLantern p.2 && p.2.port = port && p.2.depth = depth
  { ext := argAt a 0 8, short := lowestFree (s.rad.nat.map fun p => p.2.short) 1, role := role, port := port, depth := depth,
    channel := argAt a 11 1, parent := argAt a 12 2, upSlot := argAt a 14 1, upOfs := argAt a 15 1, upPeriod := argAt a 16 1,
    upPhase := argAt a 17 1, lpl := argAt a 18 2, upmax := argAt a 20 1, drift := argAt a 21 1, eventGroup := argAt a 22 1,
    rejoinRank := if role ≤ 2 then lowestFree (peers.map fun p => p.2.rejoinRank) 0 else 0 }

/-- The configuration in use with the NAT as its nodes, and one more. -/
def rigWith (s : State) (i : Nat) (e : NatEnt) : Rig :=
  { s.cfg.loaded with nodes := some ((s.rad.nat ++ [(i, e)]).map entNode) }

/-- The checks of stage 8 that bear on a node's entry (R202, R230, R248, R251). -/
def entryPlanOk (s : State) (i : Nat) (e : NatEnt) : Bool :=
  let r := rigWith s i e
  let k := radCfg s e.port
  let nodes := portNodes r e.port
  let lan := portLanterns r e.port
  k.enabled && plan1 k nodes && plan4 k nodes && plan5 (cRadio s) k nodes && plan6 r k nodes && groupsOk nodes && plan8 r k lan && plan9 k nodes lan &&
    sensorPlan (cRadio s) k nodes

/-- The index a new entry takes. -/
def newIndex (s : State) : Nat := lowestFree (s.rad.nat.map Prod.fst) 0

/-- R470's refusals. -/
def enrolErr (s : State) (a : List Byte) : Err :=
  let e := enrolEnt s a
  let i := newIndex s
  if a.length ≠ 24 || e.ext = 0 then .range
  else if s.rad.nat.any fun p => p.2.ext = e.ext then .range
  else if !nodeOk (cRadio s) (entNode (i, e)) then .range
  else if isLantern e && ((chanCfg s e.channel).isNone || (natOfChan s e.channel).isSome) then .range
  else if 4096 ≤ s.rad.nat.length || (isSensor e && 3840 ≤ (s.rad.nat.filter fun p => isSensor p.2).length) then .rigCapacity
  else if !entryPlanOk s i e then .rigCapacity
  else if !(natAdd s i e).2 then .natHash else .ok

/-- What an enrolment's CALL starts with (R470). -/
def enrolPlan (s : State) : CallPlan := { op := 1, size := 4, bound := some (nowNs s + 100000000) }

/-- LANTERN_ENROLMENT (R470): the entry is placed and the CALL is DONE; a refused insertion owes a rebuild (R223). -/
def lanternEnrolment (s : State) (m : CallMeta) (a : List Byte) : State :=
  vtpCall s (callReq m 4 1 a) (fun s => enrolErr s a) enrolPlan
    (fun s h =>
      let i := newIndex s
      let s := (natAdd s i (enrolEnt s a)).1
      endCall (callWord s h (w32 i)) h .done .ok)
    (fun e s => if e = .natHash then setRad s fun r => { r with hash := { r.hash with rebuild := true } } else s)

/-! ## Commissioning scan (R472) -/

/-- Arguments of the scan: ports, flags, seconds. -/
def scanErr (s : State) (a : List Byte) : Err :=
  let ports := argAt a 0 1
  let d := argAt a 2 2
  if a.length ≠ 4 || ports = 0 || 16 ≤ ports || 2 ≤ argAt a 1 1 || d < 10 || 3600 < d then .range
  else if (List.range 4).any fun p => ports / 2 ^ p % 2 = 1 && !(radCfg s p).enabled then .range else .ok

/-- The scan begins: with TEST, lanterns and relays of its ports are held in the explicit regime (R279) and sent IDENTIFY with 10 s. -/
def scanStart (s : State) (h ports : Nat) (test : Bool) (secs : Nat) : State :=
  let held := if test then (s.rad.nat.filter fun p => isLantern p.2 && ports / 2 ^ p.2.port % 2 = 1).map Prod.fst else []
  let s := setRad s fun r => { r with scan := some { call := h, ports := ports, test := test, endNs := nowNs s + secs * giga, held := held } }
  held.foldl (fun s i =>
    let s := setDyn (setNat s i NatEnt.explicitNow) i fun d => { d with test := true }
    if inContact s i then queueUni s { node := i, cmd := 5, data := leBytes 2 10, call := some h } else sendOutcome s h i 3) s

/-- What a scan's CALL starts with: QUEUED behind a scan that runs, and bounded from that scan's end (R466, R472). -/
def scanPlan (a : List Byte) (s : State) : CallPlan :=
  let from_ := match s.rad.scan with
    | some c => max c.endNs (nowNs s)
    | none => nowNs s
  { op := 2, size := 16, bound := some (from_ + (argAt a 2 2 + 1) * giga), queued := s.rad.scan.isSome }

/-- COMMISSIONING_SCAN: one scan runs at a time, a further one is QUEUED (R466). -/
def commissioningScan (s : State) (m : CallMeta) (a : List Byte) : State :=
  vtpCall s (callReq m 4 2 a) (fun s => scanErr s a) (scanPlan a)
    (fun s h =>
      let s := setCall s h fun c => { c with arg := argAt a 0 4 }
      if s.rad.scan.isSome then s else scanStart s h (argAt a 0 1) (argAt a 1 1 = 1) (argAt a 2 2))

/-- Held links return to normal service by a response that carries a new epoch (R281, R472). -/
def scanRelease (s : State) (c : Scan) : State :=
  let s := c.held.foldl (fun s i =>
    queueRejoin (setDyn s i fun d => { d with test := false }) i 0) s
  setRad s fun r => { r with scan := none, ports := r.ports.map fun (x : RadPort) =>
    { x with uni := x.uni.filter fun u => u.call ≠ some c.call } }

/-- A queued scan starts once none runs. -/
def nextScan (s : State) : State :=
  match (List.range 8).find? fun h => (call s h).station = 4 && (call s h).op = 2 && (call s h).state = .queued with
  | some h =>
    let a := (call s h).arg
    scanStart (callState s h fun c => { c with state := .running }) h (a % 256) (a / 256 % 2 = 1) (a / 65536 % 65536)
  | none => s

/-- SCAN_END (R472). -/
def scanEnd (s : State) : State :=
  match s.rad.scan with
  | some c =>
    let s := advanceTo s c.endNs
    nextScan (scanRelease (endCall s c.call .done .ok) c)
  | none => s

/-! ## Node send (R471) -/

/-- R471's refusals: NAT, FLAGS, CMD, LEN, DATA. -/
def nodeSendErr (s : State) (a : List Byte) : Err :=
  let cmd := argAt a 3 1
  let len := argAt a 4 1
  if a.length < 6 || a.length ≠ 6 + len || 2 ≤ argAt a 2 1 then .range
  else
    match natEnt s (argAt a 0 2) with
    | none => .range
    | some e =>
      let k := radCfg s e.port
      if isLantern e then
        if !(cmd = 4 || cmd = 5 || cmd = 6) || argAt a 2 1 ≠ 0 then .range
        else if airOct k (psduOf (1 + len)) > limUniLantern k then .length else .ok
      else if cmd < 0x10 then .range
      else if airOct k (psduOf (2 + len)) > limUniSensor k then .length else .ok

/-- What a node send's CALL starts with: it has no bound (R471). -/
def sendPlan (_ : State) : CallPlan := { op := 3, size := 4 }

/-- NODE_SEND: OUT_OF_CONTACT at once, else queued; URGENT selects the wake train for a node that can be trained (R252). -/
def nodeSend (s : State) (m : CallMeta) (a : List Byte) : State :=
  vtpCall s (callReq m 4 3 a) (fun s => nodeSendErr s a) sendPlan
    (fun s h =>
      let i := argAt a 0 2
      if !inContact s i then sendOutcome s h i 3
      else
        let e := (natEnt s i).getD {}
        let urgent := argAt a 2 1 = 1
        queueUni s { node := i, kind := if isLantern e then .command else .downlink, cmd := argAt a 3 1, data := a.drop 6, left := 3,
                     urgent := urgent, train := urgent && e.depth = 0 && e.lpl ≠ 0, call := some h })

/-! ## Binning records (R299) -/

/-- BINNING_RECORD_PART: the whole record goes to LGT and is gathered for the archive over at most 60 s (R441). -/
def binningPart (s : State) (f : RxFrame) (part : Nat) (data : List Byte) : State :=
  let x := recordPart s f part data
  match x.2 with
  | none => x.1
  | some (i, r) =>
    let c := ((natEnt x.1 i).getD {}).channel
    { x.1 with upd := { x.1.upd with gather := tput x.1.upd.gather c r, gatherAt := some (x.1.upd.gatherAt.getD x.1.tim.cyc) } }

end Sys2Proof.Machine
end

