-- ==== Sys2Proof/Machine/Update.lean ====
section
/-! DEFINITION. Updates: staging transfers, image, Rig and calibration applies, keys and trust anchors, lantern firmware (R97 to R99, R426 to
R451). -/
namespace Sys2Proof.Machine

/-! ## The boot header (R98, R99) -/

/-- The octets of a copy that its CRC covers. -/
def hdrBytes (b : BootHdr) : List Byte :=
  [b.magic, b.generation, b.image, b.imageN, b.rig, b.rigN, b.verA, b.verB, b.flags].flatMap (leBytes 4)

/-- MAGIC as a little-endian word: bytes 0x56, 0x42, 0x48, 0x44. -/
def hdrMagic : Nat := 0x44484256

/-- A valid copy (R99). -/
def hdrOk (b : BootHdr) : Bool :=
  b.magic = hdrMagic && b.crc = crc32c (hdrBytes b) && b.image + b.imageN = 0xFFFFFFFF && b.rig + b.rigN = 0xFFFFFFFF

/-- The copy a start uses, none when neither is valid (R99). -/
def hdrUsed (f : Flash) : Option Nat :=
  if hdrOk f.hdr0 then
    if hdrOk f.hdr1 && f.hdr0.generation < f.hdr1.generation then some 1 else some 0
  else if hdrOk f.hdr1 then some 1 else none

/-- A copy. -/
def hdrCopy (f : Flash) (k : Nat) : BootHdr := if k = 0 then f.hdr0 else f.hdr1

/-- The header now in force, for the next choice: slot A and Rig A without one. -/
def hdrNow (s : State) : BootHdr :=
  match hdrUsed s.flash with
  | some k => hdrCopy s.flash k
  | none => { magic := hdrMagic, generation := 0, image := 0, imageN := 0xFFFFFFFF, rig := 0, rigN := 0xFFFFFFFF, verA := 0, verB := 0, flags := 0 }

/-- A copy with its CRC. -/
def sealHdr (b : BootHdr) : BootHdr :=
  let b := { b with magic := hdrMagic, imageN := 0xFFFFFFFF - b.image, rigN := 0xFFFFFFFF - b.rig }
  { b with crc := crc32c (hdrBytes b) }

/-- BOOT_HEADER_REWRITE (R99): the copy the boot ROM did not use in this start, with a GENERATION one greater than the other copy. -/
def rewriteHeader (s : State) (f : BootHdr → BootHdr) : State × Bool :=
  let k := 1 - s.cfg.usedCopy
  let other := hdrCopy s.flash s.cfg.usedCopy
  let gen := if hdrOk other then (other.generation + 1) % frac else 1
  let new := sealHdr { f (hdrNow s) with generation := gen }
  flashWrite s .cfg fun s =>
    { s with flash := if k = 0 then { s.flash with hdr0 := new } else { s.flash with hdr1 := new } }

/-! ## Staging transfers (R428, R429) -/

/-- The largest LENGTH of a KIND; 0 for a code that is not listed. -/
def kindLimit (k : Nat) : Nat := if k = 2 then 5246976 else if 1 ≤ k && k ≤ 6 then 2097152 else 0

/-- Blocks of a transfer. -/
def xferBlocks (x : Xfer) : Nat := cdiv x.length 4096

/-- Whether an update operation needs staging or the slot not running, so that no new transfer may open. -/
def stagingHeld (s : State) : Bool :=
  match s.upd.work with
  | some (_, .image _) => true
  | some (_, .dist _) => true
  | _ => false

/-- The refusals of XFER_OPEN: `w` is UPD_XFER_CTRL as written. In ROM recovery only images are taken (R113). -/
def xferOpenErr (s : State) (w : Word) : Err :=
  let k := w.field 26 24
  if s.upd.xfer.state = .open_ || stagingHeld s then .slotBusy
  else if s.upd.lenReg = 0 || kindLimit k < s.upd.lenReg then .range
  else if s.modp = .recovery then (if k = 2 then .ok else .range)
  else if k = 2 && w.field 16 16 = s.cfg.imageSlot then .range else .ok

/-- XFER_OPEN. -/
def xferOpen (s : State) (w : Word) : State :=
  setUpd s fun u => { u with xfer := { state := .open_, kind := w.field 26 24, slot := w.field 16 16, length := u.lenReg, lastAt := s.tim.cyc } }

/-- XFER_ABORT: STATE 0 written. -/
def xferAbort (s : State) : State :=
  setUpd (ledgerWrite s .upd fun s => { s with led := { s.led with xfer := none } }).1 fun u => { u with xfer := {} }

/-- XFER_TIMEOUT: 24 h without a block. -/
def xferTimeout (s : State) : State :=
  if moduleUp s && s.upd.xfer.state = .open_ then xferAbort (advanceCyc s (s.upd.xfer.lastAt + secCyc 86400)) else s

/-- The words of the window. -/
def winWords (s : State) : List Word := (List.range 1024).map fun i => tgetD s.upd.win i 0

/-- Octets of a block that count. -/
def blockLen (x : Xfer) (i : Nat) : Nat := if i + 1 = xferBlocks x && x.length % 4096 ≠ 0 then x.length % 4096 else 4096

/-- The refusals of BLOCK_COMMIT. -/
def blockErr (s : State) (i : Nat) : Err :=
  let x := s.upd.xfer
  if x.busy then .slotBusy
  else if x.state ≠ .open_ || i ≠ x.next then .range
  else if crc32c ((bytesOf (winWords s)).take (blockLen x i)) ≠ s.upd.blkCrc then .blockCrc else .ok

/-- A commit refused is shown in UPD_XFER_STAT. -/
def blockRefused (s : State) (e : Err) : State := setUpd s fun u => { u with xfer := { u.xfer with err := e } }

/-- BLOCK_COMMIT: erasing and programming begin. -/
def blockCommit (s : State) : State := setUpd s fun u => { u with xfer := { u.xfer with busy := true } }

/-- The image slot a transfer of KIND 0x2 writes. -/
def xferSlot (s : State) : Nat := if s.modp = .recovery then s.upd.xfer.slot else 1 - s.cfg.imageSlot

/-- An image slot written. -/
def putImage (s : State) (k : Nat) (i : Option Image) : State :=
  { s with flash := if k = 0 then { s.flash with imageA := i } else { s.flash with imageB := i } }

/-- The image in a slot. -/
def imageInSlot (s : State) (k : Nat) : Option Image := if k = 0 then s.flash.imageA else s.flash.imageB

/-- The octets of a number of blocks. -/
def blockBytes (t : Tab (List Word)) (n : Nat) : List Byte := (List.range n).flatMap fun i => bytesOf (tgetD t i [])

/-- What staging holds of the transfer (R428). -/
def stagedBytes (s : State) : List Byte := (blockBytes s.flash.staging (xferBlocks s.upd.xfer)).take s.upd.xfer.length

/-- A block of a full image programmed in its slot: the slot holds an image again once the last is there. -/
def slotBlock (s : State) (sigs : ImageSigs) : State :=
  let x := s.upd.xfer
  let t := tput s.flash.slotBlocks x.next (winWords s)
  let img : Image := { data := (blockBytes t (xferBlocks x)).take x.length, siravoBy := sigs.siravoBy, cityBy := sigs.cityBy }
  putImage { s with flash := { s.flash with slotBlocks := t } } (xferSlot s) (if x.next + 1 = xferBlocks x then some img else none)

/-- BLOCK_WRITE_DONE (R429): the keys of the signatures are those of an image that the block completes. KIND, LENGTH and NEXT are saved after each
block; a block whose flash operation or save fails is not taken (R58). -/
def blockDone (s : State) (sigs : ImageSigs) : State :=
  let x := s.upd.xfer
  if !x.busy || !moduleUp s then s
  else
    let last := x.next + 1 = xferBlocks x
    let r := flashWrite s .upd fun s =>
      if x.kind = 2 then slotBlock s sigs
      else { s with flash := { s.flash with staging := tput s.flash.staging x.next (winWords s) } }
    if r.2 then
      let y : Xfer := { x with busy := false, next := x.next + 1, lastAt := s.tim.cyc, state := if last then .complete else .open_, err := .ok }
      let w := ledgerWrite r.1 .upd fun s => { s with led := { s.led with xfer := some y } }
      setUpd w.1 fun u => { u with xfer := if w.2 then y else { u.xfer with busy := false, err := .ledgerFail } }
    else setUpd r.1 fun u => { u with xfer := { u.xfer with busy := false, err := .flashTmo } }

/-! ## CALLs in common (R427, R450) -/

/-- t_blk in ns (R450). -/
def tblkNs : Nat := 1500 * (Config.tSe + 16 * Config.tPp) + 1000000

/-- R427, R111, R113: one operation at a time; in PADDLE only image apply, Rig apply and calibration load. -/
def updBusyErr (s : State) (op : Nat) : Err :=
  if s.modp = .recovery then .range
  else if s.sys.start.mode = .paddle && 3 < op then .range
  else if s.upd.work.isSome then .slotBusy else .ok

/-- The operation ends. -/
def updEnd (s : State) (h : Nat) (st : CallSt) (e : Err) : State :=
  let op := (call s h).op
  let s := if op ≤ 2 then setLast s h op st.code e else s
  setUpd (endCall s h st e) fun u => { u with work := none }

/-- The operation fails with an entry of a code and a number. -/
def updFail (s : State) (h : Nat) (e : Err) (n : Nat) : State := updEnd (callWord s h (pack [(24, e.code), (0, n)])) h .failed e

/-- Whether a COMPLETE transfer of a KIND is there. -/
def xferReady (s : State) (k : Nat) : Bool := s.upd.xfer.state = .complete && s.upd.xfer.kind = k

/-! ## Image apply (R431 to R437) -/

/-- Stations whose microcode differs, ascending (R436). -/
def microDiff (old new : Image) : List Nat := (List.range 13).filter fun n => n ≠ 0 && imgSha old n ≠ imgSha new n

/-- Whether an image apply builds from a delta: SOURCE. -/
def fromDelta (a : List Byte) : Bool := argAt a 0 1 = 1

/-- The delta that staging holds, empty without a COMPLETE transfer of one. -/
def stagedDelta (s : State) : List Byte := if xferReady s 1 then stagedBytes s else []

/-- What the delta in staging builds from the running image. -/
def deltaEnd (s : State) : BuildEnd := deltaBuild s.cfg.image.data (stagedDelta s)

/-- The target an apply builds: the delta's, or the image transferred. -/
def applyTarget (s : State) (a : List Byte) (sigs : ImageSigs) : Image :=
  if fromDelta a then { data := (deltaEnd s).data, siravoBy := sigs.siravoBy, cityBy := sigs.cityBy }
  else (imageInSlot s (1 - s.cfg.imageSlot)).getD {}

/-- The build part of the bound (R450): OPS of a delta count. -/
def buildNs (s : State) (a : List Byte) : Nat :=
  if fromDelta a then argAt (stagedDelta s) 0x34 4 * tblkNs + 400000000 else 400000000

/-- The time a series of station resets takes: ready times and 1,000 strokes each (R450). -/
def seriesNs (l : List Nat) : Nat :=
  (l.map fun n => ((Stn.ofIdx n).map readyNs).getD 0 + 1000 * strokeNs).foldl (· + ·) 0

/-- R434's refusals. -/
def imageErr (s : State) (a : List Byte) : Err :=
  let src := argAt a 0 1
  let at_ := argAt a 2 8
  if a.length ≠ 10 || !(src = 1 || src = 2) || 2 ≤ argAt a 1 1 then .range
  else match updBusyErr s 1 with
    | .ok =>
      if at_ ≠ 0 && nowNs s + 86400 * giga ≤ at_ * giga then .range
      else if at_ ≠ 0 && at_ * giga < nowNs s + buildNs s a then .noSlack else .ok
    | e => e

/-- The completion bound of an image apply. -/
def imageBound (s : State) (a : List Byte) : Nat :=
  let at_ := argAt a 2 8
  let b := max (nowNs s + buildNs s a) (at_ * giga)
  if argAt a 1 1 = 0 then b else b + seriesNs (microDiff s.cfg.image (applyTarget s a {}))

/-- The build begins (R433). A source that differs and a block whose TCRC fails end the CALL. -/
def imageStart (s : State) (h : Nat) (a : List Byte) (sigs : ImageSigs) : State :=
  let op : ImageOp := { target := applyTarget s a sigs, stations := argAt a 1 1 = 1, at_ := argAt a 2 8 }
  let go := fun (s : State) => setUpd (setLast s h 1 2 .ok) fun u => { u with work := some (h, .image op) }
  let slot := 1 - s.cfg.imageSlot
  if !xferReady s (argAt a 0 1) then updFail s h .range 0
  else if !fromDelta a then go s
  else
    let d := stagedDelta s
    let e := deltaEnd s
    if !deltaOk d then updFail s h .imageFormat 0
    else if argAt d 0x08 4 ≠ imgVersion s.cfg.image || (d.drop 0x0C).take 32 ≠ imgHash s.cfg.image then updFail s h .imageMismatch 0
    else if e.err ≠ .ok then updFail (if e.block = 0 then s else putImage s slot none) h e.err e.block
    else
      let w := flashWrite s .upd fun s => putImage s slot none
      if w.2 then go w.1 else updFail w.1 h .flashTmo 0

/-- What an image apply's CALL starts with. -/
def imagePlan (a : List Byte) (s : State) : CallPlan := { op := 1, size := 4, bound := some (imageBound s a) }

/-- IMAGE_APPLY (R434). -/
def imageApply (s : State) (m : CallMeta) (a : List Byte) (sigs : ImageSigs) : State :=
  vtpCall s (callReq m 11 1 a) (fun s => imageErr s a) (imagePlan a)
    (fun s h => imageStart s h a sigs)

/-- The signatures of an image (R105): Siravo's, and the city's when CO_SIGN is set. -/
def imageSigned (s : State) (i : Image) : Bool :=
  i.siravoBy = some Config.siravoKey &&
  (!s.keys.coSign || ((imgCitySig i).any (· ≠ 0) && i.cityBy.isSome && i.cityBy = s.keys.anchor))

/-- R431's checks on an image, against the active Rig. -/
def imageCheck (s : State) (i : Image) : Err :=
  if !imgFormatOk i || !imgHashesOk i then .imageFormat
  else if !imageSigned s i then .signature
  else
    match rigInSlot s (hdrNow s).rig with
    | some r => if imgRigMin i ≤ r.format && r.format ≤ imgRigMax i then .ok else .rigVersion
    | none => .ok

/-- IMAGE_BUILD_COMPLETE (R431, R433, R436): the whole image is verified; with ACTIVATE STATIONS its CORE and ABI must be those running. -/
def imageBuilt (s : State) : State :=
  match s.upd.work with
  | some (h, .image o) =>
    if o.verified || !moduleUp s then s
    else
      match imageCheck s o.target with
      | .ok =>
        if o.stations && !(imgSha o.target 0 = imgSha s.cfg.image 0 && imgAbi o.target = imgAbi s.cfg.image) then
          updFail s h .imageMismatch 0
        else
          let s := putImage s (1 - s.cfg.imageSlot) (some o.target)
          let s := setCall s h fun c => { c with progress := 10000 }
          setUpd s fun u => { u with work := some (h, .image { o with verified := true }) }
      | e => updFail s h e 0
  | _ => s

/-- The AT of a verified image has come at this boundary (R435, R436). -/
def imageDue (s : State) : Option (Nat × ImageOp) :=
  match s.upd.work with
  | some (h, .image o) => if o.verified && !o.started && o.at_ * giga ≤ nowNs s then some (h, o) else none
  | _ => none

/-- The header with a new image active. -/
def hdrImage (slot : Nat) (i : Image) (b : BootHdr) : BootHdr :=
  { b with image := slot, verA := if slot = 0 then imgVersion i else b.verA, verB := if slot = 1 then imgVersion i else b.verB }

/-- Both start-count stores written (R107, R108). -/
def writeCount (s : State) (count : Nat) (inprog : Bool) : State :=
  let v := b2n inprog * 16 + min 15 count
  let p : CountPair := { val := v, neg := 0xFFFFFFFF - v }
  (ledgerWrite { s with aon := { s.aon with count := some p } } .sys fun s => { s with led := { s.led with count := some p } }).1

/-- Steps 1 to 3 of R435: saves, header, start count. The module reset follows. -/
def imageActivate (s : State) (h : Nat) (o : ImageOp) : State × Bool :=
  let s := (stepSaves s 1).1
  let w := rewriteHeader s (hdrImage (1 - s.cfg.imageSlot) o.target)
  if w.2 then
    let s := setLast (writeCount w.1 0 false) h 1 2 .ok
    ((ledgerWrite s .upd fun s => { s with led := { s.led with updPending := true } }).1, true)
  else (updFail w.1 h .flashTmo 0, false)

/-- The microcode of a station in the image area (R436). -/
def putMicro (s : State) (n : Nat) (v : List Byte) : State :=
  { s with cfg := { s.cfg with area := upd s.cfg.area n fun _ => v } }

/-- The series goes on with its next station, or ends with the header naming the new slot (R436). In PADDLE it leaves the start count as it is (log
entry 114). -/
def seriesNext (s : State) (h : Nat) (o : ImageOp) : State :=
  match o.series with
  | n :: _ =>
    let old := nth s.cfg.area n []
    let s := setUpd (putMicro s n (nth (imgSections o.target) n [])) fun u =>
      { u with work := some (h, .image { o with changed := (n, old) :: o.changed, left := 1000 }) }
    match Stn.ofIdx n with
    | some st => stationFault s st .microcode
    | none => s
  | [] =>
    let slot := 1 - s.cfg.imageSlot
    let w := rewriteHeader s (hdrImage slot o.target)
    if w.2 then updEnd { w.1 with cfg := { w.1.cfg with image := o.target, area := imgSections o.target, imageSlot := slot } } h .done .ok else updFail w.1 h .flashTmo 0

/-- ACTIVATE STATIONS begins (R436). -/
def seriesStart (s : State) (h : Nat) (o : ImageOp) : State :=
  let l := microDiff s.cfg.image o.target
  -- the sections kept are those before any is changed
  seriesNext s h { o with started := true, series := l }

/-- MICROCODE_STATION_PASS (R436): 1,000 strokes RUNNING without a crab. -/
def seriesPass (s : State) : State :=
  match s.upd.work with
  | some (h, .image o) => if moduleUp s && o.started && o.series ≠ [] && o.left = 0 then seriesNext s h { o with series := o.series.drop 1 } else s
  | _ => s

/-- A stroke of the series' station (R436): one more without a crab, or the count begins again. -/
def seriesStroke (s : State) (crabbed : Stn → Bool) : State :=
  match s.upd.work with
  | some (h, .image o) =>
    match o.series.head?.bind Stn.ofIdx with
    | some n =>
      let left := if !isRunning s n then o.left else if crabbed n then 1000 else o.left - 1
      setUpd s fun u => { u with work := some (h, .image { o with left := left }) }
    | none => s
  | _ => s

/-- MICROCODE_REVERT (R437): the kept sections are copied back in descending index and their stations reset again. -/
def seriesFault (s : State) (n : Stn) (c : StnCause) : State :=
  match s.upd.work with
  | some (h, .image o) =>
    if o.started && c ≠ .call && c ≠ .microcode && o.series.head? = some n.idx then
      let s := o.changed.foldl (fun s x => putMicro s x.1 x.2) s
      let s := (o.changed.mergeSort fun a b => b.1 ≤ a.1).foldl (fun s x =>
        match Stn.ofIdx x.1 with
        | some st =>
          if inReset s st then { s with cox := { s.cox with faults := s.cox.faults ++ [(st, .microcode)] } } else stationFault s st .microcode
        | none => s) s
      updFail s h .microcodeRevert n.idx
    else s
  | _ => s

/-- A station fault, with what it means to an update under way. -/
def takeFault (s : State) (n : Stn) (c : StnCause) : State :=
  if !stationsUp s || inReset s n || (stn s n).state = .off then s else seriesFault (stationFault s n c) n c

/-- The request whose access failed inside the module, if it is one, is answered with an error (R44, R57, R475); checked and kept as any other. -/
def requestFails (s : State) (req : Option VtpReq) (e : Err) : State :=
  match req with
  | some q => vtpServe s q true q.length fun s => (s, replyOf q e [])
  | none => s

/-- RESOURCE_TMO (R57, R58): the acquisition of a resource that the work needs times out; the work has released all it held and tries again, or after
its last retry fails: a frame is dropped and counted, a request is answered with the error. -/
def resourceTmo (s : State) (w : Work) (r : Resource) (index : Nat) : State :=
  if !needs s w r index then s
  else
    let x := waitTimesOut s w r
    if x.2 then x.1
    else match w with
      | .frame f => frameUnserved x.1 f r
      | .request q => requestFails x.1 (some q) .resourceTmo

/-- FABRIC_TMO (R44, R437): the request is answered with FABRIC_TMO, and the target takes the fault. -/
def fabricTimeout (s : State) (n : Stn) (req : Option VtpReq) : State := takeFault (requestFails s req .fabricTmo) n .fabricTmo

/-- PLL_LOCK_LOSS (R18, R437). -/
def pllLoss (s : State) (c : ClockSrc) : State :=
  let fresh := (clockedBy c).filter fun n => !inReset s n && (stn s n).state ≠ .off
  if s.cox.lostClocks.contains c then s else fresh.foldl (fun s n => seriesFault s n .clock) (pllLost s c)

/-! ## Rig apply (R438, R439) -/

/-- Sections that differ in CRC between two Rigs. -/
def sectionsDiff (a b : Rig) : List Nat :=
  let crcOf := fun (r : Rig) (t : Nat) => (r.dir.find? fun e => e.typ = t).map RigDirEntry.crc
  ((List.range 13).map (· + 1)).filter fun t => crcOf a t ≠ crcOf b t

/-- The owner of a section (R116). -/
def ownerOf (t : Nat) : Stn :=
  if t = 2 then .eth else if 5 ≤ t && t ≤ 7 then .rad else if t = 8 then .lgt else if t = 9 || t = 10 then .crs else if t = 11 then .mtr
  else if t = 12 then .tim else if t = 13 then .pwr else .sys

/-- Stations to reset when one Rig replaces another, ascending. -/
def rigResets (old new : Rig) : List Stn := Stn.all.filter fun n => (sectionsDiff old new).any fun t => ownerOf t = n

/-- The build bound of a Rig apply (R450). -/
def rigBuildNs (trimsOnly : Bool) : Nat := 400000000 + (if trimsOnly then 256 else 513) * tblkNs

/-- The refusals of a Rig apply. -/
def rigErr (s : State) (a : List Byte) : Err :=
  if a.length ≠ 10 || 2 ≤ argAt a 0 1 then .range else updBusyErr s 2

/-- The completion bound. -/
def rigBound (s : State) (a : List Byte) (set_ : RigSet) : Nat :=
  let only := argAt a 0 1 = 1
  let resets := if only then [] else rigResets s.cfg.validated set_.rig
  max (nowNs s + rigBuildNs only) (argAt a 2 8 * giga) + (resets.map fun n => readyNs n + strokeNs).foldl (· + ·) 0

/-- The active Rig: that of the header's slot. -/
def activeRig (s : State) : Option Rig := rigInSlot s (hdrNow s).rig

/-- The validation of a set: findings, the Rig to run on, the Trims loaded. A SERIAL that is not greater than the active Rig's is a RANGE. -/
def setFindings (s : State) (set_ : RigSet) (only : Bool) : List Finding × Rig × List Trim :=
  let c := rigCtx s (activeRig s)
  if only then
    let t := validateTrims c s.cfg.validated (trimsInRegion set_.trims)
    (t.1, s.cfg.validated, t.2)
  else
    let v := validateRig c set_.rig
    let old := (activeRig s).map Rig.serial
    let f := if v.1.isEmpty && old.any fun n => set_.rig.serial ≤ n then [{ code := Err.range, typ := 0, item := 0 }] else v.1
    if f.isEmpty then
      let t := validateTrims c v.2.1 (trimsInRegion set_.trims)
      (t.1, v.2.1, t.2)
    else (f, v.2.1, [])

/-- The Trim region as a set gives it, by position. -/
def trimTab (l : List (Nat × Trim)) : Tab Trim := l.foldl (fun t x => tput t x.1 x.2) []

/-- Steps 1 to 3 of R439. -/
def rigWrite (s : State) (set_ : RigSet) (only : Bool) : State × Bool :=
  let slot := 1 - (hdrNow s).rig % 2
  let a := if only then (s, true) else
    let w := flashWrite s .cfg fun s =>
      { s with flash := if slot = 0 then { s.flash with rigA := some set_.rig } else { s.flash with rigB := some set_.rig } }
    if w.2 then rewriteHeader w.1 fun b => { b with rig := slot, flags := b.flags / 2 * 2 } else w
  if a.2 then flashWrite a.1 .cfg fun s => { s with flash := { s.flash with trims := trimTab set_.trims } } else a

/-- The apply begins: any finding fails the whole CALL and nothing is written. -/
def rigStart (s : State) (h : Nat) (a : List Byte) (set_ : RigSet) : State :=
  let only := argAt a 0 1 = 1
  if !xferReady s 3 then updFail s h .range 0
  else
    let v := setFindings s set_ only
    let s := recordFindings s v.1
    if !v.1.isEmpty then
      updEnd (v.1.foldl (fun s f => callWord s h (w32 (findingWord f))) s) h .failed (firstFinding v.1)
    else
      let slot := 1 - (hdrNow s).rig % 2
      let w := rigWrite s set_ only
      if !w.2 then updFail w.1 h .flashTmo 0
      else
        setUpd (setLast w.1 h 2 2 .ok) fun u =>
          { u with work := some (h, .rig { rig := v.2.1, trims := v.2.2, slot := slot, trimsOnly := only, at_ := argAt a 2 8 }) }

/-- What a Rig apply's CALL starts with. -/
def rigPlan (a : List Byte) (set_ : RigSet) (s : State) : CallPlan := { op := 2, size := 4, bound := some (rigBound s a set_) }

/-- RIG_APPLY (R438). -/
def rigApply (s : State) (m : CallMeta) (a : List Byte) (set_ : RigSet) : State :=
  vtpCall s (callReq m 11 2 a) (fun s => rigErr s a) (rigPlan a set_)
    (fun s h => rigStart s h a set_)

/-- Steps 4 and 5 of R439 at a boundary; the CALL is DONE when the last station reset reads RUNNING (or HELD, where the mode holds it). -/
def rigAtBoundary (s : State) : State :=
  match s.upd.work with
  | some (h, .rig o) =>
    if !o.started then
      if nowNs s < o.at_ * giga then s
      else
        let resets := if o.trimsOnly then [] else rigResets s.cfg.validated o.rig
        let s := { s with cfg := { s.cfg with trims := o.trims, specials := [], specialsNext := none } }
        let s := if o.trimsOnly then s else { s with cfg := { s.cfg with validated := o.rig, rigSlot := o.slot } }
        if resets = [] then updEnd s h .done .ok
        else
          let s := setUpd s fun u => { u with work := some (h, .rig { o with started := true, resets := resets }) }
          resets.foldl (fun s n =>
            if inReset s n then { s with cox := { s.cox with faults := s.cox.faults ++ [(n, .rig)] } } else takeFault s n .rig) s
    else if o.resets.all fun n => isRunning s n || (stn s n).state = .held then updEnd s h .done .ok
    else s
  | _ => s

/-! ## Calibration load (R440, R441) -/

/-- R143's checks of a binning record without the precomputation. -/
def binEntryErr (s : State) (c : Nat) (r : BinRecord) : Err :=
  if !r.crcOk then .rigCrc
  else if !r.pairsOk then .pairMismatch
  else if !r.formOk || !((r.classes.take r.strings).all fun i => (cLight s).classes.any fun k => k.1 = i) || (natOfChan s c).any fun p => p.2.ext ≠ r.eui64 then .range
  else .ok

/-- The check of an entry of a set. -/
def calEntryErr (s : State) : CalEntry → Err
  | .malformed => .range
  | .binning c r => binEntryErr s c r
  | .metering r => if !r.crcOk then .rigCrc else if !r.pairsOk then .pairMismatch else if r.formOk && r.rangesOk then .ok else .range

/-- A new half is written into the other half (R441): records of the set replace those of the same channel or kind. -/
def calWrite (s : State) (bin : List (Nat × BinRecord)) (m : Option MeterRecord) : State × Bool :=
  let cur := calHalf s
  let old := (cur.map Prod.snd).getD {}
  let gen := ((cur.map fun h => calGeneration h.2).getD 0 + 1) % frac
  let k := match cur with
    | some (k, _) => 1 - k
    | none => 0
  let new := calSeal gen (bin.foldl (fun t x => tput t x.1 x.2) (calBins old)) (m.orElse fun _ => calMeter old)
  let w := flashWrite s .upd fun s => { s with flash := if k = 0 then { s.flash with cal0 := new } else { s.flash with cal1 := new } }
  if w.2 then ({ w.1 with cfg := { w.1.cfg with calHalf := k, calGen := gen, bins := validBins new, meter := validMeter new } }, true)
  else w

/-- A calibration load: records enter LGT's queue, metering constants apply at the boundary of R26. -/
def calStart (s : State) (h : Nat) : State :=
  let l := calEntriesOf s.upd.xfer.length (stagedBytes s)
  if !xferReady s 4 then updFail s h .range 0
  else
    match (l.map (calEntryErr s)).findIdx? fun e => e ≠ .ok with
    | some i => updFail s h (nth (l.map (calEntryErr s)) i .ok) i
    | none =>
      let bin := l.filterMap fun e => match e with
        | .binning c r => some (c, r)
        | _ => none
      let m := l.foldl (fun (a : Option MeterRecord) e => match e with
        | .metering r => some r
        | _ => a) none
      let w := calWrite s bin m
      if !w.2 then updFail w.1 h .flashTmo 0
      else
        let s := setLgt w.1 fun x => { x with recq := x.recq ++ bin }
        let s := match m with
          | some r => setMtr s fun x => { x with calNext := some (r, dueBoundary s) }
          | none => s
        updEnd s h .done .ok

/-- The refusals of a CALL of UPD that takes no arguments. -/
def plainErr (s : State) (op : Nat) (a : List Byte) : Err := if a ≠ [] then .range else updBusyErr s op

/-- What a calibration load's CALL starts with. -/
def calPlan (s : State) : CallPlan := { op := 3, size := 4, bound := some (nowNs s + 400000000 + 18 * tblkNs + strokeNs) }

/-- CALIBRATION_LOAD (R441). -/
def calLoad (s : State) (m : CallMeta) (a : List Byte) : State :=
  vtpCall s (callReq m 11 3 a) (fun s => plainErr s 3 a) calPlan calStart

/-- CALIBRATION_ARCHIVE_WRITE (R441): records of uploads, gathered over at most 60 s, once no CALL holds UPD. -/
def calGathered (s : State) : State :=
  match s.upd.gatherAt with
  | none => s
  | some t =>
    if s.upd.work.isSome || !moduleUp s then s
    else
      let w := calWrite (advanceCyc s (t + secCyc 60)) s.upd.gather none
      if w.2 then setUpd w.1 fun u => { u with gather := [], gatherAt := none } else setUpd w.1 fun u => { u with gatherAt := some w.1.tim.cyc }

/-! ## Anchor and keys (R442, R443) -/

/-- The refusals of the anchor CALL: a BIND needs an empty slot and a DTLS session, a ROLL the current anchor's signature and a greater ROLL_CTR. -/
def anchorErr (s : State) (sess_ : Nat) (a : List Byte) (signedBy : Option KeyId) : Err :=
  match updBusyErr s 6 with
  | .ok =>
    if 2 ≤ argAt a 1 1 then .range
    else if argAt a 0 1 = 0 then
      if a.length ≠ 2 || s.keys.anchor.isSome then .range else if (sess s sess_).port = 2 then .signature else .ok
    else if argAt a 0 1 = 1 then
      if a.length ≠ 134 then .range
      else if s.keys.anchor = none || signedBy ≠ s.keys.anchor then .signature
      else if argAt a 66 4 ≤ s.keys.rollCtr then .range else .ok
    else .range
  | e => e

/-- What an anchor's CALL starts with. -/
def anchorPlan (s : State) : CallPlan := { op := 6, bound := some (nowNs s + 100000000) }

/-- ANCHOR (R442): BIND installs the key of the certificate in the Rig, ROLL the one its 64 octets carry. -/
def anchorCall (s : State) (m : CallMeta) (a : List Byte) (signedBy : Option KeyId) : State :=
  vtpCall s (callReq m 11 6 a) (fun s => anchorErr s m.vtp.session a signedBy) anchorPlan
    (fun s h =>
      let co := argAt a 1 1 = 1
      let s := if argAt a 0 1 = 0 then setKeys s fun k => { k with anchor := some s.cfg.validated.certKey, coSign := co }
               else setKeys s fun k => { k with anchor := some (argAt a 2 64), coSign := co, rollCtr := argAt a 66 4 }
      endCall s h .done .ok)

/-- What refuses an entry of a key batch (R443), with what it meets. -/
def keyEntryErr (s : State) (e : KeyEntry) (x : KeySecret) : Err :=
  if s.keys.anchor = none || x.signedBy ≠ s.keys.anchor || unwrapped x.z e = none then .signature
  else if e.ctr ≤ s.keys.importCtr then .range
  else if e.slot < 0x1000 then (if (natEnt s e.slot).isSome then .ok else .range)
  else if 0x8000 + 10 ≤ e.slot && e.slot < 0x8000 + 64 then .ok else .range

/-- A handoff key restarts the counters of the neighbours that use its slot (R275). -/
def handoffKey (s : State) (slot : Nat) : State :=
  ((cCourses s).neighbours.zipIdx.filter fun n => n.1.keySlot = slot).foldl (fun s n =>
    let s := setLedr s fun l => { l with hoTx := tput l.hoTx n.2 floorZero, hoRx := tput l.hoRx n.2 floorZero }
    setNbr s n.2 fun _ => {}) s

/-- A device key: the counters accepted under it start at 0, their floor too (R272, R274). -/
def deviceKey (s : State) (i : Nat) (k : Key) : State :=
  let s := setLedr (setKeys s fun x => { x with device := tput x.device i k }) fun l => { l with devRx := tput l.devRx i floorZero }
  setDyn s i fun d => { d with devRx := 0 }

/-- One entry of a batch: its result word goes to the window. -/
def importKey (h : Nat) (s : State) (p : KeyEntry × KeySecret) : State :=
  let e := p.1
  let err := keyEntryErr s e p.2
  let s := match err with
    | .ok =>
      let k : Key := { key := (unwrapped p.2.z e).getD 0, born := nowSec s }
      let s := setKeys s fun x => { x with importCtr := e.ctr }
      if e.slot < 0x1000 then deviceKey s e.slot k
      else handoffKey (putShared s (e.slot - 0x8000) k) (e.slot - 0x8000)
    | _ => s
  callWord s h (pack [(24, err.code), (0, e.slot)])

/-- The key batch in staging: its entries, each with what it meets; an entry past those given verifies under no key. -/
def keyBatch (s : State) (l : List KeySecret) : List (KeyEntry × KeySecret) :=
  (keyEntriesOf (stagedBytes s)).zipIdx.map fun p => (p.1, nth l p.2 {})

/-- What a key import starts with: 10 ms for each entry. -/
def keyPlan (s : State) : CallPlan := { op := 5, size := 4, bound := some (nowNs s + 10000000 * (s.upd.xfer.length / 172)) }

/-- A batch is imported; octets that are no whole entry make it none. -/
def keyStart (s : State) (h : Nat) (l : List KeySecret) : State :=
  if !xferReady s 6 || s.upd.xfer.length % 172 ≠ 0 then updFail s h .range 0
  else endCall ((keyBatch s l).foldl (importKey h) s) h .done .ok

/-- KEY_IMPORT (R443). -/
def keyImport (s : State) (m : CallMeta) (a : List Byte) (l : List KeySecret) : State :=
  vtpCall s (callReq m 11 5 a) (fun s => plainErr s 5 a) keyPlan (fun s h => keyStart s h l)

/-! ## Lantern firmware distribution (R445 to R448) -/

/-- The targets the argument names: all lanterns and relays when COUNT is 0. -/
def distTargets (s : State) (a : List Byte) : List Nat :=
  let n := argAt a 10 2
  if n = 0 then (s.rad.nat.filter fun p => isLantern p.2).map Prod.fst else (List.range n).map fun i => argAt a (12 + 2 * i) 2

/-- The refusals of the distribution CALL. -/
def distErr (s : State) (a : List Byte) : Err :=
  let n := argAt a 10 2
  match updBusyErr s 4 with
  | .ok =>
    if a.length ≠ 12 + 2 * n || 256 < n || argAt a 0 1 = 0 || 8 < argAt a 0 1 then .range
    else if (distTargets s a).any fun i => !((natEnt s i).any isLantern) then .range else .ok
  | e => e

/-- Chunks of an image on a port: HALF where the light frame limit is below 180 octets (R448). -/
def chunksOn (s : State) (p length : Nat) : Nat :=
  let k := radCfg s p
  cdiv length (if limLight k < airOct k (psduOf 141) then 64 else 128)

/-- The state of the distribution. -/
def setDist (s : State) (f : DistOp → DistOp) : State := setUpd s fun u => { u with dist := f u.dist }

/-- The CALL of the distribution that runs. -/
def distCall (s : State) : Option Nat :=
  match s.upd.work with
  | some (h, .dist _) => some h
  | _ => none

/-- A target of the distribution changed. -/
def setTarget (s : State) (i : Nat) (f : DistTarget → DistTarget) : State :=
  setDist s fun d => { d with targets := d.targets.map fun t => if t.nat = i then f t else t }

/-- PROGRESS counts targets with a final outcome. -/
def distProgress (d : DistOp) : Nat :=
  if d.targets = [] then 0 else (d.targets.filter fun t => t.outcome ≠ 0).length * 10000 / d.targets.length

/-- A target's outcome (R447): a window entry and an OUTCOME record of KIND 1. -/
def distOutcome (s : State) (h i outcome : Nat) : State :=
  let s := setTarget s i fun t => { t with outcome := outcome }
  let fw := ((s.upd.dist.targets.find? fun t => t.nat = i).map DistTarget.fw).getD 0
  let s := callWord s h (pack [(28, outcome), (16, i), (0, fw)])
  let s := outcomeRecord s .upd (callHandle s h) 1 i outcome
  setCall s h fun c => { c with progress := min 9999 (distProgress s.upd.dist) }

/-- FW_OFFER to a target, or OUT_OF_CONTACT. -/
def distOffer (h : Nat) (s : State) (i : Nat) : State :=
  if !inContact s i then distOutcome s h i 3
  else
    let m := s.upd.dist.image
    let p := ((natEnt s i).getD {}).port
    queueCommand s i 7 (leBytes 2 m.hash8.toNat ++ leBytes 2 m.model ++ leBytes 2 m.version ++ leBytes 4 m.length ++
      leBytes 3 (chunksOn s p m.length) ++ leBytes 8 m.hash8.toNat)

/-- The distribution begins with its offers. -/
def distStart (s : State) (h : Nat) (a : List Byte) : State :=
  let m := lanternImageOf (stagedBytes s)
  if !xferReady s 5 then updFail s h .range 0
  else if !m.magicOk || m.length ≠ s.upd.xfer.length then updFail s h .imageFormat 0
  else
    let l := distTargets s a
    let d : DistOp := { image := m, targets := l.map fun i => { nat := i }, rounds := argAt a 0 1, round := 1, phase := 1, actAt := argAt a 2 8,
                        total := cdiv m.length 128 }
    let s := setUpd s fun u => { u with dist := d, work := some (h, .dist d) }
    l.foldl (distOffer h) s

/-- What a distribution's CALL starts with. -/
def distPlan (_ : State) : CallPlan := { op := 4, size := 4 }

/-- LANTERN_FIRMWARE_DISTRIBUTION (R446): no bound. -/
def distApply (s : State) (m : CallMeta) (a : List Byte) : State :=
  vtpCall s (callReq m 11 4 a) (fun s => distErr s a) distPlan (fun s h => distStart s h a)

/-- Ports that serve a target without a final outcome. -/
def distPorts (s : State) : List Nat :=
  (List.range 4).filter fun p => s.upd.dist.targets.any fun t => t.outcome = 0 && ((natEnt s t.nat).any fun e => e.port = p)

/-- A command of the distribution still queued for a target. -/
def distQueued (s : State) (cmd : Nat) : Bool :=
  s.rad.ports.any fun x => x.uni.any fun u => u.kind = .command && u.cmd = cmd && u.call = none

/-- A round begins: chunks 0 to TOTAL − 1 on every port that serves a target. -/
def distRound (s : State) : State :=
  let len := s.upd.dist.image.length
  let s := (distPorts s).foldl (fun s p => setRadPort s p fun x => { x with bulk := [(0, chunksOn s p len)] }) s
  setDist s fun d => { d with phase := 2, sent := 0 }

/-- The feeder of a target. -/
def targetFeeder (s : State) (i : Nat) : Nat :=
  (((natEnt s i).bind fun e => chanCfg s e.channel).map ChanCfg.feeder).getD 0

/-- The data of FW_ACTIVATE. -/
def activateData (s : State) (apply_ : Nat) : List Byte :=
  leBytes 2 s.upd.dist.image.hash8.toNat ++ leBytes 8 s.upd.dist.image.hash8.toNat ++ leBytes 3 apply_

/-- FW_ACTIVATE to the open targets (R447): at most STAGGER of a feeder restart in one superframe, the first a minute ahead (log entry 80). -/
def distActivate (s : State) : State :=
  let open_ := s.upd.dist.targets.filter fun t => t.outcome = 0
  let base := (nowSec s + 60) * 100
  let s := open_.zipIdx.foldl (fun s t =>
    let f := targetFeeder s t.1.nat
    let rank := ((open_.take t.2).filter fun u => targetFeeder s u.nat = f).length
    let apply_ := base + rank / max 1 (staggerEff s) * 100
    queueCommand (setTarget s t.1.nat fun x => { x with activated := true, apply_ := apply_ }) t.1.nat 8 (activateData s apply_)) s
  setDist s fun d => { d with phase := 3 }

/-- While the mode is EVENT or higher no FW_ACTIVATE is sent: those not yet sent are withdrawn and queued again when the mode falls. -/
def distWithhold (s : State) : State :=
  let waits := s.rad.ports.flatMap fun x => (x.uni.filter fun u => u.kind = .command && u.cmd = 8 && u.tries = 0).map Unicast.node
  let s := setRad s fun r => { r with ports := r.ports.map fun (x : RadPort) =>
    { x with uni := x.uni.filter fun u => !(u.kind = .command && u.cmd = 8 && u.tries = 0) } }
  if waits = [] then s else waits.foldl (fun s i => setTarget s i fun t => { t with activated := false }) s

/-- FW_ACTIVATE not sent yet keeps its APPLY at least 1 s ahead (R447). -/
def distRefresh (s : State) : State :=
  setRad (s.upd.dist.targets.foldl (fun s t =>
      if t.activated && t.outcome = 0 && t.apply_ < absStroke (nowNs s) + 110 &&
          (s.rad.ports.any fun x => x.uni.any fun u => u.node = t.nat && u.cmd = 8 && u.tries = 0) then
        setTarget s t.nat fun x => { x with apply_ := x.apply_ + 100 } else s) s) fun r =>
    { r with ports := r.ports.map fun (x : RadPort) =>
      { x with uni := x.uni.map fun (u : Unicast) =>
        if u.kind = .command && u.cmd = 8 && u.tries = 0 then
          match s.upd.dist.targets.find? fun t => t.nat = u.node with
          | some t => { u with data := activateData s (if t.apply_ < absStroke (nowNs s) + 110 then t.apply_ + 100 else t.apply_) }
          | none => u
        else u } }

/-- The distribution ends. -/
def distEnd (s : State) (h : Nat) (st : CallSt) : State :=
  let s := setRad s fun r => { r with ports := r.ports.map fun (x : RadPort) => { x with bulk := [] } }
  updEnd (setDist s fun d => { d with phase := 0 }) h st .ok

/-- Every target has an outcome: UNCONFIRMED targets in contact get another round while rounds remain, else the CALL is DONE. -/
def distFinals (s : State) (h : Nat) : State :=
  let d := s.upd.dist
  if d.targets.any fun t => t.outcome = 0 then s
  else
    let again := d.targets.filter fun t => t.outcome = 2 && inContact s t.nat
    if d.round < d.rounds && again ≠ [] then
      let s := again.foldl (fun s t => setTarget s t.nat fun t => { t with outcome := 0, activated := false }) s
      distRound (setDist s fun d => { d with round := d.round + 1 })
    else distEnd s h .done

/-- The distribution's step in a Recovery (R447). -/
def distStep (s : State) : State :=
  match distCall s with
  | none => s
  | some h =>
    let d := s.upd.dist
    let most := (s.rad.ports.map fun x => ((x.bulk.head?.map Prod.fst).getD 0)).foldl max 0
    let s := if d.phase = 2 then setDist s fun d => { d with sent := most } else s
    let s :=
      if d.phase = 1 then (if distQueued s 7 then s else distRound s)
      else if d.phase = 2 then
        if (s.rad.ports.all fun x => match x.bulk with
            | [(c, t)] => t ≤ c
            | _ => true) && d.actAt ≤ nowSec s && s.crs.mode < 4 then distActivate s else s
      else if d.phase = 3 then
        if 4 ≤ s.crs.mode then distWithhold s
        else if d.targets.any fun t => t.outcome = 0 && !t.activated then distActivate (distWithhold s)
        else distRefresh s
      else s
    distFinals s h

/-- A report of a target (R447): FW as last reported; CONFIRMED when it comes after APPLY with the new version. -/
def distReport (s : State) (i sfd fw : Nat) : State :=
  match distCall s with
  | none => s
  | some h =>
    match s.upd.dist.targets.find? fun t => t.nat = i with
    | none => s
    | some t =>
      let s := setTarget s i fun x => { x with fw := fw }
      if t.outcome = 0 && t.activated && t.apply_ * strokeNs ≤ sfd && fw = s.upd.dist.image.version then distOutcome s h i 1 else s

/-- DISTRIBUTION_OUTCOME_TIMEOUT (R447): 2 × UP_PERIOD + 60 s after APPLY. -/
def distTimeout (s : State) (i : Nat) : State :=
  match distCall s with
  | none => s
  | some h =>
    match s.upd.dist.targets.find? fun t => t.nat = i && t.outcome = 0 && t.activated with
    | none => s
    | some t => distOutcome (advanceTo s (t.apply_ * strokeNs + (2 * ((natEnt s i).getD {}).upPeriod + 60) * giga)) h i 2

/-- LANTERN_REPORT (R296): delivered to LGT, EVQ, reconciliation and a distribution under way. -/
def lanternReport (s : State) (f : RxFrame) (b : LanternBody) : State :=
  let r := rxReport s f 6 6
  match r.2 with
  | none => r.1
  | some i =>
    let s := lanternReported r.1 i f b
    let s := lanReport s i (sfdOf s f) b.energy b.power
    distReport s i (sfdOf s f) b.fw

/-! ## Exports (R469) -/

/-- FEEDERS or UNITS, FROM, TO. -/
def exportErr (a : List Byte) : Err := if a.length ≠ 12 then .range else .ok

/-- The export begins with the entries it matched. -/
def exportStart (s : State) (h : Nat) (l : List (List Byte)) : State :=
  exportRun (setCall s h fun c => { c with todo := l, matched := l.length }) h (l.length + 1)

/-- What an export's CALL starts with. -/
def exportPlan (_ : State) : CallPlan := { op := 1, size := 32 }

/-- PROFILE_EXPORT: a flash read that FLASH_TMO has announced ends the CALL. -/
def profileExport (s : State) (m : CallMeta) (a : List Byte) : State :=
  vtpCall s (callReq m 8 1 a) (fun _ => exportErr a) exportPlan
    (fun s h =>
      let w := flashWrite s .cfg id
      if w.2 then exportStart w.1 h ((profileMatches s (argAt a 4 4) (argAt a 8 4) (argAt a 0 1)).map recordBytes)
      else endCall w.1 h .failed .flashTmo)

/-- CAPTURE_EXPORT: the capture log from its oldest entry on. -/
def captureExport (s : State) (m : CallMeta) (a : List Byte) : State :=
  vtpCall s (callReq m 2 1 a) (fun _ => exportErr a) exportPlan
    (fun s h =>
      let l := s.led.capLog.filter fun c =>
        argAt a 0 1 / 2 ^ c.unit_ % 2 = 1 && argAt a 4 4 ≤ c.stamp / (2 * giga) % frac && c.stamp / (2 * giga) % frac < argAt a 8 4
      exportStart s h (l.map captureBytes))

/-! ## CALLs of SYS and CANCEL (R468, R473) -/

/-- The station a station reset's CALL names. -/
def resetArg (a : List Byte) : Option Stn := Stn.ofIdx (argAt a 0 1)

/-- The refusals of a station reset's CALL. -/
def stationResetErr (s : State) (a : List Byte) : Err :=
  if a.length ≠ 1 || s.modp = .recovery || (resetArg a).isNone then .range else .ok

/-- What a station reset's CALL starts with: QUEUED until its reset starts while another runs or waits, and otherwise RUNNING (R35, R466). -/
def stationResetPlan (a : List Byte) (s : State) : CallPlan :=
  { op := 1, queued := s.cox.resetting.isSome || s.cox.faults ≠ [], bound := some (resetBound s ((resetArg a).getD .sys)) }

/-- STATION_RESET_CALL (R35, R468). -/
def stationResetCall (s : State) (m : CallMeta) (a : List Byte) : State :=
  vtpCall s (callReq m 0 1 a) (fun s => stationResetErr s a) (stationResetPlan a)
    (fun s h => stationResetAsked s h ((resetArg a).getD .sys))

/-- What a module reset's CALL starts with. -/
def moduleResetPlan (s : State) : CallPlan := { op := 2, bound := some (nowNs s + 100000000) }

/-- MODULE_RESET_CALL: answered DONE; the reset is owed 100 ms after the reply leaves, on the service port at once. -/
def moduleResetCall (s : State) (m : CallMeta) (a : List Byte) : State :=
  vtpCall s (callReq m 0 2 a) (fun _ => if a ≠ [] then .range else .ok) moduleResetPlan
    (fun s h =>
      let s := endCall s h .done .ok
      { s with sys := { s.sys with resetAt := some (s.tim.cyc + msCyc 100), resetCause := 8 }
               vtp := { s.vtp with resetReply := if (sess s m.vtp.session).port = 2 then none else some (m.vtp.session, m.vtp.tid) } })

/-- Whether a CALL can still be cancelled (R473). -/
def cancelErr (s : State) (h : Nat) : Err :=
  let c := call s h
  if !callLive c then .ok
  else if c.station = 0 then (if c.op = 1 && c.state = .queued then .ok else .range)
  else if c.station = 4 && c.op = 1 then .range
  else
    match s.upd.work with
    | some (w, .image o) => if w = h && o.started then .range else .ok
    | some (w, .rig _) => if w = h then .range else .ok
    | _ => .ok

/-- The unicast of a node send is withdrawn; it reads UNCONFIRMED if it has been sent. -/
def sendWithdrawn (s : State) (h : Nat) : State :=
  match (List.range 4).findSome? fun p => ((radPort s p).uni.find? fun u => u.call = some h).map fun u => (p, u) with
  | none => s
  | some (p, u) =>
    let s := dropUni s p u
    if u.tries = 0 then s else callWord s h (pack [(28, 2), (16, u.node)])

/-- What cancelling a CALL does (R473). -/
def cancelEffect (s : State) (h : Nat) : State :=
  let c := call s h
  if c.station = 0 then
    match Stn.ofIdx c.arg with
    | some n =>
      if s.cox.faults.contains (n, .call) then
        let s := { s with cox := { s.cox with faults := s.cox.faults.erase (n, .call) } }
        if (stn s n).state = .fault && !(s.cox.faults.any fun f => f.1 = n) then
          endCall (setStn s n fun r => { r with state := .ready }) h .cancelled .ok
        else endCall s h .cancelled .ok
      else endCall s h .cancelled .ok
    | none => endCall s h .cancelled .ok
  else if c.station = 4 && c.op = 3 then endCall (sendWithdrawn s h) h .cancelled .ok
  else if c.station = 4 && c.op = 2 then
    let s := endCall s h .cancelled .ok
    match s.rad.scan with
    | some x => if x.call = h then nextScan (scanRelease s x) else s
    | none => s
  else if c.station = 11 && c.op = 4 then
    let s := (s.upd.dist.targets.filter fun t => t.outcome = 0).foldl (fun s t => distOutcome s h t.nat 2) s
    distEnd s h .cancelled
  else if c.station = 11 then updEnd s h .cancelled .ok
  else endCall s h .cancelled .ok

/-- CANCELs whose boundary has come. -/
def cancelDues (s : State) : State :=
  (List.range 8).foldl (fun s h =>
    match (call s h).cancelAt with
    | some b =>
      if b ≤ s.cox.count then
        let s := setCall s h fun c => { c with cancelAt := none }
        if callLive (call s h) && cancelErr s h = .ok then cancelEffect s h else s
      else s
    | none => s) s

/-- CANCEL (R458, R465, R473): takes effect at the next stroke boundary. -/
def cancelServe (q : VtpReq) (handle : Nat) (s : State) : State × VtpReply :=
  match handleRec s handle with
  | none => (s, replyOf q .handle [])
  | some h =>
    match cancelErr s h with
    | .ok =>
      let s := if callLive (call s h) then setCall s h fun c => { c with cancelAt := some (dueBoundary s) } else s
      (s, replyOf q .ok [callStatus (call s h)])
    | e => (s, replyOf q e [])

/-! ## UPD at a start, and its registers (R451) -/

/-- UPD resumes a transfer at NEXT (R429). -/
def updStart (s : State) : State :=
  setUpd s fun _ =>
    match s.led.xfer with
    | some x => { xfer := { x with busy := false, lastAt := s.tim.cyc }, lenReg := x.length }
    | none => {}

/-- The outcome of an activation once the start is steady (R435). -/
def updSteady (s : State) : State :=
  if !s.led.updPending then s
  else
    let l := s.led.updLast
    let ok := s.sys.start.mode = .normal
    (ledgerWrite s .upd fun s =>
      { s with led := { s.led with updPending := false,
                                   updLast := { l with state := if ok then 4 else 5, err := if ok then .ok else .startFailed } } }).1

/-- The OP of UPD_STATUS: the operation that runs. -/
def updOp (s : State) : Nat × Nat :=
  match s.upd.work with
  | some (h, _) => ((call s h).op, h)
  | none => (0, 0)

/-- Codes of a transfer's STATE. -/
def XferSt.code : XferSt → Nat
  | .idle => 0 | .open_ => 1 | .complete => 2

/-- UPD's registers. -/
def updRead (s : State) (off : Nat) : Word :=
  let x := s.upd.xfer
  let d := s.upd.dist
  let op := updOp s
  let l := s.led.updLast
  match off with
  | 0x0000 => 0x100#32
  | 0x0004 => if op.1 = 0 then 0 else pack [(28, op.1), (24, (call s op.2).state.code), (0, callHandle s op.2)]
  | 0x0008 => w32 (imgVersion s.cfg.image)
  | 0x000C => w32 s.cfg.imageSlot
  | 0x0010 => w32 (hdrNow s).verA
  | 0x0014 => w32 (hdrNow s).verB
  | 0x0018 => pack [(28, l.op), (24, l.state), (16, l.err.code), (0, l.handle)]
  | 0x0020 => pack [(28, x.state.code), (24, x.kind), (16, x.slot)]
  | 0x0024 => w32 s.upd.lenReg
  | 0x0028 => pack [(31, b2n x.busy), (16, x.err.code), (0, x.next)]
  | 0x002C => w32 s.upd.blkCrc
  | 0x0040 => pack [(31, b2n s.keys.anchor.isSome), (30, b2n s.keys.coSign), (0, s.keys.rollCtr % 65536)]
  | 0x0044 => w32 s.keys.importCtr
  | 0x0048 => w32 (s.keys.importCtr / frac)
  | 0x0050 => if (distCall s).isNone then 0 else pack [(28, d.phase), (24, d.round), (0, d.sent)]
  | 0x0054 => w32 d.total
  | 0x0058 => w32 d.image.hash8.toNat
  | 0x005C => w32 (d.image.hash8.toNat / frac)
  | 0x0060 => w32 s.cfg.calGen
  | _ => if 0x10000 ≤ off ∧ off < 0x11000 then tgetD s.upd.win ((off - 0x10000) / 4) 0 else 0

end Sys2Proof.Machine
end

