-- ==== Sys2Proof/Machine/Start.lean ====
section
/-! DEFINITION. Starts: what a module reset keeps, the boot ROM's choice of an image, the Rigger's work at a start, PADDLE and ROM recovery, the
start record and the steadiness test (R77, R90, R97 to R129), with SYS's registers (R477). -/
namespace Sys2Proof.Machine

/-! ## Start count and images (R105, R107 to R109) -/

/-- A start-count copy with a valid pair (R107): its value. -/
def countOf (c : Option CountPair) : Option Nat :=
  match c with
  | some p => if p.val + p.neg = 0xFFFFFFFF then some p.val else none
  | none => none

/-- The value of the start count that a start uses, none when neither copy is valid (R108). Of two valid copies with equal COUNT the AON store's is
taken (log entry 112). -/
def countChosen (s : State) : Option Nat :=
  match countOf s.aon.count, countOf s.led.count with
  | some a, some b => some (if a % 16 < b % 16 then b else a)
  | some a, none => some a
  | none, b => b

/-- An image that verifies (R105, R431). -/
def imageVerifies (s : State) (i : Option Image) : Bool :=
  match i with
  | some i => imgFormatOk i && imgHashesOk i && imageSigned s i
  | none => false

/-- What the boot ROM chose: mode, slot and COUNT stored. -/
structure BootChoice where
  mode : StartMode := .normal
  slot : Nat := 0
  count : Nat := 0
  deriving DecidableEq, Repr

/-- R108's selection and R109's fallbacks in the same start. -/
def bootChoice (s : State) (active count : Nat) : BootChoice :=
  let ok := fun k => imageVerifies s (imageInSlot s k)
  let other := 1 - active
  let paddle : Nat → BootChoice := fun c =>
    if ok active then { mode := .paddle, slot := active, count := c }
    else if ok other then { mode := .paddle, slot := other, count := c }
    else { mode := .romRecovery, slot := 0xF, count := c }
  let repechage : Nat → BootChoice := fun c =>
    if ok other then { mode := .repechage, slot := other, count := c } else paddle 6
  if count < 3 then (if ok active then { mode := .normal, slot := active, count := count } else repechage 3)
  else if count < 6 then repechage count
  else paddle count

/-- Causes whose reset counts a start still in progress as failed (R106, R108). -/
def countedCause (c : Nat) : Bool := c = 0x03 || c = 0x10 || c = 0x11

/-! ## What a module reset leaves -/

/-- The state a module reset leaves before its start (R36, R99, R107, R477): what outlives it, and every other field at its reset value. The
hold stays latched only for a wake reset (R423). -/
def afterReset (s : State) (wake : Bool) : State :=
  let p := s.pins
  let r := rtcStationReset s
  { State.reset with
    bankA := s.bankA, bankB := s.bankB, flash := s.flash, led := s.led, ledr := s.ledr, ledm := s.ledm, ledBad := s.ledBad, flashBad := s.flashBad,
    keys := s.keys, aon := s.aon, rtc := r.rtc, free := s.free, ahead := s.ahead, pending := s.pending
    tim := { cyc := s.tim.cyc }
    pins := { srvEn := p.srvEn, pfi := p.pfi, pfiRise := p.pfiRise, wakeCmp := p.wakeCmp, vin := p.vin, vbat := p.vbat, latch := if wake then p.latch else {} }
    pwr := { state := .drive, since := s.tim.cyc, updAt := s.tim.cyc, stat := s.pwr.stat, last := s.pwr.last, steps := s.pwr.steps,
             events := s.pwr.events, entries := s.pwr.entries, abandoned := s.pwr.abandoned, holdA := wake && s.pwr.holdA, holdB := wake && s.pwr.holdB }
    sys := { ({} : SysState) with timerOn := true, timerAt := s.tim.cyc } }

/-- The seconds spent in EASY go to the ledger as EASY ends (R425). -/
def easyTimed (s : State) : State :=
  if s.modp = .easy then
    (ledgerWrite s .pwr fun s => { s with led := { s.led with easyTime := s.led.easyTime + (s.tim.cyc - s.pwr.since) / 250000000 } }).1
  else s

/-! ## The Rigger at a start (R117 to R126) -/

/-- A Rig reduced to what PADDLE needs of one that fails validation (R114). -/
def paddleRig (r : Rig) : Rig :=
  { r with guarantee := none, board := none, radio := none, nodes := none, duty := none, light := none, courses := none, schedules := none,
           meter := none, time := none, power := none }

/-- What the Rigger made of the Rigs. -/
structure RigChoice where
  slot : Nat := 0xF
  rig : Rig := {}
  findings : List Finding := []
  valid : Bool := false
  fallback : Bool := false
  migrated : Bool := false
  deriving DecidableEq, Repr

/-- Validation of the Rig in a slot; a blank slot fails stage 1 (R118). -/
def validateSlot (s : State) (k : Nat) : List Finding × Rig × Bool :=
  match rigInSlot s k with
  | some r => validateRig (rigCtx s (rigInSlot s (1 - k))) r
  | none => ([{ code := .rigSyntax, typ := 0, item := 0 }], {}, false)

/-- Whether the Rig in a slot passes its signature check (R114). -/
def slotSigned (s : State) (k : Nat) : Bool :=
  match rigInSlot s k with
  | some r => rigSigned (rigCtx s (rigInSlot s (1 - k))) r
  | none => false

/-- The Rig a start runs on (R114, R117): the active one, else the other, else the two sections of one that is signed. -/
def rigChoice (s : State) (active : Nat) : RigChoice :=
  let other := 1 - active
  let a := validateSlot s active
  if a.1.isEmpty then { slot := active, rig := a.2.1, valid := true, migrated := a.2.2 }
  else
    let b := validateSlot s other
    if b.1.isEmpty then { slot := other, rig := b.2.1, findings := a.1, valid := true, fallback := true, migrated := b.2.2 }
    else
      let l := a.1 ++ b.1
      if slotSigned s active then { slot := active, rig := paddleRig ((rigInSlot s active).getD {}), findings := l }
      else if slotSigned s other then { slot := other, rig := paddleRig ((rigInSlot s other).getD {}), findings := l, fallback := true }
      else { findings := l }

/-- Bits of a list of Trims. -/
def trimBits (l : List Trim) : Nat := (l.map fun t => 2 ^ t.index).foldl (· + ·) 0

/-- DETAIL names the bank of a BANK_LEVEL finding that the start record carries (R76, log entry 102); item 0 is VIOA, 1 VIOB. -/
def bankDetail (l : List Finding) (d : Nat) : Nat :=
  match l.find? fun f => f.code ≠ .trim with
  | some f => if f.code = .bankLevel then f.item else d
  | none => d

/-- The Rig, its Trims and the findings are taken; the stations' sections are delivered (R101, R117, R124). -/
def rigTaken (s : State) (active : Nat) : State :=
  let c := rigChoice s active
  let t := if c.valid then validateTrims (rigCtx s (rigInSlot s (1 - c.slot))) c.rig (trimsInRegion s.flash.trims) else ([], [])
  let s := recordFindings s (c.findings ++ t.1)
  let st := s.sys.start
  { s with
    cfg := { s.cfg with rigSlot := c.slot, validated := c.rig, loaded := c.rig, trims := t.2,
                        migrate := if c.migrated then some (1 - c.slot, c.rig) else none }
    sys := { s.sys with start := { st with
      detail := bankDetail (c.findings ++ t.1) st.detail
      rig := c.slot, mode := if c.valid then st.mode else .paddle, migrated := c.migrated, unbound := s.keys.anchor.isNone, rigFallback := c.fallback,
      rigInvalid := !c.valid, finding := (firstFinding (c.findings ++ t.1)).code, trimsOk := trimBits t.2,
      trimRefused := c.valid && t.2.length < (trimsInRegion s.flash.trims).length } } }

/-- The calibration archive (R126, R440): binning records and the metering record, those whose CRC and pairs hold. -/
def calTaken (s : State) : State × List (Nat × BinRecord) × MeterRecord :=
  match calHalf s with
  | some (k, h) =>
    let m := validMeter h
    let bins := validBins h
    ({ s with cfg := { s.cfg with calHalf := k, calGen := calGeneration h, bins := bins, meter := m } }, bins, m)
  | none => (s, [], {})

/-- The stations take what they keep from the ledger and their sections (R101): RAD and SEC, UPD, and LGT, CRS and MTR unless PADDLE holds them (R111). -/
def stationsLoaded (s : State) : State :=
  let c := calTaken s
  let s := updStart (radStart c.1)
  if s.sys.start.mode = .paddle then { s with ledm := { s.ledm with heldInPaddle := true } }
  else mtrStart (crsStart (lgtStart s c.2.1)) c.2.2

/-- Records that PWR owes (R421). -/
def wakeEvents (s : State) : State :=
  let l := s.pwr.events
  let s := setPwr s fun x => { x with events := [] }
  l.foldl (fun s e => event s .pwr e.1 e.2.1 e.2.2.1 e.2.2.2) s

/-- Firmware runs: stations are LOADING, in PADDLE those it does not run HELD (R101, R111); SYS_STARTS counts (R477); the ageing offset comes from
its stores (R363). -/
def firmwareUp (s : State) (active : Nat) : State :=
  let s := { s with modp := .starting, stns := s.stns.map fun r => { r with state := .loading } }
  let s := (ledgerWrite s .sys fun s => { s with led := { s.led with starts := (s.led.starts + 1) % frac } }).1
  let s := agingSet s ((agingStored s).getD s.rtc.aging)
  let s := rigTaken s active
  let s := stationsLoaded s
  let s := if s.sys.start.mode = .paddle then paddleHeld.foldl (fun s n => setStn s n fun r => { r with state := .held }) s else s
  wakeEvents s

/-- The service session opens while SRV_EN is high (R456). -/
def serviceOpen (s : State) : State :=
  if s.pins.srvEn then openSession { s with pins := { s.pins with srvTxd := .high } } 3 2 0 false else s

/-- Whether this start follows a failed one: the chosen count was in progress and the cause counts (R108). -/
def startFailed (s : State) (cause : Nat) : Bool := ((countChosen s).getD 0) / 16 % 2 = 1 && countedCause cause

/-- The failed starts in a row that this start has behind it (R108). -/
def failedStarts (s : State) (cause : Nat) : Nat :=
  if startFailed s cause then min (((countChosen s).getD 0) % 16 + 1) 15 else ((countChosen s).getD 0) % 16

/-- What the boot ROM selects (R108, R109). -/
def startChoice (s : State) (cause : Nat) : BootChoice := bootChoice s ((hdrNow s).image % 2) (failedStarts s cause)

/-- The boot ROM's record of the start (R107, R129); `b` is the state before the count was written. -/
def bootRecord (s b : State) (c : BootChoice) (cause detail : Nat) : State :=
  { s with
    cfg := { s.cfg with
      usedCopy := (hdrUsed b.flash).getD 0, imageSlot := c.slot, image := (imageInSlot s c.slot).getD {}
      area := ((imageInSlot s c.slot).map imgSections).getD [] }
    sys := { s.sys with lastFailed := startFailed b cause,
                        start := { cause := cause, detail := detail, image := c.slot, mode := c.mode, count := failedStarts b cause,
                                   countLost := (countChosen b).isNone, headerLost := (hdrUsed b.flash).isNone } } }

/-- The boot ROM stays in its recovery, or starts the firmware with a Rig slot (R109, R113). -/
def bootOn (s : State) (c : BootChoice) (rig : Nat) : State :=
  if c.mode = .romRecovery then
    serviceOpen { s with modp := .recovery, cfg := { s.cfg with image := {}, area := [] }, sys := { s.sys with timerOn := false } }
  else serviceOpen (firmwareUp s rig)

/-- CFG resets the flash at a module reset (R84): QSPI_RST_N low for 10 µs, the SFDP software reset, then the quad-enable bit. -/
def flashReset (s : State) : State :=
  { s with cfg := { s.cfg with flashSteps := [.pulse, .softReset, .quadEnable], flashRstUntil := s.tim.cyc + 2500 }
           flash := { s.flash with quadEn := true }
           pins := { s.pins with qspiCs := .high, qspi := .low, qspiRst := .high } }

/-- START (R101, R108): from a released reset to stations that load. `cause` as R129; `wake` for a wake reset. -/
def startModule (s : State) (cause detail : Nat) (wake : Bool) : State :=
  let b := flashReset (afterReset (easyTimed s) wake)
  let c := startChoice b cause
  bootOn (bootRecord (writeCount b c.count true) b c cause detail) c ((hdrNow b).rig % 2)

/-! ## Events that start the module -/

/-- An uncorrectable guard-code error before the boot ROM hands over ends a start that has just begun: module reset, a failed start (R64, R106, R129). -/
def bootRetry (s : State) : State :=
  if s.ahead.bootUe && (s.modp = .starting || s.modp = .recovery) && s.sys.timerAt = s.tim.cyc then startModule s 0x11 0 false else s

/-- The level of a bank measured in mV (R76). -/
def bankLevel (mv : Nat) : BankLevel :=
  if 1620 ≤ mv && mv ≤ 1980 then .v18 else if 2970 ≤ mv && mv ≤ 3630 then .v33 else .notValid

/-- The supply has come back: banks are measured; an AON store that VIN below 1.8 V has lost is blank (R76, R108); without VBAT the calendar
starts (R89). -/
def supplied (s : State) (a b : Nat) (aonLost : Bool) : State :=
  vaonUp
    { s with bankA := bankLevel a, bankB := bankLevel b, pins := { s.pins with vin := true }, aon := if aonLost then {} else s.aon,
             pwr := if aonLost then {} else { s.pwr with events := s.pwr.events }, modp := .off }

/-- CAUSE and DETAIL of a power-on reset (R128, R129): POR, or BANK with the bank that kept the module in reset (log entry 103). -/
def porCause (s : State) : Nat × Nat := if s.modp = .held then (0x05, b2n (s.bankA ≠ .notValid)) else (0x01, 0)

/-- POWER_ON_RESET (R77): VIN is back with both banks valid; with a bank that is not, the reset is not released. -/
def powerOnReset (s : State) (a b : Nat) (aonLost : Bool) : State :=
  if bankLevel a = .notValid || bankLevel b = .notValid then s
  else
    startModule (supplied s a b aonLost) (porCause s).1 (porCause s).2 false

/-- BANK_NOT_VALID (R77): the module stays in reset. -/
def bankNotValid (s : State) (bankB : Bool) (a b : Nat) (aonLost : Bool) : State :=
  if bankLevel (if bankB then b else a) ≠ .notValid then s
  else
    let s := afterReset (supplied s a b aonLost) false
    { s with modp := .held, sys := {}, pwr := { s.pwr with state := .off } }

/-- Whether firmware starts or runs: ROM recovery is left only by RESET_N, loss of VIN or the module-reset CALL (R113). -/
def firmwareRuns (s : State) : Bool := s.modp = .starting || s.modp = .running

/-- A POR that the PMU performs with VIN present (R76, R418, R421): it measures the banks, and with one not valid the module stays in reset (R77). -/
def pmuReset (s : State) (cause : Nat) : State :=
  let s := { s with bankA := bankLevel s.ahead.bankA, bankB := bankLevel s.ahead.bankB }
  if s.bankA = .notValid || s.bankB = .notValid then
    let s := afterReset (easyTimed s) false
    { s with modp := .held, sys := {}, pwr := { s.pwr with state := .off } }
  else startModule s cause 0 false

/-- BANK_FAULT (R78): a bank leaves its window while the module runs. -/
def bankFault (s : State) (bankB : Bool) : State := if firmwareRuns s then startModule s 0x05 (b2n bankB) false else s

/-- RESET_N (R90, R424): in EASY too. -/
def resetN (s : State) : State := if s.modp = .off || s.modp = .held then s else startModule s 0x02 0 false

/-- TCXO_FAILURE (R18). -/
def tcxoFailure (s : State) : State := if firmwareRuns s then startModule s 0x06 0 false else s

/-- WATCHDOG (R106): of running firmware; ROM recovery is not left by one (R113). -/
def watchdog (s : State) : State := if firmwareRuns s then startModule s 0x03 0 false else s

/-- STEADY_TMO (R127): 120 s from the reference without the steadiness test passed. -/
def steadyTmo (s : State) : State :=
  if s.sys.timerOn && firmwareRuns s then startModule (advanceCyc s (s.sys.timerAt + secCyc 120)) 0x10 0 false else s

/-- MODULE_RESET (R468): 100 ms after the reply to the CALL has left. -/
def moduleReset (s : State) : State :=
  match s.sys.resetAt, s.vtp.resetReply with
  | some t, none => startModule (advanceCyc s (max t (s.vtp.resetLeft + msCyc 100))) s.sys.resetCause 0 false
  | _, _ => s

/-- A module reset for an uncorrectable error in SYS memory (R64, R129). -/
def guardReset (s : State) : State := startModule s (if s.sys.start.steady then 0x04 else 0x11) 0 false

/-! ## The start record (R127, R128) -/

/-- Codes of modes. -/
def StartMode.code : StartMode → Nat
  | .normal => 1 | .repechage => 2 | .paddle => 3 | .romRecovery => 4

/-- SYS_START_CAUSE. -/
def startCauseWord (r : StartRec) : Word :=
  pack [(24, r.cause), (20, r.image), (16, r.rig), (12, r.mode.code), (8, r.count), (0, r.detail)]

/-- SYS_START_STATUS. -/
def startStatusWord (r : StartRec) : Word :=
  pack [(31, b2n r.steady), (30, b2n r.migrated), (29, b2n r.unbound), (28, b2n r.countLost), (27, b2n r.headerLost), (26, b2n r.rigFallback),
    (25, b2n r.trimRefused), (24, b2n r.rigInvalid), (16, r.finding), (0, r.trimsOk)]

/-- SYS_START_COUNT as stored, the AON store's copy where there is one (R69, R107). -/
def countPair (s : State) : CountPair := (s.aon.count.orElse fun _ => s.led.count).getD { neg := 0xFFFFFFFF }

/-- The value of SYS_START_COUNT. -/
def startCount (s : State) : Nat := (countPair s).val

/-- The start record goes to EVQ (R128, R402 TYPE 0x01). -/
def startRecord (s : State) : State :=
  let r := s.sys.start
  let w := fun (hi lo : Nat) => (BitVec.ofNat 64 (hi * frac + lo) : Word64)
  record s (eventQueue .sys) 0x01 .sys 0 (nowNs s) s.tim.qual.code
    [w (startCauseWord r).toNat (startStatusWord r).toNat, w r.ms (startCount s)]

/-- Whether every station that the mode runs reads a state (R111, R127): a power-gated UPD counts as up (R411). -/
def allStations (s : State) (st : StnSt) : Bool :=
  (Stn.all.filter fun n => !(s.sys.start.mode = .paddle && paddleHeld.contains n)).all fun n =>
    (stn s n).state = st || (n = .upd && s.pwr.updGated)

/-- STEADY (R110, R127): 1,000 strokes without a crab or a station fault. -/
def steady (s : State) : State :=
  let r := s.sys.start
  if !s.sys.timerOn || s.modp ≠ .running || s.sys.run < 1000 || !allStations s .running then s
  else
    let s := if r.mode = .repechage then
        (rewriteHeader s fun b => { b with image := s.cfg.imageSlot, imageN := 0xFFFFFFFF - s.cfg.imageSlot }).1 else s
    let s := writeCount s (if r.mode = .paddle then startCount s % 16 else 0) false
    let s := { s with sys := { s.sys with timerOn := false, start := { r with steady := true } } }
    startRecord (updSteady s)

/-- RIG_MIGRATION_WRITE (R121): the migrated Rig goes to the other slot, then the header names it. -/
def rigMigrationWrite (s : State) : State :=
  match s.cfg.migrate with
  | some (k, r) =>
    if s.modp ≠ .running then s
    else
      let s := { s with cfg := { s.cfg with migrate := none } }
      let w := flashWrite s .cfg fun s => { s with flash := if k = 0 then { s.flash with rigA := some r } else { s.flash with rigB := some r } }
      if w.2 then (rewriteHeader w.1 fun b => { b with rig := k, rigN := 0xFFFFFFFF - k, flags := 1 }).1 else w.1
  | none => s

/-! ## SYS's registers (R477) -/

/-- SYS_GUARD_LAST (R66). -/
def guardWord (g : GuardLast) : Word := pack [(31, b2n g.ue), (28, g.source), (23, g.owner), (18, g.span), (0, g.word)]

/-- SYS_STROKE (R29). -/
def sysStroke (s : State) : Word := pack [(8, s.cox.abs / 100 % 2 ^ 24), (0, s.cox.abs % 100)]

/-- Codes of session states. -/
def SessSt.code : SessSt → Nat
  | .closed => 0 | .handshake => 1 | .open_ => 2

/-- The registers of a session. -/
def sessRead (s : State) (i o : Nat) : Word :=
  let x := sess s i
  match o with
  | 0x0 =>
    if x.state = .closed then 0
    else pack [(28, x.state.code), (26, x.port), (25, b2n x.ipv6), (16, x.outstanding.length), (0, min 65535 ((s.tim.cyc - x.opened) / 250000000))]
  | 0x4 => w32 (min x.req (frac - 1))
  | 0x8 => w32 (min x.limit (frac - 1))
  | _ => w32 (min x.dup (frac - 1))

/-- The registers of a CALL record. -/
def callRead (s : State) (h o : Nat) : Word :=
  let c := call s h
  match o with
  | 0x00 => callStatus c
  | 0x04 => if c.state = .free then 0 else pack [(16, callHandle s h), (12, c.station), (0, c.op)]
  | 0x08 => w32 c.results
  | 0x0C => w32 c.taken
  | 0x10 => w32 c.size
  | 0x14 => w32 (if c.bounded then c.bound / giga % frac else 0)
  | 0x18 => w32 (if c.bounded then c.bound / giga / frac % 65536 else 0)
  | 0x1C => w32 (if c.bounded then c.bound % giga else 0)
  | 0x20 => w32 (c.admAt % frac)
  | _ => 0

/-- An octet of a result window (R467). -/
def winByte (c : CallRec) (o : Nat) : Byte := if c.size = 0 then 0 else nth (tgetD c.win (o / c.size) []) (o % c.size) 0

/-- The one-word registers of SYS. -/
def sysReadTop (s : State) (off : Nat) : Word :=
  match off with
  | 0x00 => 0x0D040100
  | 0x04 => w32 (Config.serial % frac)
  | 0x08 => w32 (Config.serial / frac)
  | 0x0C => w32 (Config.eui % frac)
  | 0x10 => w32 (Config.eui / frac)
  | 0x14 => w32 (imgVersion s.cfg.image)
  | 0x20 => sysStroke s
  | 0x24 => w32 (s.cox.skipped % frac)
  | 0x30 => w32 s.sys.ce
  | 0x34 => w32 s.sys.ue
  | 0x38 => w32 s.sys.passes
  | 0x3C => guardWord s.sys.last
  | 0x40 => w32 s.sys.pos
  | 0x50 => w32 (startCount s)
  | 0x54 => w32 (countPair s).neg
  | 0x58 => startCauseWord s.sys.start
  | 0x5C => startStatusWord s.sys.start
  | 0x60 => w32 s.sys.start.ms
  | 0x64 => w32 s.led.starts
  | 0x300 => w32 s.vtp.baud
  | 0x304 => pack [(16, s.vtp.srvDropped), (0, s.vtp.srvAccepted)]
  | _ => 0

/-- SYS's registers. -/
def sysRead (s : State) (off : Nat) : Word :=
  if off < 0x100 then sysReadTop s off
  else if off < 0x140 then (match Stn.ofIdx ((off - 0x100) / 4) with
    | some n => stnWord s n
    | none => 0)
  else if off < 0x180 then w32 ((s.stns.getD ((off - 0x140) / 4) {}).crabs)
  else if 0x200 ≤ off && off < 0x240 then sessRead s ((off - 0x200) / 16) (off % 16)
  else if off = 0x300 || off = 0x304 then sysReadTop s off
  else if 0x310 ≤ off && off < 0x328 then w32 (nth s.vtp.ip ((off - 0x310) / 4) 0)
  else if 0x1000 ≤ off && off < 0x1200 then callRead s ((off - 0x1000) / 64) (off % 64)
  else if 0x100000 ≤ off && off < 0x180000 then
    let c := call s ((off - 0x100000) / 65536)
    w32 (ofLe ((List.range 4).map fun i => winByte c (off % 65536 + i)))
  else 0

end Sys2Proof.Machine
end

