-- ==== Sys2Proof/Machine/Wake.lean ====
section
/-! DEFINITION. The wake from EASY: its sources, steps, failures and brown-outs (R88, R323, R365, R418 to R424). -/
namespace Sys2Proof.Machine

/-- The AON cycle of now. -/
def aonCycle (s : State) : Nat := s.tim.cyc * 32768 / 250000000

/-- The save list in the AON store follows the wake in progress (R417). -/
def wakeNoted (s : State) : State :=
  let a := s.aon
  let note := fun (r : SaveRec) =>
    SaveRec.of
      { r.v with last := s.pwr.last, steps := s.pwr.steps, failedWakes := a.failedWakes, slow := a.slow, easyLock := a.easyLock,
                 retryUsed := a.retryUsed, brownout := a.brownout }
  { s with aon := { a with save := a.save.map note } }

/-- The save list restores in step 4 (R420). -/
def saveGood (s : State) : Bool := s.aon.save.any SaveRec.ok

/-- A wake source is raised in EASY (R420): 1 WAKE_CMP, 2 alarm, 3 frame. Of several raised in one AON cycle the first in that order is recorded. -/
def startWake (s : State) (source port : Nat) : State :=
  if s.modp ≠ .easy then s
  else
    match s.pwr.wake with
    | some w =>
      if source < w.source && w.step = 1 && !s.aon.retryUsed && aonCycle s = w.startCyc * 32768 / 250000000 then
        setPwr s fun x => { x with wake := some { w with source := source, port := port } }
      else s
    | none =>
      wakeNoted <| setPwr s fun x =>
        { x with state := .waking, steps := [0, 0, 0, 0], last := { source := source, slow := s.aon.slow },
                 wake := some { source := source, port := port, startCyc := s.tim.cyc, stepCyc := s.tim.cyc } }

/-- WAKE_CMP (R88): the input has stayed above its threshold for 32 AON cycles. The 60 s of the day schedule begin anew (R412). -/
def wakeCmp (s : State) : State :=
  let s := setPwr { s with pins := { s.pins with wakeCmp := true } } fun x => { x with cmpQualifying := false, dayWait := false }
  if s.pwr.cmpArmed then startWake s 1 0 else s

/-- WAKE_FRAME (R323): a frame that matches is noted once the detector is armed (R419) and wakes the module in EASY. -/
def wakeFrame (s : State) (port : Nat) (o : List Byte) (fcsOk : Bool) : State :=
  if s.pwr.frameArmed && port = (cBackhaul s).wakePort && wakeMatches s port o fcsOk then startWake (setPwr s fun x => { x with frameMatched := true }) 3 port else s

/-- SECOND_END (R352), with the wake of an alarm in EASY (R365). -/
def secondEnds (s : State) : State :=
  let s := secondEnd s
  let wakes := fun (a : Alarm) => a.armed && a.wake && alarmMatches a s.rtc.cal
  if !s.rtc.rep && (wakes s.rtc.alarm0 || wakes s.rtc.alarm1) then startWake s 2 0 else s

/-- The timeout of a step in µs (R420). -/
def stepTimeout (slow : Bool) (step : Nat) : Nat :=
  nth (if slow then [4000, 10000, 8000, 2000] else [2000, 5000, 1000, 1000]) (step - 1) 0

/-- WAKE_STEP_READY (R420; of step 4, once the save list restores): the ready signal of the running step, `us` µs after the step began. After step 4 the wake reset is released. -/
def wakeStepReady (s : State) (us : Nat) : State :=
  match s.pwr.wake with
  | some w =>
    if s.pwr.state ≠ .waking || w.waiting || stepTimeout s.pwr.last.slow w.step < us || (w.step = 4 && !saveGood s) then s
    else
      let s := advanceCyc s (w.stepCyc + us * 250)
      let s := setPwr s fun x => { x with steps := upd x.steps (w.step - 1) fun _ => (s.tim.cyc - w.stepCyc) / 25000 }
      if w.step < 4 then wakeNoted (setPwr s fun x => { x with wake := some { w with step := w.step + 1, stepCyc := s.tim.cyc } })
      else
        let s := setPwr s fun x => { x with last := { x.last with source := w.source, result := b2n s.aon.retryUsed,
                                                                  lat := (s.tim.cyc - w.startCyc) / 25000 } }
        let s := if s.pwr.last.slow then { s with aon := { s.aon with slow := false } } else s
        startModule (wakeNoted s) (0x09 + w.source) (if w.source = 3 then w.port else 0) true
  | none => s

/-- The error of a failed step (R421). -/
def wakeErr (step : Nat) : Err := if step = 1 then .wakeTmoReg else if step = 2 then .wakeTmoOsc else .wakeTmoMem

/-- A record owed to the next start. -/
def oweEvent (s : State) (e : Nat × Nat × Nat × Nat) : State := setPwr s fun x => { x with events := x.events ++ [e] }

/-- A failed wake is counted (R421); the second in a row disables EASY. -/
def failedWake (s : State) (result : Nat) : State :=
  let n := s.aon.failedWakes + 1
  let s := (ledgerWrite { s with aon := { s.aon with failedWakes := n } } .pwr fun s =>
    { s with led := { s.led with wakeTotal := min 255 (s.led.wakeTotal + 1) } }).1
  let s := wakeNoted (setPwr s fun x => { x with last := { x.last with result := result } })
  if n ≥ 2 && !s.aon.easyLock then
    oweEvent (ledgerWrite { s with aon := { s.aon with easyLock := true } } .pwr fun s => { s with led := { s.led with easyLock := true } }).1
      (0x0A03, 0, 1, 0)
  else s

/-- WAKE_STEP_TIMEOUT (R421): back to EASY for a retry, or a POR after the second failure. -/
def wakeStepTimeout (s : State) : State :=
  match s.pwr.wake with
  | some w =>
    if s.pwr.state ≠ .waking || w.waiting then s
    else
      let t := stepTimeout s.pwr.last.slow w.step
      let s := advanceCyc s (w.stepCyc + t * 250)
      let s := setPwr s fun x => { x with steps := upd x.steps (w.step - 1) fun _ => t / 100 }
      if s.aon.retryUsed then
        let s := failedWake s 2
        let s := oweEvent s (0x0A02, w.step, (wakeErr w.step).code, s.aon.failedWakes)
        pmuReset s (if w.step = 1 then 0x0D else if w.step = 2 then 0x0E else 0x0F)
      else
        let s := oweEvent s (0x0A02, w.step, (wakeErr w.step).code, s.aon.failedWakes)
        wakeNoted <| setPwr { s with aon := { s.aon with retryUsed := true } } fun x =>
          { x with state := .easy, last := { x.last with failedStep := w.step },
                   wake := some { w with waiting := true, stepCyc := s.tim.cyc } }
  | none => s

/-- WAKE_RETRY (R421): 20 ms after the first failure the wake starts again at step 1. -/
def wakeRetry (s : State) : State :=
  match s.pwr.wake with
  | some w =>
    if s.modp = .easy && w.waiting then
      let s := advanceCyc s (w.stepCyc + msCyc 20)
      wakeNoted <| setPwr s fun x =>
        { x with state := .waking, steps := [0, 0, 0, 0], wake := some { w with waiting := false, step := 1, stepCyc := s.tim.cyc } }
    else s
  | none => s

/-- BROWNOUT (R418, R421, R422, R489): of VIN while the module runs, or of the low-power regulator in EASY; during a wake it is a failed wake. -/
def brownout (s : State) : State :=
  if moduleUp s then startModule s 0x07 0 false
  else if s.modp = .easy then
    match s.pwr.wake with
    | some _ => pmuReset (failedWake { s with aon := { s.aon with brownout := true, slow := true } } 3) 0x07
    | none => pmuReset s 0x07
  else s

/-- EASY_UNLOCK (R421): the record follows at the next start. -/
def easyUnlock (s : State) : State :=
  let locked := s.aon.easyLock || s.led.easyLock
  let s := (ledgerWrite { s with aon := { s.aon with easyLock := false, failedWakes := 0 } } .pwr fun s =>
    { s with led := { s.led with easyLock := false } }).1
  if locked then oweEvent s (0x0A03, 0, 0, 0) else s

/-- A start that reaches its first stroke after a wake (R421). -/
def wakeReached (s : State) : State :=
  if 0x0A ≤ s.sys.start.cause && s.sys.start.cause ≤ 0x0C then
    { s with aon := { s.aon with failedWakes := 0, retryUsed := false, brownout := false } }
  else s

end Sys2Proof.Machine
end

