-- ==== Sys2Proof/Machine/Vtp.lean ====
section
/-! DEFINITION. Register access by VTP (R3, R6 to R9, R67 to R69, R459 to R461): READ, WRITE, POLL and CANCEL, and what a write of each
writable register does. -/
namespace Sys2Proof.Machine

/-! ## Reading (R460) -/

/-- A register's value. -/
def regValue (s : State) (n : Stn) (off : Nat) : Word :=
  match n with
  | .sys => sysRead s off | .cfg => cfgRead s off | .tim => timRead s off | .rtc => rtcRead s off | .rad => radRead s off
  | .sec => secRead s off | .lgt => lgtRead s off | .crs => crsRead s off | .mtr => mtrRead s off | .eth => ethRead s off
  | .pwr => pwrRead s off | .upd => updRead s off | .evq => evqRead s off

/-- What an offset reads as: 0 when it is not listed (R8) or write only (R6). -/
def regShown (s : State) (n : Stn) (off : Nat) : Word :=
  match regAt n off with
  | none => 0
  | some r => if r.acc = .wo then 0 else regValue s n off

/-- The words of the wide value that begins at an offset, 1 for none (R3). -/
def wideAt (n : Stn) (off : Nat) : Nat :=
  match regAt n off with
  | some r => r.wide
  | none => 1

/-- The key of an offset's latch. -/
def latchKey (n : Stn) (off : Nat) : Nat := n.idx * 16777216 + off

/-- The latches after an offset is read (R3): its own is used up; the lowest word of a wide value latches the others. -/
def latched (s : State) (n : Stn) (off : Nat) : Tab Word :=
  (List.range (wideAt n off - 1)).foldl (fun l i => tput l (latchKey n (off + 4 * (i + 1))) (regShown s n (off + 4 * (i + 1))))
    (tdel s.latch (latchKey n off))

/-- One register is read, with its side effect (R3, R329, R356). -/
def readOne (n : Stn) (a : State × List Word) (off : Nat) : State × List Word :=
  let s := if n = .rtc && off = 0x20 then rtcCapture a.1 else a.1
  let v := (tget s.latch (latchKey n off)).getD (regShown s n off)
  ({ s with latch := latched s n off }, a.2 ++ [v])

/-- The offset of a listed pair's word (R9). -/
def pairBase (n : Stn) (off : Nat) : Option Nat :=
  match regAt n off with
  | some r => if r.pair = 1 then some off else if r.pair = 2 then some (off - 4) else none
  | none => none

/-- The pairs among some offsets. -/
def pairBases (n : Stn) (offs : List Nat) : List Nat := (offs.filterMap (pairBase n)).eraseDups

/-- The offsets of a run of words. -/
def offsOf (off words : Nat) : List Nat := (List.range words).map fun i => off + 4 * i

/-- Registers are read in ascending offset (R460); a pair that does not match gives a pair event (R69). -/
def readRegs (s : State) (n : Stn) (offs : List Nat) : State × List Word :=
  let bad := (pairBases n offs).filter fun b => regValue s n b ≠ ~~~ regValue s n (b + 4)
  let r := offs.foldl (readOne n) (s, [])
  (bad.foldl (fun s b => pairEvent s n b) r.1, r.2)

/-- The state a READ sees: its own transaction is outstanding from its receipt until its reply leaves (R464). -/
def whileServed (q : VtpReq) (s : State) : State := setSess s q.session fun x => { x with outstanding := x.outstanding ++ [q.tid] }

/-- The transactions outstanding are those of `s` again. -/
def servedIn (s : State) (q : VtpReq) (t : State) : State :=
  setSess t q.session fun x => { x with outstanding := (sess s q.session).outstanding }

/-- A READ that is served; the boot ROM serves reads of SYS only (R113, log entry 24). -/
def readServe (q : VtpReq) (s : State) : State × VtpReply :=
  match Stn.ofIdx q.station with
  | none => (s, replyOf q .address [])
  | some n =>
    if s.modp = .recovery && n ≠ .sys then (s, replyOf q .access [])
    else
      let r := readRegs (whileServed q s) n (offsOf q.offset (q.length / 4))
      (servedIn s q r.1, replyOf q .ok r.2)

/-- The request of a row that is no CALL. -/
def plainReq (m : VtpMeta) (typ station offset length : Nat) (ws : List Word) : VtpReq :=
  { record := m.record, session := m.session, tid := m.tid, version := m.version, typ := ownType m typ, station := station, offset := offset,
    length := length, words := ws }

/-- A VTP READ (R458, R460). -/
def vtpRead (s : State) (m : VtpMeta) (station offset length : Nat) : State :=
  let q := plainReq m 1 station offset length []
  vtpServe s q (4 ≤ length && length ≤ 1392 && length % 4 = 0) length (readServe q)

/-! ## Checks of a WRITE that every station shares (R461, R68) -/

/-- The first error of a list. -/
def firstErr : List Err → Err
  | [] => .ok
  | .ok :: l => firstErr l
  | e :: _ => e

/-- An offset not listed is refused with ADDRESS, one that is read only with ACCESS; the boot ROM takes writes of SYS_START_COUNT and of UPD only
(R113, log entry 24). -/
def accessErr (s : State) (n : Stn) (off : Nat) : Err :=
  match regAt n off with
  | none => .address
  | some r =>
    if r.acc = .ro then .access
    else if s.modp = .recovery && n = .sys && off ≠ 0x50 && off ≠ 0x54 then .access else .ok

/-- The words a WRITE carries, by offset. -/
abbrev Words := List (Nat × Word)

/-- The word a WRITE carries for an offset. -/
def wordAt (ws : Words) (off : Nat) : Option Word := (ws.find? fun w => w.1 = off).map Prod.snd

/-- R68: both words of every pair, and matching. A WRITE that holds both a split pair and a mismatching pair is answered PAIR_SPLIT (log entry 110). -/
def pairErr (n : Stn) (ws : Words) : Err :=
  let b := pairBases n (ws.map Prod.fst)
  if b.any fun o => (wordAt ws o).isNone || (wordAt ws (o + 4)).isNone then .pairSplit
  else if b.any fun o => (wordAt ws o).getD 0 ≠ ~~~ (wordAt ws (o + 4)).getD 0 then .pairMismatch else .ok

/-! ## LGT (R139, R141, R155, R153) -/

/-- The slot and register of an offset in a bank of slots. -/
def bankAt (base stride count off : Nat) : Option (Nat × Nat) :=
  if base ≤ off && off < base + stride * count then some ((off - base) / stride, (off - base) % stride) else none

/-- The fields of LGT_CMDk_CTRL beside STATE. -/
def cmdCtrl (c : LgtCmd) (w : Word) : LgtCmd :=
  { c with prio := w.field 26 24, scope := w.field 21 20, allowCorr := w.bit 19, keepFlux := w.bit 18, keepChroma := w.bit 17,
           addr := w.field 8 0 }

/-- A register of a command slot takes a word. -/
def cmdField (c : LgtCmd) (o : Nat) (w : Word) : LgtCmd :=
  match o with
  | 0x00 => if c.state = .free then cmdCtrl c w else c
  | 0x04 => { c with tgt := { c.tgt with v := w } }
  | 0x08 => { c with tgt := { c.tgt with n := w } }
  | 0x0C => { c with chroma := { c.chroma with v := w } }
  | 0x10 => { c with chroma := { c.chroma with n := w } }
  | 0x14 => { c with execLo := w.toNat }
  | 0x18 => { c with execHi := w.field 15 0 }
  | 0x1C => { c with execNs := w.field 29 0 }
  | 0x20 => { c with endLo := w.toNat }
  | 0x24 => { c with endHi := w.field 15 0 }
  | 0x28 => { c with endNs := w.field 29 0 }
  | _ => c

/-- What LGT_FORCE queues (R155): each configured channel, or the one named when it is configured. -/
def forced (s : State) (w : Word) : List Nat :=
  ((cLight s).channels.map ChanCfg.chan).filter fun c => w.bit 31 || c = w.field 7 0

/-- A plain register of LGT is written. -/
def lgtPut (s : State) (off : Nat) (w : Word) : State :=
  if off = 0x04 then setLgt s fun l => { l with dbNext := some (w.field 3 0, dueBoundary s) }
  else if off = 0x18 then setLgt s fun l => { l with forceNext := l.forceNext ++ (forced s w).map fun c => (c, dueBoundary s) }
  else match bankAt 0x1000 0x40 32 off with
  | some (k, o) => setLgtCmd s k fun c => cmdField c o w
  | none =>
    match bankAt 0x10000 0x100 256 off with
    | some (c, o) =>
      if (chanCfg s c).isSome then setLgt s fun l => { l with hoursNext := l.hoursNext ++ [(c, (o - 0x60) / 4, w.toNat, dueBoundary s)] }
      else s
    | none => s

/-- A write to a slot that is not FREE (R139, R174): only STATE 0x0 alone. -/
def slotBusyErr (busy : Bool) (ctrl : Nat) (size off : Nat) (w : Word) (ws : Words) : Err :=
  if !busy then .ok
  else if off = ctrl && w.field 31 28 = 0 && !(ws.any fun x => ctrl < x.1 && x.1 < ctrl + size) then .ok else .slotBusy

/-- The refusals of one register of LGT; `t` is the state with the plain registers written. -/
def lgtErr (s t : State) (ws : Words) (off : Nat) (w : Word) : Err :=
  match bankAt 0x1000 0x40 32 off with
  | none => .ok
  | some (k, o) =>
    match slotBusyErr ((lgtCmd s k).state ≠ .free) (0x1000 + 0x40 * k) 0x40 off w ws with
    | .ok =>
      if o = 0x04 then (if fluxOf w = 0xFFFF then .range else .ok)
      else if o = 0x0C then (if lightOk (lgtCmd t k).tgt.v w then .ok else .range)
      else if o = 0x00 then
        if w.field 31 28 = 0 then .ok
        else if w.field 31 28 ≠ 1 || !cmdRanges (cmdCtrl (lgtCmd t k) w) then .range
        else if leadOk t (cmdCtrl (lgtCmd t k) w) then .ok else .noSlack
      else .ok
    | e => e

/-- STATE of a command slot is written (R139). -/
def lgtAct (s : State) (off : Nat) (w : Word) : State :=
  match bankAt 0x1000 0x40 32 off with
  | some (k, 0) => if w.field 31 28 = 1 then cmdPending (setLgtCmd s k fun c => cmdCtrl c w) k else cmdCancel s k
  | _ => s

/-! ## CRS (R170, R174, R177) -/

/-- A register of a mode-request slot takes a word. -/
def mreqField (r : MReq) (o : Nat) (w : Word) : MReq :=
  match o with
  | 0x00 => if r.state = .free then { r with mode := w.field 2 0 } else r
  | 0x04 => { r with startLo := w.toNat }
  | 0x08 => { r with startHi := w.field 15 0 }
  | 0x0C => { r with endLo := w.toNat }
  | 0x10 => { r with endHi := w.field 15 0 }
  | _ => r

/-- A plain register of CRS is written; steps and STAGGER wait for their boundary (R26, R170). -/
def crsPut (s : State) (off : Nat) (w : Word) : State :=
  if off = 0x08 then setCrs s fun c => { c with staggerNext := some (w.field 7 0, dueBoundary s) }
  else match bankAt 0x100 0x20 8 off with
  | some (m, o) => setMreq s m fun r => mreqField r o w
  | none =>
    match bankAt 0x1000 0x400 32 off with
    | some (p, o) =>
      if o % 8 = 0 then setCrs s fun c => { c with stepsNext := c.stepsNext ++ [(p, o / 0x20, o % 0x20 / 8, w, dueBoundary s)] } else s
    | none => s

/-- The refusals of one register of CRS. -/
def crsErr (s t : State) (ws : Words) (off : Nat) (w : Word) : Err :=
  if off = 0x08 then (if 2 ≤ w.field 7 0 && w.field 7 0 ≤ 64 then .ok else .range)
  else match bankAt 0x100 0x20 8 off with
  | some (m, o) =>
    match slotBusyErr ((mreq s m).state ≠ .free) (0x100 + 0x20 * m) 0x20 off w ws with
    | .ok =>
      if o ≠ 0 || w.field 31 28 = 0 then .ok
      else if w.field 31 28 ≠ 1 then .range
      else mreqErr t (mreq t m)
    | e => e
  | none =>
    match bankAt 0x1000 0x400 32 off with
    | some (p, o) =>
      let x := stepPending t p (o / 0x20)
      if stepOk x.1 x.2.1 x.2.2 then .ok else .range
    | none => .ok

/-- STATE of a mode-request slot is written (R174). -/
def crsAct (s : State) (off : Nat) (w : Word) : State :=
  match bankAt 0x100 0x20 8 off with
  | some (m, 0) => if w.field 31 28 = 1 then mreqPending (setMreq s m fun r => { r with mode := w.field 2 0 }) m else mreqCancel s m
  | _ => s

/-! ## RAD and SEC (R241, R302) -/

/-- A plain register of RAD is written. -/
def radPut (s : State) (off : Nat) (w : Word) : State :=
  match off with
  | 0x18 => setRad s fun r => { r with refreshNext := some (w.field 15 0, dueBoundary s) }
  | 0x20 => setRad s fun r => { r with findShort := w.bit 0 }
  | 0x24 => setRad s fun r => { r with findLo := w.toNat }
  | 0x28 => setRad s fun r => { r with findHi := w.toNat }
  | _ => s

/-- The refusals of one register of RAD. -/
def radErr (s : State) (off : Nat) (w : Word) : Err :=
  match off with
  | 0x18 => if 1 ≤ w.field 15 0 && w.field 15 0 ≤ 3600 then .ok else .range
  | 0x30 => natCmdErr s (w.field 31 28) (w.field 11 0)
  | _ => .ok

/-- RAD_NAT_CMD is written. -/
def radAct (s : State) (off : Nat) (w : Word) : State := if off = 0x30 then natCmd s (w.field 31 28) (w.field 11 0) else s

/-- A refused RAD_NAT_CMD shows in RAD_NAT_CMD_STAT (log entry 21). -/
def radBad (s : State) (ws : Words) : State :=
  match wordAt ws 0x30 with
  | some w =>
    match natCmdErr s (w.field 31 28) (w.field 11 0) with
    | .ok => s
    | e => setRad s fun r => { r with cmdStat := 3, cmdErr := e }
  | none => s

/-- SEC_KEYCMD is written. -/
def secAct (s : State) (off : Nat) (w : Word) : State :=
  if off ≠ 0x40 then s
  else
    let i := w.field 11 0
    match w.field 31 28 with
    | 1 => rekeyLink s i
    | 2 => renewGroup s (i % 4)
    | 3 => renewBeacon s
    | 4 => forgetLink s i
    | _ => eraseDevice s i

/-- The refusals of SEC_KEYCMD. -/
def secErr (s : State) (off : Nat) (w : Word) : Err := if off = 0x40 then keyCmdErr s (w.field 31 28) (w.field 11 0) else .ok

/-- A refused SEC_KEYCMD shows in SEC_KEYCMD_STAT (log entry 21). -/
def secBad (s : State) (ws : Words) : State :=
  match wordAt ws 0x40 with
  | some w =>
    match keyCmdErr s (w.field 31 28) (w.field 11 0) with
    | .ok => s
    | e => setSec s fun x => { x with cmdStat := 3, cmdErr := e }
  | none => s

/-! ## TIM (R327, R337, R342) -/

/-- A register of the head-end step takes a word. -/
def headField (h : HeadStep) (off : Nat) (w : Word) : HeadStep :=
  match off with
  | 0x50 => { h with absolute := w.bit 24 }
  | 0x54 => { h with ns := w.field 29 0 }
  | 0x58 => { h with secLo := w.toNat }
  | 0x5C => { h with secHi := w.field 15 0 }
  | 0x60 => { h with atLo := w.toNat }
  | 0x64 => { h with atHi := w.field 15 0 }
  | _ => h

/-- A register of a compare unit takes a word. -/
def cmpField (u : CmpUnit) (o : Nat) (w : Word) : CmpUnit :=
  match o with
  | 0x00 => { u with mode := w.field 26 24, report := w.bit 20 }
  | 0x04 => { u with half := w.bit 30, ns := w.field 29 0 }
  | 0x08 => { u with secLo := w.toNat }
  | 0x0C => { u with secHi := w.field 15 0 }
  | 0x10 => { u with width := w.toNat }
  | 0x14 => { u with period := w.toNat }
  | 0x18 => { u with count := w.toNat }
  | _ => u

/-- A plain register of TIM is written. -/
def timPut (s : State) (off : Nat) (w : Word) : State :=
  match bankAt 0x1000 0x40 8 off with
  | some (n, o) => setCmp s n fun u => cmpField u o w
  | none => { s with tim := { s.tim with head := headField s.tim.head off w } }

/-- A unit that is ARMED or RUNNING. -/
def cmpBusy (u : CmpUnit) : Bool := u.state = .armed || u.state = .running

/-- The refusals of one register of TIM. -/
def timErr (s t : State) (off : Nat) (w : Word) : Err :=
  match bankAt 0x1000 0x40 8 off with
  | some (n, o) =>
    let u := nth s.tim.cmps n {}
    if o ≠ 0 then (if cmpBusy u then .slotBusy else .ok)
    else if w.field 31 28 = 0 then .ok
    else if w.field 31 28 ≠ 1 then .range
    else if cmpBusy u then .slotBusy
    else if cmpRangesOk (nth t.tim.cmps n {}) then .ok else .range
  | none =>
    if off = 0x50 then headCheck s t.tim.head (w.field 31 28)
    else if s.tim.head.state = .pending then .slotBusy else .ok

/-- STATE of a compare unit or of the head-end step is written. -/
def timAct (s : State) (off : Nat) (w : Word) : State :=
  match bankAt 0x1000 0x40 8 off with
  | some (n, 0) => if w.field 31 28 = 1 then cmpArm s n else cmpDisarm s n
  | some _ => s
  | none => if off = 0x50 then headRequest s else s

/-! ## RTC (R353 to R358, R363, R365) -/

/-- W1C bits of RTC_STATUS (R366). -/
def rtcClear (s : State) (w : Word) : State :=
  let r := s.rtc
  { s with rtc := { r with epochWrap := r.epochWrap && !w.bit 30, setErr := r.setErr && !w.bit 29,
                           cause := if w.bit 29 then 0 else r.cause, alm0 := r.alm0 && !w.bit 16, alm1 := r.alm1 && !w.bit 17 } }

/-- AGING is written: the AON store and the ledger keep it (R363, log entry 25). -/
def agingPut (s : State) (w : Word) : State := agingSave s (sval 16 (w.field 15 0))

/-- Alarm 1 takes a word. -/
def alarmField (a : Alarm) (off : Nat) (w : Word) : Alarm :=
  match off with
  | 0x120 => { a with armed := w.bit 31, wake := w.bit 30, mask := w.field 5 0 }
  | 0x124 => { a with time := w.field 23 0 }
  | 0x128 => { a with date := w.field 23 0 }
  | _ => a

/-- A plain register of RTC is written. -/
def rtcPut (s : State) (off : Nat) (w : Word) : State :=
  if off = 0x04 then rtcClear s w
  else if off = 0x08 then { s with rtc := { s.rtc with leap := w.field 1 0 } }
  else if off = 0x0C then rtcCapture s
  else if 0x20 ≤ off && off < 0x40 then stagingWrite s ((off - 0x20) / 4) (if off = 0x3C then w.field 2 0 else w.field 7 0)
  else if off = 0x5C then agingPut s w
  else { s with rtc := { s.rtc with alarm1 := alarmField s.rtc.alarm1 off w } }

/-- Whether the three BCD bytes of an alarm's word hold digits (R365). -/
def alarmBcd (w : Word) : Bool := bcdOk (w.field 7 0) && bcdOk (w.field 15 8) && bcdOk (w.field 23 16)

/-- The refusals of one register of RTC. A LEAP of 3 is not among the values of R355 (log entry 26). -/
def rtcErr (s t : State) (off : Nat) (w : Word) : Err :=
  match off with
  | 0x08 => if w.field 1 0 = 3 then .range else .ok
  | 0x10 =>
    if commitPending s then .slotBusy
    else if w.bit 0 && commitCause t (w.bit 1) ≠ 0 then .range else .ok
  | 0x124 | 0x128 => if alarmBcd w then .ok else .range
  | _ => .ok

/-- GO of RTC_COMMIT (R358). -/
def rtcAct (s : State) (off : Nat) (w : Word) : State := if off = 0x10 && w.bit 0 then commitGo s (w.bit 1) else s

/-- A refused commit records its cause (R358); `t` is the state with the staged fields of the same WRITE. -/
def rtcBad (s t : State) (ws : Words) : State :=
  match wordAt ws 0x10 with
  | some w => if w.bit 0 && !commitPending s && commitCause t (w.bit 1) ≠ 0 then commitRefused s (commitCause t (w.bit 1)) else s
  | none => s

/-! ## MTR, EVQ and PWR (R390, R406, R411 to R413, R421) -/

/-- A plain register of MTR is written (R390). -/
def mtrPut (s : State) (off : Nat) (w : Word) : State :=
  match bankAt 0x2000 0x200 8 off with
  | some (f, o) =>
    setFeeder s f fun x =>
      if o = 0x10 then { x with otherStart := w.toNat, otherGiven := false }
      else if o = 0x14 then { x with other := { x.other with v := w } }
      else { x with other := { x.other with n := w }, otherGiven := true }
  | none => s

/-- The refusals of one register of MTR. -/
def mtrErr (s : State) (off : Nat) (w : Word) : Err :=
  match bankAt 0x2000 0x200 8 off with
  | some (f, 0x10) => if otherStartOk s f w.toNat then .ok else .range
  | _ => .ok

/-- The queue of an EVQ_Qq_ACK offset. -/
def ackOf (off : Nat) : Nat := (off - 0x100) / 0x20

/-- A register of EVQ is written (R406). -/
def evqPut (s : State) (session off : Nat) (w : Word) : State :=
  if off = 0x04 then
    { s with evq := { s.evq with enable := w.bit 31, session := if w.bit 31 then session else s.evq.session, resend := w.field 15 0 } }
  else setQueue s (ackOf off) fun q => ackQueue q w.toNat

/-- The refusals of one register of EVQ (R406, R456): with nothing drained no SEQ can be acknowledged (log entry 27). -/
def evqErr (s : State) (session off : Nat) (w : Word) : Err :=
  if off = 0x04 then
    if (w.bit 31 && (sess s session).port = 2) || w.field 15 0 < 50 || 6000 < w.field 15 0 then .range else .ok
  else match (nth s.evq.queues (ackOf off) {}).newest with
  | some n => if seqLe w.toNat n then .ok else .range
  | none => .range

/-- A plain register of PWR is written (R125, R411, R421). -/
def pwrPut (s : State) (off : Nat) (w : Word) : State :=
  match off with
  | 0x08 =>
    let s := setPwr s fun x => { x with featherNext := some (w.bit 31, dueBoundary s) }
    if w.bit 0 then easyUnlock s else s
  | 0x10 => setPwr s fun x => { x with sleepLo := w.toNat }
  | 0x14 => setPwr s fun x => { x with sleepHi := w.field 15 0 }
  | _ => s

/-- The refusals of one register of PWR. STATE 0x0 asks for nothing (log entry 28). -/
def pwrErr (t : State) (off : Nat) (w : Word) : Err :=
  if off ≠ 0x0C || w.field 31 28 = 0 then .ok
  else if w.field 31 28 = 1 then sleepErr t else .range

/-- STATE of PWR_SLEEP_CTRL is written. -/
def pwrAct (s : State) (off : Nat) (w : Word) : State := if off = 0x0C && w.field 31 28 = 1 then sleepRequest s else s

/-- A request that R413 refuses shows in PWR_SLEEP_STAT, with its record (R425). -/
def pwrBad (s t : State) (ws : Words) : State :=
  match wordAt ws 0x0C with
  | some w =>
    if w.field 31 28 = 1 && s.pwr.entry.isNone && sleepErr t ≠ .ok && sleepErr t ≠ .range then easyRefused s 2 (sleepErr t) else s
  | none => s

/-! ## UPD, ETH and SYS (R428, R429, R305, R107, R455, R467) -/

/-- A plain register of UPD is written. -/
def updPut (s : State) (off : Nat) (w : Word) : State :=
  if off = 0x24 then setUpd s fun u => { u with lenReg := w.toNat }
  else if off = 0x2C then setUpd s fun u => { u with blkCrc := w.toNat }
  else if 0x10000 ≤ off then setUpd s fun u => { u with win := tput u.win ((off - 0x10000) / 4) w }
  else s

/-- The refusals of one register of UPD. -/
def updErr (s t : State) (off : Nat) (w : Word) : Err :=
  if off = 0x20 then
    (if w.field 31 28 = 0 then .ok else if w.field 31 28 = 1 then xferOpenErr t w else .range)
  else if off = 0x30 then (if s.upd.xfer.busy then .slotBusy else if w.bit 31 then blockErr t (w.field 11 0) else .ok)
  else if 0x10000 ≤ off && s.upd.xfer.busy then .slotBusy
  else .ok

/-- STATE of UPD_XFER_CTRL or GO of UPD_BLK_CTRL is written. -/
def updAct (s : State) (off : Nat) (w : Word) : State :=
  if off = 0x20 then (if w.field 31 28 = 1 then xferOpen s w else xferAbort s)
  else if off = 0x30 && w.bit 31 then blockCommit s
  else s

/-- A refused block commit shows in UPD_XFER_STAT. -/
def updBad (s t : State) (ws : Words) : State :=
  match wordAt ws 0x30 with
  | some w => if w.bit 31 && blockErr t (w.field 11 0) ≠ .ok then blockRefused s (blockErr t (w.field 11 0)) else s
  | none => s

/-- The fields of an ETH_MDIO_CMD word without GO: reserved bits are ignored (R7, R325). -/
def mdioFields (w : Word) : Nat := (w &&& 0x43FFFFFF#32).toNat

/-- ETH_MDIO_CMD: its fields, and with GO the access; `phy` is what the PHY answers to a read. -/
def ethAct (s : State) (phy : Nat) (w : Word) : State :=
  let s := { s with eth := { s.eth with mdioCmd := mdioFields w } }
  if w.bit 31 then mdioGo s w phy else s

/-- A plain register of SYS is written. -/
def sysPut (s : State) (off : Nat) (w : Word) : State :=
  if off = 0x50 then writeCount s (w.field 3 0) (w.bit 4)
  else if off = 0x300 then { s with vtp := { s.vtp with baud := w.field 2 0, baudAt := some s.tim.cyc } }
  else match bankAt 0x1000 0x40 8 off with
  | some (h, _) => setCall s h fun c => { c with taken := w.toNat }
  | none => s

/-- The refusals of one register of SYS. -/
def sysErr (s : State) (off : Nat) (w : Word) : Err :=
  if off = 0x300 then (if w.field 2 0 ≤ 5 then .ok else .range)
  else match bankAt 0x1000 0x40 8 off with
  | some (h, _) => if (call s h).taken ≤ w.toNat && w.toNat ≤ (call s h).results then .ok else .range
  | none => .ok

/-- Entries released let a paused export go on (R467, R469). -/
def sysAct (s : State) (off : Nat) : State :=
  match bankAt 0x1000 0x40 8 off with
  | some (h, _) => if (call s h).todo = [] then s else exportRun s h ((call s h).todo.length + 1)
  | none => s

/-! ## WRITE (R461) -/

/-- A plain register or field takes its word. -/
def putReg (n : Stn) (session : Nat) (s : State) (w : Nat × Word) : State :=
  match n with
  | .sys => sysPut s w.1 w.2 | .tim => timPut s w.1 w.2 | .rtc => rtcPut s w.1 w.2 | .rad => radPut s w.1 w.2
  | .lgt => lgtPut s w.1 w.2 | .crs => crsPut s w.1 w.2 | .mtr => mtrPut s w.1 w.2 | .pwr => pwrPut s w.1 w.2
  | .upd => updPut s w.1 w.2 | .evq => evqPut s session w.1 w.2
  | .cfg | .sec | .eth => s

/-- An action field takes its word. -/
def actReg (n : Stn) (phy : Nat) (s : State) (w : Nat × Word) : State :=
  match n with
  | .sys => sysAct s w.1 | .tim => timAct s w.1 w.2 | .rtc => rtcAct s w.1 w.2 | .rad => radAct s w.1 w.2
  | .sec => secAct s w.1 w.2 | .lgt => lgtAct s w.1 w.2 | .crs => crsAct s w.1 w.2 | .eth => ethAct s phy w.2
  | .pwr => pwrAct s w.1 w.2 | .upd => updAct s w.1 w.2
  | .cfg | .mtr | .evq => s

/-- The refusal of one register; `s` is the state the WRITE meets, `t` the same with the plain registers written. -/
def regErr (n : Stn) (session : Nat) (s t : State) (ws : Words) (w : Nat × Word) : Err :=
  match n with
  | .sys => sysErr s w.1 w.2 | .tim => timErr s t w.1 w.2 | .rtc => rtcErr s t w.1 w.2 | .rad => radErr s w.1 w.2
  | .sec => secErr s w.1 w.2 | .lgt => lgtErr s t ws w.1 w.2 | .crs => crsErr s t ws w.1 w.2 | .mtr => mtrErr s w.1 w.2
  | .eth => mdioCheck s w.2 | .pwr => pwrErr t w.1 w.2 | .upd => updErr s t w.1 w.2 | .evq => evqErr s session w.1 w.2
  | .cfg => .ok

/-- What a refusal leaves in the status registers that show refusals. -/
def writeBad (n : Stn) (s t : State) (ws : Words) : State :=
  match n with
  | .rad => radBad s ws
  | .sec => secBad s ws
  | .rtc => rtcBad s t ws
  | .pwr => pwrBad s t ws
  | .upd => updBad s t ws
  | _ => s

/-- Registers are written, or refused whole (R461): access and pairs first, then each register's own checks; plain registers take effect in
ascending offset, action fields after them. -/
def writeRegs (s : State) (n : Stn) (session phy : Nat) (ws : Words) : State × Err :=
  match firstErr (ws.map fun w => accessErr s n w.1) with
  | .ok =>
    match pairErr n ws with
    | .ok =>
      let t := ws.foldl (putReg n session) s
      match firstErr (ws.map (regErr n session s t ws)) with
      | .ok => (ws.foldl (actReg n phy) t, .ok)
      | e => (writeBad n s t ws, e)
    | e => (s, e)
  | e => (s, e)

/-- A WRITE that is served. -/
def writeServe (phy : Nat) (q : VtpReq) (s : State) : State × VtpReply :=
  match Stn.ofIdx q.station with
  | none => (s, replyOf q .address [])
  | some n =>
    let r := writeRegs s n q.session phy ((offsOf q.offset q.words.length).zip q.words)
    (r.1, replyOf q r.2 [])

/-- A VTP WRITE (R458, R461). -/
def vtpWrite (s : State) (m : VtpMeta) (station offset : Nat) (ws : List Word) (phy : Nat) : State :=
  let q := plainReq m 2 station offset (4 * ws.length) ws
  vtpServe s q (1 ≤ ws.length && ws.length ≤ 348) (4 * ws.length) (writeServe phy q)

/-! ## POLL and CANCEL (R458, R465, R473) -/

/-- The boot ROM takes neither (R113, log entry 24). -/
def notInRom (q : VtpReq) (f : State → State × VtpReply) (s : State) : State × VtpReply :=
  if s.modp = .recovery then (s, replyOf q .typ []) else f s

/-- A VTP POLL. -/
def vtpPoll (s : State) (m : VtpMeta) (handle : Nat) : State :=
  let q := { plainReq m 4 0 0 4 [] with args := leBytes 2 handle }
  vtpServe s q true 0 (notInRom q (pollServe q (handle % 65536)))

/-- A VTP CANCEL. -/
def vtpCancel (s : State) (m : VtpMeta) (handle : Nat) : State :=
  let q := { plainReq m 5 0 0 4 [] with args := leBytes 2 handle }
  vtpServe s q true 0 (notInRom q (cancelServe q (handle % 65536)))

end Sys2Proof.Machine
end

