-- ==== Sys2Proof/Machine/CmdBase.lean ====
section
/-! DEFINITION. What the meanings of commands share: the outcome of a command, the words some commands write, and small effects that no station's
file holds. -/
namespace Sys2Proof.Machine

/-- A command leaves the queue of waiting commands as it is and the module in a next state. -/
def ran (s t : State) : Host.Outcome State Fault Refusal := .next { t with pending := s.pending }

/-- A control word with STATE in bits [31:28] (R139, R350). -/
def withState (ctrl : Word) (st : Nat) : Word := pack [(28, st), (0, ctrl.field 27 0)]

/-- SEC_KEYCMD with an operation and its target (R302). -/
def keyCmd (op target : Nat) : Word := pack [(28, op), (0, target % 4096)]

/-- RTC_COMMIT with GO (R358). -/
def rtcCommitWord (onSecond : Bool) : Word := pack [(1, b2n onSecond), (0, 1)]

/-- PWR_CTRL with EASY_UNLOCK set (R421). -/
def easyUnlockWord (feather : Bool) : Word := pack [(31, b2n feather), (0, 1)]

/-- UPD_XFER_CTRL that opens a transfer (R428). -/
def xferOpenWord (kind slot : Nat) : Word := pack [(28, 1), (24, kind % 8), (16, slot % 2)]

/-- UPD_BLK_CTRL with GO (R429). -/
def blockWord (index : Nat) : Word := pack [(31, 1), (0, index % 4096)]

/-- LEDGER_FAIL (R58): a station's ledger write fails after its retries, with its event; the next write that the station would make does not
happen. -/
def ledgerFails (s : State) (n : Stn) : State := ledgerEvent { s with ledBad := s.ledBad ++ [n] } n

/-- FLASH_TMO (R58): a station's flash operation fails after its retry; the next one that it would make does not happen. -/
def flashFails (s : State) (n : Stn) : State := { s with flashBad := s.flashBad ++ [n] }

/-- VBAT_LOW (R360): while VIN is absent OSF is set. -/
def vbatLow (s : State) : State := if s.modp = .off then setOsf s else s

/-- TIME_SAVE (R340): 60 s after the last save TIM saves again. -/
def timeSave (s : State) : State :=
  if !s.tim.set || !isRunning s .tim then s
  else
    let s := advanceCyc s (s.tim.savedAt + secCyc 60)
    timSaved { s with tim := { s.tim with savedAt := s.tim.cyc } }

/-- The special Trims that stand once every boundary has come. -/
def specialsLast (s : State) : List Nat :=
  match s.cfg.specialsNext with
  | some (l, _) => l
  | none => s.cfg.specials

/-- SPECIAL_TRIM_ENABLE (R120, R125): the new set is validated and takes effect at the boundary of R26, or is refused with its findings. -/
def specialTrim (s : State) (i : Nat) : State :=
  let l := specialsLast s
  let new := (List.range 16).filter fun k => l.contains k || k = i
  if s.modp ≠ .running || inReset s .cfg || 16 ≤ i then s
  else match specialErr s new with
    | (.ok, f) => specialEnable (recordFindings s f) new
    | (.range, []) => s
    | (_, f) => recordFindings s f

end Sys2Proof.Machine
end

