-- ==== Sys2Proof/Machine/CmdEth.lean ====
section
/-! DEFINITION. The meanings of the commands of backhaul Ethernet (R303 to R326). -/
namespace Sys2Proof.Machine

/-- LINK_CHANGE (R304). -/
def execLinkChange (port : Nat) (los : Bool) (sync : Bool) (an : Bool) (phy : Bool) (s : State) : Host.Outcome State Fault Refusal :=
  ran s (linkChange s port los sync an phy)

/-- MDIO_POLL (R305). -/
def execMdioPoll (links : List Bool) (s : State) : Host.Outcome State Fault Refusal :=
  ran s (mdioPoll s links)

/-- MDIO_TMO (R58). -/
def execMdioTmo (port : Nat) (headEnd : Bool) (s : State) : Host.Outcome State Fault Refusal :=
  ran s (mdioTmo s port headEnd)

/-- MDIO_CMD (R305). -/
def execMdioCmd (req : VtpMeta) (value : Word) (data : Nat) (s : State) : Host.Outcome State Fault Refusal :=
  ran s (vtpWrite s req Stn.eth.idx 0x8 [value ||| 0x80000000] data)

/-- ETH_FRAME_RECEIVE (R307). -/
def execEthFrameReceive (port : Nat) (rx : EthRx) (s : State) : Host.Outcome State Fault Refusal :=
  ran s (ethReceive s port rx)

/-- ETH_TRANSMIT (R315). -/
def execEthTransmit (port : Nat) (s : State) : Host.Outcome State Fault Refusal :=
  ran s (ethTransmit s port)

/-- VERIFY_TIMEOUT (R318). -/
def execVerifyTimeout (port : Nat) (s : State) : Host.Outcome State Fault Refusal :=
  ran s (verifyTimeout s port)

/-- EXPRESS_CREDIT_ABOVE_ZERO (R320). -/
def execExpressCreditAboveZero (port : Nat) (s : State) : Host.Outcome State Fault Refusal :=
  ran s (creditAboveZero s port)

end Sys2Proof.Machine
end

