-- ==== Sys2Proof/Machine/CmdLight.lean ====
section
/-! DEFINITION. The meanings of the commands of light commands, schedules, mode requests and handoffs (R139, R153, R155, R170, R174, R189 to R193). -/
namespace Sys2Proof.Machine

/-- LGT_CMD_ISSUE (R139). -/
def execLgtCmdIssue (req : VtpMeta) (slot : Nat) (ctrl : Word) (rest : List Word) (s : State) : Host.Outcome State Fault Refusal :=
  ran s (vtpWrite s req Stn.lgt.idx (0x1000 + 0x40 * slot) (withState ctrl 1 :: rest) 0)

/-- LGT_CMD_CANCEL (R139). -/
def execLgtCmdCancel (req : VtpMeta) (slot : Nat) (s : State) : Host.Outcome State Fault Refusal :=
  ran s (vtpWrite s req Stn.lgt.idx (0x1000 + 0x40 * slot) [0] 0)

/-- LGT_FORCE (R155). -/
def execLgtForce (req : VtpMeta) (value : Word) (s : State) : Host.Outcome State Fault Refusal :=
  ran s (vtpWrite s req Stn.lgt.idx 0x18 [value] 0)

/-- TEMP_STALE (R157). -/
def execTempStale (chan : Nat) (s : State) : Host.Outcome State Fault Refusal :=
  ran s (tempStale s chan)

/-- HOURS_SAVE (R153). -/
def execHoursSave (s : State) : Host.Outcome State Fault Refusal :=
  ran s (hoursSave s)

/-- SCHEDULE_STEP_WRITE (R170). -/
def execScheduleStepWrite (req : VtpMeta) (program : Nat) (step : Nat) (part : Nat) (words : List Word) (s : State) : Host.Outcome State Fault Refusal :=
  ran s (vtpWrite s req Stn.crs.idx (0x1000 + 0x400 * program + 0x20 * step + 8 * part) words 0)

/-- MREQ_ISSUE (R174). -/
def execMreqIssue (req : VtpMeta) (slot : Nat) (mode : Nat) (rest : List Word) (s : State) : Host.Outcome State Fault Refusal :=
  ran s (vtpWrite s req Stn.crs.idx (0x100 + 0x20 * slot) (pack [(28, 1), (0, mode % 8)] :: rest) 0)

/-- MREQ_CANCEL (R174). -/
def execMreqCancel (req : VtpMeta) (slot : Nat) (s : State) : Host.Outcome State Fault Refusal :=
  ran s (vtpWrite s req Stn.crs.idx (0x100 + 0x20 * slot) [0] 0)

/-- HANDOFF_REPEAT (R189). -/
def execHandoffRepeat (nbr : Nat) (counter : Nat) (s : State) : Host.Outcome State Fault Refusal :=
  ran s (handoffRepeat s nbr counter)

/-- HANDOFF_ACK (R193). -/
def execHandoffAck (head : List Byte) (counter : List Byte) (body : List Byte) (tag : List Byte) (s : State) :
    Host.Outcome State Fault Refusal :=
  ran s (handoffAck s (head ++ counter ++ body ++ tag))

/-- HANDOFF_UNCONFIRMED (R193). -/
def execHandoffUnconfirmed (nbr : Nat) (counter : Nat) (s : State) : Host.Outcome State Fault Refusal :=
  ran s (handoffUnconfirmed s nbr counter)

/-- HANDOFF_RECEIVE (R192). -/
def execHandoffReceive (data : List Byte) (s : State) : Host.Outcome State Fault Refusal :=
  ran s (handoffReceive s data)

end Sys2Proof.Machine
end

