-- ==== Sys2Proof/Machine/CmdMeter.lean ====
section
/-! DEFINITION. The meanings of the commands of metering (R367 to R394, R469). -/
namespace Sys2Proof.Machine

/-- PFI_TRIP (R388). -/
def execPfiTrip (s : State) : Host.Outcome State Fault Refusal :=
  ran s (pfiTrip s)

/-- PF_MODE_END (R388). -/
def execPfModeEnd (s : State) : Host.Outcome State Fault Refusal :=
  ran s (pfModeEnd s)

/-- SENSOR_STALE (R374). -/
def execSensorStale (sensor : Nat) (s : State) : Host.Outcome State Fault Refusal :=
  ran s (sensorStale s sensor)

/-- CHANNEL_STUCK (R370). -/
def execChannelStuck (chan : Nat) (s : State) : Host.Outcome State Fault Refusal :=
  ran s (channelStuck s chan)

/-- CHANNEL_OVERLOAD (R370). -/
def execChannelOverload (chan : Nat) (s : State) : Host.Outcome State Fault Refusal :=
  ran s (channelOverload s chan)

/-- CHANNEL_FAULT_PERSIST (R370). -/
def execChannelFaultPersist (chan : Nat) (s : State) : Host.Outcome State Fault Refusal :=
  ran s (channelPersist s chan)

/-- CHANNEL_FAULT_CLEAR (R370). -/
def execChannelFaultClear (chan : Nat) (overload : Bool) (s : State) : Host.Outcome State Fault Refusal :=
  ran s (channelClear s chan overload)

/-- RMS_WINDOW_END (R378). -/
def execRmsWindowEnd (us : Nat) (samples : List (List (Int × Int))) (s : State) : Host.Outcome State Fault Refusal :=
  ran s (rmsWindowEnd s us samples)

/-- FIXED_WINDOW_FALLBACK (R378). -/
def execFixedWindowFallback (s : State) : Host.Outcome State Fault Refusal :=
  ran s (fixedFallback s)

/-- OTHER_WRITE (R390). -/
def execOtherWrite (req : VtpMeta) (feeder : Nat) (words : List Word) (s : State) : Host.Outcome State Fault Refusal :=
  ran s (vtpWrite s req Stn.mtr.idx (0x2010 + 0x200 * feeder) words 0)

/-- PROFILE_EXPORT (R469). -/
def execProfileExport (call : CallMeta) (args : List Byte) (s : State) : Host.Outcome State Fault Refusal :=
  ran s (profileExport s call args)

end Sys2Proof.Machine
end

