-- ==== Sys2Proof/Machine/CmdPower.lean ====
section
/-! DEFINITION. The meanings of the commands of supply, resets, starts, FEATHER and EASY (R77, R78, R90, R106, R127, R410 to R425). -/
namespace Sys2Proof.Machine

/-- POWER_ON_RESET (R77). -/
def execPowerOnReset (bankA : Nat) (bankB : Nat) (aonLost : Bool) (ahead : Ahead) (s : State) : Host.Outcome State Fault Refusal :=
  ran s (bootRetry (powerOnReset { s with ahead := ahead } bankA bankB aonLost))

/-- BANK_NOT_VALID (R77). -/
def execBankNotValid (bankB : Bool) (bankAmV : Nat) (bankBmV : Nat) (aonLost : Bool) (s : State) : Host.Outcome State Fault Refusal :=
  ran s (bankNotValid s bankB bankAmV bankBmV aonLost)

/-- BANK_FAULT (R78). -/
def execBankFault (bankB : Bool) (s : State) : Host.Outcome State Fault Refusal :=
  ran s (bootRetry (bankFault s bankB))

/-- RESET_N (R90). -/
def execResetN (s : State) : Host.Outcome State Fault Refusal :=
  ran s (bootRetry (resetN s))

/-- BROWNOUT (R489). -/
def execBrownout (s : State) : Host.Outcome State Fault Refusal :=
  ran s (bootRetry (brownout s))

/-- WATCHDOG (R106). -/
def execWatchdog (s : State) : Host.Outcome State Fault Refusal :=
  ran s (bootRetry (watchdog s))

/-- STEADY_TMO (R127). -/
def execSteadyTmo (s : State) : Host.Outcome State Fault Refusal :=
  ran s (bootRetry (steadyTmo s))

/-- STEADY (R127). -/
def execSteady (s : State) : Host.Outcome State Fault Refusal :=
  ran s (steady s)

/-- RIG_MIGRATION_WRITE (R121). -/
def execRigMigrationWrite (s : State) : Host.Outcome State Fault Refusal :=
  ran s (rigMigrationWrite s)

/-- WAKE_CMP (R88). -/
def execWakeCmp (s : State) : Host.Outcome State Fault Refusal :=
  ran s (wakeCmp s)

/-- WAKE_FRAME (R323). -/
def execWakeFrame (port : Nat) (octets : List Byte) (fcsOk : Bool) (s : State) : Host.Outcome State Fault Refusal :=
  ran s (wakeFrame s port octets fcsOk)

/-- UPD_POWER_GATE (R410). -/
def execUpdPowerGate (s : State) : Host.Outcome State Fault Refusal :=
  ran s (updGate s)

/-- EASY_DAY_TRIGGER (R412). -/
def execEasyDayTrigger (s : State) : Host.Outcome State Fault Refusal :=
  ran s (easyDay s)

/-- SLEEP_REQUEST (R412). -/
def execSleepRequest (req : VtpMeta) (wake : List Word) (s : State) : Host.Outcome State Fault Refusal :=
  ran s (vtpWrite s req Stn.pwr.idx 0xC (pack [(28, 1)] :: wake) 0)

/-- EASY_SAVES_DONE (R415). -/
def execEasySavesDone (s : State) : Host.Outcome State Fault Refusal :=
  ran s (easySaves s)

/-- SLEEP_GRACE_EXPIRY (R415). -/
def execSleepGraceExpiry (s : State) : Host.Outcome State Fault Refusal :=
  ran s (sleepGrace s)

/-- EASY_FINAL_CHECK (R419). -/
def execEasyFinalCheck (qualifying : Bool) (s : State) : Host.Outcome State Fault Refusal :=
  ran s (easyFinal s qualifying)

/-- WAKE_STEP_READY (R420). -/
def execWakeStepReady (us : Nat) (s : State) : Host.Outcome State Fault Refusal :=
  ran s (bootRetry (wakeStepReady s us))

/-- WAKE_STEP_TIMEOUT (R421). -/
def execWakeStepTimeout (s : State) : Host.Outcome State Fault Refusal :=
  ran s (bootRetry (wakeStepTimeout s))

/-- WAKE_RETRY (R421). -/
def execWakeRetry (s : State) : Host.Outcome State Fault Refusal :=
  ran s (wakeRetry s)

/-- EASY_UNLOCK (R421). -/
def execEasyUnlock (req : VtpMeta) (feather : Bool) (s : State) : Host.Outcome State Fault Refusal :=
  ran s (vtpWrite s req Stn.pwr.idx 0x8 [easyUnlockWord feather] 0)

end Sys2Proof.Machine
end

