-- ==== Sys2Proof/Machine/CmdRadio.lean ====
section
/-! DEFINITION. The meanings of the commands of the radio, the NAT and link security (R200 to R302, R470 to R472). -/
namespace Sys2Proof.Machine

/-- SLOT_START (R200). -/
def execSlotStart (port : Nat) (s : State) : Host.Outcome State Fault Refusal :=
  ran s (portSlot s port)

/-- RESOURCE_TMO (R57). -/
def execResourceTmo (work : Work) (kind : Resource) (index : Nat) (s : State) : Host.Outcome State Fault Refusal :=
  ran s (resourceTmo s work kind index)

/-- TRX_TMO (R240). -/
def execTrxTmo (port : Nat) (s : State) : Host.Outcome State Fault Refusal :=
  ran s (trxTmo s port)

/-- TRANSCEIVER_RESET_DONE (R80). -/
def execTransceiverResetDone (port : Nat) (s : State) : Host.Outcome State Fault Refusal :=
  ran s (trxDone s port)

/-- PORT_INIT_RETRY (R240). -/
def execPortInitRetry (port : Nat) (s : State) : Host.Outcome State Fault Refusal :=
  ran s (portRetry s port)

/-- RX_WINDOW_CLOSE (R255). -/
def execRxWindowClose (node : Nat) (s : State) : Host.Outcome State Fault Refusal :=
  ran s (windowClose s node)

/-- ACK_TXGO (R215). -/
def execAckTxgo (port : Nat) (s : State) : Host.Outcome State Fault Refusal :=
  ran s (ackTxgo s port)

/-- LANTERN_REPORT (R296). -/
def execLanternReport (frame : RxFrame) (body : LanternBody) (s : State) : Host.Outcome State Fault Refusal :=
  ran s (lanternReport s frame body)

/-- DETECTOR_EVENT (R210). -/
def execDetectorEvent (frame : RxFrame) (payload : List Byte) (s : State) : Host.Outcome State Fault Refusal :=
  ran s (detectorEvent s frame payload)

/-- SENSOR_HEARTBEAT (R249). -/
def execSensorHeartbeat (frame : RxFrame) (flags : Nat) (batt : Nat) (data : List Byte) (s : State) : Host.Outcome State Fault Refusal :=
  ran s (sensorHeartbeat s frame flags batt data)

/-- ENROLMENT_REQUEST (R297). -/
def execEnrolmentRequest (frame : RxFrame) (s : State) : Host.Outcome State Fault Refusal :=
  ran s (enrolRequest s frame)

/-- REJOIN_REQUEST (R300). -/
def execRejoinRequest (frame : RxFrame) (recCrc : Nat) (s : State) : Host.Outcome State Fault Refusal :=
  ran s (rejoinRequest s frame recCrc)

/-- BINNING_RECORD_PART (R299). -/
def execBinningRecordPart (frame : RxFrame) (part : Nat) (data : List Byte) (s : State) : Host.Outcome State Fault Refusal :=
  ran s (binningPart s frame part data)

/-- UNLISTED_MTYPE (R209). -/
def execUnlistedMtype (frame : RxFrame) (mtype : Nat) (s : State) : Host.Outcome State Fault Refusal :=
  ran s (unlistedMtype s frame mtype)

/-- ENHANCED_ACK_RECEIVE (R219). -/
def execEnhancedAckReceive (port : Nat) (edge : Nat) (psdu : Nat) (head : RxHead) (fcsOk : Bool) (micOk : Bool) (s : State) :
    Host.Outcome State Fault Refusal :=
  ran s (ackReceive s { toRxHead := head, port := port, edge := edge, psdu := psdu, fcsOk := fcsOk, micOk := micOk })

/-- RECORD_UPLOAD_TIMEOUT (R299). -/
def execRecordUploadTimeout (node : Nat) (s : State) : Host.Outcome State Fault Refusal :=
  ran s (recordTimeout s node)

/-- DOWNLINK_UNCONFIRMED (R254). -/
def execDownlinkUnconfirmed (node : Nat) (s : State) : Host.Outcome State Fault Refusal :=
  ran s (downlinkUnconfirmed s node)

/-- LIGHT_OUTCOME_TIMEOUT (R291). -/
def execLightOutcomeTimeout (chan : Nat) (s : State) : Host.Outcome State Fault Refusal :=
  ran s (outcomeTimeout s chan)

/-- DUTY_BIN_ROLL (R261). -/
def execDutyBinRoll (s : State) : Host.Outcome State Fault Refusal :=
  ran s (dutyRoll s)

/-- NAT_FIND (R241). -/
def execNatFind (req : VtpMeta) (s : State) : Host.Outcome State Fault Refusal :=
  ran s (vtpRead s req Stn.rad.idx 0x2C 4)

/-- NAT_CMD_CLEAR (R241). -/
def execNatCmdClear (req : VtpMeta) (node : Nat) (s : State) : Host.Outcome State Fault Refusal :=
  ran s (vtpWrite s req Stn.rad.idx 0x30 [pack [(28, 1), (0, node)]] 0)

/-- NAT_CMD_EVICT (R241). -/
def execNatCmdEvict (req : VtpMeta) (node : Nat) (s : State) : Host.Outcome State Fault Refusal :=
  ran s (vtpWrite s req Stn.rad.idx 0x30 [pack [(28, 2), (0, node)]] 0)

/-- LINK_KEY_AGE (R283). -/
def execLinkKeyAge (node : Nat) (s : State) : Host.Outcome State Fault Refusal :=
  ran s (linkKeyAge s node)

/-- BEACON_KEY_AGE (R284). -/
def execBeaconKeyAge (s : State) : Host.Outcome State Fault Refusal :=
  ran s (beaconKeyAge s)

/-- KEY_SWITCH (R284). -/
def execKeySwitch (slot : Nat) (s : State) : Host.Outcome State Fault Refusal :=
  ran s (keySwitch s slot)

/-- OLD_KEY_ERASE (R284). -/
def execOldKeyErase (slot : Nat) (s : State) : Host.Outcome State Fault Refusal :=
  ran s (oldKeyErase s slot)

/-- REKEY_LINK (R302). -/
def execRekeyLink (req : VtpMeta) (node : Nat) (s : State) : Host.Outcome State Fault Refusal :=
  ran s (vtpWrite s req Stn.sec.idx 0x40 [keyCmd 1 node] 0)

/-- RENEW_GROUP_KEY (R302). -/
def execRenewGroupKey (req : VtpMeta) (port : Nat) (s : State) : Host.Outcome State Fault Refusal :=
  ran s (vtpWrite s req Stn.sec.idx 0x40 [keyCmd 2 port] 0)

/-- RENEW_BEACON_KEY (R302). -/
def execRenewBeaconKey (req : VtpMeta) (s : State) : Host.Outcome State Fault Refusal :=
  ran s (vtpWrite s req Stn.sec.idx 0x40 [keyCmd 3 0] 0)

/-- FORGET_LINK (R302). -/
def execForgetLink (req : VtpMeta) (node : Nat) (s : State) : Host.Outcome State Fault Refusal :=
  ran s (vtpWrite s req Stn.sec.idx 0x40 [keyCmd 4 node] 0)

/-- ERASE_DEVICE_KEY (R302). -/
def execEraseDeviceKey (req : VtpMeta) (node : Nat) (s : State) : Host.Outcome State Fault Refusal :=
  ran s (vtpWrite s req Stn.sec.idx 0x40 [keyCmd 5 node] 0)

/-- LANTERN_ENROLMENT (R470). -/
def execLanternEnrolment (call : CallMeta) (args : List Byte) (s : State) : Host.Outcome State Fault Refusal :=
  ran s (lanternEnrolment s call args)

/-- COMMISSIONING_SCAN (R472). -/
def execCommissioningScan (call : CallMeta) (args : List Byte) (s : State) : Host.Outcome State Fault Refusal :=
  ran s (commissioningScan s call args)

/-- SCAN_END (R472). -/
def execScanEnd (s : State) : Host.Outcome State Fault Refusal :=
  ran s (scanEnd s)

/-- NODE_SEND (R471). -/
def execNodeSend (call : CallMeta) (args : List Byte) (s : State) : Host.Outcome State Fault Refusal :=
  ran s (nodeSend s call args)

/-- NODE_SEND_TIMEOUT (R471). -/
def execNodeSendTimeout (handle : Nat) (s : State) : Host.Outcome State Fault Refusal :=
  ran s (nodeSendTimeout s handle)

/-- RX_FRAME_ABORTED (R212). -/
def execRxFrameAborted (frame : RxFrame) (s : State) : Host.Outcome State Fault Refusal :=
  ran s (rxAborted s frame)

end Sys2Proof.Machine
end

