-- ==== Sys2Proof/Machine/Reports.lean ====
section
/-! DEFINITION. Report datagrams (R406, R407). -/
namespace Sys2Proof.Machine

/-- RESEND in TIM cycles (R409): units of 10 ms. -/
def resendCyc (s : State) : Nat := msCyc (s.evq.resend * 10)

/-- Whether a ring packet is to be sent now (R406): not sent yet, or unacknowledged RESEND after it was sent. -/
def pktDue (s : State) (p : RingPkt) : Bool :=
  match p.sentAt with
  | none => true
  | some t => t + resendCyc s ≤ s.tim.cyc

/-- Whole packets in order that fit a datagram of 1,408 octets, of which `used` are taken (R407). -/
def fitPackets (used : Nat) : List RingPkt → List RingPkt
  | [] => []
  | p :: l => if used + 8 * p.words.length ≤ 1408 then p :: fitPackets (used + 8 * p.words.length) l else []

/-- The packets of a queue's next report datagram. -/
def reportPackets (s : State) (q : Nat) : List RingPkt := fitPackets 8 ((nth s.evq.queues q {}).ring.filter (pktDue s))

/-- The octets of a report datagram (R407): MAGIC, VERSION, QUEUE, COUNT and the packets. -/
def reportDatagram (q : Nat) (l : List RingPkt) : List Byte :=
  [0x56, 0x52, 0x50, 0x54, 0x01] ++ leBytes 1 q ++ leBytes 2 l.length ++ l.flatMap fun p => p.words.flatMap fun w => leBytes 8 w.toNat

/-- One report datagram of a queue in TQ2 (R407), when it has a packet to send. -/
def reportQueue (s : State) (q : Nat) : State :=
  let l := reportPackets s q
  let x := sess s s.evq.session
  if l = [] then s
  else
    let seqs := l.map RingPkt.seq
    let data := reportDatagram q l
    let r := ethQueue s x.port 2 ⟨.report q data, datagramOctets x.ipv6 data.length⟩
    if r.2 then
      setQueue r.1 q fun y => { y with ring := y.ring.map fun p => if seqs.contains p.seq then { p with sentAt := some s.tim.cyc } else p }
    else r.1

/-- The report datagrams of a Recovery (R407): at most one per queue, in the DTLS session that enabled reports. -/
def reportsSend (s : State) : State :=
  let x := sess s s.evq.session
  if s.evq.enable && x.state = .open_ && x.port ≠ 2 then (List.range 8).foldl reportQueue s else s

/-- REPORT_RESEND (R406): RESEND has passed since a packet was sent and it is unacknowledged; it is due again. -/
def reportResend (s : State) (q seq : Nat) : State :=
  match (nth s.evq.queues q {}).ring.find? fun p => p.seq = seq with
  | some p =>
    match p.sentAt with
    | some t =>
      setQueue (advanceCyc s (t + resendCyc s)) q fun y =>
        { y with ring := y.ring.map fun (p : RingPkt) => if p.seq = seq then { p with sentAt := none } else p }
    | none => s
  | none => s

end Sys2Proof.Machine
end

