-- ==== Sys2Proof/Machine/CmdReport.lean ====
section
/-! DEFINITION. The meanings of the commands of event queues and reports (R395 to R409). -/
namespace Sys2Proof.Machine

/-- EVQ_COMMIT (R397). -/
def execEvqCommit (queue : Nat) (words : List (BitVec 64)) (s : State) : Host.Outcome State Fault Refusal :=
  ran s (putPacket s queue words)

/-- EVQ_REWIND (R398). -/
def execEvqRewind (queue : Nat) (words : Nat) (s : State) : Host.Outcome State Fault Refusal :=
  ran s (rewound s queue words)

/-- REPORT_RESEND (R406). -/
def execReportResend (queue : Nat) (seq : Nat) (s : State) : Host.Outcome State Fault Refusal :=
  ran s (reportResend s queue seq)

/-- REPORT_ENABLE (R406). -/
def execReportEnable (req : VtpMeta) (resend : Nat) (s : State) : Host.Outcome State Fault Refusal :=
  ran s (vtpWrite s req Stn.evq.idx 0x4 [pack [(31, 1), (0, resend % 65536)]] 0)

/-- REPORT_ACK (R406). -/
def execReportAck (req : VtpMeta) (queue : Nat) (ack : Nat) (s : State) : Host.Outcome State Fault Refusal :=
  ran s (vtpWrite s req Stn.evq.idx (0x114 + 0x20 * queue) [w32 ack] 0)

end Sys2Proof.Machine
end

