-- ==== Sys2Proof/Machine/CmdSession.lean ====
section
/-! DEFINITION. The meanings of the commands of sessions, VTP requests and the service port (R452 to R473). -/
namespace Sys2Proof.Machine

/-- SRV_EN_RISE (R456). -/
def execSrvEnRise (s : State) : Host.Outcome State Fault Refusal :=
  ran s (srvEnRise s)

/-- SRV_EN_FALL (R91). -/
def execSrvEnFall (s : State) : Host.Outcome State Fault Refusal :=
  ran s (srvEnFall s)

/-- CLIENT_HELLO (R453). -/
def execClientHello (port : Nat) (peer : Nat) (ipv6 : Bool) (cookie : Bool) (resume : Bool) (s : State) : Host.Outcome State Fault Refusal :=
  ran s (clientHello s port peer ipv6 cookie resume)

/-- HANDSHAKE_TIMEOUT (R58). -/
def execHandshakeTimeout (port : Nat) (peer : Nat) (s : State) : Host.Outcome State Fault Refusal :=
  ran s (handshakeTimeout s port peer)

/-- SESSION_CLOSE (R454). -/
def execSessionClose (session : Nat) (s : State) : Host.Outcome State Fault Refusal :=
  ran s (sessionClose s session)

/-- SESSION_IDLE_TIMEOUT (R454). -/
def execSessionIdleTimeout (session : Nat) (s : State) : Host.Outcome State Fault Refusal :=
  ran s (sessionIdle s session)

/-- READ (R460). -/
def execRead (req : VtpMeta) (station : Nat) (offset : Nat) (length : Nat) (s : State) : Host.Outcome State Fault Refusal :=
  ran s (vtpRead s req station offset length)

/-- WRITE (R461). -/
def execWrite (req : VtpMeta) (station : Nat) (offset : Nat) (words : List Word) (phy : Nat) (s : State) : Host.Outcome State Fault Refusal :=
  ran s (vtpWrite s req station offset words phy)

/-- POLL (R465). -/
def execPoll (req : VtpMeta) (handle : Nat) (s : State) : Host.Outcome State Fault Refusal :=
  ran s (vtpPoll s req handle)

/-- CANCEL (R473). -/
def execCancel (req : VtpMeta) (handle : Nat) (s : State) : Host.Outcome State Fault Refusal :=
  ran s (vtpCancel s req handle)

/-- CALL_RECORD_FREE (R465). -/
def execCallRecordFree (handle : Nat) (s : State) : Host.Outcome State Fault Refusal :=
  ran s (callFree s handle)

/-- CALL_TAKEN (R467). -/
def execCallTaken (req : VtpMeta) (handle : Nat) (taken : Nat) (s : State) : Host.Outcome State Fault Refusal :=
  ran s (vtpWrite s req Stn.sys.idx (0x100C + 0x40 * handle) [w32 taken] 0)

/-- SRV_BAUD (R455). -/
def execSrvBaud (req : VtpMeta) (rate : Nat) (s : State) : Host.Outcome State Fault Refusal :=
  ran s (vtpWrite s req Stn.sys.idx 0x300 [w32 rate] 0)

/-- BAUD_REVERT (R455). -/
def execBaudRevert (s : State) : Host.Outcome State Fault Refusal :=
  ran s (baudRevert s)

/-- SERVICE_FRAME_DROPPED (R455). -/
def execServiceFrameDropped (s : State) : Host.Outcome State Fault Refusal :=
  ran s (serviceDropped s)

/-- HANDSHAKE_END (R454). -/
def execHandshakeEnd (port : Nat) (peer : Nat) (signedBy : Nat) (p256 : Bool) (notBefore : Nat) (notAfter : Nat) (s : State) : Host.Outcome State Fault Refusal
    :=
  ran s (handshakeEnd s port peer signedBy p256 notBefore notAfter)

end Sys2Proof.Machine
end

