-- ==== Sys2Proof/Machine/CmdStation.lean ====
section
/-! DEFINITION. The meanings of the commands of station faults and resets, clocks, ledger and flash failures, Trims (R18, R32 to R38, R44, R58, R125, R468). -/
namespace Sys2Proof.Machine

/-- STATION_RESET_START (R33). -/
def execStationResetStart (s : State) : Host.Outcome State Fault Refusal :=
  ran s (stationResetStart s)

/-- STATION_READY (R33). -/
def execStationReady (station : Stn) (s : State) : Host.Outcome State Fault Refusal :=
  ran s (stationReady s station)

/-- PLL_LOCK_LOSS (R18). -/
def execPllLockLoss (source : ClockSrc) (s : State) : Host.Outcome State Fault Refusal :=
  ran s (pllLoss s source)

/-- PLL_LOCK_REGAINED (R18). -/
def execPllLockRegained (source : ClockSrc) (s : State) : Host.Outcome State Fault Refusal :=
  ran s (pllRegained s source)

/-- TCXO_FAILURE (R18). -/
def execTcxoFailure (s : State) : Host.Outcome State Fault Refusal :=
  ran s (bootRetry (tcxoFailure s))

/-- FABRIC_TMO (R44). -/
def execFabricTmo (wait : FabricWait) (s : State) : Host.Outcome State Fault Refusal :=
  ran s (fabricTimeout s wait.station wait.req)

/-- LEDGER_FAIL (R58). -/
def execLedgerFail (station : Stn) (s : State) : Host.Outcome State Fault Refusal :=
  ran s (ledgerFails s station)

/-- FLASH_TMO (R58). -/
def execFlashTmo (station : Stn) (s : State) : Host.Outcome State Fault Refusal :=
  ran s (flashFails s station)

/-- SPECIAL_TRIM_ENABLE (R125). -/
def execSpecialTrimEnable (index : Nat) (s : State) : Host.Outcome State Fault Refusal :=
  ran s (specialTrim s index)

/-- STATION_RESET_CALL (R468). -/
def execStationResetCall (call : CallMeta) (args : List Byte) (s : State) : Host.Outcome State Fault Refusal :=
  ran s (stationResetCall s call args)

/-- MODULE_RESET_CALL (R468). -/
def execModuleResetCall (call : CallMeta) (args : List Byte) (s : State) : Host.Outcome State Fault Refusal :=
  ran s (moduleResetCall s call args)

/-- MODULE_RESET (R468). -/
def execModuleReset (s : State) : Host.Outcome State Fault Refusal :=
  ran s (bootRetry (moduleReset s))

end Sys2Proof.Machine
end

