-- ==== Sys2Proof/Machine/Stroke.lean ====
section
/-! DEFINITION. The stroke as the Cox runs it (R19 to R31, R38): its boundary, Drive, steps done, Finish with the crabs, and Recovery with the
scrub (R62 to R66). -/
namespace Sys2Proof.Machine

/-! ## Stroke programs (R21, R22) -/

/-- The steps of a station's stroke program before Finish, in the stroke that runs. RAD's work is prepared in Drive; TIM's servo runs in stroke 0. -/
def programOf (s : State) (n : Stn) : List StkStep :=
  match n with
  | .tim => if s.cox.abs % 100 = 0 then [.catch_, .drive] else [.catch_]
  | .rad => [.drive]
  | _ => [.catch_, .drive]

/-- The Cox starts the stroke programs of running stations with a Finish duty: Catch steps start at the boundary. -/
def startPrograms (s : State) : State :=
  finishDuty.foldl (fun s n =>
    if isRunning s n then
      let p := programOf s n
      setStn s n fun r => { r with prog := p, started := p.head? = some .catch_, inStroke := true }
    else s) s

/-- A station's Drive step starts: LGT computes (R130), TIM chooses the servo's sample (R335). -/
def driveStart (s : State) (n : Stn) : State :=
  let s := setStn s n fun r => { r with started := true }
  match n with
  | .lgt => lgtDrive s
  | .tim => { s with tim := { s.tim with chosen := some (bestSample s) } }
  | _ => s

/-- A step's results take effect as it signals done, `cyc` SYS cycles into the stroke (R22, R132, R162, R335, R348, R377). -/
def stepResults (s : State) (n : Stn) (k : StkStep) (cyc : Nat) : State :=
  match n, k with
  | .tim, .catch_ => forwardCaptures s
  | .tim, .drive => servoUpdate s (s.tim.chosen.getD none)
  | .lgt, .drive => lgtPublish s cyc
  | .crs, .drive => crsEvaluate s
  | .mtr, .drive => signRule s
  | _, _ => s

/-! ## The boundary (R19, R26, R30) -/

/-- The Cox begins a stroke at boundary `b`, or at the new time of a step made there (R30). `prev` is the last stroke run; the stroke that a SYS reset
interrupted counts as run, so the strokes lost are those after it (log entry 109). A new time is a boundary when this TIM cycle is the first at or
after one (R61). -/
def coxBegin (s : State) (prev : Option Nat) (b : Nat) (stepped : Bool) : State :=
  let on := !stepped || s.tim.sub % (strokeNs * frac) < addend s
  let start := if !stepped then b else if on then nowNs s / strokeNs * strokeNs else nowNs s
  let ends := if on then start + strokeNs else cdiv (start + 8500000) strokeNs * strokeNs
  let abs := ends / strokeNs - 1
  let lost := match prev with
    | some a => abs - (a + 1)
    | none => 0
  { s with cox := { s.cox with phase := .catch_, count := s.cox.count + 1, abs := abs, start := start, ends := ends, bridging := !on,
                               skipped := satAdd 32 s.cox.skipped lost, sysHeldAt := none } }

/-- Stations that wait join and drive their pads (R33 step 6, R74); after a SYS reset those it held resume (R38). -/
def joinStations (s : State) (fromHold : Bool) : State :=
  let s := (Stn.all.filter fun n => (stn s n).state = .ready).foldl readyPads s
  { s with stns := (Stn.all.zip s.stns).map fun (x : Stn × StnRec) =>
      if x.2.state = .ready then { x.2 with state := .running }
      else if fromHold && x.2.state = .held && finishDuty.contains x.1 && !(s.sys.start.mode = .paddle && paddleHeld.contains x.1) then
        { x.2 with state := .running }
      else x.2 }

/-- Changes whose boundary has come (R26, R125, R170, R174, R241, R393, R411, R439, R473). -/
def boundaryDues (s : State) : State :=
  let s := overlayAtBoundary (cancelDues s)
  let s := if isRunning s .crs then modeAtBoundary (crsDues s) else s
  let s := mtrDues (radDues s)
  rigAtBoundary (dayRetry (easyLate (featherAtBoundary s)))

/-- What the stations do at Catch (R22): ports follow R239, RAD queues what it framed, LGT takes its inputs and freezes them. -/
def catchWork (s : State) : State :=
  let s := portStates s (radCrabbed s)
  let s := if isRunning s .rad && !radCrabbed s then radBoundary s else s
  let s := match s.crs.next with
    | some l => if isRunning s .crs then handInputs s l else s
    | none => s
  let s := if isRunning s .lgt then lgtCatch s else s
  let s := if isRunning s .rtc then agingCheck s else s
  mtrBegin s

/-- A stroke begins at boundary `b`. -/
def beginStroke (s : State) (prev : Option Nat) (b : Nat) (stepped fromHold : Bool) : State :=
  let s := coxBegin s prev b stepped
  let s := learnFollows (calendarKept (holdCheck (leapAtMidnight s)))
  startPrograms (catchWork (boundaryDues (joinStations s fromHold)))

/-- An image whose AT has come at this boundary (R435, R436): ACTIVATE NOW resets the module, ACTIVATE STATIONS begins its series. None when no
module reset follows. -/
def imageReset (s : State) : Option State :=
  match imageDue s with
  | some (h, o) =>
    if o.stations then none
    else
      let r := imageActivate (if s.mtr.running then signRule s else s) h o
      if r.2 then some (startModule r.1 0x09 0 false) else none
  | none => none

/-- The series of ACTIVATE STATIONS begins at this boundary; an activation that failed has ended its CALL. -/
def imageSeries (s : State) : State :=
  match imageDue s with
  | some (h, o) =>
    if o.stations then seriesStart s h o else (imageActivate (if s.mtr.running then signRule s else s) h o).1
  | none => s

/-- The instant of the next boundary: the end of the stroke that runs, or of the one that SYS in reset does not run. -/
def nextBoundary (s : State) : Nat := s.cox.ends

/-- A boundary that passes while the Cox starts nothing (R38): the next is the next multiple of 10 ms. -/
def passBoundary (s : State) : State := { s with cox := { s.cox with ends := (nowNs s / strokeNs + 1) * strokeNs } }

/-- A step due at boundary `b` (R335 to R337). -/
def stepAt (s : State) (b : Nat) : State := if b / strokeNs % 100 = 1 then stepAtBoundary s else s

/-- The meters at a boundary (R376): `samples` close the stroke that ends; while SYS was held no stroke ends. -/
def closeMeters (s : State) (held : Bool) (samples : StrokeSamples) : State :=
  if held then s else mtrFinal (fixedWindows (mtrClose s samples) samples s.mtr.settle)

/-- The step of network time at `b` (R30), then the stroke that begins there; while SYS is in reset the Cox starts nothing (R38). -/
def stepAndBegin (s : State) (prev : Option Nat) (b : Nat) (held : Bool) (misalign : Int) : State :=
  let t := stepAt s b
  let stepped := t.tim.sub != s.tim.sub
  let t := if stepped then beaconsPassed t b (nowNs t) else t
  if held && inReset t .sys then passBoundary t else mclkCheck (beginStroke t prev b stepped held) misalign

/-- At the boundary, with the meters closed in `s`: an image that is due resets the module, and otherwise the next stroke begins. -/
def resetOrBegin (s : State) (prev : Option Nat) (b : Nat) (held : Bool) (misalign : Int) : State :=
  match imageReset s with
  | some r => r
  | none => stepAndBegin (imageSeries s) prev b held misalign

/-- The boundary at `b`. -/
def boundaryAt (s : State) (b : Nat) (held : Bool) (samples : StrokeSamples) (misalign : Int) : State :=
  resetOrBegin (closeMeters (advanceTo s b) held samples) (if held then s.cox.sysHeldAt else some s.cox.abs) b held misalign

/-- SYS is held in reset between strokes (R38). -/
def strokeHeld (s : State) : Bool := s.cox.phase = .none && s.cox.sysHeldAt.isSome

/-- STROKE_BOUNDARY (R19, R22, R30, R38): `samples` are the meter samples of the stroke that ends, `misalign` how far in ns the MCLK edge lies from
a second boundary (R368). Without a stroke in its Recovery or a SYS hold to leave there is no boundary to take; while SYS is in reset TIM makes
its step and the Cox starts nothing. -/
def strokeBoundary (s : State) (samples : StrokeSamples) (misalign : Int) : State :=
  if s.modp = .running ∧ (s.cox.phase = .recovery ∨ strokeHeld s) then boundaryAt s (nextBoundary s) (strokeHeld s) samples misalign else s

/-- The module runs; the start record keeps how many ms the start took (R127). -/
def startEnds (s : State) : State :=
  { s with modp := .running,
           sys := { s.sys with start := { s.sys.start with ms := (s.tim.cyc - s.sys.timerAt) / 250000 % frac } } }

/-- The boundary that begins stroke 0 of a start (R101, R103): this TIM cycle when it is the first of a second of network time, as it is when
network time has just begun, and otherwise the next second. -/
def firstBoundary (s : State) : Nat := if s.tim.sub % (giga * frac) < addend s then nowSec s * giga else (nowSec s + 1) * giga

/-- FIRST_STROKE (R101, R103, R128): the first stroke is stroke 0 of the second at whose boundary every station is READY. A
start that goes to PADDLE because both Rigs were refused has strokes too (log entry 113). -/
def firstStroke (s : State) : State :=
  if s.modp = .starting ∧ s.tim.set = true ∧ allStations s .ready = true then
    beginStroke (sunUpdate (wakeReached (startRecord (startEnds (advanceTo s (firstBoundary s)))))) none (firstBoundary s) false false
  else s

/-- The instant of Drive (R20): 0.5 ms into the stroke. -/
def driveNs (s : State) : Nat := s.cox.start + 500000

/-- A station that waits with its Drive step starts it (R21). -/
def driveWaiting (s : State) (n : Stn) : State :=
  if (stn s n).prog = [.drive] && !(stn s n).started then driveStart s n else s

/-- The phase of the Cox changes. -/
def setPhase (s : State) (p : Phase) : State := { s with cox := { s.cox with phase := p } }

/-- DRIVE (R20, R21): the Drive steps start whose Catch step is done. -/
def drive (s : State) : State :=
  if s.modp = .running ∧ s.cox.phase = .catch_ then finishDuty.foldl driveWaiting (setPhase (advanceTo s (driveNs s)) .drive) else s

/-- The SYS cycles of 2.5 ns from the stroke's start to now, at least `cyc`. -/
def cycNow (s : State) (cyc : Nat) : Nat := max cyc ((nowNs s - s.cox.start) * 2 / 5)

/-- SYS cycles from the boundary to Finish (R23). -/
def finishCyc : Nat := 3200000

/-- STEP_DONE (R21, R23): a station's running step signals done `cyc` SYS cycles into the stroke; in the cycle of Finish or later it is late and
changes nothing. -/
def stepDone (s : State) (n : Stn) (cyc : Nat) : State :=
  let c := cycNow s cyc
  if s.modp ≠ .running || !(s.cox.phase = .catch_ || s.cox.phase = .drive) || c ≥ finishCyc || !(stn s n).started then s
  else
    match (stn s n).prog with
    | [] => s
    | k :: rest =>
      let s := advanceTo s (s.cox.start + cdiv (c * 5) 2)
      let s := stepResults s n k c
      let s := setStn s n fun r => { r with prog := rest, started := false }
      if rest ≠ [] && s.cox.phase = .drive then driveStart s n else s

/-! ## Scrub (R62 to R66) -/

/-- A guard-code event is kept and recorded (R66, R403 code 0x0002). -/
def guardEvent (s : State) (g : GuardLast) : State :=
  let s := { s with sys := { s.sys with last := g, ce := if g.ue then s.sys.ce else inc32 s.sys.ce,
                                        ue := if g.ue then inc32 s.sys.ue else s.sys.ue } }
  event s .sys 0x0002 0 (guardWord g).toNat 0

/-- The code of an owner of memory (R66): a station, or 0x1F for unallocated memory. -/
def ownerCode (o : Option Stn) : Nat := (o.map Stn.idx).getD 0x1F

/-- An uncorrectable error in a word, or in a fabric beat (`src` 2) whose source owner takes the fault (R44, R64), after it has been counted. A word of a
station keeps its damage until the reset of its owner rewrites it. -/
def guardUe (s : State) (src : Nat) (bad : List Nat) (owner : Option Stn) (w : Nat) : State :=
  match owner with
  | some n =>
    if src = 2 then takeFault s n .guardUe
    else if n = .sys then guardReset s
    else
      let s := putBits s w (damaged (wordBits s.mem w) bad)
      takeFault { s with sys := { s.sys with badWords := s.sys.badWords ++ [(n, w)] } } n .guardUe
  | none => if src = 2 then s else putBits s w 0

/-- A word or a beat with erroneous positions (R63, R64), found by the scrub (0), an initiator's read (1) or in the fabric (2). A pattern wider than
32 positions has a result that is not specified: delivered as it stands, corrected to some data, or found uncorrectable, as a free value says. A beat
is stored nowhere. -/
def guardRead (s : State) (src : Nat) (bad : List Nat) (owner : Option Stn) (w : Nat) : State :=
  let l := bad.filter (· < 304)
  let g : GuardLast := { source := src, owner := ownerCode owner, word := w }
  match l.min?, l.max? with
  | some lo, some hi =>
    let span := hi - lo + 1
    if span ≤ 16 then guardEvent s { g with span := span }
    else if span ≤ 32 then guardUe (guardEvent s { g with ue := true }) src l owner w
    else
      let s := drawn s
      let pick := Config.freeNat (s.free - 1) % 3
      if pick = 0 then (if src = 2 then s else putBits s w (damaged (wordBits s.mem w) l))
      else if pick = 1 then
        let s := drawn s
        let s := guardEvent s { g with span := Config.freeNat (s.free - 1) % 16 + 1 }
        if src = 2 then s else putFree s w
      else guardUe (guardEvent s { g with ue := true }) src l owner w
  | _, _ => s

/-- Whether an error pattern is found uncorrectable for certain (R63). -/
def ueSpan (bad : List Nat) : Bool :=
  match (bad.filter (· < 304)).min?, (bad.filter (· < 304)).max? with
  | some lo, some hi => 16 < hi - lo + 1 && hi - lo + 1 ≤ 32
  | _, _ => false

/-- Words of main SRAM (R65). -/
def sramWords : Nat := 262144

/-- The scrub slice of a Recovery (R65): the next word is read, and handled under R64. -/
def scrub (s : State) (bad : List Nat) (owner : Option Stn) : State :=
  if !isRunning s .sys then s
  else
    let w := s.sys.pos
    let s := { s with sys := { s.sys with pos := (w + 1) % sramWords, passes := if w + 1 = sramWords then inc32 s.sys.passes else s.sys.passes } }
    guardRead s 0 bad owner w

/-- A word of a packet in a queue's stages is not the one that was written: free words take its place. -/
def stageFree (s : State) (q k : Nat) : State :=
  let s := drawn s
  setQueue s q fun e => { e with vis := upd e.vis k fun ws => ws.take 2 ++ (ws.drop 2).map fun _ => BitVec.ofNat 64 (Config.freeNat (s.free - 1)) }

/-- A word with erroneous positions in a stage of an event queue (R395, R398): corrected, or its packet removed and counted, without a station
fault. A pattern wider than 32 positions has a result that is not specified (R63), as in `guardRead`. -/
def guardStage (s : State) (h : GuardHit) (q k : Nat) : State :=
  let l := h.bad.filter (· < 304)
  let g : GuardLast := { source := 1, owner := Stn.evq.idx, word := h.word }
  match l.min?, l.max? with
  | some lo, some hi =>
    let span := hi - lo + 1
    if span ≤ 16 then guardEvent s { g with span := span }
    else if span ≤ 32 then guardEvent (setQueue s q fun e => stageLost e k) { g with ue := true }
    else
      let s := drawn s
      let pick := Config.freeNat (s.free - 1) % 3
      if pick = 0 then stageFree s q k
      else if pick = 1 then
        let s := drawn s
        guardEvent (stageFree s q k) { g with span := Config.freeNat (s.free - 1) % 16 + 1 }
      else guardEvent (setQueue s q fun e => stageLost e k) { g with ue := true }
  | _, _ => s

/-- The errors in stages of event queues that the stroke met (R398), before the drain of its Recovery. -/
def stageHits (s : State) (l : List GuardHit) : State :=
  l.foldl (fun s h => match h.stage with
    | some (q, k) => guardStage s h q k
    | none => s) s

/-- The errors that reads and beats of the stroke met (R64), in their order; a module reset ends them. The request whose
transaction an uncorrectable beat belongs to is answered with GUARD_UE (R44). -/
def guardHits (s : State) (l : List GuardHit) : State :=
  l.foldl (fun s h =>
    if s.modp ≠ .running || h.stage.isSome then s
    else guardRead (if h.beat && ueSpan h.bad then requestFails s h.req .guardUe else s) (if h.beat then 2 else 1) h.bad h.owner h.word) s

/-! ## Finish (R20, R24, R27) -/

/-- Stations that take part in the stroke at its Finish. -/
def inStroke (s : State) (n : Stn) : Bool := isRunning s n && (stn s n).inStroke

/-- Whether a station has missed Finish (R24). -/
def crabs (s : State) (n : Stn) : Bool := inStroke s n && (stn s n).prog ≠ []

/-- The history of a station that took part takes this stroke's result; its program ends (R27). -/
def judged (s : State) (n : Stn) : State :=
  if !inStroke s n then s
  else
    let c := crabs s n
    setStn s n fun r => { r with hist := (c :: r.hist).take 100, crabs := if c then inc32 r.crabs else r.crabs, prog := [], started := false }

/-- What a crab means to the station's outputs (R24); of TIM's in stroke 0 the update counts as one without a used sample (R339). -/
def crabEffect (s : State) (n : Stn) : State :=
  match n with
  | .lgt => lgtDiscard s
  | .crs => setCrs s fun c => { c with next := none }
  | .mtr => mtrCrab s
  | .tim => if s.cox.abs % 100 = 0 then missUpdate s else s
  | .rad => radLate s
  | _ => s

/-- The crab limit (R27): 8 crabs in the history fault the station. -/
def crabLimit (s : State) (n : Stn) : State :=
  if inStroke s n && (stn s n).hist.count true ≥ 8 then takeFault s n .crab else s

/-- The Cox's judgement of every station, then the faults, ascending. -/
def judge (s : State) : State :=
  let late := finishDuty.filter (crabs s)
  let s := late.foldl crabEffect (finishDuty.foldl judged s)
  let s := seriesStroke s fun n => late.contains n
  let s := finishDuty.foldl crabLimit s
  let clean := late = [] && allStations s .running
  { s with sys := { s.sys with run := if clean then s.sys.run + 1 else 0 } }

/-- What becomes visible at Finish (R22, R189, R335, R380, R415). `done` tells the stations whose work is complete. -/
def finishWork (s : State) (done : Stn → Bool) : State :=
  let s := if done .mtr then mtrPublish s else s
  let s := if done .tim then rateApply s else s
  let s := if done .rad then radDrive s else s
  let s := if done .crs then releaseHandoffs s else s
  easyCommit s

/-- Recovery (R20, R22, R65, R405, R407): housekeeping; the readings of the temperature sensors are those of stroke 50 (R374). -/
def recoveryWork (s : State) (hits : List GuardHit) (bad : List Nat) (owner : Option Stn) (temps : List (Option Int)) : State :=
  let s := if isRunning s .rad then rxFloorsSave (natRebuild s) else s
  let s := if isRunning s .crs then nbrFloorsSave s else s
  let s := mtrRecovery s temps
  let s := peersAsked (reportsSend (evqDrain (stageHits s hits)))
  let s := ringsServed (sunUpdate s)
  let s := distStep (fallbackTrack s)
  scrub (guardHits s hits) bad owner

/-- The instant of Finish (R20, R24, R27): the Cox judges, what is complete becomes visible, Recovery begins. -/
def finishNow (s : State) (hits : List GuardHit) (bad : List Nat) (owner : Option Stn) (temps : List (Option Int)) : State :=
  let done := finishDuty.filter fun n => inStroke s n && (stn s n).prog = []
  let lgt := inStroke s .lgt
  let s := finishWork (judge s) fun n => done.contains n
  let s := if lgt then lgtHours s else s
  recoveryWork (setPhase s .recovery) hits bad owner temps

/-- The instant of Finish (R20): 8.0 ms into the stroke. -/
def finishNs (s : State) : Nat := s.cox.start + 8000000

/-- FINISH (R20, R24, R27): at its instant, then the stroke's Recovery. `bad` are erroneous positions of the word the scrub reads and `owner` the
station that owns it, none for unallocated memory; `hits` are the errors that reads and beats of the stroke met. -/
def finish (s : State) (hits : List GuardHit) (bad : List Nat) (owner : Option Stn) (temps : List (Option Int)) : State :=
  if s.modp = .running ∧ s.cox.phase = .drive then finishNow (advanceTo s (finishNs s)) hits bad owner temps else s

end Sys2Proof.Machine
end

