-- ==== Sys2Proof/Machine/CmdStroke.lean ====
section
/-! DEFINITION. The meanings of the commands of the stroke (R19 to R31). -/
namespace Sys2Proof.Machine

/-- STROKE_BOUNDARY (R19). -/
def execStrokeBoundary (samples : List (List (Int × Int))) (misalign : Int) (s : State) : Host.Outcome State Fault Refusal :=
  ran s (bootRetry (strokeBoundary s samples misalign))

/-- DRIVE (R20). -/
def execDrive (s : State) : Host.Outcome State Fault Refusal :=
  ran s (drive s)

/-- FINISH (R24). -/
def execFinish (hits : List GuardHit) (word : Scrubbed) (temps : List (Option Int)) (ahead : Ahead) (s : State) : Host.Outcome State Fault Refusal :=
  ran s (bootRetry (finish { s with ahead := ahead } hits word.bad word.owner temps))

/-- STEP_DONE (R21). -/
def execStepDone (station : Stn) (cyc : Nat) (s : State) : Host.Outcome State Fault Refusal :=
  ran s (stepDone s station cyc)

/-- FIRST_STROKE (R101). -/
def execFirstStroke (s : State) : Host.Outcome State Fault Refusal :=
  ran s (firstStroke s)

end Sys2Proof.Machine
end

