-- ==== Sys2Proof/Machine/PtpSend.lean ====
section
/-! DEFINITION. The PTP messages the module sends (R315, R321, R332, R333). -/
namespace Sys2Proof.Machine

/-- Octets of a PTP message's frame, from destination address to FCS, over the Rig's transport (R332; header sizes of the protocols, log entry 13). -/
def ptpOctets (s : State) (message : Nat) : Nat :=
  let t := (cBackhaul s).transport
  max 64 (18 + message + (if t = 4 then 28 else if t = 6 then 50 else 0))

/-- The next sequenceId of the module's requests. -/
def nextSeq (s : State) : State × Nat :=
  let n := (s.tim.reqSeq + 1) % 65536
  ({ s with tim := { s.tim with reqSeq := n } }, n)

/-- A PTP event message goes to TQ0 (R321) and is counted once ETH has taken it. -/
def ptpQueue (s : State) (p : Nat) (i : TxItem) (message j : Nat) : State :=
  let r := ethQueue s p 0 ⟨i, ptpOctets s message⟩
  if r.2 then ptpCount r.1 j else r.1

/-- DELAY_REQ_SEND (R332): a one-step Delay_Req to the selected master's port, under the delay request-response mechanism. -/
def delayReqSend (s : State) : State :=
  match s.tim.master with
  | some m =>
    if !isRunning s .tim || (cBackhaul s).p2p then s
    else
      let q := nextSeq s
      ptpQueue q.1 m.port (.delayReq q.2) 44 2
  | none => s

/-- PDELAY_REQ_SEND (R333): under the peer-to-peer mechanism. -/
def pdelayReqSend (s : State) (p : Nat) : State :=
  if !isRunning s .tim || !(cBackhaul s).p2p then s
  else
    let q := nextSeq s
    ptpQueue q.1 p (.pdelayReq q.2) 54 4

/-- PDELAY_REQ_RECEIVE (R333): answered on its port with the turnaround in correctionField. -/
def pdelayReqReceive (s : State) (src : PtpSrc) : State :=
  if !isRunning s .tim || !inDomain s src.domain || !(cBackhaul s).p2p then s
  else ptpQueue s src.port (.pdelayResp src.seq src.clockId (rxStamp s src.port)) 54 6

/-- A PTP message that is not supported is dropped and counted (R332). -/
def ptpUnsupported (s : State) : State := ptpCount s 8

end Sys2Proof.Machine
end

