-- ==== Sys2Proof/Machine/CmdTime.lean ====
section
/-! DEFINITION. The meanings of the commands of network time, compares, captures and the calendar (R327 to R366, R469). -/
namespace Sys2Proof.Machine

/-- TIME_INIT (R340). -/
def execTimeInit (s : State) : Host.Outcome State Fault Refusal :=
  ran s (timeInit s)

/-- VBAT_APPLIED (R360). -/
def execVbatApplied (s : State) : Host.Outcome State Fault Refusal :=
  ran s (vbatApplied s)

/-- OSCILLATOR_STOP (R360). -/
def execOscillatorStop (s : State) : Host.Outcome State Fault Refusal :=
  ran s (setOsf s)

/-- VBAT_LOW (R360). -/
def execVbatLow (s : State) : Host.Outcome State Fault Refusal :=
  ran s (vbatLow s)

/-- TIME_READ (R329). -/
def execTimeRead (req : VtpMeta) (words : Nat) (s : State) : Host.Outcome State Fault Refusal :=
  ran s (vtpRead s req Stn.tim.idx 0x10 (4 * words))

/-- ANNOUNCE_RECEIVE (R332). -/
def execAnnounceReceive (msg : AnnounceMsg) (s : State) : Host.Outcome State Fault Refusal :=
  ran s (announceReceive s msg)

/-- ANNOUNCE_RECEIPT_TIMEOUT (R332). -/
def execAnnounceReceiptTimeout (s : State) : Host.Outcome State Fault Refusal :=
  ran s (announceTimeout s)

/-- SYNC_RECEIVE (R334). -/
def execSyncReceive (src : PtpSrc) (twoStep : Bool) (t1 : Int) (corr : Int) (s : State) : Host.Outcome State Fault Refusal :=
  ran s (syncReceive s src twoStep t1 corr)

/-- FOLLOW_UP_RECEIVE (R334). -/
def execFollowUpReceive (src : PtpSrc) (t1 : Int) (corr : Int) (s : State) : Host.Outcome State Fault Refusal :=
  ran s (followUpReceive s src t1 corr)

/-- DELAY_RESP_RECEIVE (R334). -/
def execDelayRespReceive (src : PtpSrc) (t4 : Int) (corr : Int) (s : State) : Host.Outcome State Fault Refusal :=
  ran s (delayRespReceive s src t4 corr)

/-- DELAY_REQ_SEND (R332). -/
def execDelayReqSend (s : State) : Host.Outcome State Fault Refusal :=
  ran s (delayReqSend s)

/-- PDELAY_REQ_SEND (R333). -/
def execPdelayReqSend (port : Nat) (s : State) : Host.Outcome State Fault Refusal :=
  ran s (pdelayReqSend s port)

/-- PDELAY_REQ_RECEIVE (R333). -/
def execPdelayReqReceive (src : PtpSrc) (s : State) : Host.Outcome State Fault Refusal :=
  ran s (pdelayReqReceive s src)

/-- PDELAY_RESP_RECEIVE (R333). -/
def execPdelayRespReceive (src : PtpSrc) (turn : Int) (corr : Int) (s : State) : Host.Outcome State Fault Refusal :=
  ran s (pdelayRespReceive s src turn corr)

/-- HEAD_END_STEP (R337). -/
def execHeadEndStep (req : VtpMeta) (absolute : Bool) (rest : List Word) (s : State) : Host.Outcome State Fault Refusal :=
  ran s (vtpWrite s req Stn.tim.idx 0x50 (pack [(28, 1), (24, b2n absolute)] :: rest) 0)

/-- TIME_SAVE (R340). -/
def execTimeSave (s : State) : Host.Outcome State Fault Refusal :=
  ran s (timeSave s)

/-- COMPARE_ARM (R342). -/
def execCompareArm (req : VtpMeta) (unit_ : Nat) (ctrl : Word) (rest : List Word) (s : State) : Host.Outcome State Fault Refusal :=
  ran s (vtpWrite s req Stn.tim.idx (0x1000 + 0x40 * unit_) (withState ctrl 1 :: rest) 0)

/-- COMPARE_DISARM (R342). -/
def execCompareDisarm (req : VtpMeta) (unit_ : Nat) (ctrl : Word) (s : State) : Host.Outcome State Fault Refusal :=
  ran s (vtpWrite s req Stn.tim.idx (0x1000 + 0x40 * unit_) [withState ctrl 0] 0)

/-- COMPARE_EDGE (R343). -/
def execCompareEdge (unit_ : Nat) (s : State) : Host.Outcome State Fault Refusal :=
  ran s (compareEdge s unit_)

/-- PULSE_END (R342). -/
def execPulseEnd (unit_ : Nat) (s : State) : Host.Outcome State Fault Refusal :=
  ran s (pulseEnd s unit_)

/-- CAPTURE_EDGE (R346). -/
def execCaptureEdge (unit_ : Nat) (rising : Bool) (wide : Bool) (taps : Nat) (s : State) : Host.Outcome State Fault Refusal :=
  ran s (captureEdge s unit_ rising wide taps)

/-- SECOND_END (R352). -/
def execSecondEnd (s : State) : Host.Outcome State Fault Refusal :=
  ran s (secondEnds s)

/-- RTC_SNAP (R356). -/
def execRtcSnap (req : VtpMeta) (value : Word) (s : State) : Host.Outcome State Fault Refusal :=
  ran s (vtpWrite s req Stn.rtc.idx 0xC [value] 0)

/-- RTC_SEC_READ (R356). -/
def execRtcSecRead (req : VtpMeta) (words : Nat) (s : State) : Host.Outcome State Fault Refusal :=
  ran s (vtpRead s req Stn.rtc.idx 0x20 (4 * words))

/-- STAGING_WRITE (R357). -/
def execStagingWrite (req : VtpMeta) (field : Nat) (words : List Word) (s : State) : Host.Outcome State Fault Refusal :=
  ran s (vtpWrite s req Stn.rtc.idx (0x20 + 4 * field) words 0)

/-- RTC_COMMIT (R358). -/
def execRtcCommit (req : VtpMeta) (onSecond : Bool) (s : State) : Host.Outcome State Fault Refusal :=
  ran s (vtpWrite s req Stn.rtc.idx 0x10 [rtcCommitWord onSecond] 0)

/-- COMMIT_APPLY (R358). -/
def execCommitApply (s : State) : Host.Outcome State Fault Refusal :=
  ran s (commitApply s)

/-- COMPENSATION_WINDOW (R361). -/
def execCompensationWindow (temp : Int) (s : State) : Host.Outcome State Fault Refusal :=
  ran s (compWindow s temp)

/-- AGING_UPDATE (R363). -/
def execAgingUpdate (s : State) : Host.Outcome State Fault Refusal :=
  ran s (agingUpdate s)

/-- CALENDAR_CHECK (R364). -/
def execCalendarCheck (s : State) : Host.Outcome State Fault Refusal :=
  ran s (calendarCheck s)

/-- CAPTURE_EXPORT (R469). -/
def execCaptureExport (call : CallMeta) (args : List Byte) (s : State) : Host.Outcome State Fault Refusal :=
  ran s (captureExport s call args)

end Sys2Proof.Machine
end

