-- ==== Sys2Proof/Machine/CmdUpdate.lean ====
section
/-! DEFINITION. The meanings of the commands of transfers and updates (R428 to R450). -/
namespace Sys2Proof.Machine

/-- XFER_OPEN (R428). -/
def execXferOpen (req : VtpMeta) (kind : Nat) (slot : Nat) (rest : List Word) (s : State) : Host.Outcome State Fault Refusal :=
  ran s (vtpWrite s req Stn.upd.idx 0x20 (xferOpenWord kind slot :: rest) 0)

/-- XFER_ABORT (R428). -/
def execXferAbort (req : VtpMeta) (s : State) : Host.Outcome State Fault Refusal :=
  ran s (vtpWrite s req Stn.upd.idx 0x20 [0] 0)

/-- XFER_TIMEOUT (R428). -/
def execXferTimeout (s : State) : Host.Outcome State Fault Refusal :=
  ran s (xferTimeout s)

/-- BLOCK_COMMIT (R429). -/
def execBlockCommit (req : VtpMeta) (index : Nat) (s : State) : Host.Outcome State Fault Refusal :=
  ran s (vtpWrite s req Stn.upd.idx 0x30 [blockWord index] 0)

/-- BLOCK_WRITE_DONE (R429). -/
def execBlockWriteDone (sigs : ImageSigs) (s : State) : Host.Outcome State Fault Refusal :=
  ran s (blockDone s sigs)

/-- IMAGE_APPLY (R434). -/
def execImageApply (call : CallMeta) (args : List Byte) (sigs : ImageSigs) (s : State) : Host.Outcome State Fault Refusal :=
  ran s (imageApply s call args sigs)

/-- IMAGE_BUILD_COMPLETE (R433). -/
def execImageBuildComplete (s : State) : Host.Outcome State Fault Refusal :=
  ran s (imageBuilt s)

/-- MICROCODE_STATION_PASS (R436). -/
def execMicrocodeStationPass (s : State) : Host.Outcome State Fault Refusal :=
  ran s (seriesPass s)

/-- RIG_APPLY (R438). -/
def execRigApply (call : CallMeta) (args : List Byte) (rigs : RigSet) (s : State) : Host.Outcome State Fault Refusal :=
  ran s (rigApply s call args rigs)

/-- CALIBRATION_LOAD (R441). -/
def execCalibrationLoad (req : VtpMeta) (deadline : Option Nat) (args : List Byte) (s : State) : Host.Outcome State Fault Refusal :=
  ran s (calLoad s ⟨req, deadline⟩ args)

/-- CALIBRATION_ARCHIVE_WRITE (R441). -/
def execCalibrationArchiveWrite (s : State) : Host.Outcome State Fault Refusal :=
  ran s (calGathered s)

/-- LANTERN_FIRMWARE_DISTRIBUTION (R447). -/
def execLanternFirmwareDistribution (req : VtpMeta) (deadline : Option Nat) (args : List Byte) (s : State) : Host.Outcome State Fault Refusal :=
  ran s (distApply s ⟨req, deadline⟩ args)

/-- DISTRIBUTION_OUTCOME_TIMEOUT (R447). -/
def execDistributionOutcomeTimeout (node : Nat) (s : State) : Host.Outcome State Fault Refusal :=
  ran s (distTimeout s node)

/-- KEY_IMPORT (R443). -/
def execKeyImport (call : CallMeta) (args : List Byte) (secrets : List KeySecret) (s : State) : Host.Outcome State Fault Refusal :=
  ran s (keyImport s call args secrets)

/-- ANCHOR (R442). -/
def execAnchor (req : VtpMeta) (deadline : Option Nat) (args : List Byte) (signedBy : Option Nat) (s : State) : Host.Outcome State Fault Refusal :=
  ran s (anchorCall s ⟨req, deadline⟩ args signedBy)

end Sys2Proof.Machine
end

