-- ==== Sys2Proof/Machine/Dispatch.lean ====
section
/-! DEFINITION. One arm per command. -/
namespace Sys2Proof.Machine

def exec (i : Instr) (s : State) : Host.Outcome State Fault Refusal :=
  match i with
  | .strokeBoundary samples misalign => Sys2Proof.Machine.execStrokeBoundary samples misalign s
  | .drive => Sys2Proof.Machine.execDrive s
  | .finish hits word temps ahead => Sys2Proof.Machine.execFinish hits word temps ahead s
  | .slotStart port => Sys2Proof.Machine.execSlotStart port s
  | .stepDone station cyc => Sys2Proof.Machine.execStepDone station cyc s
  | .stationResetStart => Sys2Proof.Machine.execStationResetStart s
  | .stationReady station => Sys2Proof.Machine.execStationReady station s
  | .pllLockLoss source => Sys2Proof.Machine.execPllLockLoss source s
  | .pllLockRegained source => Sys2Proof.Machine.execPllLockRegained source s
  | .tcxoFailure => Sys2Proof.Machine.execTcxoFailure s
  | .fabricTmo wait => Sys2Proof.Machine.execFabricTmo wait s
  | .resourceTmo work kind index => Sys2Proof.Machine.execResourceTmo work kind index s
  | .ledgerFail station => Sys2Proof.Machine.execLedgerFail station s
  | .flashTmo station => Sys2Proof.Machine.execFlashTmo station s
  | .powerOnReset bankA bankB aonLost ahead => Sys2Proof.Machine.execPowerOnReset bankA bankB aonLost ahead s
  | .timeInit => Sys2Proof.Machine.execTimeInit s
  | .firstStroke => Sys2Proof.Machine.execFirstStroke s
  | .bankNotValid bankB bankAmV bankBmV aonLost => Sys2Proof.Machine.execBankNotValid bankB bankAmV bankBmV aonLost s
  | .bankFault bankB => Sys2Proof.Machine.execBankFault bankB s
  | .resetN => Sys2Proof.Machine.execResetN s
  | .brownout => Sys2Proof.Machine.execBrownout s
  | .watchdog => Sys2Proof.Machine.execWatchdog s
  | .steadyTmo => Sys2Proof.Machine.execSteadyTmo s
  | .steady => Sys2Proof.Machine.execSteady s
  | .rigMigrationWrite => Sys2Proof.Machine.execRigMigrationWrite s
  | .specialTrimEnable index => Sys2Proof.Machine.execSpecialTrimEnable index s
  | .srvEnRise => Sys2Proof.Machine.execSrvEnRise s
  | .srvEnFall => Sys2Proof.Machine.execSrvEnFall s
  | .wakeCmp => Sys2Proof.Machine.execWakeCmp s
  | .pfiTrip => Sys2Proof.Machine.execPfiTrip s
  | .pfModeEnd => Sys2Proof.Machine.execPfModeEnd s
  | .vbatApplied => Sys2Proof.Machine.execVbatApplied s
  | .oscillatorStop => Sys2Proof.Machine.execOscillatorStop s
  | .vbatLow => Sys2Proof.Machine.execVbatLow s
  | .lgtCmdIssue req slot ctrl rest => Sys2Proof.Machine.execLgtCmdIssue req slot ctrl rest s
  | .lgtCmdCancel req slot => Sys2Proof.Machine.execLgtCmdCancel req slot s
  | .lgtForce req value => Sys2Proof.Machine.execLgtForce req value s
  | .tempStale chan => Sys2Proof.Machine.execTempStale chan s
  | .hoursSave => Sys2Proof.Machine.execHoursSave s
  | .scheduleStepWrite req program step part words => Sys2Proof.Machine.execScheduleStepWrite req program step part words s
  | .mreqIssue req slot mode rest => Sys2Proof.Machine.execMreqIssue req slot mode rest s
  | .mreqCancel req slot => Sys2Proof.Machine.execMreqCancel req slot s
  | .handoffRepeat nbr counter => Sys2Proof.Machine.execHandoffRepeat nbr counter s
  | .handoffAck head counter body tag => Sys2Proof.Machine.execHandoffAck head counter body tag s
  | .handoffUnconfirmed nbr counter => Sys2Proof.Machine.execHandoffUnconfirmed nbr counter s
  | .handoffReceive data => Sys2Proof.Machine.execHandoffReceive data s
  | .trxTmo port => Sys2Proof.Machine.execTrxTmo port s
  | .transceiverResetDone port => Sys2Proof.Machine.execTransceiverResetDone port s
  | .portInitRetry port => Sys2Proof.Machine.execPortInitRetry port s
  | .rxWindowClose node => Sys2Proof.Machine.execRxWindowClose node s
  | .ackTxgo port => Sys2Proof.Machine.execAckTxgo port s
  | .lanternReport frame body => Sys2Proof.Machine.execLanternReport frame body s
  | .detectorEvent frame payload => Sys2Proof.Machine.execDetectorEvent frame payload s
  | .sensorHeartbeat frame flags batt data => Sys2Proof.Machine.execSensorHeartbeat frame flags batt data s
  | .enrolmentRequest frame => Sys2Proof.Machine.execEnrolmentRequest frame s
  | .rejoinRequest frame recCrc => Sys2Proof.Machine.execRejoinRequest frame recCrc s
  | .binningRecordPart frame part data => Sys2Proof.Machine.execBinningRecordPart frame part data s
  | .unlistedMtype frame mtype => Sys2Proof.Machine.execUnlistedMtype frame mtype s
  | .enhancedAckReceive port edge psdu head fcsOk micOk => Sys2Proof.Machine.execEnhancedAckReceive port edge psdu head fcsOk micOk s
  | .recordUploadTimeout node => Sys2Proof.Machine.execRecordUploadTimeout node s
  | .downlinkUnconfirmed node => Sys2Proof.Machine.execDownlinkUnconfirmed node s
  | .lightOutcomeTimeout chan => Sys2Proof.Machine.execLightOutcomeTimeout chan s
  | .dutyBinRoll => Sys2Proof.Machine.execDutyBinRoll s
  | .natFind req => Sys2Proof.Machine.execNatFind req s
  | .natCmdClear req node => Sys2Proof.Machine.execNatCmdClear req node s
  | .natCmdEvict req node => Sys2Proof.Machine.execNatCmdEvict req node s
  | .linkKeyAge node => Sys2Proof.Machine.execLinkKeyAge node s
  | .beaconKeyAge => Sys2Proof.Machine.execBeaconKeyAge s
  | .keySwitch slot => Sys2Proof.Machine.execKeySwitch slot s
  | .oldKeyErase slot => Sys2Proof.Machine.execOldKeyErase slot s
  | .rekeyLink req node => Sys2Proof.Machine.execRekeyLink req node s
  | .renewGroupKey req port => Sys2Proof.Machine.execRenewGroupKey req port s
  | .renewBeaconKey req => Sys2Proof.Machine.execRenewBeaconKey req s
  | .forgetLink req node => Sys2Proof.Machine.execForgetLink req node s
  | .eraseDeviceKey req node => Sys2Proof.Machine.execEraseDeviceKey req node s
  | .linkChange port los sync an phy => Sys2Proof.Machine.execLinkChange port los sync an phy s
  | .mdioPoll links => Sys2Proof.Machine.execMdioPoll links s
  | .mdioTmo port headEnd => Sys2Proof.Machine.execMdioTmo port headEnd s
  | .mdioCmd req value data => Sys2Proof.Machine.execMdioCmd req value data s
  | .ethFrameReceive port rx => Sys2Proof.Machine.execEthFrameReceive port rx s
  | .ethTransmit port => Sys2Proof.Machine.execEthTransmit port s
  | .verifyTimeout port => Sys2Proof.Machine.execVerifyTimeout port s
  | .wakeFrame port octets fcsOk => Sys2Proof.Machine.execWakeFrame port octets fcsOk s
  | .timeRead req words => Sys2Proof.Machine.execTimeRead req words s
  | .announceReceive msg => Sys2Proof.Machine.execAnnounceReceive msg s
  | .announceReceiptTimeout => Sys2Proof.Machine.execAnnounceReceiptTimeout s
  | .syncReceive src twoStep t1 corr => Sys2Proof.Machine.execSyncReceive src twoStep t1 corr s
  | .followUpReceive src t1 corr => Sys2Proof.Machine.execFollowUpReceive src t1 corr s
  | .delayRespReceive src t4 corr => Sys2Proof.Machine.execDelayRespReceive src t4 corr s
  | .delayReqSend => Sys2Proof.Machine.execDelayReqSend s
  | .pdelayReqSend port => Sys2Proof.Machine.execPdelayReqSend port s
  | .pdelayReqReceive src => Sys2Proof.Machine.execPdelayReqReceive src s
  | .pdelayRespReceive src turn corr => Sys2Proof.Machine.execPdelayRespReceive src turn corr s
  | .headEndStep req absolute rest => Sys2Proof.Machine.execHeadEndStep req absolute rest s
  | .timeSave => Sys2Proof.Machine.execTimeSave s
  | .compareArm req unit_ ctrl rest => Sys2Proof.Machine.execCompareArm req unit_ ctrl rest s
  | .compareDisarm req unit_ ctrl => Sys2Proof.Machine.execCompareDisarm req unit_ ctrl s
  | .compareEdge unit_ => Sys2Proof.Machine.execCompareEdge unit_ s
  | .pulseEnd unit_ => Sys2Proof.Machine.execPulseEnd unit_ s
  | .captureEdge unit_ rising wide taps => Sys2Proof.Machine.execCaptureEdge unit_ rising wide taps s
  | .secondEnd => Sys2Proof.Machine.execSecondEnd s
  | .rtcSnap req value => Sys2Proof.Machine.execRtcSnap req value s
  | .rtcSecRead req words => Sys2Proof.Machine.execRtcSecRead req words s
  | .stagingWrite req field words => Sys2Proof.Machine.execStagingWrite req field words s
  | .rtcCommit req onSecond => Sys2Proof.Machine.execRtcCommit req onSecond s
  | .commitApply => Sys2Proof.Machine.execCommitApply s
  | .compensationWindow temp => Sys2Proof.Machine.execCompensationWindow temp s
  | .agingUpdate => Sys2Proof.Machine.execAgingUpdate s
  | .calendarCheck => Sys2Proof.Machine.execCalendarCheck s
  | .sensorStale sensor => Sys2Proof.Machine.execSensorStale sensor s
  | .channelStuck chan => Sys2Proof.Machine.execChannelStuck chan s
  | .channelOverload chan => Sys2Proof.Machine.execChannelOverload chan s
  | .channelFaultPersist chan => Sys2Proof.Machine.execChannelFaultPersist chan s
  | .channelFaultClear chan overload => Sys2Proof.Machine.execChannelFaultClear chan overload s
  | .rmsWindowEnd us samples => Sys2Proof.Machine.execRmsWindowEnd us samples s
  | .fixedWindowFallback => Sys2Proof.Machine.execFixedWindowFallback s
  | .otherWrite req feeder words => Sys2Proof.Machine.execOtherWrite req feeder words s
  | .evqCommit queue words => Sys2Proof.Machine.execEvqCommit queue words s
  | .evqRewind queue words => Sys2Proof.Machine.execEvqRewind queue words s
  | .reportResend queue seq => Sys2Proof.Machine.execReportResend queue seq s
  | .reportEnable req resend => Sys2Proof.Machine.execReportEnable req resend s
  | .reportAck req queue ack => Sys2Proof.Machine.execReportAck req queue ack s
  | .updPowerGate => Sys2Proof.Machine.execUpdPowerGate s
  | .easyDayTrigger => Sys2Proof.Machine.execEasyDayTrigger s
  | .sleepRequest req wake => Sys2Proof.Machine.execSleepRequest req wake s
  | .easySavesDone => Sys2Proof.Machine.execEasySavesDone s
  | .sleepGraceExpiry => Sys2Proof.Machine.execSleepGraceExpiry s
  | .easyFinalCheck qualifying => Sys2Proof.Machine.execEasyFinalCheck qualifying s
  | .wakeStepReady us => Sys2Proof.Machine.execWakeStepReady us s
  | .wakeStepTimeout => Sys2Proof.Machine.execWakeStepTimeout s
  | .wakeRetry => Sys2Proof.Machine.execWakeRetry s
  | .easyUnlock req feather => Sys2Proof.Machine.execEasyUnlock req feather s
  | .xferOpen req kind slot rest => Sys2Proof.Machine.execXferOpen req kind slot rest s
  | .xferAbort req => Sys2Proof.Machine.execXferAbort req s
  | .xferTimeout => Sys2Proof.Machine.execXferTimeout s
  | .blockCommit req index => Sys2Proof.Machine.execBlockCommit req index s
  | .blockWriteDone sigs => Sys2Proof.Machine.execBlockWriteDone sigs s
  | .imageApply call args sigs => Sys2Proof.Machine.execImageApply call args sigs s
  | .imageBuildComplete => Sys2Proof.Machine.execImageBuildComplete s
  | .microcodeStationPass => Sys2Proof.Machine.execMicrocodeStationPass s
  | .rigApply call args rigs => Sys2Proof.Machine.execRigApply call args rigs s
  | .calibrationLoad req deadline args => Sys2Proof.Machine.execCalibrationLoad req deadline args s
  | .calibrationArchiveWrite => Sys2Proof.Machine.execCalibrationArchiveWrite s
  | .lanternFirmwareDistribution req deadline args => Sys2Proof.Machine.execLanternFirmwareDistribution req deadline args s
  | .distributionOutcomeTimeout node => Sys2Proof.Machine.execDistributionOutcomeTimeout node s
  | .keyImport call args secrets => Sys2Proof.Machine.execKeyImport call args secrets s
  | .anchor req deadline args signedBy => Sys2Proof.Machine.execAnchor req deadline args signedBy s
  | .clientHello port peer ipv6 cookie resume => Sys2Proof.Machine.execClientHello port peer ipv6 cookie resume s
  | .handshakeTimeout port peer => Sys2Proof.Machine.execHandshakeTimeout port peer s
  | .sessionClose session => Sys2Proof.Machine.execSessionClose session s
  | .sessionIdleTimeout session => Sys2Proof.Machine.execSessionIdleTimeout session s
  | .read req station offset length => Sys2Proof.Machine.execRead req station offset length s
  | .write req station offset words phy => Sys2Proof.Machine.execWrite req station offset words phy s
  | .poll req handle => Sys2Proof.Machine.execPoll req handle s
  | .cancel req handle => Sys2Proof.Machine.execCancel req handle s
  | .stationResetCall call args => Sys2Proof.Machine.execStationResetCall call args s
  | .moduleResetCall call args => Sys2Proof.Machine.execModuleResetCall call args s
  | .moduleReset => Sys2Proof.Machine.execModuleReset s
  | .lanternEnrolment call args => Sys2Proof.Machine.execLanternEnrolment call args s
  | .commissioningScan call args => Sys2Proof.Machine.execCommissioningScan call args s
  | .scanEnd => Sys2Proof.Machine.execScanEnd s
  | .nodeSend call args => Sys2Proof.Machine.execNodeSend call args s
  | .nodeSendTimeout handle => Sys2Proof.Machine.execNodeSendTimeout handle s
  | .profileExport call args => Sys2Proof.Machine.execProfileExport call args s
  | .captureExport call args => Sys2Proof.Machine.execCaptureExport call args s
  | .callRecordFree handle => Sys2Proof.Machine.execCallRecordFree handle s
  | .callTaken req handle taken => Sys2Proof.Machine.execCallTaken req handle taken s
  | .srvBaud req rate => Sys2Proof.Machine.execSrvBaud req rate s
  | .baudRevert => Sys2Proof.Machine.execBaudRevert s
  | .rxFrameAborted frame => Sys2Proof.Machine.execRxFrameAborted frame s
  | .serviceFrameDropped => Sys2Proof.Machine.execServiceFrameDropped s
  | .handshakeEnd port peer signedBy p256 notBefore notAfter => Sys2Proof.Machine.execHandshakeEnd port peer signedBy p256 notBefore notAfter s
  | .expressCreditAboveZero port => Sys2Proof.Machine.execExpressCreditAboveZero port s

end Sys2Proof.Machine
end

