-- ==== Sys2Proof/Machine/Idle.lean ====
section
/-! DEFINITION. What happens while no command waits. -/
namespace Sys2Proof.Machine

/-- With no command waiting one TIM cycle passes (R328, log entry 5). -/
def idle (s : State) : State := passCycles s 1

end Sys2Proof.Machine
end

