-- ==== Sys2Proof/Machine/Step.lean ====
section
/-! DEFINITION. A step of the module: the command at the front of the queue, or one TIM cycle when none waits. -/
namespace Sys2Proof.Machine

/-- The command at the front of the queue runs with the rest of the queue; with none waiting the module idles. -/
def step (s : State) : Host.Outcome State Fault Refusal :=
  match s.pending with
  | [] => .next (idle s)
  | c :: rest => exec c { s with pending := rest }

/-- The state with the command a word spells put at the front of its queue; unchanged where the word spells none. -/
def State.withFetchWord (s : State) (nbits w : Nat) : State :=
  match Sys2Proof.decodeTableWord nbits w with
  | some c => { s with pending := c :: s.pending }
  | none => s

end Sys2Proof.Machine
end

