-- ==== Sys2Proof/Safety.lean ====
section
/-! DEFINITION. What claims about runs are stated in: the parts of the state, what a command leaves alone, and the canonical form of main SRAM. -/
namespace Sys2Proof.Machine

/-- A set of parts of the state, one flag for each field of State. -/
structure Parts where
  modp : Bool := false
  bankA : Bool := false
  bankB : Bool := false
  sys : Bool := false
  vtp : Bool := false
  calls : Bool := false
  cox : Bool := false
  stns : Bool := false
  cfg : Bool := false
  tim : Bool := false
  rtc : Bool := false
  eth : Bool := false
  evq : Bool := false
  lgt : Bool := false
  crs : Bool := false
  rad : Bool := false
  sec : Bool := false
  keys : Bool := false
  mtr : Bool := false
  ledr : Bool := false
  ledm : Bool := false
  ledBad : Bool := false
  flashBad : Bool := false
  pwr : Bool := false
  upd : Bool := false
  pins : Bool := false
  flash : Bool := false
  led : Bool := false
  aon : Bool := false
  mem : Bool := false
  latch : Bool := false
  free : Bool := false
  ahead : Bool := false
  pending : Bool := false
  deriving DecidableEq, Repr

/-- The state with the parts of a set put out of sight, at their values of State.reset. -/
def masked (m : Parts) (s : State) : State :=
  { modp := if m.modp then State.reset.modp else s.modp,
    bankA := if m.bankA then State.reset.bankA else s.bankA,
    bankB := if m.bankB then State.reset.bankB else s.bankB,
    sys := if m.sys then State.reset.sys else s.sys,
    vtp := if m.vtp then State.reset.vtp else s.vtp,
    calls := if m.calls then State.reset.calls else s.calls,
    cox := if m.cox then State.reset.cox else s.cox,
    stns := if m.stns then State.reset.stns else s.stns,
    cfg := if m.cfg then State.reset.cfg else s.cfg,
    tim := if m.tim then State.reset.tim else s.tim,
    rtc := if m.rtc then State.reset.rtc else s.rtc,
    eth := if m.eth then State.reset.eth else s.eth,
    evq := if m.evq then State.reset.evq else s.evq,
    lgt := if m.lgt then State.reset.lgt else s.lgt,
    crs := if m.crs then State.reset.crs else s.crs,
    rad := if m.rad then State.reset.rad else s.rad,
    sec := if m.sec then State.reset.sec else s.sec,
    keys := if m.keys then State.reset.keys else s.keys,
    mtr := if m.mtr then State.reset.mtr else s.mtr,
    ledr := if m.ledr then State.reset.ledr else s.ledr,
    ledm := if m.ledm then State.reset.ledm else s.ledm,
    ledBad := if m.ledBad then State.reset.ledBad else s.ledBad,
    flashBad := if m.flashBad then State.reset.flashBad else s.flashBad,
    pwr := if m.pwr then State.reset.pwr else s.pwr,
    upd := if m.upd then State.reset.upd else s.upd,
    pins := if m.pins then State.reset.pins else s.pins,
    flash := if m.flash then State.reset.flash else s.flash,
    led := if m.led then State.reset.led else s.led,
    aon := if m.aon then State.reset.aon else s.aon,
    mem := if m.mem then State.reset.mem else s.mem,
    latch := if m.latch then State.reset.latch else s.latch,
    free := if m.free then State.reset.free else s.free,
    ahead := if m.ahead then State.reset.ahead else s.ahead,
    pending := if m.pending then State.reset.pending else s.pending }

/-- Between two states nothing differs outside a set of parts: every register, store, pin and byte of memory of every other part is as before. -/
def KeepsAllBut (m : Parts) (s t : State) : Prop := masked m t = masked m s

/-- Every part but the queue of commands. -/
abbrev Parts.all : Parts :=
  { modp := true, bankA := true, bankB := true, sys := true, vtp := true, calls := true, cox := true, stns := true, cfg := true, tim := true,
    rtc := true, eth := true, evq := true, lgt := true, crs := true, rad := true, sec := true, keys := true, mtr := true, ledr := true,
    ledm := true, ledBad := true, flashBad := true, pwr := true, upd := true, pins := true, flash := true, led := true, aon := true,
    mem := true, latch := true, free := true }

/-- The parts of the state that a command may change; outside them nothing changes. -/
def touches : Instr → Parts
  | .finish .. | .powerOnReset .. =>
    { Parts.all with ahead := true }
  | .strokeBoundary .. | .tcxoFailure .. | .bankNotValid .. | .bankFault .. | .resetN .. | .brownout ..
  | .watchdog .. | .steadyTmo .. | .wakeStepReady .. | .wakeStepTimeout .. | .moduleReset .. =>
    Parts.all
  | .drive .. =>
    { cox := true, stns := true, tim := true, lgt := true }
  | .slotStart .. =>
    { calls := true, tim := true, evq := true, lgt := true, rad := true, keys := true, ledr := true, ledBad := true, free := true }
  | .stepDone .. =>
    { stns := true, tim := true, evq := true, lgt := true, crs := true, mtr := true, ledr := true, ledBad := true, led := true }
  | .stationResetStart .. | .pllLockLoss .. =>
    { sys := true, vtp := true, calls := true, cox := true, stns := true, cfg := true, tim := true, rtc := true, eth := true, evq := true,
      lgt := true, crs := true, rad := true, sec := true, mtr := true, ledr := true, ledBad := true, pwr := true, upd := true, pins := true,
      led := true, mem := true, latch := true, free := true }
  | .stationReady .. =>
    { calls := true, cox := true, stns := true, evq := true, rad := true, pwr := true, pins := true }
  | .pllLockRegained .. =>
    { cox := true }
  | .fabricTmo .. =>
    { sys := true, vtp := true, calls := true, cox := true, stns := true, cfg := true, eth := true, evq := true, lgt := true, rad := true,
      ledBad := true, pwr := true, upd := true, led := true }
  | .resourceTmo .. =>
    { vtp := true, calls := true, stns := true, tim := true, eth := true, evq := true, rad := true, sec := true, keys := true, ledr := true,
      ledBad := true, pwr := true, upd := true, free := true }
  | .ledgerFail .. =>
    { evq := true, ledBad := true }
  | .flashTmo .. =>
    { flashBad := true }
  | .timeInit .. | .tempStale .. | .syncReceive .. | .followUpReceive .. | .delayRespReceive .. | .pdelayRespReceive .. | .pulseEnd ..
  | .captureEdge .. =>
    { tim := true }
  | .firstStroke .. =>
    { modp := true, sys := true, calls := true, cox := true, stns := true, cfg := true, tim := true, rtc := true, evq := true, lgt := true,
      crs := true, rad := true, keys := true, mtr := true, ledr := true, ledBad := true, pwr := true, upd := true, pins := true, led := true,
      aon := true, free := true }
  | .steady .. =>
    { sys := true, evq := true, ledBad := true, flashBad := true, flash := true, led := true, aon := true }
  | .rigMigrationWrite .. =>
    { cfg := true, flashBad := true, flash := true }
  | .specialTrimEnable .. =>
    { cfg := true }
  | .srvEnRise .. | .srvEnFall .. =>
    { vtp := true, eth := true, evq := true, pins := true }
  | .wakeCmp .. =>
    { pwr := true, pins := true, aon := true }
  | .pfiTrip .. =>
    { evq := true, mtr := true, ledBad := true, pins := true, led := true }
  | .pfModeEnd .. =>
    { tim := true, evq := true, mtr := true, pins := true }
  | .vbatApplied .. =>
    { rtc := true, pins := true }
  | .oscillatorStop .. | .vbatLow .. | .compensationWindow .. | .calendarCheck .. =>
    { rtc := true }
  | .lgtCmdIssue .. | .lgtCmdCancel .. | .lgtForce .. =>
    { vtp := true, eth := true, evq := true, lgt := true }
  | .hoursSave .. =>
    { lgt := true, ledr := true, ledBad := true }
  | .scheduleStepWrite .. | .mreqIssue .. | .mreqCancel .. =>
    { vtp := true, eth := true, crs := true }
  | .handoffRepeat .. =>
    { tim := true, eth := true, crs := true }
  | .handoffAck .. =>
    { evq := true, crs := true }
  | .handoffUnconfirmed .. =>
    { tim := true, evq := true, crs := true }
  | .handoffReceive .. =>
    { eth := true, evq := true, crs := true, ledr := true, ledBad := true }
  | .trxTmo .. =>
    { calls := true, evq := true, lgt := true, rad := true }
  | .transceiverResetDone .. =>
    { tim := true, evq := true, rad := true, free := true }
  | .portInitRetry .. | .recordUploadTimeout .. =>
    { tim := true, evq := true, rad := true }
  | .rxWindowClose .. =>
    { evq := true, rad := true }
  | .ackTxgo .. =>
    { tim := true, rad := true }
  | .lanternReport .. =>
    { calls := true, tim := true, evq := true, lgt := true, rad := true, sec := true, keys := true, mtr := true, ledr := true, ledBad := true,
      upd := true, free := true }
  | .detectorEvent .. =>
    { tim := true, evq := true, crs := true, rad := true, sec := true, keys := true, ledr := true, ledBad := true, free := true }
  | .sensorHeartbeat .. | .rejoinRequest .. | .unlistedMtype .. | .rxFrameAborted .. =>
    { tim := true, evq := true, rad := true, sec := true, keys := true, ledr := true, ledBad := true, free := true }
  | .enrolmentRequest .. =>
    { calls := true, tim := true, evq := true, rad := true, sec := true, keys := true, ledr := true, free := true }
  | .binningRecordPart .. =>
    { tim := true, evq := true, lgt := true, rad := true, sec := true, keys := true, ledr := true, ledBad := true, upd := true, free := true }
  | .enhancedAckReceive .. =>
    { calls := true, tim := true, evq := true, rad := true, sec := true, ledr := true, ledBad := true, free := true }
  | .downlinkUnconfirmed .. | .nodeSendTimeout .. =>
    { calls := true, tim := true, evq := true, rad := true }
  | .lightOutcomeTimeout .. =>
    { tim := true, evq := true, lgt := true, rad := true }
  | .dutyBinRoll .. =>
    { tim := true, rad := true, ledr := true, ledBad := true }
  | .natFind .. | .timeRead .. =>
    { vtp := true, eth := true, evq := true, latch := true }
  | .natCmdClear .. | .natCmdEvict .. =>
    { vtp := true, eth := true, rad := true }
  | .linkKeyAge .. | .beaconKeyAge .. =>
    { tim := true, rad := true, keys := true, free := true }
  | .keySwitch .. =>
    { tim := true, evq := true, rad := true, sec := true, ledr := true }
  | .oldKeyErase .. =>
    { tim := true, rad := true, keys := true }
  | .rekeyLink .. | .renewGroupKey .. | .renewBeaconKey .. | .forgetLink .. | .eraseDeviceKey .. =>
    { vtp := true, eth := true, rad := true, sec := true, keys := true, free := true }
  | .linkChange .. | .mdioPoll .. | .mdioTmo .. | .reportEnable .. | .reportAck .. | .sessionClose .. =>
    { vtp := true, eth := true, evq := true }
  | .mdioCmd .. | .clientHello .. | .handshakeEnd .. =>
    { vtp := true, eth := true }
  | .ethFrameReceive .. =>
    { vtp := true, eth := true, mem := true }
  | .ethTransmit .. | .expressCreditAboveZero .. =>
    { vtp := true, tim := true, eth := true, mem := true }
  | .verifyTimeout .. =>
    { eth := true }
  | .wakeFrame .. =>
    { pwr := true, aon := true }
  | .announceReceive .. | .announceReceiptTimeout .. | .compareEdge .. | .reportResend .. =>
    { tim := true, evq := true }
  | .delayReqSend .. | .pdelayReqSend .. | .pdelayReqReceive .. =>
    { tim := true, eth := true }
  | .headEndStep .. | .compareArm .. | .compareDisarm .. | .sessionIdleTimeout .. =>
    { vtp := true, tim := true, eth := true, evq := true }
  | .timeSave .. =>
    { tim := true, ledBad := true, led := true }
  | .secondEnd .. =>
    { rtc := true, evq := true, pwr := true, aon := true }
  | .rtcSnap .. | .stagingWrite .. | .rtcCommit .. =>
    { vtp := true, rtc := true, eth := true, ledBad := true, led := true, aon := true }
  | .rtcSecRead .. =>
    { vtp := true, rtc := true, eth := true, evq := true, latch := true }
  | .commitApply .. =>
    { tim := true, rtc := true, evq := true }
  | .agingUpdate .. =>
    { rtc := true, ledBad := true, led := true, aon := true }
  | .sensorStale .. | .channelStuck .. | .channelOverload .. | .channelFaultClear .. | .fixedWindowFallback .. =>
    { mtr := true }
  | .channelFaultPersist .. | .evqCommit .. | .evqRewind .. =>
    { evq := true }
  | .rmsWindowEnd .. =>
    { evq := true, mtr := true }
  | .otherWrite .. =>
    { vtp := true, eth := true, mtr := true }
  | .updPowerGate .. =>
    { stns := true, tim := true, pwr := true }
  | .easyDayTrigger .. =>
    { rtc := true, evq := true, pwr := true, pins := true }
  | .sleepRequest .. | .easyUnlock .. =>
    { vtp := true, rtc := true, eth := true, evq := true, ledBad := true, pwr := true, led := true, aon := true }
  | .easySavesDone .. =>
    { tim := true, evq := true, lgt := true, crs := true, rad := true, mtr := true, ledr := true, ledm := true, ledBad := true, pwr := true,
      pins := true, led := true }
  | .sleepGraceExpiry .. =>
    { tim := true, evq := true, rad := true, pwr := true, pins := true, aon := true, free := true }
  | .easyFinalCheck .. =>
    { modp := true, vtp := true, cox := true, stns := true, evq := true, rad := true, mtr := true, pwr := true, pins := true }
  | .wakeRetry .. =>
    { tim := true, pwr := true, aon := true }
  | .xferOpen .. | .xferAbort .. | .blockCommit .. =>
    { vtp := true, stns := true, eth := true, ledBad := true, pwr := true, upd := true, led := true }
  | .xferTimeout .. =>
    { tim := true, ledBad := true, upd := true, led := true }
  | .blockWriteDone .. =>
    { ledBad := true, flashBad := true, upd := true, flash := true, led := true }
  | .imageApply .. =>
    { vtp := true, calls := true, stns := true, eth := true, evq := true, ledBad := true, flashBad := true, pwr := true, upd := true,
      flash := true, led := true }
  | .imageBuildComplete .. =>
    { calls := true, evq := true, ledBad := true, upd := true, flash := true, led := true }
  | .microcodeStationPass .. =>
    { sys := true, calls := true, cox := true, stns := true, cfg := true, evq := true, lgt := true, rad := true, ledBad := true,
      flashBad := true, upd := true, flash := true, led := true }
  | .rigApply .. =>
    { vtp := true, calls := true, stns := true, cfg := true, eth := true, evq := true, ledBad := true, flashBad := true, pwr := true,
      upd := true, flash := true, led := true }
  | .calibrationLoad .. =>
    { vtp := true, calls := true, stns := true, cfg := true, eth := true, evq := true, lgt := true, mtr := true, ledBad := true,
      flashBad := true, pwr := true, upd := true, flash := true, led := true }
  | .calibrationArchiveWrite .. =>
    { cfg := true, tim := true, flashBad := true, upd := true, flash := true }
  | .lanternFirmwareDistribution .. =>
    { vtp := true, calls := true, stns := true, eth := true, evq := true, rad := true, ledBad := true, pwr := true, upd := true, led := true }
  | .distributionOutcomeTimeout .. =>
    { calls := true, tim := true, evq := true, upd := true }
  | .keyImport .. =>
    { vtp := true, calls := true, stns := true, eth := true, evq := true, crs := true, rad := true, keys := true, ledr := true, ledBad := true,
      pwr := true, upd := true, led := true }
  | .anchor .. =>
    { vtp := true, calls := true, stns := true, eth := true, evq := true, keys := true, pwr := true, upd := true }
  | .handshakeTimeout .. | .baudRevert .. =>
    { vtp := true, tim := true }
  | .read .. =>
    { vtp := true, stns := true, rtc := true, eth := true, evq := true, pwr := true, upd := true, latch := true }
  | .write .. =>
    { vtp := true, calls := true, stns := true, tim := true, rtc := true, eth := true, evq := true, lgt := true, crs := true, rad := true,
      sec := true, keys := true, mtr := true, ledBad := true, pwr := true, upd := true, led := true, aon := true, free := true }
  | .poll .. | .cancel .. =>
    { vtp := true, calls := true, eth := true }
  | .stationResetCall .. =>
    { sys := true, vtp := true, calls := true, cox := true, stns := true, eth := true, evq := true, lgt := true, rad := true, pwr := true,
      upd := true }
  | .moduleResetCall .. =>
    { sys := true, vtp := true, calls := true, eth := true, evq := true, upd := true }
  | .lanternEnrolment .. =>
    { vtp := true, calls := true, eth := true, evq := true, rad := true, ledr := true, ledBad := true, upd := true }
  | .commissioningScan .. | .nodeSend .. =>
    { vtp := true, calls := true, eth := true, evq := true, rad := true, upd := true }
  | .scanEnd .. =>
    { calls := true, tim := true, evq := true, rad := true, keys := true, free := true }
  | .profileExport .. =>
    { vtp := true, calls := true, eth := true, evq := true, flashBad := true, upd := true }
  | .captureExport .. =>
    { vtp := true, calls := true, eth := true, evq := true, upd := true }
  | .callRecordFree .. =>
    { calls := true, tim := true }
  | .callTaken .. | .srvBaud .. =>
    { vtp := true, calls := true, eth := true, evq := true, ledBad := true, led := true, aon := true }
  | .serviceFrameDropped .. =>
    { vtp := true }

/-- Main SRAM is in its canonical form: addresses strictly rising and below 8 MiB, no entry equal to what an unlisted address reads as. -/
def memCanonical (s : State) : Prop := memWf s.mem = true

/-- A command completes: it answers a next state, and that state is as told. -/
def Done (c : Instr) (s : State) (P : State → Prop) : Prop := ∃ t, exec c s = .next t ∧ P t

/-- A VTP request reaches its station: the module is up, its session open, and checks 1 to 7 of R459 pass. `octets` is how far its registers
reach. -/
structure Passes (s : State) (q : VtpReq) (lenOk : Bool) (octets : Nat) : Prop where
  up : moduleUp s = true
  opened : (sess s q.session).state = .open_
  first : replayed s q = false
  version : q.version = 1
  typ : 1 ≤ q.typ ∧ q.typ ≤ 5
  fresh : q.tid ∉ (sess s q.session).outstanding
  notKept : ∀ k ∈ (sess s q.session).kept, k.1.tid ≠ q.tid
  few : (sess s q.session).outstanding.length < 16
  token : 5000000 ≤ tokens s (sess s q.session)
  admitted : admitErr (atServe (received s q) q) q lenOk octets = .ok

/-- The state in which the station takes a request. -/
def meets (s : State) (q : VtpReq) : State := atServe (received s q) q

/-- The session keeps the request with its reply as the last of what it keeps (R463). -/
def Replied (t : State) (q : VtpReq) (r : VtpReply) : Prop := (sess t q.session).kept.getLast? = some (q, r)

/-- The request of a WRITE row. -/
def writeReq (m : VtpMeta) (n : Stn) (offset : Nat) (ws : List Word) : VtpReq := plainReq m 2 n.idx offset (4 * ws.length) ws

/-- The request of a POLL (TYPE 4) or CANCEL (TYPE 5) of a handle. -/
def handleReq (m : VtpMeta) (typ handle : Nat) : VtpReq := { plainReq m typ 0 0 4 [] with args := leBytes 2 handle }

/-- A WRITE is served whole: it passes R459, carries 1 to 348 words, and no register of it is refused (R461). -/
def WriteOk (s : State) (m : VtpMeta) (n : Stn) (offset : Nat) (ws : List Word) (phy : Nat) : Prop :=
  Passes s (writeReq m n offset ws) (1 ≤ ws.length && ws.length ≤ 348) (4 * ws.length) ∧
    (writeRegs (meets s (writeReq m n offset ws)) n m.session phy ((offsOf offset ws.length).zip ws)).2 = .ok

/-- A CALL is admitted in record `h`: it passes R459, its own check, its deadline (R51, R468), and `h` is the record taken. -/
def CallOk (s : State) (q : VtpReq) (err : State → Err) (p : State → CallPlan) (h : Nat) : Prop :=
  Passes s q true 0 ∧ err (meets s q) = .ok ∧ deadlineErr (p (meets s q)) q.deadline = .ok ∧ freeCall (meets s q) = some h

/-- A CALL's record has been taken for an operation of a station, and its reply is OK (R465, R466). -/
def CallTaken (s t : State) (q : VtpReq) (op h : Nat) : Prop :=
  (∀ c, t.calls[h]? = some c → c.state ≠ .free ∧ c.station = q.station ∧ c.op = op ∧ c.gen = ((call s h).gen + 1) % 8192) ∧
    t.calls.length = s.calls.length ∧ ∃ d, Replied t q (replyOf q .ok d)

/-- The module has started after a reset with a cause and its detail (R101, R129): firmware or the boot ROM's recovery runs, main SRAM is clear, no
stroke has begun and no CALL is known. -/
def Started (t : State) (cause detail : Nat) : Prop :=
  (t.modp = .starting ∨ t.modp = .recovery) ∧ t.sys.start.cause = cause ∧ t.sys.start.detail = detail ∧ t.mem = [] ∧ t.cox = {} ∧
    t.calls = List.replicate 8 {}

/-- The start that a row without operands brings about in a state: with its cause, or as the failed start of a boot that meets an uncorrectable error
(R64, R129). -/
def StartsWith (s t : State) (cause detail : Nat) : Prop := if s.ahead.bootUe then Started t 0x11 0 else Started t cause detail

/-- The row ENHANCED_ACK_RECEIVE of a frame. -/
def ackRow (f : RxFrame) : Instr := .enhancedAckReceive f.port f.edge f.psdu f.toRxHead f.fcsOk f.micOk

/-- A reading within the ranges of R351. -/
def calLegal (c : Cal) : Prop :=
  c.sec < 60 ∧ c.min < 60 ∧ c.hour < 24 ∧ 1 ≤ c.day ∧ c.day ≤ monthLen c.year c.month ∧ 1 ≤ c.month ∧ c.month ≤ 12 ∧ 2000 ≤ c.year ∧
    c.year ≤ 2399 ∧ c.wday < 7

/-- The unit takes an edge: it is enabled, selects the direction, and TIM is not in reset (R346). -/
def capSelects (s : State) (n : Nat) (rising : Bool) : Bool :=
  let e := (nth (cTime s).captures n {}).edge
  (nth (cTime s).captures n {}).enabled && (e = 3 || (e = 1 && rising) || (e = 2 && !rising)) && !inReset s .tim

/-- A PTP message that TIM takes: it runs, and the message is of its domain (R332). -/
def ptpTaken (s : State) (domain : Nat) : Prop := isRunning s .tim = true ∧ inDomain s domain = true

/-- The Cox's own clock: the phase, the boundary count, the stroke's number, its start and end, whether it bridges a step, the strokes skipped, and
the stroke at which SYS was held. -/
def strokeClock (s : State) : Phase × Nat × Nat × Nat × Nat × Bool × Nat × Option Nat :=
  (s.cox.phase, s.cox.count, s.cox.abs, s.cox.start, s.cox.ends, s.cox.bridging, s.cox.skipped, s.cox.sysHeldAt)

/-- Where a received frame may be stored (R314): the buffers and descriptors of the receive rings of its port that a rule, or the port, names. -/
def ethStores (s : State) (p a : Nat) : Prop :=
  ∃ q d, (q = (ethCfg s p).defaultQ ∨ ∃ r ∈ (cBackhaul s).rules, q = r.queue) ∧ d < max 16 (ethCfg s p).rqSize ∧
    ((bufBase p q d ≤ a ∧ a < bufBase p q d + 512) ∨ (ringBase p q + 16 * d ≤ a ∧ a < ringBase p q + 16 * d + 16))

/-- Where a frame that leaves may be written back (R314, R315): the descriptors of a transmit ring of its port. -/
def ethSends (s : State) (p a : Nat) : Prop :=
  ∃ tq d, d < txRingSize s p ∧ ringBase p (8 + tq) + 16 * d ≤ a ∧ a < ringBase p (8 + tq) + 16 * d + 16

/-- A byte lies in a word that an uncorrectable error has damaged, and that the reset of its station rewrites (R64). -/
def inBadWord (s : State) (a : Nat) : Prop := ∃ x ∈ s.sys.badWords, 32 * x.2 ≤ a ∧ a < 32 * x.2 + 32

/-- An event queue as R395 has it: at most 64 words in its stages, no packet without a word, and LOST within its register. -/
def queueLegal (q : EvqQueue) : Prop := occupied q 0 ≤ 64 ∧ (∀ p ∈ q.vis, p ≠ []) ∧ q.lost < 2 ^ 32

/-- The newest packet of queue `q` carries this payload after its two header words (R401). While EVQ is in its reset it takes none (R400). -/
def Wrote (s t : State) (q : Nat) (payload : List Word64) : Prop :=
  evqDown s = false → q < s.evq.queues.length → ∃ x p, t.evq.queues[q]? = some x ∧ x.vis.getLast? = some p ∧ p.drop 2 = payload

/-- A station's EVENT record is the newest packet of its queue (R402, R403, R404). -/
def Said (s t : State) (w : Stn) (code subject data0 data1 : Nat) : Prop :=
  Wrote s t (eventQueue w) [BitVec.ofNat 64 (code * 2 ^ 48 + subject % 65536 * 2 ^ 32 + data0 % 2 ^ 32), BitVec.ofNat 64 data1]

/-- A frame has been accepted from node `i` (R222): its entry counts it and knows when it came. -/
def Accepted (s t : State) (f : RxFrame) (i : Nat) : Prop :=
  ∀ e, natEnt s i = some e → ∃ x, natEnt t i = some x ∧ x.rxOk = satAdd 16 e.rxOk 1 ∧ x.lastTs32 = ts32 (sfdOf s f) ∧ x.rssi = f.rssi ∧ x.missed = 0

/-- A frame of node `i` is delivered (R212 to R218, R277, R280): its port receives and RAD serves, it passes the checks of its header, its FCS and MIC
are right under the link key in use, and by the sequence rules it is new. `typed` says that its type may be delivered in the explicit regime. -/
structure Heard (s : State) (f : RxFrame) (i : Nat) (e : NatEnt) (typed : Bool) : Prop where
  opened : rxOpen (radPort s f.port) = true
  serves : radServes s = true
  header : rxHeader s f = .ok (some i)
  ent : natEnt s i = some e
  fcs : f.fcsOk = true
  key : linkKeyOk s i f = true
  mic : f.micOk = true
  fresh : linkJudge s i e f typed = .deliver

/-- The unicast that carries a CALL's message ends with an outcome (R471): the CALL, under way with room in its window, has its entry and is DONE. -/
def SendEnds (s t : State) (u : Unicast) : Prop :=
  ∀ h, u.call = some h → (call s h).op ≠ 2 → callLive (call s h) = true → (call s h).results - (call s h).taken < winCapacity (call s h) →
    ∀ c, t.calls[h]? = some c → c.state = .done ∧ c.results = (call s h).results + 1

end Sys2Proof.Machine
end

