-- ==== Sys2Proof/Certificates/Slice0/Obligations.lean ====
section
/-! DEFINITION. The statements for the provers, by family of commands. -/
open Sys2Proof Sys2Proof.Machine

/-! ## The machine as a whole -/

/-- A step takes the command at the front of the queue and runs it with the queue's rest. -/
def Obligations.StepRunsTheFrontCommand : Prop :=
  ∀ (c : Instr) (rest : List Instr) (s : State), s.pending = c :: rest → step s = exec c { s with pending := rest }

/-- With no command waiting one TIM cycle passes: network time by the addend, the TCXO time base by one, nothing else changes. The model's choice
(log entry 5). -/
def Obligations.EmptyQueuePassesOneCycle : Prop :=
  ∀ s : State, s.pending = [] →
    step s = .next { s with tim := { s.tim with sub := s.tim.sub + addend s, cyc := s.tim.cyc + 1 } }

/-- Every command answers a next state: no command ends in a fault or a refusal. -/
def Obligations.EveryCommandAnswersANextState : Prop := ∀ (c : Instr) (s : State), ∃ t, exec c s = .next t

/-- The frame of every command: outside the parts that `touches` gives it, no register, store, pin or byte of memory changes, and no command
changes the queue of the commands that wait. -/
def Obligations.CommandsTouchOnlyTheirParts : Prop :=
  ∀ (c : Instr) (s t : State), exec c s = .next t → KeepsAllBut (touches c) s t

/-- Every step keeps the canonical form of main SRAM. -/
def Obligations.SramStaysCanonical : Prop := ∀ s t : State, memCanonical s → step s = .next t → memCanonical t

/-- Main SRAM has its canonical form at reset. -/
def Obligations.SramIsCanonicalAtReset : Prop := memCanonical State.reset

/-- A byte of main SRAM changes only where the spec says a command stores. ETH_FRAME_RECEIVE stores in the buffers and descriptors of its port's
rings, a frame that starts in the descriptors of its transmit ring (R314, R315); FINISH in the words that the scrub and the reads of the stroke met
with errors (R64, R65); a station's reset in the words that such an error has damaged (R64); a module reset and a change of the banks clear main
SRAM (R101); every other command leaves every byte as it was. -/
def Obligations.SramChangesOnlyWhereStored : Prop :=
  (∀ (c : Instr) (s t : State) (a : Nat), (touches c).mem = false → exec c s = .next t → memRead t.mem a = memRead s.mem a) ∧
  (∀ (p : Nat) (rx : EthRx) (s t : State) (a : Nat), ¬ ethStores s p a → exec (.ethFrameReceive p rx) s = .next t →
    memRead t.mem a = memRead s.mem a) ∧
  (∀ (p : Nat) (c : Instr) (s t : State) (a : Nat), c ∈ [Instr.ethTransmit p, .expressCreditAboveZero p] → ¬ ethSends s p a →
    exec c s = .next t → memRead t.mem a = memRead s.mem a) ∧
  (∀ (c : Instr) (s t : State) (a : Nat), (c = .stationResetStart ∨ ∃ x, c = .pllLockLoss x) → ¬ inBadWord s a → exec c s = .next t →
    memRead t.mem a = memRead s.mem a) ∧
  (∀ (hits : List GuardHit) (word : Scrubbed) (temps : List (Option Int)) (ahead : Ahead) (s t : State) (a : Nat),
    word.owner ≠ some .sys → (a < 32 * s.sys.pos ∨ 32 * s.sys.pos + 32 ≤ a) →
    (∀ h ∈ hits, h.beat = false → h.owner ≠ some .sys ∧ (a < 32 * h.word ∨ 32 * h.word + 32 ≤ a)) →
    exec (.finish hits word temps ahead) s = .next t → memRead t.mem a = memRead s.mem a)
/-! ## The stroke -/

/-- A stroke that ends in Recovery is followed at its boundary by the next stroke, of 10 ms (R19, R20): Catch begins, the boundary count and the
absolute stroke number go up by one, and no stroke is skipped. Drive begins 0.5 ms into the stroke and starts the Drive steps that wait. FIRST_STROKE
begins stroke 0 of the second that begins now, as network time does, or of the next one (R101, R103). -/
def Obligations.StrokesFollowTheTimeline : Prop :=
  (∀ (s : State) (x : List (List (Int × Int))) (j : Int), s.modp = .running → s.cox.phase = .recovery → s.upd.work = none →
    s.cox.ends = (s.cox.abs + 1) * strokeNs → s.cox.ends / strokeNs % 100 ≠ 1 → s.cox.skipped < 2 ^ 32 →
    Done (.strokeBoundary x j) s fun t =>
      t.cox.phase = .catch_ ∧ t.cox.start = s.cox.ends ∧ t.cox.ends = s.cox.ends + strokeNs ∧ t.cox.bridging = false ∧
      t.cox.count = s.cox.count + 1 ∧ t.cox.abs = s.cox.abs + 1 ∧ t.cox.skipped = s.cox.skipped ∧ t.modp = .running) ∧
  (∀ s : State, s.modp = .running → s.cox.phase = .catch_ →
    Done .drive s fun t =>
      t.cox = { s.cox with phase := .drive } ∧ (0 < addend s → driveNs s * frac ≤ t.tim.sub) ∧
      ∀ n ∈ finishDuty, (stn s n).prog = [.drive] → (stn t n).started = true) ∧
  (∀ s : State, s.modp = .starting → s.tim.set = true → allStations s .ready = true →
    Done .firstStroke s fun t =>
      t.modp = .running ∧ t.cox.phase = .catch_ ∧
      t.cox.start = (if s.tim.sub % (giga * frac) < addend s then nowSec s else nowSec s + 1) * giga ∧ t.cox.ends = t.cox.start + strokeNs ∧
      t.cox.start % giga = 0)

/-- At a boundary after a step of network time the stroke that begins either is an ordinary one of 10 ms or bridges: its length is then at least 8.5
ms and less than 18.5 ms (R30); when a new time is at a boundary is read as in log entry 30. It ends at a boundary of the new timeline, and
SYS_SKIPPED grows by the strokes passed over. -/
def Obligations.BridgingStrokesAreBounded : Prop :=
  ∀ (s t : State) (x : List (List (Int × Int))) (j : Int), s.modp = .running → s.cox.phase = .recovery → s.upd.work = none →
    s.cox.ends % strokeNs = 0 → exec (.strokeBoundary x j) s = .next t →
    t.cox.phase = .catch_ ∧ t.cox.ends % strokeNs = 0 ∧ t.cox.abs = t.cox.ends / strokeNs - 1 ∧
    t.cox.skipped = min (s.cox.skipped + (t.cox.abs - (s.cox.abs + 1))) (2 ^ 32 - 1) ∧
    (if t.cox.bridging then t.cox.start + 8500000 ≤ t.cox.ends ∧ t.cox.ends < t.cox.start + 18500000 else t.cox.ends = t.cox.start + strokeNs)

/-- A step is done before Finish only when its signal comes in an earlier SYS cycle than Finish (R23): the step then leaves the stroke program;
a signal in the cycle of Finish or later changes nothing. -/
def Obligations.StepsAreDoneBeforeFinish : Prop :=
  (∀ (s : State) (n : Stn) (cyc : Nat) (k : StkStep) (rest : List StkStep), s.modp = .running → (s.cox.phase = .catch_ ∨ s.cox.phase = .drive) →
    (stn s n).started = true → (stn s n).prog = k :: rest → cycNow s cyc < finishCyc →
    Done (.stepDone n cyc) s fun t => (stn t n).prog = rest ∧ t.cox = s.cox ∧ t.pins = s.pins ∧ t.mem = s.mem) ∧
  (∀ (s : State) (n : Stn) (cyc : Nat), finishCyc ≤ cycNow s cyc → Done (.stepDone n cyc) s fun t => t = s)

/-- At Finish, with SRAM read clean, the Cox's phase becomes Recovery and each station that took part is judged: one that has not completed its
per-stroke work has a crab recorded against it, and its history of the last 100 strokes takes the result (R24, R27). With no update under way, a
station whose history then holds 8 crabs takes a station fault with cause CRAB (R27), and SYS scrubs the next word of SRAM (R65). -/
def Obligations.FinishJudgesEveryStation : Prop :=
  ∀ (s : State) (owner : Option Stn) (temps : List (Option Int)) (ahead : Ahead), s.modp = .running → s.cox.phase = .drive →
    Done (.finish [] ⟨[], owner⟩ temps ahead) s fun t =>
      t.cox.phase = .recovery ∧ t.ahead = ahead ∧ t.mem = s.mem ∧
      (∀ n, n ∈ finishDuty → inStroke s n = true →
        (stn t n).crabs = (if (stn s n).prog ≠ [] then inc32 (stn s n).crabs else (stn s n).crabs) ∧
        (stn t n).hist = (decide ((stn s n).prog ≠ []) :: (stn s n).hist).take 100 ∧ (stn t n).prog = []) ∧
      (s.upd.work = none →
        (∀ n, n ∈ finishDuty → inStroke s n = true →
          8 ≤ ((decide ((stn s n).prog ≠ []) :: (stn s n).hist).take 100).count true →
          (stn t n).state = .fault ∧ (n, .crab) ∈ t.cox.faults) ∧
        (isRunning s .sys = true → t.sys.pos = (s.sys.pos + 1) % 262144))
/-! ## Register access by VTP -/

/-- A WRITE of which a register is refused changes no register (R461). Outside the session's own record and the Ethernet port of its reply, and
outside UPD's power gate when UPD is addressed, it leaves every part as it was, but for the status registers in which RAD, SEC, RTC, PWR and UPD
show a refusal; main SRAM, the Cox, the stores and every other station keep everything. -/
def Obligations.RefusedWritesChangeNoRegister : Prop :=
  ∀ (s t : State) (m : VtpMeta) (n : Stn) (offset phy : Nat) (ws : List Word),
    Passes s (writeReq m n offset ws) (1 ≤ ws.length && ws.length ≤ 348) (4 * ws.length) →
    (writeRegs (meets s (writeReq m n offset ws)) n m.session phy ((offsOf offset ws.length).zip ws)).2 ≠ .ok →
    exec (.write m n.idx offset ws phy) s = .next t →
    KeepsAllBut { vtp := true, eth := true, stns := n = .upd, pwr := n = .upd || n = .pwr, rad := n = .rad, sec := n = .sec, rtc := n = .rtc,
                  upd := n = .upd, evq := n = .pwr } s t ∧
      ∃ e, e ≠ .ok ∧ Replied t (writeReq m n offset ws) (replyOf (writeReq m n offset ws) e [])

/-- A WRITE that no register refuses takes all of its registers in ascending offset, the action fields after the others, and is answered OK
(R461). -/
def Obligations.AcceptedWritesTakeEveryRegister : Prop :=
  ∀ (s : State) (m : VtpMeta) (n : Stn) (offset phy : Nat) (ws : List Word), WriteOk s m n offset ws phy →
    Done (.write m n.idx offset ws phy) s fun t =>
      KeepsAllBut { vtp := true, eth := true, pending := true }
        (((offsOf offset ws.length).zip ws).foldl (actReg n phy)
          (((offsOf offset ws.length).zip ws).foldl (putReg n m.session) (meets s (writeReq m n offset ws)))) t ∧
      Replied t (writeReq m n offset ws) (replyOf (writeReq m n offset ws) .ok [])

/-- An offset that no register of its station lists reads 0, and a WRITE of it is answered ADDRESS and changes no register (R8): outside the session's
own record, the Ethernet port of the reply and UPD's power gate when UPD is addressed, nothing changes. -/
def Obligations.UnlistedOffsetsReadZero : Prop :=
  (∀ (s : State) (m : VtpMeta) (n : Stn) (offset : Nat), regAt n offset = none → (s.modp = .recovery → n = .sys) →
    tget s.latch (latchKey n offset) = none → Passes s (plainReq m 1 n.idx offset 4 []) true 4 →
    Done (.read m n.idx offset 4) s fun t =>
      Replied t (plainReq m 1 n.idx offset 4 []) (replyOf (plainReq m 1 n.idx offset 4 []) .ok [0]) ∧
      KeepsAllBut { vtp := true, eth := true, stns := n = .upd, pwr := n = .upd, upd := n = .upd, latch := true } s t) ∧
  (∀ (s : State) (m : VtpMeta) (n : Stn) (offset phy : Nat) (w : Word), regAt n offset = none → Passes s (writeReq m n offset [w]) true 4 →
    Done (.write m n.idx offset [w] phy) s fun t =>
      Replied t (writeReq m n offset [w]) (replyOf (writeReq m n offset [w]) .address []) ∧
      KeepsAllBut { vtp := true, eth := true, stns := n = .upd, pwr := n = .upd, upd := n = .upd } s t)

/-- Slots of light commands and of mode requests: the WRITE of STATE 0x1 that is accepted makes its slot PENDING, and no other slot's state changes
(R139, R174); STATE 0x0 asks for a cancel at the boundary of R26, and frees a slot that has ended. That a freed slot
takes its reset values is the model's choice (log entry 106). `rest` are the words after CTRL up to the end of
the slot. -/
def Obligations.SlotsArePendingOrCancelled : Prop :=
  (∀ (s : State) (m : VtpMeta) (k : Nat) (ctrl : Word) (rest : List Word), k < 32 → rest.length ≤ 15 →
    WriteOk s m .lgt (0x1000 + 0x40 * k) (withState ctrl 1 :: rest) 0 →
    Done (.lgtCmdIssue m k ctrl rest) s fun t =>
      t.lgt.cmds.map LgtCmd.state = upd (s.lgt.cmds.map LgtCmd.state) k (fun _ => .pending) ∧ t.lgt.serial = s.lgt.serial + 1 ∧
      t.crs = s.crs ∧ t.pins = s.pins) ∧
  (∀ (s : State) (m : VtpMeta) (k : Nat), k < 32 → WriteOk s m .lgt (0x1000 + 0x40 * k) [0] 0 →
    Done (.lgtCmdCancel m k) s fun t =>
      (∀ j, j ≠ k → t.lgt.cmds[j]? = s.lgt.cmds[j]?) ∧
      ∀ c, s.lgt.cmds[k]? = some c →
        (c.state = .ended → t.lgt.cmds[k]? = some {}) ∧
        ((c.state = .pending ∨ c.state = .active) → c.cancelAt = none →
          t.lgt.cmds[k]? = some { c with cancelAt := some (dueBoundary s) })) ∧
  (∀ (s : State) (m : VtpMeta) (k mode : Nat) (rest : List Word), k < 8 → mode < 8 → rest.length ≤ 7 →
    WriteOk s m .crs (0x100 + 0x20 * k) (pack [(28, 1), (0, mode % 8)] :: rest) 0 →
    Done (.mreqIssue m k mode rest) s fun t =>
      t.crs.mreqs.map MReq.state = upd (s.crs.mreqs.map MReq.state) k (fun _ => .pending) ∧
      t.crs.mreqs.map MReq.mode = upd (s.crs.mreqs.map MReq.mode) k (fun _ => mode) ∧ t.lgt = s.lgt ∧ t.pins = s.pins) ∧
  (∀ (s : State) (m : VtpMeta) (k : Nat), k < 8 → WriteOk s m .crs (0x100 + 0x20 * k) [0] 0 →
    Done (.mreqCancel m k) s fun t =>
      (∀ j, j ≠ k → t.crs.mreqs[j]? = s.crs.mreqs[j]?) ∧
      ∀ r, s.crs.mreqs[k]? = some r →
        (r.state = .ended → t.crs.mreqs[k]? = some {}) ∧
        ((r.state = .pending ∨ r.state = .active) → r.cancelAt = none →
          t.crs.mreqs[k]? = some { r with cancelAt := some (dueBoundary s) }))

/-- Writes that wait for the boundary of R26: LGT_FORCE queues the channels it names that the Rig configures (R155), a schedule step its part
(R170), NAT_CMD_EVICT its entry (R241). NAT_CMD_CLEAR clears the entry's three counters at once, and STAT stays pending while
an eviction waits (R241). -/
def Obligations.CommittedChangesWaitForTheirBoundary : Prop :=
  (∀ (s : State) (m : VtpMeta) (value : Word), WriteOk s m .lgt 0x18 [value] 0 →
    Done (.lgtForce m value) s fun t =>
      t.lgt = { s.lgt with forceNext := s.lgt.forceNext ++ (forced s value).map fun c => (c, dueBoundary s) }) ∧
  (∀ (s : State) (m : VtpMeta) (p i part : Nat) (w : Word) (rest : List Word), p < 32 → i < 24 → part < 3 →
    WriteOk s m .crs (0x1000 + 0x400 * p + 0x20 * i + 8 * part) (w :: rest) 0 →
    Done (.scheduleStepWrite m p i part (w :: rest)) s fun t =>
      ∃ l, t.crs.stepsNext = s.crs.stepsNext ++ (p, i, part, w, dueBoundary s) :: l ∧ t.crs.progs = s.crs.progs) ∧
  (∀ (s : State) (m : VtpMeta) (i : Nat), i < 4096 → WriteOk s m .rad 0x30 [pack [(28, 2), (0, i)]] 0 →
    Done (.natCmdEvict m i) s fun t =>
      t.rad = { s.rad with evictAt := some (i, dueBoundary s), cmdStat := 1, cmdErr := .ok }) ∧
  (∀ (s : State) (m : VtpMeta) (i : Nat) (e : NatEnt), i < 4096 → natEnt s i = some e → WriteOk s m .rad 0x30 [pack [(28, 1), (0, i)]] 0 →
    Done (.natCmdClear m i) s fun t =>
      natEnt t i = some { e with rxOk := 0, rxDrop := 0, txUnconf := 0 } ∧ t.rad.cmdStat = (if s.rad.evictAt.isSome then 1 else 2) ∧ t.rad.cmdErr = .ok ∧ t.keys = s.keys)

/-- SEC_KEYCMD (R302): REKEY_LINK makes a new key in the generation the link does not use and marks the node as being rekeyed, RENEW_GROUP_KEY and
RENEW_BEACON_KEY a new key in the slot not in use with SWITCH 600 s ahead, FORGET_LINK erases both link keys and ENROLLED, ERASE_DEVICE_KEY the
device key. The 600 s are the model's choice (log entry 29). -/
def Obligations.KeyCommandsActOnTheirKeys : Prop :=
  (∀ (s : State) (m : VtpMeta) (i : Nat), i < 4096 → WriteOk s m .sec 0x40 [keyCmd 1 i] 0 →
    Done (.rekeyLink m i) s fun t => (nodeDyn t i).rekeying = true ∧ t.sec.cmdErr = .ok ∧
      ∀ e, natEnt s i = some e → (linkKey t i (1 - genOf e)).isSome = true ∧ linkKey t i (genOf e) = linkKey s i (genOf e)) ∧
  (∀ (s : State) (m : VtpMeta) (p : Nat), p < 4 → WriteOk s m .sec 0x40 [keyCmd 2 p] 0 →
    Done (.renewGroupKey m p) s fun t =>
      (tget t.keys.shared (idleGroup s p)).isSome = true ∧ (idleGroup s p, nowSec s + 600, 0) ∈ t.rad.switches) ∧
  (∀ (s : State) (m : VtpMeta), WriteOk s m .sec 0x40 [keyCmd 3 0] 0 →
    Done (.renewBeaconKey m) s fun t =>
      (tget t.keys.shared (idleBeacon s)).isSome = true ∧ (idleBeacon s, nowSec s + 600, 0) ∈ t.rad.switches) ∧
  (∀ (s : State) (m : VtpMeta) (i : Nat) (e : NatEnt), i < 4096 → natEnt s i = some e → WriteOk s m .sec 0x40 [keyCmd 4 i] 0 →
    Done (.forgetLink m i) s fun t =>
      tget t.keys.link0 i = none ∧ tget t.keys.link1 i = none ∧ natEnt t i = some { e with enrolled := false } ∧ t.keys.device = s.keys.device) ∧
  (∀ (s : State) (m : VtpMeta) (i : Nat), i < 4096 → WriteOk s m .sec 0x40 [keyCmd 5 i] 0 →
    Done (.eraseDeviceKey m i) s fun t =>
      t.keys = { s.keys with device := tdel s.keys.device i } ∧ t.sec.cmdStat = 2 ∧ t.rad = s.rad)

/-- Compare units and the head-end step (R337, R342, R344). An accepted arming leaves the unit ARMED with no edge, none missed and no step seen, or
sets LATE because its first edge was due within 40 ns; disarming leaves it IDLE with no low edge due; no other unit changes. An accepted head-end
step is PENDING for the second AT, or with AT 0 for the first boundary of stroke 1 at least 20 ms ahead. -/
def Obligations.CompareUnitsAreArmedAndDisarmed : Prop :=
  (∀ (s : State) (m : VtpMeta) (k : Nat) (ctrl : Word) (rest : List Word), k < 8 → rest.length ≤ 15 →
    WriteOk s m .tim (0x1000 + 0x40 * k) (withState ctrl 1 :: rest) 0 →
    Done (.compareArm m k ctrl rest) s fun t =>
      (∀ u, t.tim.cmps[k]? = some u → u.late = false → u.state = .armed ∧ u.edges = 0 ∧ u.missed = 0 ∧ u.stepped = false ∧ u.lowAt = none) ∧
      (∀ j, j ≠ k → t.tim.cmps[j]? = s.tim.cmps[j]?) ∧ t.tim.cmps.length = s.tim.cmps.length ∧ t.tim.sub = s.tim.sub) ∧
  (∀ (s : State) (m : VtpMeta) (k : Nat) (ctrl : Word), k < 8 → WriteOk s m .tim (0x1000 + 0x40 * k) [withState ctrl 0] 0 →
    Done (.compareDisarm m k ctrl) s fun t =>
      (∀ u, t.tim.cmps[k]? = some u → u.state = .idle ∧ u.lowAt = none ∧ u.immediate = false) ∧
      (∀ j, j ≠ k → t.tim.cmps[j]? = s.tim.cmps[j]?) ∧ t.tim.cmps.length = s.tim.cmps.length) ∧
  (∀ (s : State) (m : VtpMeta) (absolute : Bool) (rest : List Word), rest.length ≤ 5 →
    WriteOk s m .tim 0x50 (pack [(28, 1), (24, b2n absolute)] :: rest) 0 →
    Done (.headEndStep m absolute rest) s fun t =>
      t.tim.head.state = .pending ∧ t.tim.head.absolute = absolute ∧
      t.tim.head.target = headTarget s (t.tim.head.atHi * frac + t.tim.head.atLo) ∧ t.tim.sub = s.tim.sub ∧ t.tim.cmps = s.tim.cmps)

/-- The calendar's registers (R356, R357, R358). RTC_SNAP and a read of RTC_SEC capture every field of the calendar at once, and the read answers the
seconds captured; a capture loads the staging registers unless STG_DIRTY is set, and no read shows them; a staging write sets the staging registers
it addresses and STG_DIRTY; an accepted RTC_COMMIT keeps a copy of the staged fields, due at the next AON edge or, with ON_SECOND, at the next
network-time second. None of them changes the calendar. -/
def Obligations.CalendarCommandsCaptureStageAndCommit : Prop :=
  (∀ (s : State) (m : VtpMeta) (value : Word), WriteOk s m .rtc 0xC [value] 0 →
    Done (.rtcSnap m value) s fun t =>
      t.rtc.snap = calRegs s.rtc.cal ∧ t.rtc.subsec = prescaler s ∧ t.rtc.snapValid = true ∧ t.rtc.cal = s.rtc.cal ∧
      t.rtc.stg = if s.rtc.stgDirty then s.rtc.stg else calRegs s.rtc.cal) ∧
  (∀ (s : State) (m : VtpMeta) (words : Nat), 1 ≤ words → words ≤ 348 → s.modp ≠ .recovery → tget s.latch (latchKey .rtc 0x20) = none →
    Passes s (plainReq m 1 Stn.rtc.idx 0x20 (4 * words) []) true (4 * words) →
    Done (.rtcSecRead m words) s fun t =>
      t.rtc.snap = calRegs s.rtc.cal ∧ t.rtc.subsec = prescaler s ∧ t.rtc.snapValid = true ∧ t.rtc.cal = s.rtc.cal ∧
      t.rtc.stg = (if s.rtc.stgDirty then s.rtc.stg else calRegs s.rtc.cal) ∧
      ∃ d, d.length + 1 = words ∧
        Replied t (plainReq m 1 Stn.rtc.idx 0x20 (4 * words) [])
          (replyOf (plainReq m 1 Stn.rtc.idx 0x20 (4 * words) []) .ok (w32 (bcd s.rtc.cal.sec) :: d))) ∧
  (∀ (s : State) (stg : List Nat) (offset : Nat), regShown { s with rtc := { s.rtc with stg := stg } } .rtc offset = regShown s .rtc offset) ∧
  (∀ (s : State) (m : VtpMeta) (field : Nat) (ws : List Word), field + ws.length ≤ 8 → WriteOk s m .rtc (0x20 + 4 * field) ws 0 →
    Done (.stagingWrite m field ws) s fun t =>
      t.rtc.stgDirty = true ∧ t.rtc.cal = s.rtc.cal ∧ t.rtc.stg.length = s.rtc.stg.length ∧
      (∀ i, i < field ∨ field + ws.length ≤ i → t.rtc.stg[i]? = s.rtc.stg[i]?) ∧
      ∀ i w, ws[i]? = some w → field + i < s.rtc.stg.length →
        t.rtc.stg[field + i]? = some (if field + i = 7 then w.field 2 0 else w.field 7 0)) ∧
  (∀ (s : State) (m : VtpMeta) (onSecond : Bool), WriteOk s m .rtc 0x10 [rtcCommitWord onSecond] 0 →
    Done (.rtcCommit m onSecond) s fun t =>
      t.rtc = { s.rtc with commit := some { cal := stagedCal s.rtc.stg, onSecond := onSecond,
                                            at_ := if onSecond then (nowSec s + 1) * giga else 0 } })

/-- Reports (R406): REPORT_ENABLE sends reports to the session that made the write, with its RESEND; REPORT_ACK releases every ring packet whose SEQ
is at or below the value, and no other. The other supply's value (R390): V and N come in with their START, which alone is not yet a value given. -/
def Obligations.ReportsAreEnabledAndAcknowledged : Prop :=
  (∀ (s : State) (m : VtpMeta) (resend : Nat), resend < 65536 → WriteOk s m .evq 0x4 [pack [(31, 1), (0, resend % 65536)]] 0 →
    Done (.reportEnable m resend) s fun t =>
      t.evq = { s.evq with enable := true, session := m.session, resend := resend }) ∧
  (∀ (s : State) (m : VtpMeta) (q ack : Nat), q < 8 → ack < 2 ^ 32 → WriteOk s m .evq (0x114 + 0x20 * q) [w32 ack] 0 →
    Done (.reportAck m q ack) s fun t =>
      (∀ j, j ≠ q → t.evq.queues[j]? = s.evq.queues[j]?) ∧
      ∀ e, s.evq.queues[q]? = some e →
        t.evq.queues[q]? = some { e with ack := ack, ring := e.ring.filter fun p => !seqLe p.seq ack }) ∧
  (∀ (s : State) (m : VtpMeta) (f : Nat) (a : Word), f < 8 → WriteOk s m .mtr (0x2010 + 0x200 * f) [a] 0 →
    Done (.otherWrite m f [a]) s fun t =>
      (∀ j, j ≠ f → t.mtr.feeders[j]? = s.mtr.feeders[j]?) ∧
      ∀ x, s.mtr.feeders[f]? = some x → t.mtr.feeders[f]? = some { x with otherStart := a.toNat, otherGiven := false }) ∧
  (∀ (s : State) (m : VtpMeta) (f : Nat) (a v n : Word), f < 8 → WriteOk s m .mtr (0x2010 + 0x200 * f) [a, v, n] 0 →
    Done (.otherWrite m f [a, v, n]) s fun t =>
      (∀ j, j ≠ f → t.mtr.feeders[j]? = s.mtr.feeders[j]?) ∧
      ∀ x, s.mtr.feeders[f]? = some x →
        t.mtr.feeders[f]? = some { x with otherStart := a.toNat, other := { v := v, n := n }, otherGiven := true })

/-- SLEEP_REQUEST makes an EASY entry that asks for the wake in its registers (R412); EASY_UNLOCK clears the lock and the count of failed wakes
(R421), in the ledger too unless that write has failed (R58), and writes FEATHER_EN, which takes effect at the boundary of R26 (R411). -/
def Obligations.SleepIsRequestedAndUnlocked : Prop :=
  (∀ (s : State) (m : VtpMeta) (wake : List Word), wake.length ≤ 2 → WriteOk s m .pwr 0xC (pack [(28, 1)] :: wake) 0 →
    Done (.sleepRequest m wake) s fun t =>
      t.pwr.entry = some { trigger := 2, wakePlan := sleepWake t, from_ := s.pwr.state } ∧ t.pwr.sleepState = 1 ∧
      t.rtc.alarm0.armed = true ∧ t.rtc.alarm0.wake = true ∧ t.modp = s.modp) ∧
  (∀ (s : State) (m : VtpMeta) (feather : Bool), WriteOk s m .pwr 0x8 [easyUnlockWord feather] 0 →
    Done (.easyUnlock m feather) s fun t =>
      t.aon.easyLock = false ∧ t.aon.failedWakes = 0 ∧ t.led.easyLock = (s.led.easyLock && s.ledBad.contains .pwr) ∧
      t.pwr.featherNext = some (feather, dueBoundary s))

/-- Transfers (R428, R429): XFER_OPEN opens a transfer of its kind and slot with no block yet, XFER_ABORT ends it and what the ledger holds of it
unless that ledger write has failed (R58), BLOCK_COMMIT marks the block as being written, each of UPD as the request finds it (R411). MDIO_CMD makes
its access and a read returns what the PHY answers (R305). -/
def Obligations.TransfersOpenAndAbort : Prop :=
  (∀ (s : State) (m : VtpMeta) (kind slot : Nat) (rest : List Word), kind < 8 → slot < 2 → rest.length ≤ 1 →
    WriteOk s m .upd 0x20 (xferOpenWord kind slot :: rest) 0 →
    Done (.xferOpen m kind slot rest) s fun t =>
      t.upd.xfer = { state := .open_, kind := kind, slot := slot, length := t.upd.lenReg, lastAt := s.tim.cyc } ∧
      (rest = [] → t.upd.lenReg = s.upd.lenReg) ∧ (∀ w, rest = [w] → t.upd.lenReg = w.toNat)) ∧
  (∀ (s : State) (m : VtpMeta), WriteOk s m .upd 0x20 [0] 0 →
    Done (.xferAbort m) s fun t =>
      t.upd = { (meets s (writeReq m .upd 0x20 [0])).upd with xfer := {} } ∧
      t.led = { s.led with xfer := if s.ledBad.contains .upd then s.led.xfer else none }) ∧
  (∀ (s : State) (m : VtpMeta) (index : Nat), index < 4096 → WriteOk s m .upd 0x30 [blockWord index] 0 →
    Done (.blockCommit m index) s fun t =>
      t.upd = { (meets s (writeReq m .upd 0x30 [blockWord index])).upd with
                xfer := { (meets s (writeReq m .upd 0x30 [blockWord index])).upd.xfer with busy := true } } ∧ t.flash = s.flash) ∧
  (∀ (s : State) (m : VtpMeta) (value : Word) (data : Nat), WriteOk s m .eth 0x8 [value ||| 0x80000000] data →
    Done (.mdioCmd m value data) s fun t =>
      t.eth.mdioCmd = mdioFields value ∧ t.eth.mdioErr = false ∧
      t.eth.mdioData = if value.bit 30 then s.eth.mdioData else data % 65536)

/-- CALL records (R465, R467, R473) and the service rate (R455): POLL answers the status, RESULTS and TAKEN and notes that it saw a final state; CANCEL
of a CALL under way asks for its end at the boundary of R26; TAKEN is taken up; SRV_BAUD changes the rate, in one step with its reply (log entry 49). -/
def Obligations.CallRecordsArePolledAndCancelled : Prop :=
  (∀ (s : State) (m : VtpMeta) (handle h : Nat), s.modp ≠ .recovery → handleRec s (handle % 65536) = some h → Passes s (handleReq m 4 handle) true 0 →
    Done (.poll m handle) s fun t =>
      Replied t (handleReq m 4 handle)
        (replyOf (handleReq m 4 handle) .ok [callStatus (call s h), w32 (call s h).results, w32 (call s h).taken]) ∧
      (callFinal (call s h) = false → t.calls = s.calls) ∧
      (callFinal (call s h) = true → (call s h).polledAt = none →
        ∀ c, s.calls[h]? = some c → t.calls[h]? = some { c with polledAt := some s.tim.cyc })) ∧
  (∀ (s : State) (m : VtpMeta) (handle h : Nat), s.modp ≠ .recovery → handleRec s (handle % 65536) = some h → cancelErr s h = .ok →
    Passes s (handleReq m 5 handle) true 0 →
    Done (.cancel m handle) s fun t =>
      Replied t (handleReq m 5 handle) (replyOf (handleReq m 5 handle) .ok [callStatus (call s h)]) ∧
      (callLive (call s h) = false → t.calls = s.calls) ∧
      (callLive (call s h) = true → ∀ c, s.calls[h]? = some c → t.calls[h]? = some { c with cancelAt := some (dueBoundary s) })) ∧
  (∀ (s : State) (m : VtpMeta) (h taken : Nat), h < 8 → taken < 2 ^ 32 → WriteOk s m .sys (0x100C + 0x40 * h) [w32 taken] 0 →
    Done (.callTaken m h taken) s fun t => ∀ c, t.calls[h]? = some c → c.taken = taken) ∧
  (∀ (s : State) (m : VtpMeta) (rate : Nat), rate < 8 → WriteOk s m .sys 0x300 [w32 rate] 0 →
    Done (.srvBaud m rate) s fun t => t.vtp.baud = rate ∧ t.vtp.baudAt = some s.tim.cyc)

/-- READ (R460, R6, R8): as many words as were asked for, the first the value of the register at the offset, 0 where none is listed or it is write
only; no register changes but in RTC's capture, and the latches of R3. Its own transaction is outstanding while it is served (R464). A READ of the
three words of TIM_TIME is one instant (R329). RAD_FIND_RESULT is looked up at the read (R241). -/
def Obligations.ReadsReturnRegisters : Prop :=
  (∀ (s : State) (m : VtpMeta) (n : Stn) (offset words : Nat), 1 ≤ words → words ≤ 348 → (s.modp = .recovery → n = .sys) →
    (n = .rtc → offset ≠ 0x20) → tget s.latch (latchKey n offset) = none →
    Passes s (plainReq m 1 n.idx offset (4 * words) []) true (4 * words) →
    Done (.read m n.idx offset (4 * words)) s fun t =>
      ∃ d, d.length + 1 = words ∧
        Replied t (plainReq m 1 n.idx offset (4 * words) [])
          (replyOf (plainReq m 1 n.idx offset (4 * words) []) .ok
            (regShown (whileServed (plainReq m 1 n.idx offset (4 * words) []) (meets s (plainReq m 1 n.idx offset (4 * words) [])))
              n offset :: d))) ∧
  (∀ (s : State) (m : VtpMeta) (words : Nat), 1 ≤ words → words ≤ 3 → s.modp ≠ .recovery → tget s.latch (latchKey .tim 0x10) = none →
    Passes s (plainReq m 1 Stn.tim.idx 0x10 (4 * words) []) true (4 * words) →
    Done (.timeRead m words) s fun t =>
      Replied t (plainReq m 1 Stn.tim.idx 0x10 (4 * words) [])
        (replyOf (plainReq m 1 Stn.tim.idx 0x10 (4 * words) []) .ok
          ([w32 (nowFrac s), w32 (nowSec s), w32 (nowSec s / frac % 65536)].take words)) ∧ t.tim = s.tim) ∧
  (∀ (s : State) (m : VtpMeta), s.modp ≠ .recovery → tget s.latch (latchKey .rad 0x2C) = none →
    Passes s (plainReq m 1 Stn.rad.idx 0x2C 4 []) true 4 →
    Done (.natFind m) s fun t =>
      Replied t (plainReq m 1 Stn.rad.idx 0x2C 4 []) (replyOf (plainReq m 1 Stn.rad.idx 0x2C 4 []) .ok [findResult s]) ∧ t.rad = s.rad)

/-! ## CALLs -/

/-- An admitted CALL of every kind takes the record that is lowest of the free: it names the station and the operation, its generation has gone up by
one, its reply is OK with the handle and the bound (R465, R466, R468). That the record is the lowest is the model's choice (log entry 15). -/
def Obligations.AdmittedCallsTakeTheirRecord : Prop :=
  (∀ (s : State) (m : CallMeta) (a : List Byte) (x : ImageSigs) (h : Nat), CallOk s (callReq m 11 1 a) (imageErr · a) (imagePlan a) h →
    Done (.imageApply m a x) s fun t => CallTaken s t (callReq m 11 1 a) 1 h) ∧
  (∀ (s : State) (m : CallMeta) (a : List Byte) (r : RigSet) (h : Nat), CallOk s (callReq m 11 2 a) (rigErr · a) (rigPlan a r) h →
    Done (.rigApply m a r) s fun t => CallTaken s t (callReq m 11 2 a) 2 h) ∧
  (∀ (s : State) (m : CallMeta) (a : List Byte) (h : Nat), CallOk s (callReq m 11 3 a) (plainErr · 3 a) calPlan h →
    Done (.calibrationLoad m.vtp m.deadline a) s fun t => CallTaken s t (callReq m 11 3 a) 3 h) ∧
  (∀ (s : State) (m : CallMeta) (a : List Byte) (h : Nat), CallOk s (callReq m 11 4 a) (distErr · a) distPlan h →
    Done (.lanternFirmwareDistribution m.vtp m.deadline a) s fun t => CallTaken s t (callReq m 11 4 a) 4 h) ∧
  (∀ (s : State) (m : CallMeta) (a : List Byte) (l : List KeySecret) (h : Nat), CallOk s (callReq m 11 5 a) (plainErr · 5 a) keyPlan h →
    Done (.keyImport m a l) s fun t => CallTaken s t (callReq m 11 5 a) 5 h) ∧
  (∀ (s : State) (m : CallMeta) (a : List Byte) (b : Option Nat) (h : Nat), CallOk s (callReq m 11 6 a) (anchorErr · m.vtp.session a b) anchorPlan h →
    Done (.anchor m.vtp m.deadline a b) s fun t => CallTaken s t (callReq m 11 6 a) 6 h) ∧
  (∀ (s : State) (m : CallMeta) (a : List Byte) (h : Nat), CallOk s (callReq m 0 1 a) (stationResetErr · a) (stationResetPlan a) h →
    Done (.stationResetCall m a) s fun t => CallTaken s t (callReq m 0 1 a) 1 h) ∧
  (∀ (s : State) (m : CallMeta) (a : List Byte) (h : Nat), CallOk s (callReq m 0 2 a) (fun _ => if a ≠ [] then .range else .ok) moduleResetPlan h →
    Done (.moduleResetCall m a) s fun t => CallTaken s t (callReq m 0 2 a) 2 h) ∧
  (∀ (s : State) (m : CallMeta) (a : List Byte) (h : Nat), CallOk s (callReq m 4 1 a) (enrolErr · a) enrolPlan h →
    Done (.lanternEnrolment m a) s fun t => CallTaken s t (callReq m 4 1 a) 1 h) ∧
  (∀ (s : State) (m : CallMeta) (a : List Byte) (h : Nat), CallOk s (callReq m 4 2 a) (scanErr · a) (scanPlan a) h →
    Done (.commissioningScan m a) s fun t => CallTaken s t (callReq m 4 2 a) 2 h) ∧
  (∀ (s : State) (m : CallMeta) (a : List Byte) (h : Nat), CallOk s (callReq m 4 3 a) (nodeSendErr · a) sendPlan h →
    Done (.nodeSend m a) s fun t => CallTaken s t (callReq m 4 3 a) 3 h) ∧
  (∀ (s : State) (m : CallMeta) (a : List Byte) (h : Nat), CallOk s (callReq m 8 1 a) (fun _ => exportErr a) exportPlan h →
    Done (.profileExport m a) s fun t => CallTaken s t (callReq m 8 1 a) 1 h) ∧
  (∀ (s : State) (m : CallMeta) (a : List Byte) (h : Nat), CallOk s (callReq m 2 1 a) (fun _ => exportErr a) exportPlan h →
    Done (.captureExport m a) s fun t => CallTaken s t (callReq m 2 1 a) 1 h)

/-- What CALLs of SYS, RAD, MTR, TIM and UPD do at once (R442, R443, R468 to R472). That a station whose CALL waits is in FAULT is inferred (log
entry 92), and the place an enrolled node takes is the model's choice (log entry 82). -/
def Obligations.CallsDoTheirWork : Prop :=
  (∀ (s : State) (m : CallMeta) (h : Nat),
    CallOk s (callReq m 0 2 []) (fun _ => .ok) moduleResetPlan h →
    Done (.moduleResetCall m []) s fun t =>
      t.sys.resetAt = some (s.tim.cyc + msCyc 100) ∧ t.sys.resetCause = 8 ∧ t.modp = s.modp ∧ ∀ c, t.calls[h]? = some c → c.state = .done) ∧
  (∀ (s : State) (m : CallMeta) (b : Byte) (n : Stn) (h : Nat), Stn.ofIdx b.toNat = some n → stationsUp s = true → isRunning s n = true → n ≠ .upd →
    CallOk s (callReq m 0 1 [b]) (stationResetErr · [b]) (stationResetPlan [b]) h →
    Done (.stationResetCall m [b]) s fun t =>
      (stn t n).state = .fault ∧ (n, .call) ∈ t.cox.faults ∧ ∀ c, t.calls[h]? = some c → c.state = (if s.cox.resetting = none ∧ s.cox.faults = [] then .running else .queued) ∧ c.arg = n.idx) ∧
  (∀ (s : State) (m : CallMeta) (a : List Byte) (b : Option Nat) (h : Nat),
    CallOk s (callReq m 11 6 a) (anchorErr · m.vtp.session a b) anchorPlan h →
    Done (.anchor m.vtp m.deadline a b) s fun t =>
      (argAt a 0 1 = 0 → t.keys = { s.keys with anchor := some s.cfg.validated.certKey, coSign := argAt a 1 1 = 1 }) ∧
      (argAt a 0 1 ≠ 0 → t.keys = { s.keys with anchor := some (argAt a 2 64), coSign := argAt a 1 1 = 1, rollCtr := argAt a 66 4 })) ∧
  (∀ (s : State) (m : CallMeta) (e : KeyEntry) (x : KeySecret) (k : BitVec 128) (h : Nat), xferReady s 6 = true → s.upd.xfer.length % 172 = 0 →
    keyBatch s [x] = [(e, x)] → keyEntryErr s e x = .ok → e.slot < 0x1000 → unwrapped x.z e = some k →
    CallOk s (callReq m 11 5 []) (plainErr · 5 []) keyPlan h →
    Done (.keyImport m [] [x]) s fun t =>
      t.keys = { s.keys with importCtr := e.ctr, device := tput s.keys.device e.slot { key := k, born := nowSec s } } ∧
      ∀ c, t.calls[h]? = some c → c.state = .done ∧ c.results = 1) ∧
  (∀ (s : State) (m : CallMeta) (a : List Byte) (h : Nat),
    CallOk s (callReq m 4 1 a) (enrolErr · a) enrolPlan h →
    Done (.lanternEnrolment m a) s fun t =>
      natEnt t (newIndex s) = some (enrolEnt s a) ∧ ∀ c, t.calls[h]? = some c → c.state = .done ∧ c.results = 1) ∧
  (∀ (s : State) (m : CallMeta) (a : List Byte) (h : Nat), CallOk s (callReq m 4 2 a) (scanErr · a) (scanPlan a) h →
    Done (.commissioningScan m a) s fun t =>
      (s.rad.scan = none → ∃ c, t.rad.scan = some c ∧ c.call = h ∧ c.ports = argAt a 0 1 ∧ c.endNs = nowNs s + argAt a 2 2 * giga) ∧
      (s.rad.scan.isSome = true → t.rad.scan = s.rad.scan ∧ ∀ c, t.calls[h]? = some c → c.state = .queued)) ∧
  (∀ (s : State) (m : CallMeta) (a : List Byte) (h : Nat),
    CallOk s (callReq m 4 3 a) (nodeSendErr · a) sendPlan h →
    Done (.nodeSend m a) s fun t => ∀ c, t.calls[h]? = some c →
      c.state = (if inContact s (argAt a 0 2) then .running else .done) ∧ c.results = if inContact s (argAt a 0 2) then 0 else 1) ∧
  (∀ (s : State) (m : CallMeta) (a : List Byte) (h : Nat), .cfg ∉ s.flashBad →
    CallOk s (callReq m 8 1 a) (fun _ => exportErr a) exportPlan h →
    Done (.profileExport m a) s fun t => ∀ c, t.calls[h]? = some c →
      c.matched = (profileMatches s (argAt a 4 4) (argAt a 8 4) (argAt a 0 1)).length) ∧
  (∀ (s : State) (m : CallMeta) (a : List Byte) (h : Nat),
    CallOk s (callReq m 2 1 a) (fun _ => exportErr a) exportPlan h →
    Done (.captureExport m a) s fun t => ∀ c, t.calls[h]? = some c → s.led.capLog = [] → c.state = .done ∧ c.matched = 0 ∧ c.results = 0)

/-! ## Resets and starts -/

/-- Every cause of a module reset starts the module anew with its code of R129: main SRAM is clear, no stroke has begun, no CALL is known (R101,
R107). A bank fault names its bank; a start that follows a bank that held the module in reset has the code of that bank (the model's choice, log
entry 103). An uncorrectable error during a boot, as State
holds it ahead (log entry 140), ends that start and begins another, with code 0x11 (R64). -/
def Obligations.ResetsStartTheModule : Prop :=
  (∀ (s : State) (a b : Nat) (lost : Bool) (ahead : Ahead), bankLevel a ≠ .notValid → bankLevel b ≠ .notValid →
    (ahead.bootUe = false → s.modp ≠ .held → Done (.powerOnReset a b lost ahead) s (Started · 0x01 0)) ∧
    (ahead.bootUe = false → s.modp = .held → Done (.powerOnReset a b lost ahead) s (Started · 0x05 (b2n (s.bankA ≠ .notValid)))) ∧
    (ahead.bootUe = true → Done (.powerOnReset a b lost ahead) s (Started · 0x11 0))) ∧
  (∀ (s : State) (bank : Bool), firmwareRuns s = true → Done (.bankFault bank) s (StartsWith s · 0x05 (b2n bank))) ∧
  (∀ s : State, s.modp ≠ .off → s.modp ≠ .held → Done .resetN s (StartsWith s · 0x02 0)) ∧
  (∀ s : State, (moduleUp s = true ∨ (s.modp = .easy ∧ bankLevel s.ahead.bankA ≠ .notValid ∧ bankLevel s.ahead.bankB ≠ .notValid)) →
    Done .brownout s (StartsWith s · 0x07 0)) ∧
  (∀ s : State, firmwareRuns s = true → Done .watchdog s (StartsWith s · 0x03 0)) ∧
  (∀ s : State, s.sys.timerOn = true → firmwareRuns s = true → Done .steadyTmo s (StartsWith s · 0x10 0)) ∧
  (∀ s : State, firmwareRuns s = true → Done .tcxoFailure s (StartsWith s · 0x06 0)) ∧
  (∀ (s : State) (at_ : Nat), s.sys.resetAt = some at_ → s.vtp.resetReply = none →
    Done .moduleReset s (StartsWith s · s.sys.resetCause 0)) ∧
  (∀ (s : State) (bankB : Bool) (a b : Nat) (lost : Bool), bankLevel (if bankB then b else a) = .notValid →
    Done (.bankNotValid bankB a b lost) s fun t => t.modp = .held ∧ t.mem = [] ∧ t.cox = {} ∧ t.bankA = bankLevel a ∧ t.bankB = bankLevel b)

/-- The wake sequence (R420, R421): the input, or a frame that matches, starts step 1; a ready signal within its time begins the next step, and
after step 4, with a save list that restores, starts the module with the source's code; a step that runs out of time waits for its retry once, and
then starts the module with the step's code. -/
def Obligations.WakeStepsLeadToAStart : Prop :=
  (∀ s : State, s.modp = .easy → s.pwr.cmpArmed = true → s.pwr.wake = none →
    Done .wakeCmp s fun t => t.pins.wakeCmp = true ∧ t.pwr.state = .waking ∧
      t.pwr.wake = some { source := 1, port := 0, startCyc := s.tim.cyc, stepCyc := s.tim.cyc }) ∧
  (∀ (s : State) (port : Nat) (o : List Byte) (ok : Bool), s.modp = .easy → s.pwr.frameArmed = true → port = (cBackhaul s).wakePort →
    wakeMatches s port o ok = true → s.pwr.wake = none →
    Done (.wakeFrame port o ok) s fun t => t.pwr.state = .waking ∧
      t.pwr.wake = some { source := 3, port := port, startCyc := s.tim.cyc, stepCyc := s.tim.cyc }) ∧
  (∀ (s : State) (us : Nat) (w : Wake), s.modp = .easy → s.pwr.wake = some w → s.pwr.state = .waking → w.waiting = false →
    us ≤ stepTimeout s.pwr.last.slow w.step →
    (w.step < 4 → Done (.wakeStepReady us) s fun t =>
      ∃ x, t.pwr.wake = some x ∧ x.step = w.step + 1 ∧ x.source = w.source ∧ t.modp = s.modp) ∧
    (4 ≤ w.step → saveGood s = true →
      Done (.wakeStepReady us) s (StartsWith s · (0x09 + w.source) (if w.source = 3 then w.port else 0)))) ∧
  (∀ (s : State) (w : Wake), s.modp = .easy → s.pwr.wake = some w → s.pwr.state = .waking → w.waiting = false →
    (s.aon.retryUsed = false → Done .wakeStepTimeout s fun t =>
      t.aon.retryUsed = true ∧ t.pwr.state = .easy ∧ ∃ x, t.pwr.wake = some x ∧ x.waiting = true ∧ x.step = w.step) ∧
    (s.aon.retryUsed = true → bankLevel s.ahead.bankA ≠ .notValid → bankLevel s.ahead.bankB ≠ .notValid →
      Done .wakeStepTimeout s (StartsWith s · (if w.step = 1 then 0x0D else if w.step = 2 then 0x0E else 0x0F) 0))) ∧
  (∀ (s : State) (w : Wake), s.modp = .easy → s.pwr.wake = some w → w.waiting = true →
    Done .wakeRetry s fun t => t.pwr.state = .waking ∧ ∃ x, t.pwr.wake = some x ∧ x.waiting = false ∧ x.step = 1 ∧ x.source = w.source)

/-- Entry into EASY (R410 to R419): the day trigger asks for an entry when R413's checks pass, the saves take it to step 2, the grace's end latches
the pads of both banks and writes the save list, and the final check switches the main domains off with every station OFF and every session closed,
or abandons the entry when a wake is pending. UPD's gate switches UPD off. -/
def Obligations.EasyIsEntered : Prop :=
  (∀ s : State, (cPower s).switched = true → s.crs.mode = 0 → s.pwr.entry = none → s.modp = .running → easyErr (cmpFell s) (dayWake (cmpFell s)) = .ok →
    Done .easyDayTrigger s fun t =>
      t.pwr.entry = some { trigger := 1, wakePlan := dayWake (cmpFell s), from_ := s.pwr.state } ∧ t.pins.wakeCmp = false) ∧
  (∀ (s : State) (e : Entry), s.pwr.entry = some e → e.step = 1 → s.ledBad = [] → s.tim.cyc ≤ e.stepCyc + msCyc 200 →
    Done .easySavesDone s fun t => (∃ n, t.pwr.entry = some { e with step := 2, stepCyc := n }) ∧ t.modp = s.modp) ∧
  (∀ (s : State) (e : Entry), s.pwr.entry = some e → e.step = 2 →
    Done .sleepGraceExpiry s fun t =>
      t.pwr.entry = some { e with step := 6 } ∧ t.pwr.holdA = true ∧ t.pwr.holdB = true ∧ t.pwr.cmpArmed = (cPower s).switched ∧
      t.pwr.frameArmed = (cPower s).frameEn ∧ t.aon.save.isSome = true ∧ ∀ q ∈ t.evq.queues, q.ring = []) ∧
  (∀ (s : State) (e : Entry) (q : Bool), s.pwr.entry = some e → e.step = 6 →
    (wakePending (setPwr s fun x => { x with cmpQualifying := q }) = 0 → Done (.easyFinalCheck q) s fun t =>
      t.modp = .easy ∧ t.pwr.state = .easy ∧ t.pwr.entry = none ∧ t.cox.phase = .none ∧ (∀ r ∈ t.stns, r.state = .off) ∧
      ∀ x ∈ t.vtp.sessions, x.state = .closed) ∧
    (wakePending (setPwr s fun x => { x with cmpQualifying := q }) ≠ 0 → Done (.easyFinalCheck q) s fun t =>
      t.modp = s.modp ∧ t.pwr.state = e.from_ ∧ t.pwr.entry = none ∧ t.pwr.holdA = false ∧ t.pwr.holdB = false ∧ t.stns = s.stns)) ∧
  (∀ s : State, s.pwr.state = .feather → isRunning s .upd = true → updCallLive s = false → s.upd.xfer.state ≠ .open_ →
    Done .updPowerGate s fun t => (stn t .upd).state = .off ∧ t.pwr.updGated = true)

/-- What a start ends with (R110, R121, R125, R127): the steadiness test stops the timer of R127 and marks the start steady; a migrated Rig is
written to its slot; a special Trim that validates is enabled with those enabled before, at the boundary of R26. -/
def Obligations.StartsBecomeSteady : Prop :=
  (∀ s : State, s.sys.timerOn = true → s.modp = .running → 1000 ≤ s.sys.run → allStations s .running = true →
    Done .steady s fun t => t.sys.timerOn = false ∧ t.sys.start.steady = true ∧ t.modp = .running) ∧
  (∀ (s : State) (k : Nat) (r : Rig), s.cfg.migrate = some (k, r) → s.modp = .running → .cfg ∉ s.flashBad →
    Done .rigMigrationWrite s fun t =>
      t.cfg.migrate = none ∧ (k = 0 → t.flash.rigA = some r ∧ t.flash.rigB = s.flash.rigB) ∧ (k ≠ 0 → t.flash.rigB = some r ∧ t.flash.rigA = s.flash.rigA)) ∧
  (∀ (s : State) (i : Nat) (f : List Finding), s.modp = .running → inReset s .cfg = false → i < 16 →
    specialErr s ((List.range 16).filter fun k => (specialsLast s).contains k || k = i) = (.ok, f) →
    Done (.specialTrimEnable i) s fun t =>
      t.cfg.specialsNext = some ((List.range 16).filter (fun k => (specialsLast s).contains k || k = i), dueBoundary s) ∧
      t.cfg.specials = s.cfg.specials)

/-- Station faults and resets (R18, R33, R35, R44, R57, R58): a request that times out faults its target, which waits for its reset; the longest
waiting station's reset begins when none runs, and forgets its crab history; a station that has loaded is READY, or HELD where PADDLE does not run
it. An acquisition that times out is counted and tried again, up to 3 times; then a frame that waited for its NAT entry is dropped (log entry
120). A failed write is that station's next one (log entry 45). -/
def Obligations.StationsFaultAndReset : Prop :=
  (∀ (s : State) (n : Stn) (q : Option VtpReq), stationsUp s = true → inReset s n = false → (stn s n).state ≠ .off →
    Done (.fabricTmo ⟨n, q⟩) s fun t => (stn t n).state = .fault ∧ (n, .fabricTmo) ∈ t.cox.faults ∧ t.sys.run = 0) ∧
  (∀ (s : State) (n : Stn) (c : StnCause) (rest : List (Stn × StnCause)), s.cox.resetting = none → s.cox.faults = (n, c) :: rest →
    (stn s n).state = .fault →
    Done .stationResetStart s fun t =>
      t.cox.resetting = some n ∧ t.cox.faults = rest ∧ (stn t n).state = .loading ∧ (stn t n).cause = c ∧ (stn t n).hist = [] ∧
      (stn t n).resets = min 255 ((stn s n).resets + 1)) ∧
  (∀ (s : State) (n : Stn), s.cox.resetting = some n → (stn s n).state = .loading →
    Done (.stationReady n) s fun t =>
      t.cox.resetting = none ∧ t.cox.faults = s.cox.faults ∧
      (stn t n).state = if s.sys.start.mode = .paddle ∧ n ∈ paddleHeld then .held else .ready) ∧
  (∀ (s : State) (n : Stn) (c : Instr), (c = .ledgerFail n ∨ c = .flashTmo n) →
    Done c s fun t => (c = .ledgerFail n → t.ledBad = s.ledBad ++ [n]) ∧ (c = .flashTmo n → t = { s with flashBad := s.flashBad ++ [n] })) ∧
  (∀ (s : State) (w : Work) (r : Resource) (k : Nat), needs s w r k = true → ((s.rad.waits.find? fun x => x.1 = w).map fun x => x.2).getD 0 < 3 →
    Done (.resourceTmo w r k) s fun t => t.evq = s.evq ∧ t.rad = { s.rad with waits := (s.rad.waits.filter fun x => x.1 ≠ w) ++
      [(w, ((s.rad.waits.find? fun x => x.1 = w).map fun x => x.2).getD 0 + 1)] }) ∧
  (∀ (s : State) (f : RxFrame) (i n : Nat) (e : NatEnt), s.rad.waits.find? (fun x => x.1 = .frame f) = some (.frame f, n) → 3 ≤ n →
    rxHeader s f = .ok (some i) → natEnt s i = some e →
    Done (.resourceTmo (.frame f) .natEntry i) s fun t => natEnt t i = some { e with rxDrop := satAdd 16 e.rxDrop 1 } ∧
      ∀ w ∈ t.rad.waits, w.1 ≠ .frame f)

/-- A clock's loss puts every station clocked from it into RESET, none of them off, and its return queues the resets of those no other lost clock
holds (R18). Which stations a source clocks follows log entry 73. -/
def Obligations.LostClocksHoldTheirStations : Prop :=
  (∀ (s : State) (c : ClockSrc), stationsUp s = true → c ∉ s.cox.lostClocks →
    Done (.pllLockLoss c) s fun t =>
      t.cox.lostClocks = s.cox.lostClocks ++ [c] ∧
      ∀ n ∈ clockedBy c, (stn s n).state ≠ .off → ∀ r, t.stns[n.idx]? = some r → r.state = .reset) ∧
  (∀ (s : State) (c : ClockSrc), c ∈ s.cox.lostClocks →
    Done (.pllLockRegained c) s fun t =>
      (∀ x, x ∈ t.cox.lostClocks ↔ x ∈ s.cox.lostClocks ∧ x ≠ c) ∧ t.stns = s.stns ∧
      ∀ n ∈ clockedBy c, (stn s n).state = .reset → (∀ x ∈ s.cox.lostClocks, x ≠ c → n ∉ clockedBy x) → ∃ k, (n, k) ∈ t.cox.faults)

/-! ## Time -/

/-- The calendar counts seconds and stays within R351's ranges: a second's end steps it by one second with the month lengths of R352 and the roll of
R353; an inserted leap second shows 23:59:59 twice and a deleted one leaves it out (R355). -/
def Obligations.CalendarCountsSeconds : Prop :=
  (∀ s : State, calLegal s.rtc.cal → commitHere s = none → Done .secondEnd s fun t => calLegal t.rtc.cal ∧
    (s.rtc.leap = 0 → t.rtc.cal = (nextSecond s.rtc.cal).1 ∧ t.rtc.epochWrap = (s.rtc.epochWrap || (nextSecond s.rtc.cal).2)) ∧
    (s.rtc.leap = 1 → lastMinute s.rtc.cal = true → s.rtc.cal.sec = 59 →
      (s.rtc.rep = false → t.rtc.cal = s.rtc.cal ∧ t.rtc.rep = true ∧ t.rtc.leap = 1) ∧
      (s.rtc.rep = true → t.rtc.cal = (nextDay s.rtc.cal).1 ∧ t.rtc.rep = false ∧ t.rtc.leap = 0)) ∧
    (s.rtc.leap = 2 → lastMinute s.rtc.cal = true → s.rtc.cal.sec = 58 → t.rtc.cal = (nextDay s.rtc.cal).1 ∧ t.rtc.leap = 0)) ∧
  (∀ c : Cal, calLegal c → (c.year = 2399 ∧ c.month = 12 ∧ c.day = 31 ∧ c.hour = 23 ∧ c.min = 59 ∧ c.sec = 59) →
    (nextSecond c).1 = { sec := 0, min := 0, hour := 0, day := 1, month := 1, year := 2000, wday := (c.wday + 1) % 7 } ∧ (nextSecond c).2 = true)

/-- A valid commit replaces the calendar, clears OSF and is no longer pending (R358), and at its edge no second rolls over (R359); VBAT's
application, and a power-up without VBAT, set the calendar to 2000-01-01 and OSF (R89, R360); an oscillator stop, and a low VBAT without VIN, set
OSF and leave the calendar (R360). Which rows are power-ups follows log entry 95. -/
def Obligations.CommitsAndStopsSetTheCalendar : Prop :=
  (∀ (s : State) (c : Commit), s.rtc.commit = some c →
    Done .commitApply s fun t => t.rtc.cal = c.cal ∧ t.rtc.osf = false ∧ t.rtc.commit = none ∧ t.rtc.stg = s.rtc.stg) ∧
  (∀ (s : State) (c : Commit), commitHere s = some c →
    Done .secondEnd s fun t => t.rtc.cal = c.cal ∧ t.rtc.osf = false ∧ t.rtc.commit = none ∧ t.rtc.stg = s.rtc.stg) ∧
  (∀ s : State, Done .vbatApplied s fun t =>
    t.rtc.cal = { sec := 0, min := 0, hour := 0, day := 1, month := 1, year := 2000, wday := 0 } ∧ t.rtc.osf = true ∧ t.pins.vbat = true) ∧
  (∀ (s : State) (a b : Nat) (lost : Bool) (ahead : Ahead), s.pins.vbat = false → bankLevel a ≠ .notValid → bankLevel b ≠ .notValid →
    Done (.powerOnReset a b lost ahead) s fun t =>
      t.rtc.cal = { sec := 0, min := 0, hour := 0, day := 1, month := 1, year := 2000, wday := 0 } ∧ t.rtc.osf = true) ∧
  (∀ s : State, Done .oscillatorStop s fun t => t.rtc = { s.rtc with osf := true }) ∧
  (∀ s : State, s.modp = .off → Done .vbatLow s fun t => t.rtc = { s.rtc with osf := true })

/-- Compensation, ageing and saves (R340, R361, R363, R364): n stays within 480, an ageing step is at most 0.5 ppm and the offset at most 25.5 ppm; a
check that finds OSF set commits the UTC of the next second; TIM saves TIME_SEC, the frequency and TAI − UTC 60 s after its last save (log
entry 41). -/
def Obligations.CompensationStaysWithinItsBounds : Prop :=
  (∀ (s : State) (temp : Int), Done (.compensationWindow temp) s fun t =>
    t.rtc.temp = temp ∧ -480 ≤ t.rtc.n ∧ t.rtc.n ≤ 480 ∧ t.rtc.j = 0 ∧ t.rtc.cal = s.rtc.cal) ∧
  (∀ (s : State) (a b : Int) (n : Nat), s.rtc.phases = some (a, b, n + 1) → -255 ≤ s.rtc.aging → s.rtc.aging ≤ 255 →
    Done .agingUpdate s fun t =>
      -255 ≤ t.rtc.aging ∧ t.rtc.aging ≤ 255 ∧ s.rtc.aging - 5 ≤ t.rtc.aging ∧ t.rtc.aging ≤ s.rtc.aging + 5 ∧ t.aon.aging = some t.rtc.aging ∧
      t.rtc.phases = none) ∧
  (∀ s : State, learnCond s = true → checkBarred s = false → s.rtc.commit = none → s.rtc.osf = true →
    Done .calendarCheck s fun t =>
      t.rtc.commit = some { cal := calOf (utcSec s + 1), onSecond := true, at_ := (nowSec s + 1) * giga } ∧ t.rtc.cal = s.rtc.cal) ∧
  (∀ s : State, s.tim.set = true → isRunning s .tim = true → .tim ∉ s.ledBad →
    Done .timeSave s fun t =>
      t.led.tim = some ⟨nowSec t, s.tim.freq, s.tim.taiUtc⟩ ∧ s.tim.savedAt + secCyc 60 ≤ t.tim.savedAt ∧ t.tim.savedAt = t.tim.cyc)

/-- Network time starts at a whole second, with quality CALENDAR from an RTC whose oscillator has not stopped and INVALID otherwise (R340). -/
def Obligations.TimeStartsFromTheCalendar : Prop :=
  ∀ s : State, s.tim.set = false → ((stn s .tim).state = .ready ∨ (stn s .tim).state = .running) →
    Done .timeInit s fun t =>
      t.tim.set = true ∧ t.tim.sub % (giga * frac) = 0 ∧ t.tim.qual = (if s.rtc.osf then .invalid else .calendar) ∧ t.tim.leap = 0 ∧
      (s.rtc.osf = false → (nowSec t : Int) = max 0 ((calSec s.rtc.cal : Int) + startTaiUtc s)) ∧
      (∀ x, s.rtc.osf = true → s.led.tim = some x → nowSec t = x.sec + 1)

/-- The master clock (R332): an Announce is the newest of what was heard of its port, a master no longer heard is forgotten, and the master selected
is the best of those heard, in the order of IEEE 1588 as log entry 8 presumes it. -/
def Obligations.TheBestMasterIsSelected : Prop :=
  (∀ (s : State) (m : AnnounceMsg), ptpTaken s m.domain →
    Done (.announceReceive m) s fun t =>
      t.tim.foreign = (s.tim.foreign.filter fun f => !sameMaster f.msg m) ++ [⟨m, s.tim.cyc⟩] ∧ t.tim.master = bestMaster t.tim.foreign ∧
      t.tim.sub = s.tim.sub) ∧
  (∀ (s : State) (m : AnnounceMsg), s.tim.master = some m →
    Done .announceReceiptTimeout s fun t =>
      t.tim.foreign = s.tim.foreign.filter (fun f => !sameMaster f.msg m) ∧ t.tim.master = bestMaster t.tim.foreign) ∧
  (∀ (l : List Foreign) (f : Foreign), f ∈ l → ∃ b, bestMaster l = some b ∧ keyLt (masterKey f.msg) (masterKey b) = false)

/-- PTP exchanges (R332 to R334). A two-step Sync of the selected master is kept until its Follow_Up, which uses it up; a Delay_Resp that answers the
open request gives its path; a peer delay response that answers the open request gives the link's delay; requests go out with the next sequenceId, and
a peer's request is answered and counted once ETH has taken the answer. -/
def Obligations.PtpExchangesComplete : Prop :=
  (∀ (s : State) (src : PtpSrc) (t1 corr : Int) (m : AnnounceMsg), ptpTaken s src.domain → s.tim.master = some m → m.clockId = src.clockId →
    m.portNum = src.portNum → m.port = src.port →
    Done (.syncReceive src true t1 corr) s fun t => t.tim.openSync = some ⟨src, rxStamp s src.port, corr⟩ ∧ t.tim.samples = s.tim.samples) ∧
  (∀ (s : State) (src : PtpSrc) (t1 corr : Int) (o : OpenSync), ptpTaken s src.domain → s.tim.openSync = some o → o.src = src →
    Done (.followUpReceive src t1 corr) s fun t => t.tim.openSync = none ∧ t.tim.samples.length ≤ s.tim.samples.length + 1) ∧
  (∀ (s : State) (src : PtpSrc) (t4 corr t3 : Int), ptpTaken s src.domain → s.tim.openDreq = some (src.port, src.seq, t3) →
    Done (.delayRespReceive src t4 corr) s fun t => t.tim.dresp = some (t4 - t3 - corr, s.tim.cyc) ∧ t.tim.openDreq = none) ∧
  (∀ (s : State) (src : PtpSrc) (turn corr t1 : Int), ptpTaken s src.domain → tget s.tim.openPdelay src.port = some (src.seq, t1) →
    Done (.pdelayRespReceive src turn corr) s fun t =>
      tget t.tim.linkDelay src.port = some ((rxStamp s src.port - t1 - turn - corr) / 2, s.tim.cyc) ∧ tget t.tim.openPdelay src.port = none) ∧
  (∀ (s : State) (m : AnnounceMsg), s.tim.master = some m → isRunning s .tim = true → (cBackhaul s).p2p = false →
    Done .delayReqSend s fun t => t.tim.reqSeq = (s.tim.reqSeq + 1) % 65536) ∧
  (∀ (s : State) (p : Nat), isRunning s .tim = true → (cBackhaul s).p2p = true →
    Done (.pdelayReqSend p) s fun t => t.tim.reqSeq = (s.tim.reqSeq + 1) % 65536) ∧
  (∀ (s : State) (src : PtpSrc), ptpTaken s src.domain → (cBackhaul s).p2p = true →
    (ethQueue s src.port 0 ⟨.pdelayResp src.seq src.clockId (rxStamp s src.port), ptpOctets s 54⟩).2 = true →
    Done (.pdelayReqReceive src) s fun t => t.tim.ptp = bump s.tim.ptp 6)

/-- Edges (R342, R346, R347): a compare unit's edge is counted and its pin driven as its MODE says; the low edge of a pulse lowers its pin; a capture
edge that is wide enough, not held off and finds room enters the unit's queue with the counts since the last one, and otherwise raises the count of
glitches or of lost edges. -/
def Obligations.EdgesAreIssuedAndCaptured : Prop :=
  (∀ (s : State) (n : Nat) (u : CmpUnit), s.tim.cmps[n]? = some u → (u.state = .armed ∨ u.state = .running) →
    Done (.compareEdge n) s fun t =>
      (∀ x, t.tim.cmps[n]? = some x → x.edges = u.edges + 1 ∧ x.k = u.k + 1 ∧ x.pin = edgePin u) ∧ ∀ j, j ≠ n → t.tim.cmps[j]? = s.tim.cmps[j]?) ∧
  (∀ (s : State) (n e : Nat) (u : CmpUnit), s.tim.cmps[n]? = some u → u.lowAt = some e →
    Done (.pulseEnd n) s fun t => t.tim.cmps[n]? = some { u with pin := false, lowAt := none } ∧ ∀ j, j ≠ n → t.tim.cmps[j]? = s.tim.cmps[j]?) ∧
  (∀ (s : State) (n taps : Nat) (rising : Bool) (c : CapUnit), s.tim.caps[n]? = some c → capSelects s n rising = true →
    Done (.captureEdge n rising false taps) s (fun t =>
      t.tim.caps[n]? = some { c with glitch := inc32 c.glitch, glitchSince := c.glitchSince + 1 }) ∧
    (c.last = none → c.fifo.length < 8 → Done (.captureEdge n rising true taps) s fun t =>
      ∃ x y, t.tim.caps[n]? = some y ∧ y.fifo = c.fifo ++ [x] ∧ x.rising = rising ∧ x.unit_ = n ∧ x.seq = c.seq ∧ x.lostBefore = c.lostSince ∧
        y.seq = c.seq + 1 ∧ y.lostSince = 0 ∧ y.last = some x.stamp) ∧
    (c.last = none → 8 ≤ c.fifo.length → Done (.captureEdge n rising true taps) s fun t =>
      t.tim.caps[n]? = some { c with lost := inc32 c.lost, lostSince := c.lostSince + 1 }))
/-! ## Backhaul Ethernet and event queues -/

/-- Links (R304, R306, R318): a port's link is up exactly when R304's conditions hold; a link that goes down is counted and loses the frames queued; a
link that comes up starts verification again where preemption asks for it. A PHY's link is what its register 1 last said, and down after a failed
access (R58, R305). -/
def Obligations.LinksFollowTheirConditions : Prop :=
  (∀ (s : State) (p : Nat) (los sync an phy : Bool) (e : EthPort), s.eth.ports[p]? = some e →
    Done (.linkChange p los sync an phy) s fun t => ∃ x, t.eth.ports[p]? = some x ∧
      x.los = los ∧ x.sync = sync ∧ x.an = an ∧ x.phyLink = phy ∧
      x.up = ((ethCfg s p).enabled && !los && sync && (!(ethCfg s p).anEn || an) && (!(ethCfg s p).phy || phy)) ∧
      (x.up = e.up → x.verify = e.verify ∧ x.tq = e.tq ∧ x.cnt = e.cnt) ∧
      (e.up = true → x.up = false →
        x.sending = none ∧ x.suspended = none ∧ (∀ q ∈ x.tq, q.frames = []) ∧ x.cnt[13]? = e.cnt[13]?.map inc32) ∧
      (e.up = false → x.up = true → (ethCfg s p).preemptEn = true → (ethCfg s p).verifyDis = false →
        x.verify = .verifying ∧ x.attempts = 1 ∧ x.lastTx = some .verify)) ∧
  (∀ (s : State) (links : List Bool) (p : Nat) (e : EthPort), p < 2 → s.eth.ports[p]? = some e →
    Done (.mdioPoll links) s fun t =>
      ((ethCfg s p).phy = false → t.eth.ports[p]? = some e) ∧
      ((ethCfg s p).phy = true → ∃ x, t.eth.ports[p]? = some x ∧ x.phyLink = links.getD p false ∧
        x.up = ((ethCfg s p).enabled && !e.los && e.sync && (!(ethCfg s p).anEn || e.an) && links.getD p false))) ∧
  (∀ (s : State) (p : Nat) (headEnd : Bool) (e : EthPort), s.eth.ports[p]? = some e → (ethCfg s p).phy = true →
    Done (.mdioTmo p headEnd) s fun t =>
      (headEnd = true → t.eth.mdioErr = true) ∧ ∃ x, t.eth.ports[p]? = some x ∧ x.phyLink = false ∧ x.up = false)

/-- Frames received (R303, R307 to R314, R318, R319): what is not a frame is counted, or moves verification on; runts and flow control are counted and
dropped; a good frame for the port, of no rule and not the transparent clock's, is committed to the port's default queue. -/
def Obligations.FramesAreReceived : Prop :=
  (∀ (s : State) (p : Nat) (e : EthPort), s.eth.ports[p]? = some e → e.up = true → isRunning s .eth = true →
    Done (.ethFrameReceive p .badSmd) s (fun t => t.eth.ports[p]? = some { e with cnt := bump e.cnt 5 }) ∧
    (∀ smd frag o last crcOk, (∀ n next old, e.assy = some (n, next, old) → n ≠ smd ∨ next ≠ frag) →
      Done (.ethFrameReceive p (.mCont smd frag o last crcOk)) s fun t => t.eth.ports[p]? = some { e with cnt := bump e.cnt 6, assy := none }) ∧
    (∀ smd o crcOk, e.assy = none → Done (.ethFrameReceive p (.mStart smd o false crcOk)) s fun t =>
      t.eth.ports[p]? = some { e with assy := some (smd, 0, o) }) ∧
    (∀ smd frag old o crcOk, e.assy = some (smd, frag, old) → Done (.ethFrameReceive p (.mCont smd frag o false crcOk)) s fun t =>
      t.eth.ports[p]? = some { e with assy := some (smd, (frag + 1) % 4, old ++ o) }) ∧
    Done (.ethFrameReceive p .verify) s (fun t => t.eth.ports[p]? = some { e with lastTx := some .respond }) ∧
    (e.verify = .verifying →
      Done (.ethFrameReceive p .respond) s fun t => t.eth.ports[p]? = some { e with verify := .succeeded }) ∧
    ∀ (o : List Byte) (fcsOk : Bool),
      (o.length + 4 < 64 → Done (.ethFrameReceive p (.frame o fcsOk)) s fun t => t.eth.ports[p]? = some { e with cnt := bump e.cnt 1 }) ∧
      (60 ≤ o.length → beAt o 12 2 = 0x8808 →
        Done (.ethFrameReceive p (.frame o fcsOk)) s fun t => t.eth.ports[p]? = some { e with cnt := bump e.cnt 4 })) ∧
  (∀ (s : State) (p : Nat) (e : EthPort) (r : RxRing) (o : List Byte), s.eth.ports[p]? = some e → e.up = true →
    isRunning s .eth = true → 60 ≤ o.length → o.length ≤ 1996 → beAt o 12 2 ≠ 0x8808 → tcTakes s o = none → findRule s p o = none →
    addrOk s p o = true → e.rq[(ethCfg s p).defaultQ]? = some r → r.used + buffers o ≤ max 16 (ethCfg s p).rqSize →
    Done (.ethFrameReceive p (.frame o true)) s fun t => ∃ x, t.eth.ports[p]? = some x ∧
      x.rq[(ethCfg s p).defaultQ]? = some { r with head := (r.head + buffers o) % max 16 (ethCfg s p).rqSize, used := r.used + buffers o,
                                                   frames := inc32 r.frames } ∧
      x.cnt[0]? = e.cnt[0]?.map inc32) ∧
  (∀ (s : State) (p : Nat) (rx : EthRx), ((ethPort s p).up = false ∨ isRunning s .eth = false) → Done (.ethFrameReceive p rx) s fun t => t = s)

/-- Frames sent (R315, R317, R320): an idle port starts the head of the express queue, and with no express frame ready the head of the first
preemptable queue that has one; an express frame preempts where R317 lets it, and otherwise the frame on the wire ends first and is counted; a held
express frame starts when the credit has risen. Verification (R318): a timeout sends the verify mPacket again, and fails after three. -/
def Obligations.FramesAreSent : Prop :=
  (∀ (s : State) (p : Nat) (e : EthPort), s.eth.ports[p]? = some e → e.up = true → isRunning s .eth = true →
    (∀ (f : TxFrame), e.sending = none → expressReady s e = some f →
      Done (.ethTransmit p) s fun t => ∃ x y, t.eth.ports[p]? = some x ∧ x.sending = some y ∧ y.frame = f ∧ y.tq = 0 ∧ y.done = 0 ∧
        y.dataCyc = s.tim.cyc + 16) ∧
    (∀ (f : TxFrame) (q : Nat), e.sending = none → e.suspended = none → expressReady s e = none → nextPreemptable e = some (q, f) →
      Done (.ethTransmit p) s fun t => ∃ x y, t.eth.ports[p]? = some x ∧ x.sending = some y ∧ y.frame = f ∧ y.tq = q ∧ y.done = 0) ∧
    (∀ (f : TxFrame) (w : Sending) (a : Nat), e.sending = some w → expressReady s e = some f → preemptAt s (ethCfg s p) e w = some a →
      Done (.ethTransmit p) s fun t => ∃ x y z, t.eth.ports[p]? = some x ∧ x.sending = some y ∧ y.frame = f ∧ y.tq = 0 ∧
        x.suspended = some z ∧ z.frame = w.frame ∧ w.done ≤ z.done ∧ x.cnt[11]? = e.cnt[11]?.map inc32) ∧
    (∀ (w : Sending), e.sending = some w → (expressReady s e = none ∨ preemptAt s (ethCfg s p) e w = none) →
      Done (.ethTransmit p) s fun t => endCyc w ≤ t.tim.cyc ∧ ∃ x, t.eth.ports[p]? = some x ∧ x.cnt[7]? = e.cnt[7]?.map inc32) ∧
    (∀ (f : TxFrame) (l : List TxFrame), e.sending = none → (nth e.tq 0 {}).frames = f :: l →
      Done (.expressCreditAboveZero p) s fun t => ∃ x y, t.eth.ports[p]? = some x ∧ x.sending = some y ∧ y.frame = f ∧ y.tq = 0)) ∧
  (∀ (s : State) (p : Nat) (e : EthPort), s.eth.ports[p]? = some e → e.verify = .verifying →
    Done (.verifyTimeout p) s fun t =>
      (e.attempts < 3 → t.eth.ports[p]? = some { e with attempts := e.attempts + 1, lastTx := some .verify }) ∧
      (3 ≤ e.attempts → t.eth.ports[p]? = some { e with verify := .failed, cnt := bump e.cnt 12 }))

/-- Event queues (R395 to R399, R400, R401): a packet committed takes the queue's next SEQ and is the newest; for each word that finds the 64 stages
taken the oldest packet is lost and counted, so that the queue never holds more than 64 words; a packet rewound leaves nothing of itself. While EVQ is
in its reset a packet counts as lost. No other queue changes. -/
def Obligations.EventQueuesHoldSixtyFourWords : Prop :=
  (∀ (s : State) (q : Nat) (ws : List Word64) (e : EvqQueue), s.evq.queues[q]? = some e → evqDown s = false → queueLegal e → ws ≠ [] →
    ws.length ≤ 16 →
    Done (.evqCommit q ws) s fun t => (∀ j, j ≠ q → t.evq.queues[j]? = s.evq.queues[j]?) ∧ ∃ x k, t.evq.queues[q]? = some x ∧
      x.vis = e.vis.drop k ++ [withSeq e.seq (ws.headD 0) :: ws.drop 1] ∧ x.seq = (e.seq + 1) % 2 ^ 32 ∧ x.lost = satAdd 32 e.lost k ∧
      x.rewound = e.rewound ∧ x.ring = e.ring ∧ queueLegal x ∧ (occupied e 0 + ws.length ≤ 64 → k = 0)) ∧
  (∀ (s : State) (q n : Nat) (e : EvqQueue), s.evq.queues[q]? = some e → evqDown s = false → queueLegal e → n ≤ 16 →
    Done (.evqRewind q n) s fun t => (∀ j, j ≠ q → t.evq.queues[j]? = s.evq.queues[j]?) ∧ ∃ x k, t.evq.queues[q]? = some x ∧
      x.vis = e.vis.drop k ∧ x.seq = e.seq ∧ x.lost = satAdd 32 e.lost k ∧ x.rewound = inc32 e.rewound ∧ x.ring = e.ring ∧ queueLegal x ∧
      (occupied e 0 + n ≤ 64 → k = 0)) ∧
  (∀ (s : State) (q : Nat) (ws : List Word64) (e : EvqQueue), s.evq.queues[q]? = some e → evqDown s = true →
    Done (.evqCommit q ws) s (fun t => t.evq.queues[q]? = some { e with lost := inc32 e.lost }) ∧
    Done (.evqRewind q ws.length) s fun t => t.evq.queues[q]? = some { e with lost := inc32 e.lost }) ∧
  (∀ w : Word64, ∀ n : Nat, n < 2 ^ 32 → (withSeq n w).toNat % 2 ^ 32 = n ∧ (withSeq n w).toNat / 2 ^ 32 = w.toNat / 2 ^ 32)

/-- Draining (R405, R406): every visible packet passes to the ring in order; a ring of 512 loses its oldest, counted; a packet unacknowledged for
RESEND after it was sent is due again and no other packet changes; when it is sent follows log entry 40. -/
def Obligations.RingsAreDrainedAndResent : Prop :=
  (∀ q : EvqQueue, q.ring.length ≤ 512 → q.rlost < 2 ^ 32 →
    (drainQueue q).vis = [] ∧ (drainQueue q).ring.length ≤ 512 ∧
      (drainQueue q).rlost = satAdd 32 q.rlost (q.ring.length + q.vis.length - 512) ∧
      ((drainQueue q).ring.map RingPkt.words) = lastN 512 (q.ring.map RingPkt.words ++ q.vis)) ∧
  (∀ (s : State) (q seq at_ : Nat) (e : EvqQueue) (p : RingPkt), s.evq.queues[q]? = some e → (e.ring.find? fun p => p.seq = seq) = some p →
    p.sentAt = some at_ →
    Done (.reportResend q seq) s fun t => at_ + resendCyc s ≤ t.tim.cyc ∧
      ∃ x, t.evq.queues[q]? = some x ∧ x.ring = e.ring.map fun p => if p.seq = seq then { p with sentAt := none } else p)
/-! ## Sessions -/

/-- Handshakes (R453, R454, R58): while a number is free, a ClientHello without a cookie is answered and nothing is kept of it, and one with a cookie
is remembered, or refused and counted when it asks for resumption; with no number free it is refused and counted. The end of a handshake opens the
lowest free number for a certificate that is accepted, and opens nothing otherwise; the counters of a session number go on (R477); after 10 s the
handshake's state is dropped. -/
def Obligations.HandshakesOpenSessions : Prop :=
  (∀ (s : State) (port peer : Nat) (ipv6 resume : Bool), isRunning s .eth = true → isRunning s .sys = true → (ethPort s port).up = true →
    s.sys.start.rig ≠ 0xF → (helloAccepted s port).2 = true →
    (freeNumbers s ≠ [] →
      Done (.clientHello port peer ipv6 false resume) s (fun t =>
        t.vtp.hands = s.vtp.hands ∧ t.vtp.sessions = s.vtp.sessions ∧ t.vtp.ip = s.vtp.ip ∧
        ∀ e q, s.eth.ports[port]? = some e → e.tq[1]? = some q → ∃ x, t.eth.ports[port]? = some x ∧
          x.tq[1]? = some { q with frames := q.frames ++ [⟨.dtls 0 peer, 128⟩] }) ∧
      Done (.clientHello port peer ipv6 true resume) s (fun t => t.vtp.sessions = s.vtp.sessions ∧
        (resume = false →
          t.vtp.hands = (s.vtp.hands.filter fun h => !(h.port = port && h.peer = peer)) ++ [⟨port, peer, ipv6, s.tim.cyc⟩] ∧
          t.vtp.ip = s.vtp.ip) ∧
        (resume = true → t.vtp.hands = s.vtp.hands ∧ t.vtp.ip = bump s.vtp.ip 5))) ∧
    (freeNumbers s = [] → ∀ cookie, Done (.clientHello port peer ipv6 cookie resume) s fun t =>
      t.vtp.hands = s.vtp.hands ∧ t.vtp.sessions = s.vtp.sessions ∧ t.vtp.ip = bump s.vtp.ip 5)) ∧
  (∀ (s : State) (port peer : Nat) (k : KeyId) (p256 : Bool) (a b i : Nat) (h : Hand) (l : List Nat) (x : Session),
    (s.vtp.hands.find? fun h => h.port = port && h.peer = peer) = some h → freeNumbers s = i :: l → s.vtp.sessions[i]? = some x →
    Done (.handshakeEnd port peer k p256 a b) s fun t => t.vtp.hands = s.vtp.hands.erase h ∧
      (∀ j, j ≠ i → t.vtp.sessions[j]? = s.vtp.sessions[j]?) ∧
      (certOk s k p256 a b = true → t.vtp.sessions[i]? =
        some { state := .open_, port := port, ipv6 := h.ipv6, peer := peer, creditAt := s.tim.cyc, opened := s.tim.cyc, lastRec := s.tim.cyc,
               req := x.req, limit := x.limit, dup := x.dup }) ∧
      (certOk s k p256 a b = false → t.vtp.sessions[i]? = some x ∧ t.vtp.ip = bump s.vtp.ip 5)) ∧
  (∀ (s : State) (port peer : Nat) (h : Hand), (s.vtp.hands.find? fun h => h.port = port && h.peer = peer) = some h →
    Done (.handshakeTimeout port peer) s fun t =>
      t.vtp.hands = s.vtp.hands.erase h ∧ h.start + secCyc 10 ≤ t.tim.cyc ∧ t.vtp.sessions = s.vtp.sessions)

/-- Sessions end (R454, R406, R465): a DTLS session closes when its peer closes it or after IDLE seconds without a record, keeps nothing and ends its
reports; no other session changes. A CALL record that has ended is free again 60 s after a POLL saw it, and 3,600 s after it ended. -/
def Obligations.SessionsAndRecordsEnd : Prop :=
  (∀ (s : State) (i : Nat) (x : Session), s.vtp.sessions[i]? = some x → x.state = .open_ → x.port ≠ 2 →
    Done (.sessionClose i) s (fun t =>
      t.vtp.sessions[i]? = some { x with state := .closed, kept := [], outstanding := [] } ∧
      (∀ j, j ≠ i → t.vtp.sessions[j]? = s.vtp.sessions[j]?) ∧ t.evq = { s.evq with enable := s.evq.enable && s.evq.session ≠ i }) ∧
    Done (.sessionIdleTimeout i) s (fun t =>
      x.lastRec + secCyc (cBackhaul s).idle ≤ t.tim.cyc ∧
      t.vtp.sessions[i]? = some { x with state := .closed, kept := [], outstanding := [] } ∧
      (∀ j, j ≠ i → t.vtp.sessions[j]? = s.vtp.sessions[j]?) ∧ t.evq = { s.evq with enable := s.evq.enable && s.evq.session ≠ i })) ∧
  (∀ (s : State) (h f : Nat) (c : CallRec), s.calls[h]? = some c → c.finalAt = some f →
    Done (.callRecordFree h) s fun t =>
      t.calls[h]? = some { gen := c.gen } ∧ (∀ j, j ≠ h → t.calls[j]? = s.calls[j]?) ∧
      (c.polledAt = none → f + secCyc 3600 ≤ t.tim.cyc) ∧ ∀ p, c.polledAt = some p → min (p + secCyc 60) (f + secCyc 3600) ≤ t.tim.cyc)

/-- The service port (R91, R455, R456): SRV_EN high opens the service session as number 3 at 115,200 baud, closing a DTLS session there; SRV_EN low
closes it and floats SRV_TXD; 2 s without a valid frame at a new rate bring 115,200 baud back; a frame that is dropped is counted. -/
def Obligations.TheServicePortFollowsItsPin : Prop :=
  (∀ s : State, Done .srvEnRise s fun t => t.pins.srvEn = true ∧ t.vtp.baud = 0 ∧ t.vtp.baudAt = none ∧
    (moduleUp s = true → t.pins.srvTxd = .high ∧ (∀ j, j ≠ 3 → t.vtp.sessions[j]? = s.vtp.sessions[j]?) ∧
      ∀ x, t.vtp.sessions[3]? = some x → x.state = .open_ ∧ x.port = 2 ∧ x.kept = [] ∧ x.outstanding = [] ∧ x.opened = s.tim.cyc)) ∧
  (∀ s : State, Done .srvEnFall s fun t => t.pins.srvEn = false ∧ t.pins.srvTxd = .zPu ∧
    (∀ j, j ≠ 3 → t.vtp.sessions[j]? = s.vtp.sessions[j]?) ∧ ∀ x, t.vtp.sessions[3]? = some x → x.state = .open_ → x.port ≠ 2) ∧
  (∀ (s : State) (at_ : Nat), s.vtp.baudAt = some at_ →
    Done .baudRevert s fun t => t.vtp = { s.vtp with baud := 0, baudAt := none } ∧ at_ + secCyc 2 ≤ t.tim.cyc) ∧
  (∀ s : State, s.pins.srvEn = false → Done .serviceFrameDropped s fun t => t = s) ∧
  (∀ s : State, s.pins.srvEn = true → moduleUp s = true →
    Done .serviceFrameDropped s fun t => t.vtp = { s.vtp with srvDropped := satAdd 16 s.vtp.srvDropped 1 })
/-! ## Metering -/

/-- Faults of channels and sensors (R370, R374): a stuck or overloaded channel is marked and makes the open interval of every feeder that uses it
INVALID; a condition that lasts is recorded; it clears after 1 s without it; a sensor without accepted readings is STALE. Nothing else of the channels,
sensors and feeders changes. -/
def Obligations.ChannelFaultsInvalidateIntervals : Prop :=
  (∀ (s : State) (c : Nat) (x : MtrChan), isRunning s .mtr = true → (mtrChanCfg s c).used = true → s.mtr.chans[c]? = some x →
    Done (.channelStuck c) s (fun t => t.mtr.chans[c]? = some { x with stuck := true } ∧ (∀ j, j ≠ c → t.mtr.chans[j]? = s.mtr.chans[j]?) ∧
      ∀ (f : Nat) (y : FeederSt), s.mtr.feeders[f]? = some y → t.mtr.feeders[f]? =
        some { y with open_ := if f ∈ usedFeeders s ∧ c ∈ feederChans s f then y.open_.map fun o => { o with flags := o.flags ||| fInvalid }
                               else y.open_ }) ∧
    Done (.channelOverload c) s (fun t => t.mtr.chans[c]? = some { x with overload := true, overs := satAdd 16 x.overs 1 } ∧
      (∀ j, j ≠ c → t.mtr.chans[j]? = s.mtr.chans[j]?) ∧
      ∀ (f : Nat) (y : FeederSt), s.mtr.feeders[f]? = some y → t.mtr.feeders[f]? =
        some { y with open_ := if f ∈ usedFeeders s ∧ c ∈ feederChans s f then y.open_.map fun o => { o with flags := o.flags ||| fInvalid }
                               else y.open_ }) ∧
    ((x.stuck = true ∨ x.overload = true) →
      Done (.channelFaultPersist c) s fun t => Said s t .mtr 0x0801 c (chanStat s c).toNat 0 ∧ t.mtr = s.mtr) ∧
    Done (.channelFaultClear c true) s (fun t => t.mtr.chans[c]? = some { x with overload := false } ∧ t.mtr.feeders = s.mtr.feeders) ∧
    Done (.channelFaultClear c false) s fun t => t.mtr.chans[c]? = some { x with stuck := false } ∧ t.mtr.feeders = s.mtr.feeders) ∧
  (∀ (s : State) (k : Nat) (x : TempSt), isRunning s .mtr = true → k < (cBoard s).sensors.length → s.mtr.temps[k]? = some x →
    Done (.sensorStale k) s fun t => t.mtr.temps[k]? = some { x with stale := true } ∧ (∀ j, j ≠ k → t.mtr.temps[j]? = s.mtr.temps[j]?) ∧
      t.mtr.chans = s.mtr.chans ∧ t.mtr.feeders = s.mtr.feeders)

/-- Windows and power (R378, R388): a window of 10 or 12 cycles gives the RMS of every channel and the frequency, valid within its range, for the
next publication; without crossings windows become fixed, and then an invalid frequency ends no window. PFI falling below its threshold (R86) sets
PF_MODE and is counted in the ledger unless that write has failed (R58); PF_MODE ends 100 ms after it is above 1.05 V again. -/
def Obligations.WindowsAndPowerFailuresAreTaken : Prop :=
  (∀ (s : State) (us : Nat) (x : StrokeSamples), s.mtr.running = true → 0 < us →
    Done (.rmsWindowEnd us x) s fun t =>
      ((s.mtr.fixed = false ∨ t.mtr.fixed = false) →
        t.mtr.rmsNext = some ((List.range 40).map fun c => rmsOf s c (nth (sumsOf s x 0) c (0, 0)).1 (nth (sumsOf s x 0) c (0, 0)).2)) ∧
      (s.mtr.fixed = true → t.mtr.fixed = true → t.mtr.rmsNext = s.mtr.rmsNext) ∧
      (∀ f ok, t.mtr.freqNext = some (f, ok) → t.mtr.fixed = !ok ∧
        (ok = true → (cMeter s).net60 = false → 45000 ≤ f ∧ f ≤ 55000) ∧ (ok = true → (cMeter s).net60 = true → 55000 ≤ f ∧ f ≤ 65000)) ∧
      t.mtr.freqNext.isSome ∧ t.mtr.feeders = s.mtr.feeders) ∧
  (∀ s : State, s.mtr.running = true →
    Done .fixedWindowFallback s fun t => t.mtr =
      { s.mtr with fixed := true, fixSums := if s.mtr.fixed then s.mtr.fixSums else none, freqNext := some (s.mtr.freq, false) }) ∧
  (∀ s : State, s.modp = .running →
    Done .pfiTrip s fun t =>
      t.pins = { s.pins with pfi := true, pfiRise := s.ahead.pfiRise.map fun us => s.tim.cyc + us * 250 } ∧
      (pfiTripped s = true → t.mtr = s.mtr ∧ t.led = s.led) ∧
      (pfiTripped s = false → t.mtr = { s.mtr with pfMode := true } ∧
        (.mtr ∉ s.ledBad → t.led = { s.led with pfCnt := inc32 s.led.pfCnt } ∧ Said s t .mtr 0x0802 0 1 (inc32 s.led.pfCnt)) ∧
        (.mtr ∈ s.ledBad → t.led = s.led))) ∧
  (∀ s : State, s.mtr.pfMode = true →
    Done .pfModeEnd s fun t => t.pins = { s.pins with pfi := false, pfiRise := none } ∧ t.mtr = { s.mtr with pfMode := false } ∧
      Said s t .mtr 0x0802 0 0 s.led.pfCnt ∧ ∀ r, s.pins.pfiRise = some r → r + msCyc 100 ≤ t.tim.cyc)
/-! ## Light and corridors -/

/-- Temperatures, hours and outcomes (R153, R157, R291): a temperature is stale 60 s after it came; every 360,000 strokes the save takes every
string's hours and starts the count again; without a report in time the outcome of a light command is UNCONFIRMED and is no longer awaited. -/
def Obligations.LightKeepsHoursAndOutcomes : Prop :=
  (∀ (s : State) (c : Nat) (v : Int) (at_ : Nat), (chan s c).lamp = some (v, at_) →
    Done (.tempStale c) s fun t => (0 < addend s → at_ + 60 * giga ≤ nowNs t) ∧ t.lgt = s.lgt) ∧
  (∀ s : State, isRunning s .lgt = true → .lgt ∉ s.ledBad → 360000 ≤ s.lgt.strokes →
    Done .hoursSave s fun t => t.ledr = { s.ledr with hours := s.lgt.chans.map fun p => (p.1, p.2.hours) } ∧ t.lgt = { s.lgt with strokes := 0 }) ∧
  (∀ (s : State) (c : Nat) (o : OutWait), (s.rad.outs.find? fun o => o.chan = c && o.last) = some o →
    Done (.lightOutcomeTimeout c) s fun t => t.rad = { s.rad with outs := s.rad.outs.erase o } ∧ t.lgt = s.lgt ∧
      (0 < addend s → o.lastNs + (2 * ((natEnt s o.nat).getD {}).upPeriod + 1) * giga ≤ nowNs t) ∧
      Wrote s t 2 [BitVec.ofNat 64 (o.slot % 65536 * 2 ^ 48 + o.nat % 4096 * 2 ^ 32 + 2)])

/-- Handoffs (R189, R190, R192, R193): a handoff whose outcome is open goes out again, the same datagram, at most r_S times; an ack that accepts it,
or calls it a duplicate, is its outcome; 50 ms after the first attempt it is UNCONFIRMED and counted. A handoff received, that is a datagram that opens
under the key of the neighbour that sent it, is accepted, refused or repeated by its counter: what is accepted awaits the next evaluation, and the
neighbour's counter moves up; a repeat of what was accepted under the highest counter creates nothing, and another datagram under it is recorded and
dropped, as is one of a lower counter; a datagram that does not open changes nothing. That a refusing ack leaves the outcome open (log entry 60) and that a
refused handoff leaves the counter alone (log entry 132) are the model's reading. -/
def Obligations.HandoffsAreCarriedThrough : Prop :=
  (∀ (s : State) (n counter first : Nat) (h : Handoff), isRunning s .crs = true →
    (s.crs.handoffs.find? fun h => h.nbr = n && h.counter = counter) = some h → h.firstAt = some first → h.outcome = none →
    (h.attempts ≤ (cGuar s).rS →
      Done (.handoffRepeat n counter) s fun t =>
        (0 < addend s → first + h.attempts * (cGuar s).tSrep * 1000 ≤ nowNs t) ∧ t.eth = (transmitHandoff s h).eth ∧
        t.crs = { s.crs with handoffs := s.crs.handoffs.map fun h =>
          if h.nbr = n && h.counter = counter then { h with attempts := h.attempts + 1 } else h }) ∧
    ((cGuar s).rS < h.attempts → Done (.handoffRepeat n counter) s fun t => t = s) ∧
    Done (.handoffUnconfirmed n counter) s (fun t =>
      (0 < addend s → first + 50000000 ≤ nowNs t) ∧
      t.crs = { s.crs with hoUnconf := inc32 s.crs.hoUnconf, handoffs := s.crs.handoffs.map fun h =>
        if h.nbr = n && h.counter = counter then { h with outcome := some 0xFF } else h } ∧
      Said s t .crs 0x0702 (h.nbr * 256 + 0xFF) h.ident h.counter) ∧
    ∀ (head ctr cipher tag body : List Byte), handoffOpened s 2 16 (head ++ ctr ++ cipher ++ tag) = some (n, body) → argAt body 4 8 = counter → argAt body 0 4 = h.ident →
      Done (.handoffAck head ctr cipher tag) s fun t =>
        t.crs = (if argAt body 12 1 ≤ 1 then { s.crs with handoffs := s.crs.handoffs.map fun h =>
            if h.nbr = n && h.counter = counter then { h with outcome := some (argAt body 12 1) } else h } else s.crs) ∧
        Said s t .crs 0x0702 (h.nbr * 256 + argAt body 12 1) h.ident h.counter) ∧
  (∀ (s : State) (data body : List Byte) (n : Nat) (x : NbrState), handoffOpened s 1 24 data = some (n, body) → s.crs.nbrs[n]? = some x →
    (x.rx < (handoffMsg data body).counter → Done (.handoffReceive data) s fun t =>
      (∀ j, j ≠ n → t.crs.nbrs[j]? = s.crs.nbrs[j]?) ∧
      (handoffResult s n (handoffMsg data body) = 0 → t.crs.hoRecv = inc32 s.crs.hoRecv ∧
        (∀ y, t.crs.nbrs[n]? = some y → y.rx = (handoffMsg data body).counter ∧ y.rxMsg = some data) ∧
        t.crs.events = s.crs.events ++ [handoffEventOf s n (handoffMsg data body)]) ∧
      (handoffResult s n (handoffMsg data body) ≠ 0 → t.crs.hoRef = inc32 s.crs.hoRef ∧ t.crs.events = s.crs.events ∧
        ∀ y, t.crs.nbrs[n]? = some y → y.rx = x.rx ∧ y.rxMsg = x.rxMsg)) ∧
    (x.rx = (handoffMsg data body).counter → Done (.handoffReceive data) s fun t =>
      t.crs.events = s.crs.events ∧ t.crs.hoRecv = s.crs.hoRecv ∧ t.crs.hoRef = s.crs.hoRef ∧
      ∀ old, x.rxMsg = some old → old ≠ data →
        t.crs = s.crs ∧ Said s t .crs 0x0702 (n * 256 + 0xFD) (handoffMsg data body).corridor (handoffMsg data body).counter) ∧
    ((handoffMsg data body).counter < x.rx → Done (.handoffReceive data) s fun t => t = s)) ∧
  (∀ (s : State) (data : List Byte), handoffOpened s 1 24 data = none → Done (.handoffReceive data) s fun t => t = s)
/-! ## Radio -/

/-- Slots and transceivers (R80, R195, R200, R205, R239, R240, R255, R260): the next slot begins at its start, and an armed ack that was not sent is
gone. In a beacon cell, where no lower port of the account has its slot begin at the same instant, the beacon goes out under the slot's ASN, or is
counted as withheld. A template that times out resets the transceiver, its RST_N low for 100 µs; INIT that fails three times is a FAULT, retried 60 s
after it; a transceiver brought up once its ready time is over has the state that the most restrictive cause gives. A window that closes empty is
counted, and three of a sensor set ADRIFT; the windows of a sensor that is not served are none. -/
def Obligations.RadioPortsFollowTheirStates : Prop :=
  (∀ (s : State) (p : Nat) (x : RadPort), hasSlots s p = true → s.rad.ports[p]? = some x →
    Done (.slotStart p) s fun t => (0 < addend s → slotStart (radCfg s p) (nextAsn s p) ≤ nowNs t) ∧
      ∃ y, t.rad.ports[p]? = some y ∧ y.asn = some (nextAsn s p) ∧ y.ack = none) ∧
  (∀ (s : State) (p : Nat) (x : RadPort), hasSlots s p = true → s.rad.ports[p]? = some x → radServes s = true →
    portsBefore s p (slotStart (radCfg s p) (nextAsn s p)) = [] → (cellAt (radCfg s p) (slotOf (radCfg s p) (nextAsn s p)) 0).kind = 1 →
    (txBeacon x = true → x.maxAsn < nextAsn s p → (sharedKey s s.sec.beaconGen).isSome → Done (.slotStart p) s fun t =>
      ∃ y a, t.rad.ports[p]? = some y ∧ y.maxAsn = nextAsn s p ∧ y.last = some a ∧ a.mtype = 0 ∧ a.counter = nextAsn s p ∧
        a.keyIndex = sharedIndex s.sec.beaconGen ∧ y.cnt[11]? = x.cnt[11]?.map inc32) ∧
    ((txBeacon x = false ∨ nextAsn s p ≤ x.maxAsn ∨ sharedKey s s.sec.beaconGen = none) → Done (.slotStart p) s fun t =>
      ∃ y, t.rad.ports[p]? = some y ∧ y.maxAsn = x.maxAsn ∧ y.last = x.last ∧ y.cnt[12]? = x.cnt[12]?.map inc32)) ∧
  (∀ (s : State) (p : Nat) (x : RadPort), s.rad.ports[p]? = some x → x.state ≠ .off → x.state ≠ .reset → x.state ≠ .fault →
    Done (.trxTmo p) s fun t => ∃ y, t.rad.ports[p]? = some y ∧
      (x.state ≠ .init → y.state = .init ∧ y.cause = 5 ∧ y.ack = none ∧ y.cnt = bump x.cnt 13 ∧ y.rstUntil = s.tim.cyc + 25000 ∧
        y.readyAt = y.rstUntil + (radCfg s p).profile.tRst * 250) ∧
      (x.state = .init → y.initFails = satAdd 8 x.initFails 1 ∧ y.cause = 6 ∧ y.state = (if 3 ≤ satAdd 8 x.initFails 1 then .fault else .init))) ∧
  (∀ (s : State) (p : Nat) (x : RadPort), s.rad.ports[p]? = some x → x.state = .fault →
    Done (.portInitRetry p) s fun t => x.faultAt + secCyc 60 ≤ t.tim.cyc ∧
      ∃ y, t.rad.ports[p]? = some y ∧ y.state = .init ∧ y.cause = 6 ∧ y.rstUntil = t.tim.cyc + 25000) ∧
  (∀ (s : State) (p : Nat) (x : RadPort), s.rad.ports[p]? = some x → x.state = .init →
    Done (.transceiverResetDone p) s fun t => x.readyAt ≤ t.tim.cyc ∧ ∃ runs, t.rad.ports[p]? =
      some { x with state := (portTarget s (radCrabbed s)).1, cause := (portTarget s (radCrabbed s)).2, initFails := 0, idleOwed := false,
                    spi := x.spi ++ runs }) ∧
  (∀ (s : State) (i : Nat) (e : NatEnt), natEnt s i = some e → radServes s = true →
    ((isSensor e = true → sensorServed s e.port ((radPort s e.port).asn.getD 0) i e = true) → Done (.rxWindowClose i) s fun t =>
      natEnt t i = some { e with missed := satAdd 8 e.missed 1, adrift := e.adrift || (isSensor e && 3 ≤ e.missed + 1) } ∧
      ∀ j, j ≠ i → natEnt t j = natEnt s j) ∧
    (isSensor e = true → sensorServed s e.port ((radPort s e.port).asn.getD 0) i e = false → Done (.rxWindowClose i) s fun t => t = s))

/-- Acks (R212, R215, R219): an armed ack goes out, its TXGO rising T_TXLAT before 400 µs after the frame, and uses up its ASN. An acknowledgement that
is not awaited, comes outside its interval, fails a filter, is of an unknown or another node, or has a bad FCS or MIC is counted; the right one counts
as heard, and ends the unicast and its CALL. -/
def Obligations.AcksAreSentAndTaken : Prop :=
  (∀ (s : State) (p at_ : Nat) (x : RadPort) (a : AirFrame), s.rad.ports[p]? = some x → x.ack = some (a, at_) → rxOpen x = true →
    Done (.ackTxgo p) s fun t => (0 < addend s → at_ - (radCfg s p).profile.tTxLat ≤ nowNs t) ∧ t.rad.ports[p]? =
      some { x with ack := none, maxAsn := max x.maxAsn a.counter, last := some a, cnt := bump x.cnt 8,
                    txgo := a.start - (radCfg s p).profile.tTxLat }) ∧
  (∀ (s : State) (f : RxFrame) (x : RadPort), s.rad.ports[f.port]? = some x → rxOpen x = true → radServes s = true → awaited s f.port = none →
    Done (ackRow f) s fun t => t.rad.nat = s.rad.nat ∧
      ∃ runs, t.rad.ports[f.port]? = some { x with cnt := bump x.cnt 5, spi := x.spi ++ runs }) ∧
  (∀ (s : State) (f : RxFrame) (x : RadPort) (u : Unicast), s.rad.ports[f.port]? = some x → rxOpen x = true → radServes s = true →
    awaited s f.port = some u →
    (ackOutside s f = true → Done (ackRow f) s fun t => t.rad.nat = s.rad.nat ∧
      ∃ runs, t.rad.ports[f.port]? = some { x with sfd := ts32 (sfdOf s f), cnt := bump x.cnt 5, spi := x.spi ++ runs }) ∧
    (ackOutside s f = false → ackHeaderOk s f = false → Done (ackRow f) s fun t => t.rad.nat = s.rad.nat ∧
      ∃ runs, t.rad.ports[f.port]? = some { x with sfd := ts32 (sfdOf s f), cnt := bump x.cnt 1, spi := x.spi ++ runs }) ∧
    (ackOutside s f = false → ackHeaderOk s f = true →
      (rxSource s f = none → Done (ackRow f) s fun t => t.rad.nat = s.rad.nat ∧
        ∃ runs, t.rad.ports[f.port]? = some { x with sfd := ts32 (sfdOf s f), cnt := bump x.cnt 2, spi := x.spi ++ runs }) ∧
      (∀ i e, rxSource s f = some i → i ≠ u.node → natEnt s i = some e → Done (ackRow f) s fun t =>
        natEnt t i = some { e with rxDrop := satAdd 16 e.rxDrop 1 } ∧
        ∃ runs, t.rad.ports[f.port]? = some { x with sfd := ts32 (sfdOf s f), cnt := bump x.cnt 1, spi := x.spi ++ runs }) ∧
      (∀ e, rxSource s f = some u.node → natEnt s u.node = some e →
        (f.fcsOk = false → Done (ackRow f) s fun t => natEnt t u.node = some { e with rxDrop := satAdd 16 e.rxDrop 1 } ∧
          ∃ y, t.rad.ports[f.port]? = some y ∧ y.cnt[3]? = x.cnt[3]?.map inc32 ∧ y.uni = x.uni) ∧
        (f.fcsOk = true → (f.micOk && ackEchoOk s f u) = false → Done (ackRow f) s fun t =>
          natEnt t u.node = some { e with rxDrop := satAdd 16 e.rxDrop 1 } ∧
          ∃ y, t.rad.ports[f.port]? = some y ∧ y.cnt[4]? = x.cnt[4]?.map inc32 ∧ y.uni = x.uni) ∧
        (f.fcsOk = true → f.micOk = true → ackEchoOk s f u = true → Done (ackRow f) s fun t =>
          (∃ y, natEnt t u.node = some y ∧ y.missed = 0 ∧ y.rxOk = satAdd 16 e.rxOk 1 ∧ y.lastTs32 = ts32 (sfdOf s f) ∧ y.rssi = f.rssi) ∧
          (∃ y, t.rad.ports[f.port]? = some y ∧ y.cnt[0]? = x.cnt[0]?.map inc32 ∧ (u.kind = .rejoin → y.uni = x.uni.erase u)) ∧
          SendEnds s t u))))

/-- Unicasts that end without an acknowledgement (R254, R471, R472): withdrawn from the port's queue and counted for the port, the node and, for a
downlink, the sensors; the CALL that sent it is DONE with its entry. A scan that is over ends its CALL, and with no other to begin holds no link any
more. A bin of the duty accounts closes each second and goes to the ledger (R261). -/
def Obligations.UnicastsAndScansEnd : Prop :=
  (∀ (s : State) (i : Nat) (e : NatEnt) (x : RadPort) (u : Unicast), natEnt s i = some e → s.rad.ports[e.port]? = some x →
    (x.uni.find? fun u => u.node = i && u.kind = .downlink && u.urgent) = some u →
    Done (.downlinkUnconfirmed i) s fun t => (0 < addend s → u.queuedNs + 60 * giga ≤ nowNs t) ∧
      t.rad.ports[e.port]? = some { x with uni := x.uni.erase u, cnt := bump x.cnt 10 } ∧ t.rad.sns = bump s.rad.sns 5 ∧
      natEnt t i = some { e with txUnconf := satAdd 16 e.txUnconf 1 } ∧ SendEnds s t u) ∧
  (∀ (s : State) (h p : Nat) (e : NatEnt) (x : RadPort) (u : Unicast),
    ((List.range 4).findSome? fun p => ((radPort s p).uni.find? fun u => u.call = some h).map fun u => (p, u)) = some (p, u) →
    natEnt s u.node = some e → s.rad.ports[p]? = some x →
    Done (.nodeSendTimeout h) s fun t =>
      (0 < addend s → u.kind = .downlink → u.queuedNs + (if u.urgent then 60 else 3 * e.upPeriod + 60) * giga ≤ nowNs t) ∧
      t.rad.ports[p]? = some { x with uni := x.uni.erase u, cnt := bump x.cnt 10 } ∧
      natEnt t u.node = some { e with txUnconf := satAdd 16 e.txUnconf 1 } ∧ SendEnds s t u) ∧
  (∀ (s : State) (c : Scan), s.rad.scan = some c →
    Done .scanEnd s fun t => (0 < addend s → c.endNs ≤ nowNs t) ∧ (∀ y, t.rad.scan = some y → y.call ≠ c.call) ∧
      (t.rad.scan = none → ∀ i ∈ c.held, (nodeDyn t i).test = false) ∧
      (callLive (call s c.call) = true → ∀ x, t.calls[c.call]? = some x → x.state = .done)) ∧
  (∀ s : State, moduleUp s = true → .rad ∉ s.ledBad →
    Done .dutyBinRoll s fun t => t.rad.binNo = s.rad.binNo + 1 ∧ t.rad.binAt = s.rad.binAt + secCyc 1 ∧ t.rad.binAt ≤ t.tim.cyc ∧
      t.rad.duty.map DutyAcc.bins = s.rad.duty.map (fun a => (0, 0, 0) :: a.bins.take 3599) ∧ t.ledr.duty = s.rad.duty)
/-- Frames received (R211, R212, R221, R222): one that fails a check up to its source is counted under that check and reaches no station or queue,
and no node but one that is not entitled to the cell, which counts it as dropped; one with a bad FCS counts for its port and node; one that is
delivered is no RX_FRAME_ABORTED. -/
def Obligations.ReceivedFramesAreJudged : Prop :=
  (∀ (s : State) (f : RxFrame) (x : RadPort) (b : LanternBody) (pl : List Byte) (flags batt mtype crc part : Nat) (d : List Byte)
    (v : RxFail) (c : Instr), s.rad.ports[f.port]? = some x → rxOpen x = true → radServes s = true → rxHeader s f = .error v →
    c ∈ [Instr.rxFrameAborted f, .lanternReport f b, .detectorEvent f pl, .sensorHeartbeat f flags batt d, .enrolmentRequest f, .rejoinRequest f crc,
      .binningRecordPart f part d, .unlistedMtype f mtype] →
    Done c s fun t => (0 < addend s → frameEnd s f ≤ nowNs t) ∧
      (∃ runs, t.rad = { s.rad with
        ports := upd s.rad.ports f.port fun x => { x with sfd := ts32 (sfdOf s f), cnt := bump x.cnt v.idx, spi := x.spi ++ runs },
        waits := s.rad.waits.filter fun w => w.1 ≠ .frame f, nat := t.rad.nat }) ∧
      ((∀ i, v ≠ .barred i) → t.rad.nat = s.rad.nat) ∧
      (∀ i e, v = .barred i → natEnt s i = some e → natEnt t i = some { e with rxDrop := satAdd 16 e.rxDrop 1 }) ∧
      t.evq = s.evq ∧ t.crs = s.crs ∧ t.lgt = s.lgt ∧ t.keys = s.keys) ∧
  (∀ (s : State) (f : RxFrame) (x : RadPort) (e : NatEnt) (i : Nat), s.rad.ports[f.port]? = some x → rxOpen x = true → radServes s = true →
    rxHeader s f = .ok (some i) → natEnt s i = some e → f.fcsOk = false →
    Done (.rxFrameAborted f) s fun t => natEnt t i = some { e with rxDrop := satAdd 16 e.rxDrop 1 } ∧
      ∃ y, t.rad.ports[f.port]? = some y ∧ y.cnt[3]? = x.cnt[3]?.map inc32 ∧ y.ack = none) ∧
  (∀ (s : State) (f : RxFrame) (i : Nat) (e : NatEnt), Heard s f i e false → Done (.rxFrameAborted f) s fun t => t = s)

/-- Messages delivered (R210, R218, R222, R249, R281, R296, R299, R301): of a node whose frame is heard, a report, a heartbeat and an unlisted type reach
EVQ, a detector's event CRS as well as its acceptance time; a rejoin request is answered with the epoch offered before, or the next, and at the end of
epochs with a rekey; a part of a record is kept until five are there, and the whole record goes to LGT and to the archive if its CRC is right. -/
def Obligations.MessagesAreDelivered : Prop :=
  (∀ (s : State) (f : RxFrame) (i : Nat) (e : NatEnt), Heard s f i e false →
    (∀ b, Done (.lanternReport f b) s fun t => Accepted s t f i ∧
      Wrote s t 6 (words64 4 (reportBytes b ++ leBytes 1 (sfield 8 f.rssi) ++ leBytes 2 i ++ leBytes 4 0))) ∧
    (∀ pl, isRunning s .crs = true → Done (.detectorEvent f pl) s fun t => Accepted s t f i ∧
      t.crs = { s.crs with events := s.crs.events ++ [{ accepted := s.cox.count, td := sfdOf s f - (payloadOf pl).2.2.2.2.2 * 100000, nat := i,
                                                        payload := pl, sfd := sfdOf s f, qual := s.tim.qual.code }] }) ∧
    (∀ flags batt d, Done (.sensorHeartbeat f flags batt d) s fun t => Accepted s t f i ∧
      Wrote s t 7 (words64 (1 + cdiv (min 104 d.length) 8) (leBytes 2 i ++ leBytes 1 flags ++ leBytes 1 batt ++ leBytes 1 (min 104 d.length) ++
        leBytes 1 (sfield 8 f.rssi) ++ leBytes 2 0 ++ d.take (min 104 d.length)))) ∧
    (∀ mtype, Done (.unlistedMtype f mtype) s fun t => Accepted s t f i ∧ Said s t .rad 0x0405 i mtype 0)) ∧
  (∀ (s : State) (f : RxFrame) (i crc : Nat) (e : NatEnt), Heard s f i e true → (nodeDyn s i).test = false →
    Done (.rejoinRequest f crc) s fun t => Accepted s t f i ∧ ∃ y, natEnt t i = some y ∧ ∀ ep,
      ep = ((if f.explicit_ = e.explicit_ then (nodeDyn s i).newEpoch else none).getD (nextEpoch y)) →
      (ep ≤ 0xEFFF → (nodeDyn t i).newEpoch = some ep ∧
        ∀ x, t.rad.ports[e.port]? = some x → ∃ u ∈ x.uni, u.node = i ∧ u.kind = .rejoin ∧
          u.data = leBytes 1 0 ++ leBytes 4 f.counter ++ leBytes 2 ep ++ leBytes 1 s.led.starts ++ leBytes 4 (nth s.rad.groupCtr e.port 1 - 1)) ∧
      (0xEFFF < ep → (nodeDyn t i).rekeying = true)) ∧
  (∀ (s : State) (f : RxFrame) (i part : Nat) (e : NatEnt) (d : List Byte) (n : NodeDyn), Heard s f i e true → part < 5 →
    n = { nodeDyn s i with recParts := tput (nodeDyn s i).recParts part (d.take (partOctets part)) } →
    (n.recParts.length < 5 → Done (.binningRecordPart f part d) s fun t =>
      Accepted s t f i ∧ t.lgt = s.lgt ∧ t.upd = s.upd ∧ (nodeDyn t i).recParts = n.recParts) ∧
    (5 ≤ n.recParts.length → (partsRecord n).crcOk = true → Done (.binningRecordPart f part d) s fun t =>
      Accepted s t f i ∧ t.lgt = { s.lgt with recq := s.lgt.recq ++ [(e.channel, partsRecord n)] } ∧ (nodeDyn t i).recParts = [] ∧
      tget t.upd.gather e.channel = some (partsRecord n) ∧ t.upd.gatherAt.isSome) ∧
    (5 ≤ n.recParts.length → (partsRecord n).crcOk = false → Done (.binningRecordPart f part d) s fun t =>
      Accepted s t f i ∧ t.lgt = s.lgt ∧ t.upd = s.upd ∧ (nodeDyn t i).recParts = []))

/-- Enrolment and records (R297, R298, R299): an unknown source is reported; a node of the NAT gets a link key and five parts to acknowledge, and its
link starts again in the explicit regime; an upload that stays incomplete for 60 s is asked for again, up to three times, then recorded. -/
def Obligations.NodesAreEnrolledAgain : Prop :=
  (∀ (s : State) (f : RxFrame) (x : RadPort), s.rad.ports[f.port]? = some x → rxOpen x = true → radServes s = true → f.fcsOk = true →
    (rxHeader s f = .ok none → Done (.enrolmentRequest f) s fun t => Said s t .sec 0x0501 f.port 0 f.src ∧ t.rad.nat = s.rad.nat ∧
      t.keys = s.keys) ∧
    (∀ i e, rxHeader s f = .ok (some i) → natEnt s i = some e → f.keyIndex = 0x30 → (tget s.keys.device i).isSome → f.micOk = true →
      (nodeDyn s i).devRx < f.counter → Done (.enrolmentRequest f) s fun t =>
        (∃ y, natEnt t i = some y ∧ y.enrolled = false ∧ y.explicit_ = true ∧ y.txFc = 1 ∧ y.rxFc = 0 ∧ y.linkEpoch = 0 ∧ y.rxSeq = 0 ∧ y.txSeq = 0) ∧
        (nodeDyn t i).parts = [0, 1, 2, 3, 4] ∧ (nodeDyn t i).newEpoch = some 1 ∧ (nodeDyn t i).devRx = f.counter ∧
        (linkKey t i (genOf e)).isSome)) ∧
  (∀ (s : State) (i : Nat) (e : NatEnt), natEnt s i = some e → (nodeDyn s i).recParts ≠ [] →
    Done (.recordUploadTimeout i) s fun t => (0 < addend s → (nodeDyn s i).recAt + 60 * giga ≤ nowNs t) ∧ (nodeDyn t i).recParts = [] ∧
      ((nodeDyn s i).recTries < 3 → (nodeDyn t i).recTries = (nodeDyn s i).recTries + 1 ∧
        ∀ x, t.rad.ports[e.port]? = some x → ∃ u ∈ x.uni, u.node = i ∧ u.cmd = 4) ∧
      (3 ≤ (nodeDyn s i).recTries → (nodeDyn t i).recTries = 0 ∧ Said s t .rad 0x0406 e.channel ((nodeDyn s i).recTries + 1) 0))

/-- Keys (R283, R284): a link key of 200 days gets its successor in the idle generation while the old one stays, and so does the beacon key, with a
SWITCH to come, 600 s ahead by the model's choice (log entry 29); at SWITCH the new generation is in use; 600 s later the old one is erased, unless
its slot holds the key of a later renewal. -/
def Obligations.KeysAreRenewedAndErased : Prop :=
  (∀ (s : State) (i : Nat) (e : NatEnt) (k : Key), moduleUp s = true → natEnt s i = some e → linkKey s i (genOf e) = some k →
    genOf e < 2 → (nodeDyn s i).rekeying = false →
    Done (.linkKeyAge i) s fun t => (0 < addend s → (k.born + 200 * 86400) * giga ≤ nowNs t) ∧ (nodeDyn t i).rekeying = true ∧
      linkKey t i (genOf e) = some k ∧ (linkKey t i (1 - genOf e)).isSome ∧ natEnt t i = some e) ∧
  (∀ (s : State) (k : Key), moduleUp s = true → sharedKey s s.sec.beaconGen = some k → s.sec.beaconGen < 2 →
    (∀ x ∈ s.rad.switches, ¬(x.1 < 2 ∧ x.2.2 = 0)) →
    Done .beaconKeyAge s fun t => (0 < addend s → (k.born + 200 * 86400) * giga ≤ nowNs t) ∧
      t.rad.switches = s.rad.switches ++ [(1 - s.sec.beaconGen, nowSec t + 600, 0)] ∧ (sharedKey t (1 - s.sec.beaconGen)).isSome ∧
      sharedKey t s.sec.beaconGen = some k ∧ t.sec = s.sec) ∧
  (∀ (s : State) (slot : Nat) (x : Nat × Nat × Nat), moduleUp s = true → (s.rad.switches.find? fun x => x.1 = slot && x.2.2 = 0) = some x →
    Done (.keySwitch slot) s fun t => (0 < addend s → x.2.1 * giga ≤ nowNs t) ∧
      t.rad.switches = s.rad.switches.map (fun y => if y = x then (x.1, x.2.1, 1) else y) ∧ t.keys = s.keys ∧
      (slot < 2 → t.sec.beaconGen = slot) ∧
      (2 ≤ slot → t.sec.beaconGen = s.sec.beaconGen ∧ (∀ g, t.sec.groupGen[(slot - 2) / 2]? = some g → g = slot % 2) ∧
        (∀ c, t.rad.groupCtr[(slot - 2) / 2]? = some c → c = 1)) ∧ Said s t .sec 0x0503 (0x8000 + slot) (slot % 2) 0) ∧
  (∀ (s : State) (slot : Nat) (x : Nat × Nat × Nat), moduleUp s = true → (s.rad.switches.find? fun x => x.1 = slot && x.2.2 = 1) = some x →
    Done (.oldKeyErase slot) s fun t => (0 < addend s → (x.2.1 + 600) * giga ≤ nowNs t) ∧
      sharedKey t (otherSlot slot) = (if renewing s (otherSlot slot) then sharedKey s (otherSlot slot) else none) ∧
      (∀ j, j ≠ otherSlot slot → sharedKey t j = sharedKey s j) ∧ t.rad.switches = s.rad.switches.filter fun y => y ≠ x)
/-! ## Updates -/

/-- Transfers (R428, R429, R58): 24 h without a block abort an open transfer, in the ledger too. A block written is followed by the next, kept in the
ledger; the last one completes the transfer, and a full image is then in its slot; a block whose flash operation or save fails is not taken, and its
error stands. -/
def Obligations.TransfersAdvanceAndExpire : Prop :=
  (∀ s : State, moduleUp s = true → s.upd.xfer.state = .open_ →
    Done .xferTimeout s fun t => t.upd = { s.upd with xfer := {} } ∧
      t.led = { s.led with xfer := if s.ledBad.contains .upd then s.led.xfer else none } ∧ s.upd.xfer.lastAt + secCyc 86400 ≤ t.tim.cyc) ∧
  (∀ (s : State) (sigs : ImageSigs), moduleUp s = true → s.upd.xfer.busy = true → .upd ∉ s.flashBad →
    Done (.blockWriteDone sigs) s fun t =>
      (.upd ∉ s.ledBad → t.upd.xfer =
        { s.upd.xfer with busy := false, next := s.upd.xfer.next + 1, lastAt := s.tim.cyc, err := .ok,
                          state := if s.upd.xfer.next + 1 = xferBlocks s.upd.xfer then .complete else .open_ } ∧
        t.led = { s.led with xfer := some t.upd.xfer }) ∧
      (.upd ∈ s.ledBad → t.upd.xfer = { s.upd.xfer with busy := false, err := .ledgerFail } ∧ t.led = s.led) ∧
      (s.upd.xfer.kind ≠ 2 → tget t.flash.staging s.upd.xfer.next = some (winWords s) ∧
        ∀ j, j ≠ s.upd.xfer.next → tget t.flash.staging j = tget s.flash.staging j) ∧
      (s.upd.xfer.kind = 2 → imageInSlot t (xferSlot s) =
        if s.upd.xfer.next + 1 = xferBlocks s.upd.xfer then
          some { data := (blockBytes (tput s.flash.slotBlocks s.upd.xfer.next (winWords s)) (xferBlocks s.upd.xfer)).take s.upd.xfer.length,
                 siravoBy := sigs.siravoBy, cityBy := sigs.cityBy }
        else none)) ∧
  (∀ (s : State) (sigs : ImageSigs), moduleUp s = true → s.upd.xfer.busy = true → .upd ∈ s.flashBad →
    Done (.blockWriteDone sigs) s fun t => t.upd.xfer = { s.upd.xfer with busy := false, err := .flashTmo } ∧ t.flash = s.flash)

/-- Update operations under way (R431, R433, R436, R441, R447): an image built is verified whole, and is then in the slot that does not run, or its CALL
ends FAILED with what was wrong; a series of stations goes on with the next, or is DONE; records gathered are written to the archive; a target without
its report is UNCONFIRMED. -/
def Obligations.UpdateOperationsGoOn : Prop :=
  (∀ (s : State) (h : Nat) (o : ImageOp), moduleUp s = true → s.upd.work = some (h, .image o) → o.verified = false →
    (imageCheck s o.target = .ok → o.stations = false → Done .imageBuildComplete s fun t =>
      t.upd.work = some (h, .image { o with verified := true }) ∧
      (s.cfg.imageSlot < 2 → imageInSlot t (1 - s.cfg.imageSlot) = some o.target ∧ imageInSlot t s.cfg.imageSlot = imageInSlot s s.cfg.imageSlot)) ∧
    (imageCheck s o.target ≠ .ok → callLive (call s h) = true → Done .imageBuildComplete s fun t => t.upd.work = none ∧ t.flash = s.flash ∧
      ∀ c, t.calls[h]? = some c → c.state = .failed)) ∧
  (∀ (s : State) (h n m : Nat) (o : ImageOp) (l : List Nat), moduleUp s = true → s.upd.work = some (h, .image o) → o.started = true →
    o.series = n :: l → o.left = 0 →
    (∀ l', l = m :: l' → callLive (call s h) = true → Done .microcodeStationPass s fun t =>
      (∀ v, t.cfg.area[m]? = some v → v = nth (imgSections o.target) m []) ∧
      (∀ j, j ≠ m → t.cfg.area[j]? = s.cfg.area[j]?) ∧ t.cfg.image = s.cfg.image ∧
      (∀ w r, Stn.ofIdx m = some w → stationsUp s = true → inReset s w = false → (stn s w).state ≠ .off → t.stns[w.idx]? = some r →
        r.state = .fault) ∧
      t.upd.work = some (h, .image { o with series := m :: l', left := 1000, changed := (m, nth s.cfg.area m []) :: o.changed })) ∧
    (l = [] → .cfg ∉ s.flashBad → callLive (call s h) = true → Done .microcodeStationPass s fun t =>
      t.cfg.image = o.target ∧ t.cfg.area = imgSections o.target ∧ t.cfg.imageSlot = 1 - s.cfg.imageSlot ∧ t.upd.work = none ∧ ∀ c, t.calls[h]? = some c → c.state = .done)) ∧
  (∀ (s : State) (at_ : Nat), moduleUp s = true → s.upd.work = none → s.upd.gatherAt = some at_ →
    Done .calibrationArchiveWrite s fun t => at_ + secCyc 60 ≤ t.tim.cyc ∧
      ((t.upd.gather = [] ∧ t.upd.gatherAt = none) ∨ (t.upd.gather = s.upd.gather ∧ t.upd.gatherAt = some t.tim.cyc))) ∧
  (∀ (s : State) (h i : Nat) (g : DistTarget), distCall s = some h →
    (s.upd.dist.targets.find? fun t => t.nat = i && t.outcome = 0 && t.activated) = some g →
    Done (.distributionOutcomeTimeout i) s fun t =>
      (0 < addend s → g.apply_ * strokeNs + (2 * ((natEnt s i).getD {}).upPeriod + 60) * giga ≤ nowNs t) ∧
      t.upd.dist.targets = (s.upd.dist.targets.map fun x => if x.nat = i then { x with outcome := 2 } else x) ∧
      Wrote s t 2 [BitVec.ofNat 64 (callHandle s h % 65536 * 2 ^ 48 + 2 ^ 44 + i % 4096 * 2 ^ 32 + 2)])
end

