-- ==== Sys2Proof/Laws/Keeps.lean ====
section
/-! SUPPORT. Frames: what `masked` and `KeepsAllBut` give, and how they pass through folds. -/
set_option Elab.async false
namespace Sys2Proof.Machine

theorem KeepsAllBut.refl (m : Parts) (s : State) : KeepsAllBut m s s := rfl

theorem KeepsAllBut.trans {m : Parts} {s t u : State} (h : KeepsAllBut m s t) (k : KeepsAllBut m t u) : KeepsAllBut m s u := Eq.trans k h

theorem KeepsAllBut.modp {m : Parts} {s t : State} (h : KeepsAllBut m s t) (hm : m.modp = false) : t.modp = s.modp := by
  simpa [masked, hm] using congrArg State.modp h

theorem KeepsAllBut.bankA {m : Parts} {s t : State} (h : KeepsAllBut m s t) (hm : m.bankA = false) : t.bankA = s.bankA := by
  simpa [masked, hm] using congrArg State.bankA h

theorem KeepsAllBut.bankB {m : Parts} {s t : State} (h : KeepsAllBut m s t) (hm : m.bankB = false) : t.bankB = s.bankB := by
  simpa [masked, hm] using congrArg State.bankB h

theorem KeepsAllBut.sys {m : Parts} {s t : State} (h : KeepsAllBut m s t) (hm : m.sys = false) : t.sys = s.sys := by
  simpa [masked, hm] using congrArg State.sys h

theorem KeepsAllBut.vtp {m : Parts} {s t : State} (h : KeepsAllBut m s t) (hm : m.vtp = false) : t.vtp = s.vtp := by
  simpa [masked, hm] using congrArg State.vtp h

theorem KeepsAllBut.calls {m : Parts} {s t : State} (h : KeepsAllBut m s t) (hm : m.calls = false) : t.calls = s.calls := by
  simpa [masked, hm] using congrArg State.calls h

theorem KeepsAllBut.cox {m : Parts} {s t : State} (h : KeepsAllBut m s t) (hm : m.cox = false) : t.cox = s.cox := by
  simpa [masked, hm] using congrArg State.cox h

theorem KeepsAllBut.stns {m : Parts} {s t : State} (h : KeepsAllBut m s t) (hm : m.stns = false) : t.stns = s.stns := by
  simpa [masked, hm] using congrArg State.stns h

theorem KeepsAllBut.cfg {m : Parts} {s t : State} (h : KeepsAllBut m s t) (hm : m.cfg = false) : t.cfg = s.cfg := by
  simpa [masked, hm] using congrArg State.cfg h

theorem KeepsAllBut.tim {m : Parts} {s t : State} (h : KeepsAllBut m s t) (hm : m.tim = false) : t.tim = s.tim := by
  simpa [masked, hm] using congrArg State.tim h

theorem KeepsAllBut.rtc {m : Parts} {s t : State} (h : KeepsAllBut m s t) (hm : m.rtc = false) : t.rtc = s.rtc := by
  simpa [masked, hm] using congrArg State.rtc h

theorem KeepsAllBut.eth {m : Parts} {s t : State} (h : KeepsAllBut m s t) (hm : m.eth = false) : t.eth = s.eth := by
  simpa [masked, hm] using congrArg State.eth h

theorem KeepsAllBut.evq {m : Parts} {s t : State} (h : KeepsAllBut m s t) (hm : m.evq = false) : t.evq = s.evq := by
  simpa [masked, hm] using congrArg State.evq h

theorem KeepsAllBut.lgt {m : Parts} {s t : State} (h : KeepsAllBut m s t) (hm : m.lgt = false) : t.lgt = s.lgt := by
  simpa [masked, hm] using congrArg State.lgt h

theorem KeepsAllBut.crs {m : Parts} {s t : State} (h : KeepsAllBut m s t) (hm : m.crs = false) : t.crs = s.crs := by
  simpa [masked, hm] using congrArg State.crs h

theorem KeepsAllBut.rad {m : Parts} {s t : State} (h : KeepsAllBut m s t) (hm : m.rad = false) : t.rad = s.rad := by
  simpa [masked, hm] using congrArg State.rad h

theorem KeepsAllBut.sec {m : Parts} {s t : State} (h : KeepsAllBut m s t) (hm : m.sec = false) : t.sec = s.sec := by
  simpa [masked, hm] using congrArg State.sec h

theorem KeepsAllBut.keys {m : Parts} {s t : State} (h : KeepsAllBut m s t) (hm : m.keys = false) : t.keys = s.keys := by
  simpa [masked, hm] using congrArg State.keys h

theorem KeepsAllBut.mtr {m : Parts} {s t : State} (h : KeepsAllBut m s t) (hm : m.mtr = false) : t.mtr = s.mtr := by
  simpa [masked, hm] using congrArg State.mtr h

theorem KeepsAllBut.ledr {m : Parts} {s t : State} (h : KeepsAllBut m s t) (hm : m.ledr = false) : t.ledr = s.ledr := by
  simpa [masked, hm] using congrArg State.ledr h

theorem KeepsAllBut.ledm {m : Parts} {s t : State} (h : KeepsAllBut m s t) (hm : m.ledm = false) : t.ledm = s.ledm := by
  simpa [masked, hm] using congrArg State.ledm h

theorem KeepsAllBut.ledBad {m : Parts} {s t : State} (h : KeepsAllBut m s t) (hm : m.ledBad = false) : t.ledBad = s.ledBad := by
  simpa [masked, hm] using congrArg State.ledBad h

theorem KeepsAllBut.flashBad {m : Parts} {s t : State} (h : KeepsAllBut m s t) (hm : m.flashBad = false) : t.flashBad = s.flashBad := by
  simpa [masked, hm] using congrArg State.flashBad h

theorem KeepsAllBut.pwr {m : Parts} {s t : State} (h : KeepsAllBut m s t) (hm : m.pwr = false) : t.pwr = s.pwr := by
  simpa [masked, hm] using congrArg State.pwr h

theorem KeepsAllBut.upd {m : Parts} {s t : State} (h : KeepsAllBut m s t) (hm : m.upd = false) : t.upd = s.upd := by
  simpa [masked, hm] using congrArg State.upd h

theorem KeepsAllBut.pins {m : Parts} {s t : State} (h : KeepsAllBut m s t) (hm : m.pins = false) : t.pins = s.pins := by
  simpa [masked, hm] using congrArg State.pins h

theorem KeepsAllBut.flash {m : Parts} {s t : State} (h : KeepsAllBut m s t) (hm : m.flash = false) : t.flash = s.flash := by
  simpa [masked, hm] using congrArg State.flash h

theorem KeepsAllBut.led {m : Parts} {s t : State} (h : KeepsAllBut m s t) (hm : m.led = false) : t.led = s.led := by
  simpa [masked, hm] using congrArg State.led h

theorem KeepsAllBut.aon {m : Parts} {s t : State} (h : KeepsAllBut m s t) (hm : m.aon = false) : t.aon = s.aon := by
  simpa [masked, hm] using congrArg State.aon h

theorem KeepsAllBut.mem {m : Parts} {s t : State} (h : KeepsAllBut m s t) (hm : m.mem = false) : t.mem = s.mem := by
  simpa [masked, hm] using congrArg State.mem h

theorem KeepsAllBut.latch {m : Parts} {s t : State} (h : KeepsAllBut m s t) (hm : m.latch = false) : t.latch = s.latch := by
  simpa [masked, hm] using congrArg State.latch h

theorem KeepsAllBut.free {m : Parts} {s t : State} (h : KeepsAllBut m s t) (hm : m.free = false) : t.free = s.free := by
  simpa [masked, hm] using congrArg State.free h

theorem KeepsAllBut.ahead {m : Parts} {s t : State} (h : KeepsAllBut m s t) (hm : m.ahead = false) : t.ahead = s.ahead := by
  simpa [masked, hm] using congrArg State.ahead h

theorem KeepsAllBut.pending {m : Parts} {s t : State} (h : KeepsAllBut m s t) (hm : m.pending = false) : t.pending = s.pending := by
  simpa [masked, hm] using congrArg State.pending h

@[simp] theorem ofIdx_idx (n : Stn) : Stn.ofIdx n.idx = some n := by cases n <;> rfl

theorem idx_ofIdx {k : Nat} {n : Stn} (h : Stn.ofIdx k = some n) : n.idx = k := by
  have hk : k < 13 := by
    by_cases hk : k < 13
    · exact hk
    · have : Stn.ofIdx k = none := by unfold Stn.ofIdx Stn.all; exact List.getElem?_eq_none (by simp; omega)
      simp [this] at h
  revert h n; revert k; decide

@[simp] theorem foldl_keeps {α : Type} (m : Parts) (f : State → α → State) (s : State) (l : List α)
    (h : ∀ s a, masked m (f s a) = masked m s) : masked m (l.foldl f s) = masked m s := by
  induction l generalizing s with
  | nil => rfl
  | cons a l ih => rw [List.foldl_cons, ih, h]

theorem foldl1_keeps {α β : Type} (m : Parts) (f : State × β → α → State × β) (s : State × β) (l : List α)
    (h : ∀ s a, masked m (f s a).1 = masked m s.1) : masked m (l.foldl f s).1 = masked m s.1 := by
  induction l generalizing s with
  | nil => rfl
  | cons a l ih => rw [List.foldl_cons, ih, h]

@[simp] theorem masked_aon (m : Parts) (haon : m.aon = true) (s : State) vaon :
    masked m { s with aon := vaon } = masked m s := by simp [masked, haon]

@[simp] theorem masked_bankA (m : Parts) (hbankA : m.bankA = true) (s : State) vbankA :
    masked m { s with bankA := vbankA } = masked m s := by simp [masked, hbankA]

@[simp] theorem masked_bankB (m : Parts) (hbankB : m.bankB = true) (s : State) vbankB :
    masked m { s with bankB := vbankB } = masked m s := by simp [masked, hbankB]

@[simp] theorem masked_calls (m : Parts) (hcalls : m.calls = true) (s : State) vcalls :
    masked m { s with calls := vcalls } = masked m s := by simp [masked, hcalls]

@[simp] theorem masked_cfg (m : Parts) (hcfg : m.cfg = true) (s : State) vcfg :
    masked m { s with cfg := vcfg } = masked m s := by simp [masked, hcfg]

@[simp] theorem masked_cox (m : Parts) (hcox : m.cox = true) (s : State) vcox :
    masked m { s with cox := vcox } = masked m s := by simp [masked, hcox]

@[simp] theorem masked_crs (m : Parts) (hcrs : m.crs = true) (s : State) vcrs :
    masked m { s with crs := vcrs } = masked m s := by simp [masked, hcrs]

@[simp] theorem masked_eth (m : Parts) (heth : m.eth = true) (s : State) veth :
    masked m { s with eth := veth } = masked m s := by simp [masked, heth]

@[simp] theorem masked_evq (m : Parts) (hevq : m.evq = true) (s : State) vevq :
    masked m { s with evq := vevq } = masked m s := by simp [masked, hevq]

@[simp] theorem masked_flash (m : Parts) (hflash : m.flash = true) (s : State) vflash :
    masked m { s with flash := vflash } = masked m s := by simp [masked, hflash]

@[simp] theorem masked_flashBad (m : Parts) (hflashBad : m.flashBad = true) (s : State) vflashBad :
    masked m { s with flashBad := vflashBad } = masked m s := by simp [masked, hflashBad]

@[simp] theorem masked_free (m : Parts) (hfree : m.free = true) (s : State) vfree :
    masked m { s with free := vfree } = masked m s := by simp [masked, hfree]

@[simp] theorem masked_ahead (m : Parts) (hahead : m.ahead = true) (s : State) vahead :
    masked m { s with ahead := vahead } = masked m s := by simp [masked, hahead]

@[simp] theorem masked_keys (m : Parts) (hkeys : m.keys = true) (s : State) vkeys :
    masked m { s with keys := vkeys } = masked m s := by simp [masked, hkeys]

@[simp] theorem masked_latch (m : Parts) (hlatch : m.latch = true) (s : State) vlatch :
    masked m { s with latch := vlatch } = masked m s := by simp [masked, hlatch]

@[simp] theorem masked_led (m : Parts) (hled : m.led = true) (s : State) vled :
    masked m { s with led := vled } = masked m s := by simp [masked, hled]

@[simp] theorem masked_ledBad (m : Parts) (hledBad : m.ledBad = true) (s : State) vledBad :
    masked m { s with ledBad := vledBad } = masked m s := by simp [masked, hledBad]

@[simp] theorem masked_ledm (m : Parts) (hledm : m.ledm = true) (s : State) vledm :
    masked m { s with ledm := vledm } = masked m s := by simp [masked, hledm]

@[simp] theorem masked_ledr (m : Parts) (hledr : m.ledr = true) (s : State) vledr :
    masked m { s with ledr := vledr } = masked m s := by simp [masked, hledr]

@[simp] theorem masked_lgt (m : Parts) (hlgt : m.lgt = true) (s : State) vlgt :
    masked m { s with lgt := vlgt } = masked m s := by simp [masked, hlgt]

@[simp] theorem masked_mem (m : Parts) (hmem : m.mem = true) (s : State) vmem :
    masked m { s with mem := vmem } = masked m s := by simp [masked, hmem]

@[simp] theorem masked_modp (m : Parts) (hmodp : m.modp = true) (s : State) vmodp :
    masked m { s with modp := vmodp } = masked m s := by simp [masked, hmodp]

@[simp] theorem masked_mtr (m : Parts) (hmtr : m.mtr = true) (s : State) vmtr :
    masked m { s with mtr := vmtr } = masked m s := by simp [masked, hmtr]

@[simp] theorem masked_pending (m : Parts) (hpending : m.pending = true) (s : State) vpending :
    masked m { s with pending := vpending } = masked m s := by simp [masked, hpending]

@[simp] theorem masked_pins (m : Parts) (hpins : m.pins = true) (s : State) vpins :
    masked m { s with pins := vpins } = masked m s := by simp [masked, hpins]

@[simp] theorem masked_pwr (m : Parts) (hpwr : m.pwr = true) (s : State) vpwr :
    masked m { s with pwr := vpwr } = masked m s := by simp [masked, hpwr]

@[simp] theorem masked_rad (m : Parts) (hrad : m.rad = true) (s : State) vrad :
    masked m { s with rad := vrad } = masked m s := by simp [masked, hrad]

@[simp] theorem masked_rtc (m : Parts) (hrtc : m.rtc = true) (s : State) vrtc :
    masked m { s with rtc := vrtc } = masked m s := by simp [masked, hrtc]

@[simp] theorem masked_sec (m : Parts) (hsec : m.sec = true) (s : State) vsec :
    masked m { s with sec := vsec } = masked m s := by simp [masked, hsec]

@[simp] theorem masked_stns (m : Parts) (hstns : m.stns = true) (s : State) vstns :
    masked m { s with stns := vstns } = masked m s := by simp [masked, hstns]

@[simp] theorem masked_sys (m : Parts) (hsys : m.sys = true) (s : State) vsys :
    masked m { s with sys := vsys } = masked m s := by simp [masked, hsys]

@[simp] theorem masked_tim (m : Parts) (htim : m.tim = true) (s : State) vtim :
    masked m { s with tim := vtim } = masked m s := by simp [masked, htim]

@[simp] theorem masked_upd (m : Parts) (hupd : m.upd = true) (s : State) vupd :
    masked m { s with upd := vupd } = masked m s := by simp [masked, hupd]

@[simp] theorem masked_vtp (m : Parts) (hvtp : m.vtp = true) (s : State) vvtp :
    masked m { s with vtp := vvtp } = masked m s := by simp [masked, hvtp]

@[simp] theorem masked_bankA_bankB (m : Parts) (hbankA : m.bankA = true) (hbankB : m.bankB = true) (s : State) vbankA vbankB :
    masked m { s with bankA := vbankA, bankB := vbankB } = masked m s := by simp [masked, hbankA, hbankB]

@[simp] theorem masked_ledm_flash (m : Parts) (hledm : m.ledm = true) (hflash : m.flash = true) (s : State) vledm vflash :
    masked m { s with ledm := vledm, flash := vflash } = masked m s := by simp [masked, hledm, hflash]

@[simp] theorem masked_modp_stns (m : Parts) (hmodp : m.modp = true) (hstns : m.stns = true) (s : State) vmodp vstns :
    masked m { s with modp := vmodp, stns := vstns } = masked m s := by simp [masked, hmodp, hstns]

@[simp] theorem masked_modp_sys (m : Parts) (hmodp : m.modp = true) (hsys : m.sys = true) (s : State) vmodp vsys :
    masked m { s with modp := vmodp, sys := vsys } = masked m s := by simp [masked, hmodp, hsys]

@[simp] theorem masked_sys_cfg (m : Parts) (hsys : m.sys = true) (hcfg : m.cfg = true) (s : State) vsys vcfg :
    masked m { s with sys := vsys, cfg := vcfg } = masked m s := by simp [masked, hsys, hcfg]

@[simp] theorem masked_sys_cox (m : Parts) (hsys : m.sys = true) (hcox : m.cox = true) (s : State) vsys vcox :
    masked m { s with sys := vsys, cox := vcox } = masked m s := by simp [masked, hsys, hcox]

@[simp] theorem masked_sys_vtp (m : Parts) (hsys : m.sys = true) (hvtp : m.vtp = true) (s : State) vsys vvtp :
    masked m { s with sys := vsys, vtp := vvtp } = masked m s := by simp [masked, hsys, hvtp]

@[simp] theorem masked_tim_led (m : Parts) (htim : m.tim = true) (hled : m.led = true) (s : State) vtim vled :
    masked m { s with tim := vtim, led := vled } = masked m s := by simp [masked, htim, hled]

@[simp] theorem masked_vtp_pins (m : Parts) (hvtp : m.vtp = true) (hpins : m.pins = true) (s : State) vvtp vpins :
    masked m { s with vtp := vvtp, pins := vpins } = masked m s := by simp [masked, hvtp, hpins]

@[simp] theorem masked_cfg_pins_flash (m : Parts) (hcfg : m.cfg = true) (hpins : m.pins = true) (hflash : m.flash = true) (s : State) vcfg vpins vflash :
    masked m { s with cfg := vcfg, pins := vpins, flash := vflash } = masked m s := by simp [masked, hcfg, hpins, hflash]

@[simp] theorem masked_modp_sys_cfg (m : Parts) (hmodp : m.modp = true) (hsys : m.sys = true) (hcfg : m.cfg = true) (s : State) vmodp vsys vcfg :
    masked m { s with modp := vmodp, sys := vsys, cfg := vcfg } = masked m s := by simp [masked, hmodp, hsys, hcfg]

@[simp] theorem masked_modp_sys_pwr (m : Parts) (hmodp : m.modp = true) (hsys : m.sys = true) (hpwr : m.pwr = true) (s : State) vmodp vsys vpwr :
    masked m { s with modp := vmodp, sys := vsys, pwr := vpwr } = masked m s := by simp [masked, hmodp, hsys, hpwr]

@[simp] theorem masked_tim_rad_pins (m : Parts) (htim : m.tim = true) (hrad : m.rad = true) (hpins : m.pins = true) (s : State) vtim vrad vpins :
    masked m { s with tim := vtim, rad := vrad, pins := vpins } = masked m s := by simp [masked, htim, hrad, hpins]

@[simp] theorem masked_sys_tim_pwr_pins (m : Parts) (hsys : m.sys = true) (htim : m.tim = true) (hpwr : m.pwr = true) (hpins : m.pins = true) (s : State) vsys vtim vpwr vpins :
    masked m { s with sys := vsys, tim := vtim, pwr := vpwr, pins := vpins } = masked m s := by simp [masked, hsys, htim, hpwr, hpins]

@[simp] theorem masked_sys_vtp_cox_stns (m : Parts) (hsys : m.sys = true) (hvtp : m.vtp = true) (hcox : m.cox = true) (hstns : m.stns = true) (s : State) vsys vvtp vcox vstns :
    masked m { s with sys := vsys, vtp := vvtp, cox := vcox, stns := vstns } = masked m s := by simp [masked, hsys, hvtp, hcox, hstns]

@[simp] theorem masked_modp_bankA_bankB_pwr_pins_aon (m : Parts) (hmodp : m.modp = true) (hbankA : m.bankA = true) (hbankB : m.bankB = true) (hpwr : m.pwr = true) (hpins : m.pins = true) (haon : m.aon = true) (s : State) vmodp vbankA vbankB vpwr vpins vaon :
    masked m { s with modp := vmodp, bankA := vbankA, bankB := vbankB, pwr := vpwr, pins := vpins, aon := vaon } = masked m s := by simp [masked, hmodp, hbankA, hbankB, hpwr, hpins, haon]

@[simp] theorem masked_modp_vtp_cox_stns_evq_rad (m : Parts) (hmodp : m.modp = true) (hvtp : m.vtp = true) (hcox : m.cox = true) (hstns : m.stns = true) (hevq : m.evq = true) (hrad : m.rad = true) (s : State) vmodp vvtp vcox vstns vevq vrad :
    masked m { s with modp := vmodp, vtp := vvtp, cox := vcox, stns := vstns, evq := vevq, rad := vrad } = masked m s := by simp [masked, hmodp, hvtp, hcox, hstns, hevq, hrad]

end Sys2Proof.Machine
end

