-- ==== Sys2Proof/Laws/KeepsBase.lean ====
section
/-! SUPPORT. Frames of the operations of network time, events, the light engine, schedules, the NAT and the duty budgets: which parts of the state each may change. -/
set_option linter.unusedSimpArgs false
set_option linter.unusedVariables false
set_option Elab.async false
namespace Sys2Proof.Machine

@[simp] theorem putBits_keeps (m : Parts) (hmem : m.mem = true) (s : State) (w : Nat) (d : BitVec 256) :
    masked m (putBits s w d) = masked m s := by
  unfold putBits; simp [hmem]

@[simp] theorem drawn_keeps (m : Parts) (hfree : m.free = true) (s : State) :
    masked m (drawn s) = masked m s := by
  unfold drawn; simp [hfree]

@[simp] theorem putFree_keeps (m : Parts) (hmem : m.mem = true) (hfree : m.free = true) (s : State) (w : Nat) :
    masked m (putFree s w) = masked m s := by
  unfold putFree; simp [hmem, hfree]

@[simp] theorem ledgerWrite_keeps (m : Parts) (hledBad : m.ledBad = true) (s : State) (w : Stn) (f : State → State)
    (h : ∀ s, masked m (f s) = masked m s) : masked m (ledgerWrite s w f).1 = masked m s := by
  unfold ledgerWrite; split <;> simp [h, hledBad]

@[simp] theorem setStn_keeps (m : Parts) (hstns : m.stns = true) (s : State) (n : Stn) (f : StnRec → StnRec) :
    masked m (setStn s n f) = masked m s := by
  unfold setStn; simp [hstns]

@[simp] theorem passCycles_keeps (m : Parts) (htim : m.tim = true) (s : State) (n : Nat) :
    masked m (passCycles s n) = masked m s := by
  unfold passCycles; simp [htim]

@[simp] theorem advanceSub_keeps (m : Parts) (htim : m.tim = true) (s : State) (sub : Nat) :
    masked m (advanceSub s sub) = masked m s := by
  unfold advanceSub; (repeat' split) <;> simp [htim]

@[simp] theorem advanceTo_keeps (m : Parts) (htim : m.tim = true) (s : State) (ns : Nat) :
    masked m (advanceTo s ns) = masked m s := by
  unfold advanceTo; simp [htim]

@[simp] theorem advanceCyc_keeps (m : Parts) (htim : m.tim = true) (s : State) (cyc : Nat) :
    masked m (advanceCyc s cyc) = masked m s := by
  unfold advanceCyc; (repeat' split) <;> simp [htim]

@[simp] theorem sunUpdate_keeps (m : Parts) (hcrs : m.crs = true) (s : State) :
    masked m (sunUpdate s) = masked m s := by
  unfold sunUpdate; (repeat' split) <;> simp [hcrs]

@[simp] theorem setQueue_keeps (m : Parts) (hevq : m.evq = true) (s : State) (q : Nat) (f : EvqQueue → EvqQueue) :
    masked m (setQueue s q f) = masked m s := by
  unfold setQueue; simp [hevq]

@[simp] theorem putPacket_keeps (m : Parts) (hevq : m.evq = true) (s : State) (q : Nat) (ws : List Word64) :
    masked m (putPacket s q ws) = masked m s := by
  unfold putPacket; (repeat' split) <;> simp [hevq]

@[simp] theorem rewound_keeps (m : Parts) (hevq : m.evq = true) (s : State) (q : Nat) (n : Nat) :
    masked m (rewound s q n) = masked m s := by
  unfold rewound; (repeat' split) <;> simp [hevq]

@[simp] theorem record_keeps (m : Parts) (hevq : m.evq = true) (s : State) (q : Nat) (typ : Nat) (w : Stn) (result : Nat) (at_ : Nat) (qual : Nat)
    (payload : List Word64) :
    masked m (record s q typ w result at_ qual payload) = masked m s := by
  unfold record; simp [hevq]

@[simp] theorem eventAt_keeps (m : Parts) (hevq : m.evq = true) (s : State) (w : Stn) (at_ : Nat) (qual : Nat) (code : Nat) (subject : Nat)
    (data0 : Nat) (data1 : Nat) :
    masked m (eventAt s w at_ qual code subject data0 data1) = masked m s := by
  unfold eventAt; simp [hevq]

@[simp] theorem event_keeps (m : Parts) (hevq : m.evq = true) (s : State) (w : Stn) (code : Nat) (subject : Nat) (data0 : Nat) (data1 : Nat) :
    masked m (event s w code subject data0 data1) = masked m s := by
  unfold event; simp [hevq]

@[simp] theorem outcomeRecord_keeps (m : Parts) (hevq : m.evq = true) (s : State) (w : Stn) (request : Nat) (kind : Nat) (nat : Nat) (outcome : Nat) :
    masked m (outcomeRecord s w request kind nat outcome) = masked m s := by
  unfold outcomeRecord; simp [hevq]

@[simp] theorem pairEvent_keeps (m : Parts) (hevq : m.evq = true) (s : State) (w : Stn) (what : Nat) :
    masked m (pairEvent s w what) = masked m s := by
  unfold pairEvent; simp [hevq]

@[simp] theorem ledgerEvent_keeps (m : Parts) (hevq : m.evq = true) (s : State) (w : Stn) :
    masked m (ledgerEvent s w) = masked m s := by
  unfold ledgerEvent; simp [hevq]

@[simp] theorem evqDrain_keeps (m : Parts) (hevq : m.evq = true) (s : State) :
    masked m (evqDrain s) = masked m s := by
  unfold evqDrain; (repeat' split) <;> simp [hevq]

@[simp] theorem setLedr_keeps (m : Parts) (hledr : m.ledr = true) (s : State) (f : LedgerRad → LedgerRad) :
    masked m (setLedr s f) = masked m s := by
  unfold setLedr; simp [hledr]

@[simp] theorem setNat_keeps (m : Parts) (hrad : m.rad = true) (s : State) (i : Nat) (f : NatEnt → NatEnt) :
    masked m (setNat s i f) = masked m s := by
  unfold setNat; (repeat' split) <;> simp [hrad]

@[simp] theorem setDyn_keeps (m : Parts) (hrad : m.rad = true) (s : State) (i : Nat) (f : NodeDyn → NodeDyn) :
    masked m (setDyn s i f) = masked m s := by
  unfold setDyn; simp [hrad]

@[simp] theorem natRebuild_keeps (m : Parts) (hrad : m.rad = true) (s : State) :
    masked m (natRebuild s) = masked m s := by
  unfold natRebuild; (repeat' split) <;> simp [hrad]

@[simp] theorem natSaved_keeps (m : Parts) (hledr : m.ledr = true) (hledBad : m.ledBad = true) (s : State) :
    masked m (natSaved s) = masked m s := by
  unfold natSaved; simp [hledr, hledBad]

@[simp] theorem natAdd_keeps (m : Parts) (hrad : m.rad = true) (hledr : m.ledr = true) (hledBad : m.ledBad = true) (s : State) (i : Nat)
    (e : NatEnt) :
    masked m (natAdd s i e).1 = masked m s := by
  unfold natAdd; simp only []; (repeat' split) <;> simp [hrad, hledr, hledBad]

@[simp] theorem natEvict_keeps (m : Parts) (hrad : m.rad = true) (hledr : m.ledr = true) (hledBad : m.ledBad = true) (s : State) (i : Nat) :
    masked m (natEvict s i) = masked m s := by
  unfold natEvict; simp [hrad, hledr, hledBad]

@[simp] theorem natClear_keeps (m : Parts) (hrad : m.rad = true) (s : State) (i : Nat) :
    masked m (natClear s i) = masked m s := by
  unfold natClear; simp [hrad]

@[simp] theorem setLgt_keeps (m : Parts) (hlgt : m.lgt = true) (s : State) (f : LgtState → LgtState) :
    masked m (setLgt s f) = masked m s := by
  unfold setLgt; simp [hlgt]

@[simp] theorem setChan_keeps (m : Parts) (hlgt : m.lgt = true) (s : State) (c : Nat) (f : LgtChan → LgtChan) :
    masked m (setChan s c f) = masked m s := by
  unfold setChan; simp [hlgt]

@[simp] theorem setLgtCmd_keeps (m : Parts) (hlgt : m.lgt = true) (s : State) (k : Nat) (f : LgtCmd → LgtCmd) :
    masked m (setLgtCmd s k f) = masked m s := by
  unfold setLgtCmd; simp [hlgt]

@[simp] theorem cmdPending_keeps (m : Parts) (hevq : m.evq = true) (hlgt : m.lgt = true) (s : State) (k : Nat) :
    masked m (cmdPending s k) = masked m s := by
  unfold cmdPending; simp [hevq, hlgt]

@[simp] theorem cmdCancel_keeps (m : Parts) (hlgt : m.lgt = true) (s : State) (k : Nat) :
    masked m (cmdCancel s k) = masked m s := by
  unfold cmdCancel; simp [hlgt]

@[simp] theorem cmdOutcome_keeps (m : Parts) (hevq : m.evq = true) (hlgt : m.lgt = true) (s : State) (slot : Nat) (serial : Nat) (nat : Nat)
    (outcome : Nat) :
    masked m (cmdOutcome s slot serial nat outcome) = masked m s := by
  unfold cmdOutcome; simp only []; (repeat' split) <;> simp [hevq, hlgt]

@[simp] theorem lgtConstants_keeps (m : Parts) (hevq : m.evq = true) (hlgt : m.lgt = true) (s : State) :
    masked m (lgtConstants s) = masked m s := by
  unfold lgtConstants; simp [hevq, hlgt]

@[simp] theorem lgtCatch_keeps (m : Parts) (hevq : m.evq = true) (hlgt : m.lgt = true) (s : State) :
    masked m (lgtCatch s) = masked m s := by
  unfold lgtCatch; simp [hevq, hlgt]

@[simp] theorem lgtInputs_keeps (m : Parts) (hlgt : m.lgt = true) (s : State) (inp : Tab LightInput) :
    masked m (lgtInputs s inp) = masked m s := by
  unfold lgtInputs; simp [hlgt]

@[simp] theorem lgtHours_keeps (m : Parts) (hlgt : m.lgt = true) (s : State) :
    masked m (lgtHours s) = masked m s := by
  unfold lgtHours; simp [hlgt]

@[simp] theorem lgtDrive_keeps (m : Parts) (hlgt : m.lgt = true) (s : State) :
    masked m (lgtDrive s) = masked m s := by
  unfold lgtDrive; simp [hlgt]

@[simp] theorem publishChan_keeps (m : Parts) (hevq : m.evq = true) (hlgt : m.lgt = true) (s : State) (p : Nat × ChanOut) :
    masked m (publishChan s p) = masked m s := by
  unfold publishChan; simp only []; (repeat' split) <;> simp [hevq, hlgt]

@[simp] theorem refuseRecord_keeps (m : Parts) (hlgt : m.lgt = true) (s : State) (c : Nat) :
    masked m (refuseRecord s c) = masked m s := by
  unfold refuseRecord; simp [hlgt]

@[simp] theorem lgtPublish_keeps (m : Parts) (hevq : m.evq = true) (hlgt : m.lgt = true) (s : State) (cyc : Nat) :
    masked m (lgtPublish s cyc) = masked m s := by
  unfold lgtPublish; (repeat' split) <;> simp [hevq, hlgt]

@[simp] theorem lgtDiscard_keeps (m : Parts) (hlgt : m.lgt = true) (s : State) :
    masked m (lgtDiscard s) = masked m s := by
  unfold lgtDiscard; simp [hlgt]

@[simp] theorem hoursSaved_keeps (m : Parts) (hlgt : m.lgt = true) (hledr : m.ledr = true) (hledBad : m.ledBad = true) (s : State) :
    masked m (hoursSaved s) = masked m s := by
  unfold hoursSaved; (repeat' split) <;> simp [hlgt, hledr, hledBad]

@[simp] theorem hoursSave_keeps (m : Parts) (hlgt : m.lgt = true) (hledr : m.ledr = true) (hledBad : m.ledBad = true) (s : State) :
    masked m (hoursSave s) = masked m s := by
  unfold hoursSave; (repeat' split) <;> simp [hlgt, hledr, hledBad]

@[simp] theorem tempReport_keeps (m : Parts) (hlgt : m.lgt = true) (s : State) (c : Nat) (v : Int) (at_ : Nat) :
    masked m (tempReport s c v at_) = masked m s := by
  unfold tempReport; (repeat' split) <;> simp [hlgt]

@[simp] theorem tempStale_keeps (m : Parts) (htim : m.tim = true) (s : State) (c : Nat) :
    masked m (tempStale s c) = masked m s := by
  unfold tempStale; (repeat' split) <;> simp [htim]

@[simp] theorem cmdsLost_keeps (m : Parts) (hevq : m.evq = true) (s : State) :
    masked m (cmdsLost s) = masked m s := by
  unfold cmdsLost; (try simp only []); (repeat' split) <;> (refine (foldl_keeps m _ _ _ ?_).trans ?_) <;> (try intro s a) <;> (try simp only []) <;> (repeat' split) <;> simp [hevq]

@[simp] theorem lgtStationReset_keeps (m : Parts) (hevq : m.evq = true) (hlgt : m.lgt = true) (s : State) :
    masked m (lgtStationReset s) = masked m s := by
  unfold lgtStationReset; simp [hevq, hlgt]

@[simp] theorem lgtStart_keeps (m : Parts) (hlgt : m.lgt = true) (s : State) (recs : List (Nat × BinRecord)) :
    masked m (lgtStart s recs) = masked m s := by
  unfold lgtStart; simp [hlgt]

@[simp] theorem setCrs_keeps (m : Parts) (hcrs : m.crs = true) (s : State) (f : CrsState → CrsState) :
    masked m (setCrs s f) = masked m s := by
  unfold setCrs; simp [hcrs]

@[simp] theorem setMreq_keeps (m : Parts) (hcrs : m.crs = true) (s : State) (m_ : Nat) (f : MReq → MReq) :
    masked m (setMreq s m_ f) = masked m s := by
  unfold setMreq; simp [hcrs]

@[simp] theorem mreqPending_keeps (m : Parts) (hcrs : m.crs = true) (s : State) (m_ : Nat) :
    masked m (mreqPending s m_) = masked m s := by
  unfold mreqPending; simp [hcrs]

@[simp] theorem mreqCancel_keeps (m : Parts) (hcrs : m.crs = true) (s : State) (m_ : Nat) :
    masked m (mreqCancel s m_) = masked m s := by
  unfold mreqCancel; simp [hcrs]

@[simp] theorem modeAtBoundary_keeps (m : Parts) (hcfg : m.cfg = true) (hevq : m.evq = true) (hcrs : m.crs = true) (s : State) :
    masked m (modeAtBoundary s) = masked m s := by
  unfold modeAtBoundary; simp only []; (repeat' split) <;> simp [hcfg, hevq, hcrs]

@[simp] theorem crsDues_keeps (m : Parts) (hcrs : m.crs = true) (s : State) :
    masked m (crsDues s) = masked m s := by
  unfold crsDues; simp [hcrs]

@[simp] theorem setRad_keeps (m : Parts) (hrad : m.rad = true) (s : State) (f : RadState → RadState) :
    masked m (setRad s f) = masked m s := by
  unfold setRad; simp [hrad]

@[simp] theorem setRadPort_keeps (m : Parts) (hrad : m.rad = true) (s : State) (p : Nat) (f : RadPort → RadPort) :
    masked m (setRadPort s p f) = masked m s := by
  unfold setRadPort; simp [hrad]

@[simp] theorem radCount_keeps (m : Parts) (hrad : m.rad = true) (s : State) (p : Nat) (j : Nat) :
    masked m (radCount s p j) = masked m s := by
  unfold radCount; simp [hrad]

@[simp] theorem setDuty_keeps (m : Parts) (hrad : m.rad = true) (s : State) (b : Nat) (f : DutyAcc → DutyAcc) :
    masked m (setDuty s b f) = masked m s := by
  unfold setDuty; simp [hrad]

@[simp] theorem charge_keeps (m : Parts) (hrad : m.rad = true) (s : State) (b : Nat) (p : Pool) (ms : Nat) :
    masked m (charge s b p ms) = masked m s := by
  unfold charge; simp [hrad]

@[simp] theorem shed_keeps (m : Parts) (hrad : m.rad = true) (s : State) (b : Nat) (k : Nat) :
    masked m (shed s b k) = masked m s := by
  unfold shed; simp [hrad]

@[simp] theorem chargeGeneral_keeps (m : Parts) (hrad : m.rad = true) (s : State) (b : Nat) (c : ShedCls) (ms : Nat) :
    masked m (chargeGeneral s b c ms).1 = masked m s := by
  unfold chargeGeneral; (repeat' split) <;> simp [hrad]

@[simp] theorem chargeOrShed_keeps (m : Parts) (hrad : m.rad = true) (s : State) (p : Nat) (c : ShedCls) (ms : Nat) :
    masked m (chargeOrShed s p c ms).1 = masked m s := by
  unfold chargeOrShed; simp only []; (repeat' split) <;> simp [hrad]

@[simp] theorem chargeReserve_keeps (m : Parts) (hrad : m.rad = true) (s : State) (p : Nat) (ms : Nat) :
    masked m (chargeReserve s p ms).1 = masked m s := by
  unfold chargeReserve; simp only []; (repeat' split) <;> simp [hrad]

@[simp] theorem chargeBeacon_keeps (m : Parts) (hrad : m.rad = true) (s : State) (p : Nat) :
    masked m (chargeBeacon s p) = masked m s := by
  unfold chargeBeacon; simp [hrad]

@[simp] theorem dutyRoll_keeps (m : Parts) (htim : m.tim = true) (hrad : m.rad = true) (hledr : m.ledr = true) (hledBad : m.ledBad = true)
    (s : State) :
    masked m (dutyRoll s) = masked m s := by
  unfold dutyRoll; (repeat' split) <;> simp [htim, hrad, hledr, hledBad]

end Sys2Proof.Machine
end

