-- ==== Sys2Proof/Laws/KeepsTime.lean ====
section
/-! SUPPORT. Frames of the operations of the transceivers, link security, frames and TIM: which parts of the state each may change. -/
set_option linter.unusedSimpArgs false
set_option linter.unusedVariables false
set_option Elab.async false
namespace Sys2Proof.Machine

@[simp] theorem runOp_keeps (m : Parts) (hrad : m.rad = true) (hfree : m.free = true) (s : State) (p : Nat) (op : Nat) (x : SpiArg) :
    masked m (runOp s p op x) = masked m s := by
  unfold runOp; simp [hrad, hfree]

@[simp] theorem trxInit_keeps (m : Parts) (hrad : m.rad = true) (hfree : m.free = true) (s : State) (p : Nat) :
    masked m (trxInit s p) = masked m s := by
  unfold trxInit; simp [hrad, hfree]

@[simp] theorem trxIdleOwed_keeps (m : Parts) (hrad : m.rad = true) (hfree : m.free = true) (s : State) (p : Nat) :
    masked m (trxIdleOwed s p) = masked m s := by
  unfold trxIdleOwed; (repeat' split) <;> simp [hrad, hfree]

@[simp] theorem trxReceive_keeps (m : Parts) (hrad : m.rad = true) (hfree : m.free = true) (s : State) (p : Nat) :
    masked m (trxReceive s p) = masked m s := by
  unfold trxReceive; simp [hrad, hfree]

@[simp] theorem trxRearm_keeps (m : Parts) (hrad : m.rad = true) (hfree : m.free = true) (s : State) (p : Nat) :
    masked m (trxRearm s p) = masked m s := by
  unfold trxRearm; simp [hrad, hfree]

@[simp] theorem trxRead_keeps (m : Parts) (hrad : m.rad = true) (hfree : m.free = true) (s : State) (p : Nat) (n : Nat) :
    masked m (trxRead s p n) = masked m s := by
  unfold trxRead; simp [hrad, hfree]

@[simp] theorem trxSend_keeps (m : Parts) (hrad : m.rad = true) (hfree : m.free = true) (s : State) (p : Nat) (f : AirFrame) :
    masked m (trxSend s p f) = masked m s := by
  unfold trxSend; simp [hrad, hfree]

@[simp] theorem txGo_keeps (m : Parts) (hrad : m.rad = true) (s : State) (p : Nat) (f : AirFrame) :
    masked m (txGo s p f) = masked m s := by
  unfold txGo; simp [hrad]

@[simp] theorem setSec_keeps (m : Parts) (hsec : m.sec = true) (s : State) (f : SecState → SecState) :
    masked m (setSec s f) = masked m s := by
  unfold setSec; simp [hsec]

@[simp] theorem setKeys_keeps (m : Parts) (hkeys : m.keys = true) (s : State) (f : KeyStore → KeyStore) :
    masked m (setKeys s f) = masked m s := by
  unfold setKeys; simp [hkeys]

@[simp] theorem secCount_keeps (m : Parts) (hsec : m.sec = true) (s : State) (j : Nat) :
    masked m (secCount s j) = masked m s := by
  unfold secCount; simp [hsec]

@[simp] theorem floorLostEvent_keeps (m : Parts) (hevq : m.evq = true) (hsec : m.sec = true) (s : State) (subject : Nat) (what : Nat) :
    masked m (floorLostEvent s subject what) = masked m s := by
  unfold floorLostEvent; simp [hevq, hsec]

@[simp] theorem putLink_keeps (m : Parts) (hkeys : m.keys = true) (s : State) (i : Nat) (gen : Nat) (k : Key) :
    masked m (putLink s i gen k) = masked m s := by
  unfold putLink; simp [hkeys]

@[simp] theorem dropLink_keeps (m : Parts) (hkeys : m.keys = true) (s : State) (i : Nat) (gen : Nat) :
    masked m (dropLink s i gen) = masked m s := by
  unfold dropLink; simp [hkeys]

@[simp] theorem newKey_keeps (m : Parts) (hfree : m.free = true) (s : State) :
    masked m (newKey s).1 = masked m s := by
  unfold newKey; simp [hfree]

@[simp] theorem putShared_keeps (m : Parts) (hkeys : m.keys = true) (s : State) (slot : Nat) (k : Key) :
    masked m (putShared s slot k) = masked m s := by
  unfold putShared; simp [hkeys]

@[simp] theorem floorFor_keeps (m : Parts) (hledr : m.ledr = true) (hledBad : m.ledBad = true) (s : State) (f : Nat) (c : Nat)
    (put : Nat → LedgerRad → LedgerRad) :
    masked m (floorFor s f c put).1 = masked m s := by
  unfold floorFor; (repeat' split) <;> simp [hledr, hledBad]

@[simp] theorem deviceCounter_keeps (m : Parts) (hkeys : m.keys = true) (s : State) :
    masked m (deviceCounter s).1 = masked m s := by
  unfold deviceCounter; (repeat' split) <;> simp [hkeys]

@[simp] theorem rxFloor_keeps (m : Parts) (hrad : m.rad = true) (s : State) (i : Nat) :
    masked m (rxFloor s i) = masked m s := by
  unfold rxFloor; simp [hrad]

@[simp] theorem saveRxFloor_keeps (m : Parts) (hledr : m.ledr = true) (hledBad : m.ledBad = true) (s : State) (i : Nat) :
    masked m (saveRxFloor s i).1 = masked m s := by
  unfold saveRxFloor; simp [hledr, hledBad]

@[simp] theorem rxFloorsSave_keeps (m : Parts) (hrad : m.rad = true) (hledr : m.ledr = true) (hledBad : m.ledBad = true) (s : State) :
    masked m (rxFloorsSave s) = masked m s := by
  unfold rxFloorsSave; (try simp only []); (repeat' split) <;> (refine (foldl_keeps m _ _ _ ?_).trans ?_) <;> (try intro s a) <;> (try simp only []) <;> (repeat' split) <;> simp [hrad, hledr, hledBad]

@[simp] theorem queueUni_keeps (m : Parts) (hrad : m.rad = true) (s : State) (u : Unicast) :
    masked m (queueUni s u) = masked m s := by
  unfold queueUni; (repeat' split) <;> simp [hrad]

@[simp] theorem queueCommand_keeps (m : Parts) (hrad : m.rad = true) (s : State) (i : Nat) (cmd : Nat) (data : List Byte) :
    masked m (queueCommand s i cmd data) = masked m s := by
  unfold queueCommand; (repeat' split) <;> simp [hrad]

@[simp] theorem queueKey_keeps (m : Parts) (hrad : m.rad = true) (s : State) (i : Nat) (slot : Nat) (switch_ : Nat) :
    masked m (queueKey s i slot switch_) = masked m s := by
  unfold queueKey; (repeat' split) <;> simp [hrad]

@[simp] theorem queueRekey_keeps (m : Parts) (hrad : m.rad = true) (s : State) (i : Nat) :
    masked m (queueRekey s i) = masked m s := by
  unfold queueRekey; (repeat' split) <;> simp [hrad]

@[simp] theorem startRekey_keeps (m : Parts) (hrad : m.rad = true) (hkeys : m.keys = true) (hfree : m.free = true) (s : State) (i : Nat) :
    masked m (startRekey s i) = masked m s := by
  unfold startRekey; (repeat' split) <;> simp [hrad, hkeys, hfree]

@[simp] theorem rekeyWorn_keeps (m : Parts) (hrad : m.rad = true) (hkeys : m.keys = true) (hfree : m.free = true) (s : State) (i : Nat) (c : Nat) :
    masked m (rekeyWorn s i c) = masked m s := by
  unfold rekeyWorn; (repeat' split) <;> simp [hrad, hkeys, hfree]

@[simp] theorem queueRejoin_keeps (m : Parts) (hrad : m.rad = true) (hkeys : m.keys = true) (hfree : m.free = true) (s : State) (i : Nat)
    (reqCtr : Nat) :
    masked m (queueRejoin s i reqCtr) = masked m s := by
  unfold queueRejoin; simp only []; (repeat' split) <;> simp [hrad, hkeys, hfree]

@[simp] theorem newEpochStart_keeps (m : Parts) (hrad : m.rad = true) (hkeys : m.keys = true) (hfree : m.free = true) (s : State) (i : Nat) :
    masked m (newEpochStart s i) = masked m s := by
  unfold newEpochStart; simp [hrad, hkeys, hfree]

@[simp] theorem linkCounter_keeps (m : Parts) (hrad : m.rad = true) (hkeys : m.keys = true) (hledr : m.ledr = true) (hledBad : m.ledBad = true)
    (hfree : m.free = true) (s : State) (i : Nat) :
    masked m (linkCounter s i).1 = masked m s := by
  unfold linkCounter; simp only []; (repeat' split) <;> simp [hrad, hkeys, hledr, hledBad, hfree]

@[simp] theorem rekeyDone_keeps (m : Parts) (hevq : m.evq = true) (hrad : m.rad = true) (hsec : m.sec = true) (hledr : m.ledr = true)
    (hledBad : m.ledBad = true) (s : State) (i : Nat) :
    masked m (rekeyDone s i) = masked m s := by
  unfold rekeyDone; (repeat' split) <;> simp [hevq, hrad, hsec, hledr, hledBad]

@[simp] theorem oldKeyGone_keeps (m : Parts) (hrad : m.rad = true) (hkeys : m.keys = true) (s : State) (i : Nat) :
    masked m (oldKeyGone s i) = masked m s := by
  unfold oldKeyGone; (repeat' split) <;> simp [hrad, hkeys]

@[simp] theorem linkKeyAge_keeps (m : Parts) (htim : m.tim = true) (hrad : m.rad = true) (hkeys : m.keys = true) (hfree : m.free = true) (s : State)
    (i : Nat) :
    masked m (linkKeyAge s i) = masked m s := by
  unfold linkKeyAge; (repeat' split) <;> simp [htim, hrad, hkeys, hfree]

@[simp] theorem renewShared_keeps (m : Parts) (hrad : m.rad = true) (hkeys : m.keys = true) (hfree : m.free = true) (s : State) (slot : Nat) :
    masked m (renewShared s slot) = masked m s := by
  unfold renewShared; simp [hrad, hkeys, hfree]

@[simp] theorem groupCounter_keeps (m : Parts) (hrad : m.rad = true) (hkeys : m.keys = true) (hledr : m.ledr = true) (hledBad : m.ledBad = true)
    (hfree : m.free = true) (s : State) (p : Nat) :
    masked m (groupCounter s p).1 = masked m s := by
  unfold groupCounter; simp only []; (repeat' split) <;> simp [hrad, hkeys, hledr, hledBad, hfree]

@[simp] theorem switchTo_keeps (m : Parts) (hevq : m.evq = true) (hrad : m.rad = true) (hsec : m.sec = true) (hledr : m.ledr = true) (s : State)
    (slot : Nat) :
    masked m (switchTo s slot) = masked m s := by
  unfold switchTo; (repeat' split) <;> simp [hevq, hrad, hsec, hledr]

@[simp] theorem keySwitch_keeps (m : Parts) (htim : m.tim = true) (hevq : m.evq = true) (hrad : m.rad = true) (hsec : m.sec = true)
    (hledr : m.ledr = true) (s : State) (slot : Nat) :
    masked m (keySwitch s slot) = masked m s := by
  unfold keySwitch; (repeat' split) <;> simp [htim, hevq, hrad, hsec, hledr]

@[simp] theorem oldKeyErase_keeps (m : Parts) (htim : m.tim = true) (hrad : m.rad = true) (hkeys : m.keys = true) (s : State) (slot : Nat) :
    masked m (oldKeyErase s slot) = masked m s := by
  unfold oldKeyErase; (repeat' split) <;> simp [htim, hrad, hkeys]

@[simp] theorem beaconKeyAge_keeps (m : Parts) (htim : m.tim = true) (hrad : m.rad = true) (hkeys : m.keys = true) (hfree : m.free = true)
    (s : State) :
    masked m (beaconKeyAge s) = masked m s := by
  unfold beaconKeyAge; (repeat' split) <;> simp [htim, hrad, hkeys, hfree]

@[simp] theorem rekeyLink_keeps (m : Parts) (hrad : m.rad = true) (hsec : m.sec = true) (hkeys : m.keys = true) (hfree : m.free = true) (s : State)
    (i : Nat) :
    masked m (rekeyLink s i) = masked m s := by
  unfold rekeyLink; simp [hrad, hsec, hkeys, hfree]

@[simp] theorem renewGroup_keeps (m : Parts) (hrad : m.rad = true) (hsec : m.sec = true) (hkeys : m.keys = true) (hfree : m.free = true) (s : State)
    (p : Nat) :
    masked m (renewGroup s p) = masked m s := by
  unfold renewGroup; simp [hrad, hsec, hkeys, hfree]

@[simp] theorem renewBeacon_keeps (m : Parts) (hrad : m.rad = true) (hsec : m.sec = true) (hkeys : m.keys = true) (hfree : m.free = true)
    (s : State) :
    masked m (renewBeacon s) = masked m s := by
  unfold renewBeacon; simp [hrad, hsec, hkeys, hfree]

@[simp] theorem forgetLink_keeps (m : Parts) (hrad : m.rad = true) (hsec : m.sec = true) (hkeys : m.keys = true) (s : State) (i : Nat) :
    masked m (forgetLink s i) = masked m s := by
  unfold forgetLink; simp [hrad, hsec, hkeys]

@[simp] theorem eraseDevice_keeps (m : Parts) (hsec : m.sec = true) (hkeys : m.keys = true) (s : State) (i : Nat) :
    masked m (eraseDevice s i) = masked m s := by
  unfold eraseDevice; simp [hsec, hkeys]

@[simp] theorem linkFloorLost_keeps (m : Parts) (hevq : m.evq = true) (hrad : m.rad = true) (hsec : m.sec = true) (hkeys : m.keys = true)
    (s : State) (i : Nat) :
    masked m (linkFloorLost s i) = masked m s := by
  unfold linkFloorLost; simp [hevq, hrad, hsec, hkeys]

@[simp] theorem linkFloors_keeps (m : Parts) (hevq : m.evq = true) (hrad : m.rad = true) (hsec : m.sec = true) (hkeys : m.keys = true) (s : State) :
    masked m (linkFloors s) = masked m s := by
  unfold linkFloors; (try simp only []); (repeat' split) <;> (refine (foldl_keeps m _ _ _ ?_).trans ?_) <;> (try intro s a) <;> (try simp only []) <;> (repeat' split) <;> simp [hevq, hrad, hsec, hkeys]

@[simp] theorem sharedFloorLost_keeps (m : Parts) (hevq : m.evq = true) (hrad : m.rad = true) (hsec : m.sec = true) (hkeys : m.keys = true)
    (hledr : m.ledr = true) (hfree : m.free = true) (s : State) (slot : Nat) :
    masked m (sharedFloorLost s slot) = masked m s := by
  unfold sharedFloorLost; simp [hevq, hrad, hsec, hkeys, hledr, hfree]

@[simp] theorem ensureShared_keeps (m : Parts) (hkeys : m.keys = true) (hledr : m.ledr = true) (hfree : m.free = true) (s : State) (slot : Nat) :
    masked m (ensureShared s slot) = masked m s := by
  unfold ensureShared; (repeat' split) <;> simp [hkeys, hledr, hfree]

@[simp] theorem keysStart_keeps (m : Parts) (hevq : m.evq = true) (hrad : m.rad = true) (hsec : m.sec = true) (hkeys : m.keys = true)
    (hledr : m.ledr = true) (hfree : m.free = true) (s : State) :
    masked m (keysStart s) = masked m s := by
  unfold keysStart; simp only []; (repeat' split) <;> simp [hevq, hrad, hsec, hkeys, hledr, hfree]

@[simp] theorem broadcast_keeps (m : Parts) (hrad : m.rad = true) (hkeys : m.keys = true) (hledr : m.ledr = true) (hledBad : m.ledBad = true)
    (hfree : m.free = true) (s : State) (p : Nat) (mtype : Nat) (body : List Byte) (octets : Nat) (start : Nat) :
    masked m (broadcast s p mtype body octets start).1 = masked m s := by
  unfold broadcast; simp only []; (repeat' split) <;> simp [hrad, hkeys, hledr, hledBad, hfree]

@[simp] theorem setQuality_keeps (m : Parts) (htim : m.tim = true) (hevq : m.evq = true) (s : State) (q : Quality) (acq : Bool) :
    masked m (setQuality s q acq) = masked m s := by
  unfold setQuality; simp only []; (repeat' split) <;> simp [htim, hevq]

@[simp] theorem holdCheck_keeps (m : Parts) (htim : m.tim = true) (hevq : m.evq = true) (s : State) :
    masked m (holdCheck s) = masked m s := by
  unfold holdCheck; (repeat' split) <;> simp [htim, hevq]

@[simp] theorem missUpdate_keeps (m : Parts) (htim : m.tim = true) (hevq : m.evq = true) (s : State) :
    masked m (missUpdate s) = masked m s := by
  unfold missUpdate; simp only []; (repeat' split) <;> simp [htim, hevq]

@[simp] theorem judgeErr_keeps (m : Parts) (htim : m.tim = true) (hevq : m.evq = true) (s : State) (err : Int) :
    masked m (judgeErr s err) = masked m s := by
  unfold judgeErr; simp only []; (repeat' split) <;> simp [htim, hevq]

@[simp] theorem programStep_keeps (m : Parts) (htim : m.tim = true) (s : State) (err : Int) :
    masked m (programStep s err) = masked m s := by
  unfold programStep; simp [htim]

@[simp] theorem servoUpdate_keeps (m : Parts) (htim : m.tim = true) (hevq : m.evq = true) (s : State) (c : Option Sample) :
    masked m (servoUpdate s c) = masked m s := by
  unfold servoUpdate; simp only []; (repeat' split) <;> simp [htim, hevq]

@[simp] theorem rateApply_keeps (m : Parts) (htim : m.tim = true) (s : State) :
    masked m (rateApply s) = masked m s := by
  unfold rateApply; (repeat' split) <;> simp [htim]

@[simp] theorem timSave_keeps (m : Parts) (htim : m.tim = true) (hled : m.led = true) (s : State) :
    masked m (timSave s) = masked m s := by
  unfold timSave; simp [htim, hled]

@[simp] theorem timSaved_keeps (m : Parts) (htim : m.tim = true) (hledBad : m.ledBad = true) (hled : m.led = true) (s : State) :
    masked m (timSaved s) = masked m s := by
  unfold timSaved; simp [htim, hledBad, hled]

@[simp] theorem setCmp_keeps (m : Parts) (htim : m.tim = true) (s : State) (n : Nat) (f : CmpUnit → CmpUnit) :
    masked m (setCmp s n f) = masked m s := by
  unfold setCmp; simp [htim]

@[simp] theorem cmpReport_keeps (m : Parts) (hevq : m.evq = true) (s : State) (n : Nat) :
    masked m (cmpReport s n) = masked m s := by
  unfold cmpReport; simp only []; (repeat' split) <;> simp [hevq]

@[simp] theorem issueEdge_keeps (m : Parts) (htim : m.tim = true) (hevq : m.evq = true) (s : State) (n : Nat) (e : Nat) :
    masked m (issueEdge s n e) = masked m s := by
  unfold issueEdge; simp only []; (repeat' split) <;> simp [htim, hevq]

@[simp] theorem compareEdge_keeps (m : Parts) (htim : m.tim = true) (hevq : m.evq = true) (s : State) (n : Nat) :
    masked m (compareEdge s n) = masked m s := by
  unfold compareEdge; simp only []; (repeat' split) <;> simp [htim, hevq]

@[simp] theorem pulseEnd_keeps (m : Parts) (htim : m.tim = true) (s : State) (n : Nat) :
    masked m (pulseEnd s n) = masked m s := by
  unfold pulseEnd; (repeat' split) <;> simp [htim]

@[simp] theorem cmpArm_keeps (m : Parts) (htim : m.tim = true) (hevq : m.evq = true) (s : State) (n : Nat) :
    masked m (cmpArm s n) = masked m s := by
  unfold cmpArm; simp only []; (repeat' split) <;> simp [htim, hevq]

@[simp] theorem cmpDisarm_keeps (m : Parts) (htim : m.tim = true) (s : State) (n : Nat) :
    masked m (cmpDisarm s n) = masked m s := by
  unfold cmpDisarm; simp [htim]

@[simp] theorem cmpStep_keeps (m : Parts) (htim : m.tim = true) (hevq : m.evq = true) (s : State) (n : Nat) (b : Nat) (t : Nat) :
    masked m (cmpStep s n b t) = masked m s := by
  unfold cmpStep; simp only []; (repeat' split) <;> simp [htim, hevq]

@[simp] theorem cmpSteps_keeps (m : Parts) (htim : m.tim = true) (hevq : m.evq = true) (s : State) (b : Nat) (t : Nat) :
    masked m (cmpSteps s b t) = masked m s := by
  unfold cmpSteps; simp [htim, hevq]

@[simp] theorem agingRestarts_keeps (m : Parts) (hrtc : m.rtc = true) (s : State) :
    masked m (agingRestarts s) = masked m s := by
  unfold agingRestarts; simp [hrtc]

@[simp] theorem applyStep_keeps (m : Parts) (htim : m.tim = true) (hrtc : m.rtc = true) (hevq : m.evq = true) (hledBad : m.ledBad = true)
    (hled : m.led = true) (s : State) (amt : Int) :
    masked m (applyStep s amt) = masked m s := by
  unfold applyStep; (repeat' split) <;> simp [htim, hrtc, hevq, hledBad, hled]

@[simp] theorem stepAtBoundary_keeps (m : Parts) (htim : m.tim = true) (hrtc : m.rtc = true) (hevq : m.evq = true) (hledBad : m.ledBad = true)
    (hled : m.led = true) (s : State) :
    masked m (stepAtBoundary s) = masked m s := by
  unfold stepAtBoundary; simp only []; (repeat' split) <;> simp [htim, hrtc, hevq, hledBad, hled]

@[simp] theorem leapAtMidnight_keeps (m : Parts) (htim : m.tim = true) (s : State) :
    masked m (leapAtMidnight s) = masked m s := by
  unfold leapAtMidnight; (repeat' split) <;> simp [htim]

@[simp] theorem forwardCapture_keeps (m : Parts) (hevq : m.evq = true) (hledBad : m.ledBad = true) (hled : m.led = true) (s : State) (c : Capture) :
    masked m (forwardCapture s c) = masked m s := by
  unfold forwardCapture; simp [hevq, hledBad, hled]

@[simp] theorem forwardCaptures_keeps (m : Parts) (htim : m.tim = true) (hevq : m.evq = true) (hledBad : m.ledBad = true) (hled : m.led = true)
    (s : State) :
    masked m (forwardCaptures s) = masked m s := by
  unfold forwardCaptures; simp [htim, hevq, hledBad, hled]

@[simp] theorem captureEdge_keeps (m : Parts) (htim : m.tim = true) (s : State) (n : Nat) (rising : Bool) (wide : Bool) (taps : Nat) :
    masked m (captureEdge s n rising wide taps) = masked m s := by
  unfold captureEdge; simp only []; (repeat' split) <;> simp [htim]

@[simp] theorem takeUtc_keeps (m : Parts) (htim : m.tim = true) (s : State) (m_ : AnnounceMsg) :
    masked m (takeUtc s m_) = masked m s := by
  unfold takeUtc; simp [htim]

@[simp] theorem selectMaster_keeps (m : Parts) (htim : m.tim = true) (hevq : m.evq = true) (s : State) :
    masked m (selectMaster s) = masked m s := by
  unfold selectMaster; simp only []; (repeat' split) <;> simp [htim, hevq]

@[simp] theorem ptpCount_keeps (m : Parts) (htim : m.tim = true) (s : State) (j : Nat) :
    masked m (ptpCount s j) = masked m s := by
  unfold ptpCount; simp [htim]

@[simp] theorem announceReceive_keeps (m : Parts) (htim : m.tim = true) (hevq : m.evq = true) (s : State) (m_ : AnnounceMsg) :
    masked m (announceReceive s m_) = masked m s := by
  unfold announceReceive; (repeat' split) <;> simp [htim, hevq]

@[simp] theorem announceTimeout_keeps (m : Parts) (htim : m.tim = true) (hevq : m.evq = true) (s : State) :
    masked m (announceTimeout s) = masked m s := by
  unfold announceTimeout; (repeat' split) <;> simp [htim, hevq]

@[simp] theorem takeSample_keeps (m : Parts) (htim : m.tim = true) (s : State) (p : Nat) (t1 : Int) (c : Int) (t2 : Int) :
    masked m (takeSample s p t1 c t2) = masked m s := by
  unfold takeSample; simp only []; (repeat' split) <;> simp [htim]

@[simp] theorem syncReceive_keeps (m : Parts) (htim : m.tim = true) (s : State) (src : PtpSrc) (twoStep : Bool) (t1 : Int) (corr : Int) :
    masked m (syncReceive s src twoStep t1 corr) = masked m s := by
  unfold syncReceive; simp only []; (repeat' split) <;> simp [htim]

@[simp] theorem followUpReceive_keeps (m : Parts) (htim : m.tim = true) (s : State) (src : PtpSrc) (t1 : Int) (corr : Int) :
    masked m (followUpReceive s src t1 corr) = masked m s := by
  unfold followUpReceive; simp only []; (repeat' split) <;> simp [htim]

@[simp] theorem delayRespReceive_keeps (m : Parts) (htim : m.tim = true) (s : State) (src : PtpSrc) (t4 : Int) (corr : Int) :
    masked m (delayRespReceive s src t4 corr) = masked m s := by
  unfold delayRespReceive; simp only []; (repeat' split) <;> simp [htim]

@[simp] theorem pdelayRespReceive_keeps (m : Parts) (htim : m.tim = true) (s : State) (src : PtpSrc) (turn : Int) (corr : Int) :
    masked m (pdelayRespReceive s src turn corr) = masked m s := by
  unfold pdelayRespReceive; simp only []; (repeat' split) <;> simp [htim]

@[simp] theorem timeInit_keeps (m : Parts) (htim : m.tim = true) (s : State) :
    masked m (timeInit s) = masked m s := by
  unfold timeInit; simp only []; (repeat' split) <;> simp [htim]

@[simp] theorem timStationReset_keeps (m : Parts) (htim : m.tim = true) (hevq : m.evq = true) (s : State) :
    masked m (timStationReset s) = masked m s := by
  unfold timStationReset; simp [htim, hevq]

@[simp] theorem headRequest_keeps (m : Parts) (htim : m.tim = true) (s : State) :
    masked m (headRequest s) = masked m s := by
  unfold headRequest; simp [htim]

end Sys2Proof.Machine
end

