-- ==== Sys2Proof/Laws/KeepsService.lean ====
section
/-! SUPPORT. Frames of the operations of ETH and the VTP service: which parts of the state each may change. -/
set_option linter.unusedSimpArgs false
set_option linter.unusedVariables false
set_option Elab.async false
namespace Sys2Proof.Machine

@[simp] theorem setPort_keeps (m : Parts) (heth : m.eth = true) (s : State) (p : Nat) (f : EthPort → EthPort) :
    masked m (setPort s p f) = masked m s := by
  unfold setPort; simp [heth]

@[simp] theorem ethCount_keeps (m : Parts) (heth : m.eth = true) (s : State) (p : Nat) (j : Nat) :
    masked m (ethCount s p j) = masked m s := by
  unfold ethCount; simp [heth]

@[simp] theorem ipCount_keeps (m : Parts) (hvtp : m.vtp = true) (s : State) (j : Nat) :
    masked m (ipCount s j) = masked m s := by
  unfold ipCount; simp [hvtp]

@[simp] theorem verifyRestart_keeps (m : Parts) (heth : m.eth = true) (s : State) (p : Nat) :
    masked m (verifyRestart s p) = masked m s := by
  unfold verifyRestart; simp [heth]

@[simp] theorem dropQueued_keeps (m : Parts) (heth : m.eth = true) (s : State) (p : Nat) :
    masked m (dropQueued s p) = masked m s := by
  unfold dropQueued; simp [heth]

@[simp] theorem replyLeft_keeps (m : Parts) (hvtp : m.vtp = true) (s : State) (ses : Nat) (tid : Nat) :
    masked m (replyLeft s ses tid) = masked m s := by
  unfold replyLeft; simp [hvtp]

@[simp] theorem forgetReplies_keeps (m : Parts) (hvtp : m.vtp = true) (s : State) (items : List TxItem) :
    masked m (forgetReplies s items) = masked m s := by
  unfold forgetReplies; (try simp only []); (repeat' split) <;> (refine (foldl_keeps m _ _ _ ?_).trans ?_) <;> (try intro s a) <;> (try simp only []) <;> (repeat' split) <;> simp [hvtp]

@[simp] theorem discardReplies_keeps (m : Parts) (heth : m.eth = true) (s : State) (ses : Nat) :
    masked m (discardReplies s ses) = masked m s := by
  unfold discardReplies; simp [heth]

@[simp] theorem relink_keeps (m : Parts) (hvtp : m.vtp = true) (heth : m.eth = true) (hevq : m.evq = true) (s : State) (p : Nat) :
    masked m (relink s p) = masked m s := by
  unfold relink; simp only []; (repeat' split) <;> simp [hvtp, heth, hevq]

@[simp] theorem linkChange_keeps (m : Parts) (hvtp : m.vtp = true) (heth : m.eth = true) (hevq : m.evq = true) (s : State) (p : Nat) (los : Bool)
    (sync : Bool) (an : Bool) (phy : Bool) :
    masked m (linkChange s p los sync an phy) = masked m s := by
  unfold linkChange; simp [hvtp, heth, hevq]

@[simp] theorem mdioPoll_keeps (m : Parts) (hvtp : m.vtp = true) (heth : m.eth = true) (hevq : m.evq = true) (s : State) (links : List Bool) :
    masked m (mdioPoll s links) = masked m s := by
  unfold mdioPoll; (try simp only []); (repeat' split) <;> (refine (foldl_keeps m _ _ _ ?_).trans ?_) <;> (try intro s a) <;> (try simp only []) <;> (repeat' split) <;> simp [hvtp, heth, hevq]

@[simp] theorem mdioTmo_keeps (m : Parts) (hvtp : m.vtp = true) (heth : m.eth = true) (hevq : m.evq = true) (s : State) (p : Nat) (headEnd : Bool) :
    masked m (mdioTmo s p headEnd) = masked m s := by
  unfold mdioTmo; simp only []; (repeat' split) <;> simp [hvtp, heth, hevq]

@[simp] theorem verifyTimeout_keeps (m : Parts) (heth : m.eth = true) (s : State) (p : Nat) :
    masked m (verifyTimeout s p) = masked m s := by
  unfold verifyTimeout; simp only []; (repeat' split) <;> simp [heth]

@[simp] theorem ethQueue_keeps (m : Parts) (heth : m.eth = true) (s : State) (p : Nat) (tq : Nat) (f : TxFrame) :
    masked m (ethQueue s p tq f).1 = masked m s := by
  unfold ethQueue; simp only []; (repeat' split) <;> simp [heth]

@[simp] theorem tcEgress_keeps (m : Parts) (heth : m.eth = true) (s : State) (p : Nat) (o : List Byte) (from_ : Nat) (ingress : Int) :
    masked m (tcEgress s p o from_ ingress).1 = masked m s := by
  unfold tcEgress; simp [heth]

@[simp] theorem leaves_keeps (m : Parts) (hvtp : m.vtp = true) (htim : m.tim = true) (heth : m.eth = true) (s : State) (p : Nat) (i : TxItem) :
    masked m (leaves s p i).1 = masked m s := by
  unfold leaves; (repeat' split) <;> simp [hvtp, htim, heth]

@[simp] theorem writeTxDesc_keeps (m : Parts) (hmem : m.mem = true) (s : State) (p : Nat) (tq : Nat) (f : TxFrame) (k : Nat) :
    masked m (writeTxDesc s p tq f k) = masked m s := by
  unfold writeTxDesc; simp [hmem]

@[simp] theorem writeTxDescs_keeps (m : Parts) (hmem : m.mem = true) (s : State) (p : Nat) (tq : Nat) (f : TxFrame) :
    masked m (writeTxDescs s p tq f) = masked m s := by
  unfold writeTxDescs; simp [hmem]

@[simp] theorem startFrame_keeps (m : Parts) (hvtp : m.vtp = true) (htim : m.tim = true) (heth : m.eth = true) (hmem : m.mem = true) (s : State)
    (p : Nat) (tq : Nat) (f : TxFrame) (at_ : Nat) :
    masked m (startFrame s p tq f at_) = masked m s := by
  unfold startFrame; simp [hvtp, htim, heth, hmem]

@[simp] theorem frameEnds_keeps (m : Parts) (heth : m.eth = true) (s : State) (p : Nat) (x : Sending) :
    masked m (frameEnds s p x) = masked m s := by
  unfold frameEnds; (repeat' split) <;> simp [heth]

@[simp] theorem settle_keeps (m : Parts) (heth : m.eth = true) (s : State) (p : Nat) :
    masked m (settle s p) = masked m s := by
  unfold settle; (repeat' split) <;> simp [heth]

@[simp] theorem startNext_keeps (m : Parts) (hvtp : m.vtp = true) (htim : m.tim = true) (heth : m.eth = true) (hmem : m.mem = true) (s : State)
    (p : Nat) (at_ : Nat) :
    masked m (startNext s p at_) = masked m s := by
  unfold startNext; simp only []; (repeat' split) <;> simp [hvtp, htim, heth, hmem]

@[simp] theorem preempt_keeps (m : Parts) (hvtp : m.vtp = true) (htim : m.tim = true) (heth : m.eth = true) (hmem : m.mem = true) (s : State)
    (p : Nat) (x : Sending) (at_ : Nat) (f : TxFrame) :
    masked m (preempt s p x at_ f) = masked m s := by
  unfold preempt; simp [hvtp, htim, heth, hmem]

@[simp] theorem ethTransmit_keeps (m : Parts) (hvtp : m.vtp = true) (htim : m.tim = true) (heth : m.eth = true) (hmem : m.mem = true) (s : State)
    (p : Nat) :
    masked m (ethTransmit s p) = masked m s := by
  unfold ethTransmit; simp only []; (repeat' split) <;> simp [hvtp, htim, heth, hmem]

@[simp] theorem creditAboveZero_keeps (m : Parts) (hvtp : m.vtp = true) (htim : m.tim = true) (heth : m.eth = true) (hmem : m.mem = true)
    (s : State) (p : Nat) :
    masked m (creditAboveZero s p) = masked m s := by
  unfold creditAboveZero; simp only []; (repeat' split) <;> simp [hvtp, htim, heth, hmem]

@[simp] theorem tcForward_keeps (m : Parts) (heth : m.eth = true) (s : State) (p : Nat) (o : List Byte) (t : Nat) :
    masked m (tcForward s p o t) = masked m s := by
  unfold tcForward; simp [heth]

@[simp] theorem police_keeps (m : Parts) (heth : m.eth = true) (s : State) (r : Option (Nat × EthRule)) (len : Nat) :
    masked m (police s r len).1 = masked m s := by
  unfold police; simp only []; (repeat' split) <;> simp [heth]

@[simp] theorem writeBuffer_keeps (m : Parts) (hmem : m.mem = true) (s : State) (p : Nat) (q : Nat) (size : Nat) (head : Nat) (n : Nat) (rule : Nat)
    (o : List Byte) (pre : Bool) (fwd : Bool) (k : Nat) :
    masked m (writeBuffer s p q size head n rule o pre fwd k) = masked m s := by
  unfold writeBuffer; simp [hmem]

@[simp] theorem commitFrame_keeps (m : Parts) (heth : m.eth = true) (hmem : m.mem = true) (s : State) (p : Nat) (q : Nat) (rule : Nat)
    (o : List Byte) (pre : Bool) (fwd : Bool) :
    masked m (commitFrame s p q rule o pre fwd) = masked m s := by
  unfold commitFrame; simp [heth, hmem]

@[simp] theorem ringDrop_keeps (m : Parts) (heth : m.eth = true) (s : State) (p : Nat) (q : Nat) :
    masked m (ringDrop s p q) = masked m s := by
  unfold ringDrop; simp [heth]

@[simp] theorem learn_keeps (m : Parts) (heth : m.eth = true) (s : State) (p : Nat) (ip : Nat) (mac : Nat) :
    masked m (learn s p ip mac) = masked m s := by
  unfold learn; simp [heth]

@[simp] theorem stackAnswer_keeps (m : Parts) (heth : m.eth = true) (s : State) (p : Nat) (kind : Nat) (d : List Byte) :
    masked m (stackAnswer s p kind d) = masked m s := by
  unfold stackAnswer; simp [heth]

@[simp] theorem echoAnswer_keeps (m : Parts) (hvtp : m.vtp = true) (heth : m.eth = true) (s : State) (p : Nat) (d : List Byte) :
    masked m (echoAnswer s p d) = masked m s := by
  unfold echoAnswer; simp only []; (repeat' split) <;> simp [hvtp, heth]

@[simp] theorem askFor_keeps (m : Parts) (heth : m.eth = true) (s : State) (p : Nat) (ipv6 : Bool) (a : Nat) :
    masked m (askFor s p ipv6 a) = masked m s := by
  unfold askFor; (repeat' split) <;> simp [heth]

@[simp] theorem ipv4In_keeps (m : Parts) (hvtp : m.vtp = true) (heth : m.eth = true) (s : State) (p : Nat) (d : List Byte) :
    masked m (ipv4In s p d) = masked m s := by
  unfold ipv4In; simp only []; (repeat' split) <;> simp [hvtp, heth]

@[simp] theorem ipv6In_keeps (m : Parts) (hvtp : m.vtp = true) (heth : m.eth = true) (s : State) (p : Nat) (d : List Byte) :
    masked m (ipv6In s p d) = masked m s := by
  unfold ipv6In; simp only []; (repeat' split) <;> simp [hvtp, heth]

@[simp] theorem stackIn_keeps (m : Parts) (hvtp : m.vtp = true) (heth : m.eth = true) (s : State) (p : Nat) (o : List Byte) :
    masked m (stackIn s p o) = masked m s := by
  unfold stackIn; simp only []; (repeat' split) <;> simp [hvtp, heth]

@[simp] theorem receiveTo_keeps (m : Parts) (hvtp : m.vtp = true) (heth : m.eth = true) (hmem : m.mem = true) (s : State) (p : Nat) (r : Option
    (Nat × EthRule)) (o : List Byte) (fcsOk : Bool) (pre : Bool) (fwd : Bool) :
    masked m (receiveTo s p r o fcsOk pre fwd) = masked m s := by
  unfold receiveTo; simp only []; (repeat' split) <;> simp [hvtp, heth, hmem]

@[simp] theorem ruleForward_keeps (m : Parts) (heth : m.eth = true) (s : State) (p : Nat) (r : Option (Nat × EthRule)) (o : List Byte) :
    masked m (ruleForward s p r o).1 = masked m s := by
  unfold ruleForward; simp only []; (repeat' split) <;> simp [heth]

@[simp] theorem actionDrop_keeps (m : Parts) (heth : m.eth = true) (s : State) (p : Nat) (r : Option (Nat × EthRule)) :
    masked m (actionDrop s p r) = masked m s := by
  unfold actionDrop; (repeat' split) <;> simp [heth]

@[simp] theorem frameIn_keeps (m : Parts) (hvtp : m.vtp = true) (heth : m.eth = true) (hmem : m.mem = true) (s : State) (p : Nat) (o : List Byte)
    (fcsOk pre : Bool) : masked m (frameIn s p o fcsOk pre) = masked m s := by
  unfold frameIn
  split
  · simp [heth]
  · split
    · simp [heth]
    · extract_lets tc s1 r act fwd own src s2 good sent s3
      have h1 : masked m s1 = masked m s := by
        have hm : ∀ x : Option Nat, masked m (match x with | some t => tcForward s p o t | none => s) = masked m s := by
          intro x; cases x <;> simp [heth]
        exact hm tc
      have h2 : masked m s2 = masked m s1 := by
        have hm : ∀ x : Option (Nat × EthRule), masked m (match x with
            | some (i, _) => { s1 with eth := { s1.eth with hits := bump s1.eth.hits i } } | none => s1) = masked m s1 := by
          intro x; cases x <;> simp [heth]
        exact hm r
      rw [h1] at h2
      have h3 : masked m s3 = masked m s := by simp only [s3, sent]; split <;> simp [heth, h2]
      split
      · split
        · exact h1
        · simp [heth, h1]
      · split
        · rw [actionDrop_keeps m heth]; exact h3
        · split
          · exact h3
          · split
            · split
              · exact h3
              · simp [heth, h3]
            · simp [hvtp, heth, hmem, h3]

@[simp] theorem assyError_keeps (m : Parts) (heth : m.eth = true) (s : State) (p : Nat) :
    masked m (assyError s p) = masked m s := by
  unfold assyError; simp [heth]

@[simp] theorem assyTake_keeps (m : Parts) (hvtp : m.vtp = true) (heth : m.eth = true) (hmem : m.mem = true) (s : State) (p : Nat) (smd : Nat)
    (frag : Nat) (o : List Byte) (last : Bool) (crcOk : Bool) :
    masked m (assyTake s p smd frag o last crcOk) = masked m s := by
  unfold assyTake; (repeat' split) <;> simp [hvtp, heth, hmem]

@[simp] theorem mPacketStart_keeps (m : Parts) (hvtp : m.vtp = true) (heth : m.eth = true) (hmem : m.mem = true) (s : State) (p : Nat) (smd : Nat)
    (o : List Byte) (last : Bool) (crcOk : Bool) :
    masked m (mPacketStart s p smd o last crcOk) = masked m s := by
  unfold mPacketStart; (repeat' split) <;> simp [hvtp, heth, hmem]

@[simp] theorem mPacketCont_keeps (m : Parts) (hvtp : m.vtp = true) (heth : m.eth = true) (hmem : m.mem = true) (s : State) (p : Nat) (smd : Nat)
    (frag : Nat) (o : List Byte) (last : Bool) (crcOk : Bool) :
    masked m (mPacketCont s p smd frag o last crcOk) = masked m s := by
  unfold mPacketCont; (repeat' split) <;> simp [hvtp, heth, hmem]

@[simp] theorem ethReceive_keeps (m : Parts) (hvtp : m.vtp = true) (heth : m.eth = true) (hmem : m.mem = true) (s : State) (p : Nat) (x : EthRx) :
    masked m (ethReceive s p x) = masked m s := by
  unfold ethReceive; (repeat' split) <;> simp [hvtp, heth, hmem]

@[simp] theorem ringsServed_keeps (m : Parts) (heth : m.eth = true) (s : State) :
    masked m (ringsServed s) = masked m s := by
  unfold ringsServed; simp [heth]

@[simp] theorem ethStationReset_keeps (m : Parts) (hvtp : m.vtp = true) (heth : m.eth = true) (s : State) :
    masked m (ethStationReset s) = masked m s := by
  unfold ethStationReset; simp [hvtp, heth]

@[simp] theorem mdioGo_keeps (m : Parts) (heth : m.eth = true) (s : State) (w : Word) (data : Nat) :
    masked m (mdioGo s w data) = masked m s := by
  unfold mdioGo; simp [heth]

@[simp] theorem setSess_keeps (m : Parts) (hvtp : m.vtp = true) (s : State) (i : Nat) (f : Session → Session) :
    masked m (setSess s i f) = masked m s := by
  unfold setSess; simp [hvtp]

@[simp] theorem closeSession_keeps (m : Parts) (hvtp : m.vtp = true) (heth : m.eth = true) (hevq : m.evq = true) (s : State) (i : Nat) :
    masked m (closeSession s i) = masked m s := by
  unfold closeSession; simp only []; (repeat' split) <;> simp [hvtp, heth, hevq]

@[simp] theorem openSession_keeps (m : Parts) (hvtp : m.vtp = true) (s : State) (i : Nat) (port : Nat) (peer : Nat) (ipv6 : Bool) :
    masked m (openSession s i port peer ipv6) = masked m s := by
  unfold openSession; simp [hvtp]

@[simp] theorem dtlsSend_keeps (m : Parts) (heth : m.eth = true) (s : State) (port : Nat) (kind : Nat) (peer : Nat) :
    masked m (dtlsSend s port kind peer) = masked m s := by
  unfold dtlsSend; simp [heth]

@[simp] theorem refuseHello_keeps (m : Parts) (hvtp : m.vtp = true) (heth : m.eth = true) (s : State) (port : Nat) (peer : Nat) :
    masked m (refuseHello s port peer) = masked m s := by
  unfold refuseHello; simp [hvtp, heth]

@[simp] theorem helloAccepted_keeps (m : Parts) (hvtp : m.vtp = true) (s : State) (port : Nat) :
    masked m (helloAccepted s port).1 = masked m s := by
  unfold helloAccepted; simp [hvtp]

@[simp] theorem clientHello_keeps (m : Parts) (hvtp : m.vtp = true) (heth : m.eth = true) (s : State) (port : Nat) (peer : Nat) (ipv6 : Bool)
    (cookie : Bool) (resume : Bool) :
    masked m (clientHello s port peer ipv6 cookie resume) = masked m s := by
  unfold clientHello; simp only []; (repeat' split) <;> simp [hvtp, heth]

@[simp] theorem handshakeEnd_keeps (m : Parts) (hvtp : m.vtp = true) (heth : m.eth = true) (s : State) (port : Nat) (peer : Nat) (signedBy : KeyId)
    (p256 : Bool) (notBefore : Nat) (notAfter : Nat) :
    masked m (handshakeEnd s port peer signedBy p256 notBefore notAfter) = masked m s := by
  unfold handshakeEnd; simp only []; (repeat' split) <;> simp [hvtp, heth]

@[simp] theorem handshakeTimeout_keeps (m : Parts) (hvtp : m.vtp = true) (htim : m.tim = true) (s : State) (port : Nat) (peer : Nat) :
    masked m (handshakeTimeout s port peer) = masked m s := by
  unfold handshakeTimeout; (repeat' split) <;> simp [hvtp, htim]

@[simp] theorem sessionClose_keeps (m : Parts) (hvtp : m.vtp = true) (heth : m.eth = true) (hevq : m.evq = true) (s : State) (i : Nat) :
    masked m (sessionClose s i) = masked m s := by
  unfold sessionClose; (repeat' split) <;> simp [hvtp, heth, hevq]

@[simp] theorem sessionIdle_keeps (m : Parts) (hvtp : m.vtp = true) (htim : m.tim = true) (heth : m.eth = true) (hevq : m.evq = true) (s : State)
    (i : Nat) :
    masked m (sessionIdle s i) = masked m s := by
  unfold sessionIdle; simp only []; (repeat' split) <;> simp [hvtp, htim, heth, hevq]

@[simp] theorem peersAsked_keeps (m : Parts) (heth : m.eth = true) (s : State) :
    masked m (peersAsked s) = masked m s := by
  unfold peersAsked; (try simp only []); (repeat' split) <;> first | (simp [heth] <;> fail) | ((refine (foldl_keeps m _ _ _ ?_).trans ?_) <;> (try intro s a) <;> (try simp only []) <;> (repeat' split) <;> simp [heth])

@[simp] theorem srvEnRise_keeps (m : Parts) (hvtp : m.vtp = true) (heth : m.eth = true) (hevq : m.evq = true) (hpins : m.pins = true) (s : State) :
    masked m (srvEnRise s) = masked m s := by
  unfold srvEnRise; simp only []; (repeat' split) <;> simp [hvtp, heth, hevq, hpins]

@[simp] theorem srvEnFall_keeps (m : Parts) (hvtp : m.vtp = true) (heth : m.eth = true) (hevq : m.evq = true) (hpins : m.pins = true) (s : State) :
    masked m (srvEnFall s) = masked m s := by
  unfold srvEnFall; simp only []; (repeat' split) <;> simp [hvtp, heth, hevq, hpins]

@[simp] theorem baudRevert_keeps (m : Parts) (hvtp : m.vtp = true) (htim : m.tim = true) (s : State) :
    masked m (baudRevert s) = masked m s := by
  unfold baudRevert; (repeat' split) <;> simp [hvtp, htim]

@[simp] theorem serviceDropped_keeps (m : Parts) (hvtp : m.vtp = true) (s : State) :
    masked m (serviceDropped s) = masked m s := by
  unfold serviceDropped; (repeat' split) <;> simp [hvtp]

@[simp] theorem sendReply_keeps (m : Parts) (hvtp : m.vtp = true) (heth : m.eth = true) (s : State) (i : Nat) (r : VtpReply) (counts : Bool) :
    masked m (sendReply s i r counts) = masked m s := by
  unfold sendReply; simp only []; (repeat' split) <;> simp [hvtp, heth]

@[simp] theorem limitCount_keeps (m : Parts) (hvtp : m.vtp = true) (s : State) (i : Nat) (e : Err) :
    masked m (limitCount s i e) = masked m s := by
  unfold limitCount; (repeat' split) <;> simp [hvtp]

@[simp] theorem refuse_keeps (m : Parts) (hvtp : m.vtp = true) (heth : m.eth = true) (s : State) (q : VtpReq) (e : Err) :
    masked m (refuse s q e) = masked m s := by
  unfold refuse; simp [hvtp, heth]

@[simp] theorem updCleared_keeps (m : Parts) (hupd : m.upd = true) (s : State) :
    masked m (updCleared s) = masked m s := by
  unfold updCleared; simp [hupd]

@[simp] theorem updPowered_keeps (m : Parts) (hstns : m.stns = true) (hpwr : m.pwr = true) (hupd : m.upd = true) (s : State) :
    masked m (updPowered s) = masked m s := by
  unfold updPowered; (repeat' split) <;> simp [hstns, hpwr, hupd]

@[simp] theorem updUse_keeps (m : Parts) (hstns : m.stns = true) (hpwr : m.pwr = true) (hupd : m.upd = true) (s : State) :
    masked m (updUse s) = masked m s := by
  unfold updUse; simp only []; (repeat' split) <;> simp [hstns, hpwr, hupd]

@[simp] theorem received_keeps (m : Parts) (hvtp : m.vtp = true) (s : State) (q : VtpReq) :
    masked m (received s q) = masked m s := by
  unfold received; simp only []; (repeat' split) <;> simp [hvtp]

@[simp] theorem takeToken_keeps (m : Parts) (hvtp : m.vtp = true) (s : State) (i : Nat) :
    masked m (takeToken s i) = masked m s := by
  unfold takeToken; simp [hvtp]

@[simp] theorem callReq_station (c : CallMeta) (n op : Nat) (a : List Byte) : (callReq c n op a).station = n := rfl

theorem atServe_keeps (m : Parts) (hvtp : m.vtp = true) (s : State) (q : VtpReq) (hstns : q.station = 11 → m.stns = true)
    (hpwr : q.station = 11 → m.pwr = true) (hupd : q.station = 11 → m.upd = true) : masked m (atServe s q) = masked m s := by
  unfold atServe
  split
  · rename_i h2
    have h3 : q.station = 11 := by simp at h2; exact h2.1
    simp [hstns h3, hpwr h3, hupd h3, hvtp]
  · simp [hvtp]

@[simp] theorem answer_keeps (m : Parts) (hvtp : m.vtp = true) (heth : m.eth = true) (s : State) (q : VtpReq) (r : VtpReply) :
    masked m (answer s q r) = masked m s := by
  unfold answer; simp [hvtp, heth]

@[simp] theorem serveAdmitted_keeps (m : Parts) (hvtp : m.vtp = true) (heth : m.eth = true) (s : State) (q : VtpReq)
    (hstns : q.station = 11 → m.stns = true) (hpwr : q.station = 11 → m.pwr = true) (hupd : q.station = 11 → m.upd = true) (b : Bool) (n : Nat)
    (f : State → State × VtpReply)
    (h : ∀ s, masked m (f s).1 = masked m s) : masked m (serveAdmitted s q b n f) = masked m s := by
  have ha := atServe_keeps m hvtp s q hstns hpwr hupd
  unfold serveAdmitted
  split
  · rw [answer_keeps m hvtp heth, h, ha]
  · rw [answer_keeps m hvtp heth, ha]

@[simp] theorem vtpServe_keeps (m : Parts) (hvtp : m.vtp = true) (heth : m.eth = true) (s : State) (q : VtpReq)
    (hstns : q.station = 11 → m.stns = true) (hpwr : q.station = 11 → m.pwr = true) (hupd : q.station = 11 → m.upd = true) (b : Bool) (n : Nat)
    (f : State → State × VtpReply)
    (h : ∀ s, masked m (f s).1 = masked m s) : masked m (vtpServe s q b n f) = masked m s := by
  have h1 := fun s => serveAdmitted_keeps m hvtp heth s q hstns hpwr hupd b n f h
  unfold vtpServe; simp only []; (repeat' split) <;> simp [h1, hvtp, heth]

@[simp] theorem setCall_keeps (m : Parts) (hcalls : m.calls = true) (s : State) (h_ : Nat) (f : CallRec → CallRec) :
    masked m (setCall s h_ f) = masked m s := by
  unfold setCall; simp [hcalls]

@[simp] theorem callEvent_keeps (m : Parts) (hevq : m.evq = true) (s : State) (h_ : Nat) :
    masked m (callEvent s h_) = masked m s := by
  unfold callEvent; simp only []; (repeat' split) <;> simp [hevq]

@[simp] theorem callState_keeps (m : Parts) (hcalls : m.calls = true) (hevq : m.evq = true) (s : State) (h_ : Nat) (f : CallRec → CallRec) :
    masked m (callState s h_ f) = masked m s := by
  unfold callState; simp only []; (repeat' split) <;> simp [hcalls, hevq]

@[simp] theorem endCall_keeps (m : Parts) (hcalls : m.calls = true) (hevq : m.evq = true) (s : State) (h_ : Nat) (st : CallSt) (e : Err) :
    masked m (endCall s h_ st e) = masked m s := by
  unfold endCall; (repeat' split) <;> simp [hcalls, hevq]

@[simp] theorem callEntry_keeps (m : Parts) (hcalls : m.calls = true) (hevq : m.evq = true) (s : State) (h_ : Nat) (b : List Byte) :
    masked m (callEntry s h_ b) = masked m s := by
  unfold callEntry; simp only []; (repeat' split) <;> simp [hcalls, hevq]

@[simp] theorem callWord_keeps (m : Parts) (hcalls : m.calls = true) (hevq : m.evq = true) (s : State) (h_ : Nat) (w : Word) :
    masked m (callWord s h_ w) = masked m s := by
  unfold callWord; simp [hcalls, hevq]

@[simp] theorem exportRun_keeps (m : Parts) (hcalls : m.calls = true) (hevq : m.evq = true) (s : State) (h : Nat) (n : Nat) :
    masked m (exportRun s h n) = masked m s := by
  induction n generalizing s with
  | zero => rfl
  | succ n ih => unfold exportRun; simp only []; (repeat' split) <;> simp [ih, hcalls, hevq]

@[simp] theorem takeCall_keeps (m : Parts) (hcalls : m.calls = true) (s : State) (h_ : Nat) (station : Nat) (p : CallPlan) :
    masked m (takeCall s h_ station p) = masked m s := by
  unfold takeCall; simp [hcalls]

@[simp] theorem vtpCall_keeps (m : Parts) (hvtp : m.vtp = true) (hcalls : m.calls = true) (heth : m.eth = true) (hevq : m.evq = true) (s : State)
    (q : VtpReq)
    (hstns : q.station = 11 → m.stns = true) (hpwr : q.station = 11 → m.pwr = true) (hupd : q.station = 11 → m.upd = true) (c : State → Err)
    (p : State → CallPlan)
    (st : State → Nat → State) (bad : Err → State → State) (h : ∀ s n, masked m (st s n) = masked m s)
    (hb : ∀ e s, masked m (bad e s) = masked m s) : masked m (vtpCall s q c p st bad) = masked m s := by
  unfold vtpCall; apply vtpServe_keeps m hvtp heth s q hstns hpwr hupd; intro s; simp only []; (repeat' split) <;> simp [h, hb, hcalls, hevq]

@[simp] theorem pollServe_keeps (m : Parts) (hcalls : m.calls = true) (q : VtpReq) (handle : Nat) (s : State) :
    masked m (pollServe q handle s).1 = masked m s := by
  unfold pollServe; simp only []; (repeat' split) <;> simp [hcalls]

@[simp] theorem callFree_keeps (m : Parts) (hcalls : m.calls = true) (htim : m.tim = true) (s : State) (h_ : Nat) :
    masked m (callFree s h_) = masked m s := by
  unfold callFree; simp only []; (repeat' split) <;> simp [hcalls, htim]

end Sys2Proof.Machine
end

