-- ==== Sys2Proof/Laws/KeepsRadio.lean ====
section
/-! SUPPORT. Frames of the operations of sending on the radio, the Rigger, RTC and the corridors: which parts of the state each may change. -/
set_option linter.unusedSimpArgs false
set_option linter.unusedVariables false
set_option Elab.async false
namespace Sys2Proof.Machine

@[simp] theorem setPortState_keeps (m : Parts) (hevq : m.evq = true) (hrad : m.rad = true) (s : State) (p : Nat) (st : PortSt) (cause : Nat) :
    masked m (setPortState s p st cause) = masked m s := by
  unfold setPortState; simp only []; (repeat' split) <;> simp [hevq, hrad]

@[simp] theorem portStates_keeps (m : Parts) (hevq : m.evq = true) (hrad : m.rad = true) (s : State) (crab : Bool) :
    masked m (portStates s crab) = masked m s := by
  unfold portStates; (try simp only []); (repeat' split) <;> (refine (foldl_keeps m _ _ _ ?_).trans ?_) <;> (try intro s a) <;> (try simp only []) <;> (repeat' split) <;> simp [hevq, hrad]

@[simp] theorem enqueueEntry_keeps (m : Parts) (hrad : m.rad = true) (s : State) (e : LightEntry) :
    masked m (enqueueEntry s e) = masked m s := by
  unfold enqueueEntry; (repeat' split) <;> simp [hrad]

@[simp] theorem radBoundary_keeps (m : Parts) (hrad : m.rad = true) (s : State) :
    masked m (radBoundary s) = masked m s := by
  unfold radBoundary; simp [hrad]

@[simp] theorem radLate_keeps (m : Parts) (hlgt : m.lgt = true) (hrad : m.rad = true) (s : State) :
    masked m (radLate s) = masked m s := by
  unfold radLate; simp [hlgt, hrad]

@[simp] theorem radDrive_keeps (m : Parts) (hlgt : m.lgt = true) (hrad : m.rad = true) (s : State) :
    masked m (radDrive s) = masked m s := by
  unfold radDrive; (try simp only []); (repeat' split) <;> (refine (foldl_keeps m _ _ _ ?_).trans ?_) <;> (try intro s a) <;> (try simp only []) <;> (repeat' split) <;> simp [hlgt, hrad]

@[simp] theorem onAir_keeps (m : Parts) (hrad : m.rad = true) (hfree : m.free = true) (s : State) (p : Nat) (f : AirFrame) :
    masked m (onAir s p f) = masked m s := by
  unfold onAir; simp [hrad, hfree]

@[simp] theorem markSent_keeps (m : Parts) (hlgt : m.lgt = true) (hrad : m.rad = true) (s : State) (e : LightEntry) :
    masked m (markSent s e) = masked m s := by
  unfold markSent; simp only []; (repeat' split) <;> simp [hlgt, hrad]

@[simp] theorem awaitOutcome_keeps (m : Parts) (hrad : m.rad = true) (s : State) (counter : Nat) (last : Bool) (e : LightEntry) :
    masked m (awaitOutcome s counter last e) = masked m s := by
  unfold awaitOutcome; (repeat' split) <;> simp [hrad]

@[simp] theorem classedUnsent_keeps (m : Parts) (hevq : m.evq = true) (hlgt : m.lgt = true) (hrad : m.rad = true) (s : State) (p : Nat)
    (l : List LightEntry) :
    masked m (classedUnsent s p l) = masked m s := by
  unfold classedUnsent; (try simp only []); (repeat' split) <;> (refine (foldl_keeps m _ _ _ ?_).trans ?_) <;> (try intro s a) <;> (try simp only []) <;> (repeat' split) <;> simp [hevq, hlgt, hrad]

@[simp] theorem classedLate_keeps (m : Parts) (hevq : m.evq = true) (hrad : m.rad = true) (s : State) (p : Nat) (l : List LightEntry) :
    masked m (classedLate s p l) = masked m s := by
  unfold classedLate; simp [hevq, hrad]

@[simp] theorem chargeLight_keeps (m : Parts) (hrad : m.rad = true) (s : State) (p : Nat) (ms : Nat) (classed : Bool) (refresh : Bool) :
    masked m (chargeLight s p ms classed refresh).1 = masked m s := by
  unfold chargeLight; (repeat' split) <;> simp [hrad]

@[simp] theorem sendLight_keeps (m : Parts) (hevq : m.evq = true) (hlgt : m.lgt = true) (hrad : m.rad = true) (hkeys : m.keys = true)
    (hledr : m.ledr = true) (hledBad : m.ledBad = true) (hfree : m.free = true) (s : State) (p : Nat) (asn : Nat) (l : List LightEntry)
    (refresh : Bool) :
    masked m (sendLight s p asn l refresh).1 = masked m s := by
  unfold sendLight; simp only []; (repeat' split) <;> simp [hevq, hlgt, hrad, hkeys, hledr, hledBad, hfree]

@[simp] theorem downRepeat_keeps (m : Parts) (hevq : m.evq = true) (hlgt : m.lgt = true) (hrad : m.rad = true) (hfree : m.free = true) (s : State)
    (p : Nat) (asn : Nat) :
    masked m (downRepeat s p asn).1 = masked m s := by
  unfold downRepeat; simp only []; (repeat' split) <;> simp [hevq, hlgt, hrad, hfree]

@[simp] theorem downTimed_keeps (m : Parts) (hevq : m.evq = true) (hlgt : m.lgt = true) (hrad : m.rad = true) (hkeys : m.keys = true)
    (hledr : m.ledr = true) (hledBad : m.ledBad = true) (hfree : m.free = true) (s : State) (p : Nat) (asn : Nat) :
    masked m (downTimed s p asn).1 = masked m s := by
  unfold downTimed; simp only []; (repeat' split) <;> simp [hevq, hlgt, hrad, hkeys, hledr, hledBad, hfree]

@[simp] theorem dequeue_keeps (m : Parts) (hrad : m.rad = true) (s : State) (p : Nat) (l : List LightEntry) :
    masked m (dequeue s p l) = masked m s := by
  unfold dequeue; simp [hrad]

@[simp] theorem downUntimed_keeps (m : Parts) (hevq : m.evq = true) (hlgt : m.lgt = true) (hrad : m.rad = true) (hkeys : m.keys = true)
    (hledr : m.ledr = true) (hledBad : m.ledBad = true) (hfree : m.free = true) (s : State) (p : Nat) (asn : Nat) (lead : Nat) :
    masked m (downUntimed s p asn lead).1 = masked m s := by
  unfold downUntimed; simp only []; (repeat' split) <;> simp [hevq, hlgt, hrad, hkeys, hledr, hledBad, hfree]

@[simp] theorem uniCounter_keeps (m : Parts) (hrad : m.rad = true) (hkeys : m.keys = true) (hledr : m.ledr = true) (hledBad : m.ledBad = true)
    (hfree : m.free = true) (s : State) (u : Unicast) :
    masked m (uniCounter s u).1 = masked m s := by
  unfold uniCounter; (repeat' split) <;> simp [hrad, hkeys, hledr, hledBad, hfree]

@[simp] theorem setUni_keeps (m : Parts) (hrad : m.rad = true) (s : State) (p : Nat) (u : Unicast) (v : Unicast) :
    masked m (setUni s p u v) = masked m s := by
  unfold setUni; simp [hrad]

@[simp] theorem dropUni_keeps (m : Parts) (hrad : m.rad = true) (s : State) (p : Nat) (u : Unicast) :
    masked m (dropUni s p u) = masked m s := by
  unfold dropUni; simp [hrad]

@[simp] theorem sendUni_keeps (m : Parts) (hrad : m.rad = true) (hkeys : m.keys = true) (hledr : m.ledr = true) (hledBad : m.ledBad = true)
    (hfree : m.free = true) (s : State) (p : Nat) (asn : Nat) (u : Unicast) (cls : ShedCls) :
    masked m (sendUni s p asn u cls).1 = masked m s := by
  unfold sendUni; simp only []; (repeat' split) <;> simp [hrad, hkeys, hledr, hledBad, hfree]

@[simp] theorem downOwed_keeps (m : Parts) (hrad : m.rad = true) (hkeys : m.keys = true) (hledr : m.ledr = true) (hledBad : m.ledBad = true)
    (hfree : m.free = true) (s : State) (p : Nat) (asn : Nat) :
    masked m (downOwed s p asn).1 = masked m s := by
  unfold downOwed; (repeat' split) <;> simp [hrad, hkeys, hledr, hledBad, hfree]

@[simp] theorem downListening_keeps (m : Parts) (hrad : m.rad = true) (hkeys : m.keys = true) (hledr : m.ledr = true) (hledBad : m.ledBad = true)
    (hfree : m.free = true) (s : State) (p : Nat) (asn : Nat) :
    masked m (downListening s p asn).1 = masked m s := by
  unfold downListening; (repeat' split) <;> simp [hrad, hkeys, hledr, hledBad, hfree]

@[simp] theorem downCommand_keeps (m : Parts) (hrad : m.rad = true) (hkeys : m.keys = true) (hledr : m.ledr = true) (hledBad : m.ledBad = true)
    (hfree : m.free = true) (s : State) (p : Nat) (asn : Nat) :
    masked m (downCommand s p asn).1 = masked m s := by
  unfold downCommand; simp only []; (repeat' split) <;> simp [hrad, hkeys, hledr, hledBad, hfree]

@[simp] theorem sendTrain_keeps (m : Parts) (hrad : m.rad = true) (hkeys : m.keys = true) (hledr : m.ledr = true) (hledBad : m.ledBad = true)
    (hfree : m.free = true) (s : State) (p : Nat) (asn : Nat) (i : Nat) (resync : Bool) (urgent : Bool) (ms : Nat) (start : Nat) (n : Nat)
    (period : Nat) :
    masked m (sendTrain s p asn i resync urgent ms start n period).1 = masked m s := by
  unfold sendTrain; simp only []; (repeat' split) <;> simp [hrad, hkeys, hledr, hledBad, hfree]

@[simp] theorem snsCount_keeps (m : Parts) (hrad : m.rad = true) (s : State) (j : Nat) :
    masked m (snsCount s j) = masked m s := by
  unfold snsCount; simp [hrad]

@[simp] theorem trainBegun_keeps (m : Parts) (hrad : m.rad = true) (s : State) (p : Nat) (u : Unicast) (rdv : Nat) :
    masked m (trainBegun s p u rdv) = masked m s := by
  unfold trainBegun; (repeat' split) <;> simp [hrad]

@[simp] theorem trainSent_keeps (m : Parts) (hrad : m.rad = true) (r : State × Option AirFrame) (p : Nat) (u : Unicast) (rdv : Nat) :
    masked m (trainSent r p u rdv).1 = masked m r.1 := by
  unfold trainSent; split <;> simp [hrad]

@[simp] theorem guardTrain_keeps (m : Parts) (hrad : m.rad = true) (hkeys : m.keys = true) (hledr : m.ledr = true) (hledBad : m.ledBad = true)
    (hfree : m.free = true) (s : State) (p asn : Nat) (u : Unicast) :
    masked m (guardTrain s p asn u).1 = masked m s := by
  unfold guardTrain
  apply sendTrain_keeps <;> assumption

@[simp] theorem downTrain_keeps (m : Parts) (hrad : m.rad = true) (hkeys : m.keys = true) (hledr : m.ledr = true) (hledBad : m.ledBad = true)
    (hfree : m.free = true) (s : State) (p : Nat) (asn : Nat) :
    masked m (downTrain s p asn).1 = masked m s := by
  unfold downTrain; simp only []; (repeat' split) <;> simp [hrad, hkeys, hledr, hledBad, hfree]

@[simp] theorem downRdv_keeps (m : Parts) (hrad : m.rad = true) (hkeys : m.keys = true) (hledr : m.ledr = true) (hledBad : m.ledBad = true)
    (hfree : m.free = true) (s : State) (p : Nat) (asn : Nat) :
    masked m (downRdv s p asn).1 = masked m s := by
  unfold downRdv; (repeat' split) <;> simp [hrad, hkeys, hledr, hledBad, hfree]

@[simp] theorem fullGoesOn_keeps (m : Parts) (hrad : m.rad = true) (hfree : m.free = true) (s : State) (p : Nat) (asn : Nat) :
    masked m (fullGoesOn s p asn).1 = masked m s := by
  unfold fullGoesOn; (repeat' split) <;> simp [hrad, hfree]

@[simp] theorem fullBegun_keeps (m : Parts) (hrad : m.rad = true) (s : State) (p i : Nat) (f : AirFrame) (last : Nat) :
    masked m (fullBegun s p i f last) = masked m s := by
  unfold fullBegun; simp [hrad]

@[simp] theorem fullSent_keeps (m : Parts) (hrad : m.rad = true) (r : State × Option AirFrame) (p i last : Nat) :
    masked m (fullSent r p i last).1 = masked m r.1 := by
  unfold fullSent; split <;> simp [hrad]

@[simp] theorem fillTrain_keeps (m : Parts) (hrad : m.rad = true) (hkeys : m.keys = true) (hledr : m.ledr = true) (hledBad : m.ledBad = true)
    (hfree : m.free = true) (s : State) (p asn i : Nat) (e : NatEnt) :
    masked m (fillTrain s p asn i e).1 = masked m s := by
  unfold fillTrain
  apply sendTrain_keeps <;> assumption

@[simp] theorem fullTrain_keeps (m : Parts) (hrad : m.rad = true) (hkeys : m.keys = true) (hledr : m.ledr = true) (hledBad : m.ledBad = true)
    (hfree : m.free = true) (s : State) (p : Nat) (asn : Nat) :
    masked m (fullTrain s p asn).1 = masked m s := by
  unfold fullTrain; (repeat' split) <;> simp [hrad, hkeys, hledr, hledBad, hfree]

@[simp] theorem sendBulk_keeps (m : Parts) (hrad : m.rad = true) (hkeys : m.keys = true) (hledr : m.ledr = true) (hledBad : m.ledBad = true)
    (hfree : m.free = true) (s : State) (p : Nat) (asn : Nat) :
    masked m (sendBulk s p asn).1 = masked m s := by
  unfold sendBulk; simp only []; (repeat' split) <;> simp [hrad, hkeys, hledr, hledBad, hfree]

@[simp] theorem sendFallback_keeps (m : Parts) (hrad : m.rad = true) (hkeys : m.keys = true) (hledr : m.ledr = true) (hledBad : m.ledBad = true)
    (hfree : m.free = true) (s : State) (p : Nat) (asn : Nat) :
    masked m (sendFallback s p asn).1 = masked m s := by
  unfold sendFallback; simp only []; (repeat' split) <;> simp [hrad, hkeys, hledr, hledBad, hfree]

@[simp] theorem fbTrack_keeps (m : Parts) (hrad : m.rad = true) (s : State) (p : Nat) :
    masked m (fbTrack s p) = masked m s := by
  unfold fbTrack; simp [hrad]

theorem firstItem_keeps (m : Parts) (l : List (State → State × Bool)) (s : State) (h : ∀ f ∈ l, ∀ s, masked m (f s).1 = masked m s) :
    masked m (firstItem s l) = masked m s := by
  induction l generalizing s with
  | nil => rfl
  | cons f l ih =>
    unfold firstItem
    have h1 := h f (by simp) s
    have h2 := ih (f s).1 fun g hg => h g (by simp [hg])
    simp only []
    split <;> simp_all

@[simp] theorem downCell_keeps (m : Parts) (hevq : m.evq = true) (hlgt : m.lgt = true) (hrad : m.rad = true) (hkeys : m.keys = true)
    (hledr : m.ledr = true) (hledBad : m.ledBad = true) (hfree : m.free = true) (s : State) (p asn : Nat) : masked m
    (downCell s p asn) = masked m s := by
  unfold downCell
  simp only []
  split
  · split <;> simp [*]
  · apply firstItem_keeps
    intro f hf s
    simp only [List.mem_cons, List.not_mem_nil, or_false] at hf
    rcases hf with h | h | h | h | h | h | h | h | h | h | h | h | h | h <;> subst h <;> (try split) <;> simp [*]

@[simp] theorem beacon_keeps (m : Parts) (hrad : m.rad = true) (hfree : m.free = true) (s : State) (p : Nat) (asn : Nat) :
    masked m (beacon s p asn) = masked m s := by
  unfold beacon; simp only []; (repeat' split) <;> simp [hrad, hfree]

@[simp] theorem setAdrift_keeps (m : Parts) (hevq : m.evq = true) (hrad : m.rad = true) (s : State) (i : Nat) :
    masked m (setAdrift s i) = masked m s := by
  unfold setAdrift; (repeat' split) <;> simp [hevq, hrad]

@[simp] theorem openWindow_keeps (m : Parts) (hevq : m.evq = true) (hrad : m.rad = true) (s : State) (p : Nat) (asn : Nat) (i : Nat) :
    masked m (openWindow s p asn i) = masked m s := by
  unfold openWindow; simp only []; (repeat' split) <;> simp [hevq, hrad]

@[simp] theorem sendOutcome_keeps (m : Parts) (hcalls : m.calls = true) (hevq : m.evq = true) (s : State) (h_ : Nat) (i : Nat) (outcome : Nat) :
    masked m (sendOutcome s h_ i outcome) = masked m s := by
  unfold sendOutcome; (repeat' split) <;> simp [hcalls, hevq]

@[simp] theorem uniUnconfirmed_keeps (m : Parts) (hcalls : m.calls = true) (hevq : m.evq = true) (hrad : m.rad = true) (s : State) (p : Nat)
    (u : Unicast) :
    masked m (uniUnconfirmed s p u) = masked m s := by
  unfold uniUnconfirmed; (repeat' split) <;> simp [hcalls, hevq, hrad]

@[simp] theorem rdvPassed_keeps (m : Parts) (hrad : m.rad = true) (s : State) (p : Nat) (asn : Nat) :
    masked m (rdvPassed s p asn) = masked m s := by
  unfold rdvPassed; simp [hrad]

@[simp] theorem retries_keeps (m : Parts) (hcalls : m.calls = true) (hevq : m.evq = true) (hrad : m.rad = true) (s : State) (p : Nat) (asn : Nat) :
    masked m (retries s p asn) = masked m s := by
  unfold retries; (try simp only []); (repeat' split) <;> (refine (foldl_keeps m _ _ _ ?_).trans ?_) <;> (try intro s a) <;> (try simp only []) <;> (repeat' split) <;> simp [hcalls, hevq, hrad]

@[simp] theorem lostCell_keeps (m : Parts) (hrad : m.rad = true) (s : State) (p : Nat) (asn : Nat) :
    masked m (lostCell s p asn) = masked m s := by
  unfold lostCell; (repeat' split) <;> simp [hrad]

@[simp] theorem cellAct_keeps (m : Parts) (hevq : m.evq = true) (hlgt : m.lgt = true) (hrad : m.rad = true) (hkeys : m.keys = true)
    (hledr : m.ledr = true) (hledBad : m.ledBad = true) (hfree : m.free = true) (s : State) (p : Nat) (asn : Nat) :
    masked m (cellAct s p asn) = masked m s := by
  unfold cellAct; simp only []; (repeat' split) <;> simp [hevq, hlgt, hrad, hkeys, hledr, hledBad, hfree]

@[simp] theorem slotBegins_keeps (m : Parts) (hcalls : m.calls = true) (hevq : m.evq = true) (hlgt : m.lgt = true) (hrad : m.rad = true)
    (hkeys : m.keys = true) (hledr : m.ledr = true) (hledBad : m.ledBad = true) (hfree : m.free = true) (s : State) (p : Nat) (asn : Nat) :
    masked m (slotBegins s p asn) = masked m s := by
  unfold slotBegins; simp only []; (repeat' split) <;> simp [hcalls, hevq, hlgt, hrad, hkeys, hledr, hledBad, hfree]

@[simp] theorem portSlot_keeps (m : Parts) (hcalls : m.calls = true) (htim : m.tim = true) (hevq : m.evq = true) (hlgt : m.lgt = true)
    (hrad : m.rad = true) (hkeys : m.keys = true) (hledr : m.ledr = true) (hledBad : m.ledBad = true) (hfree : m.free = true) (s : State) (p : Nat) :
    masked m (portSlot s p) = masked m s := by
  unfold portSlot; simp only []; (repeat' split) <;> simp [hcalls, htim, hevq, hlgt, hrad, hkeys, hledr, hledBad, hfree]

@[simp] theorem beaconsPassed_keeps (m : Parts) (hrad : m.rad = true) (s : State) (a : Nat) (b : Nat) :
    masked m (beaconsPassed s a b) = masked m s := by
  unfold beaconsPassed; (try simp only []); (repeat' split) <;> first | (simp [hrad] <;> fail) | ((refine (foldl_keeps m _ _ _ ?_).trans ?_) <;> (try intro s a) <;> (try simp only []) <;> (repeat' split) <;> simp [hrad])

@[simp] theorem trxReset_keeps (m : Parts) (hevq : m.evq = true) (hrad : m.rad = true) (s : State) (p : Nat) (cause : Nat) :
    masked m (trxReset s p cause) = masked m s := by
  unfold trxReset; simp [hevq, hrad]

@[simp] theorem entryEnds_keeps (m : Parts) (hevq : m.evq = true) (hlgt : m.lgt = true) (s : State) (e : LightEntry) :
    masked m (entryEnds s e) = masked m s := by
  unfold entryEnds; (repeat' split) <;> simp [hevq, hlgt]

@[simp] theorem portFaulted_keeps (m : Parts) (hcalls : m.calls = true) (hevq : m.evq = true) (hlgt : m.lgt = true) (hrad : m.rad = true)
    (s : State) (p : Nat) : masked m (portFaulted s p) = masked m s := by
  unfold portFaulted
  extract_lets x s1 s2 s3 s4
  have h1 : masked m s1 = masked m s := foldl_keeps m _ _ _ fun s a => by simp [*]
  have h2 : masked m s2 = masked m s1 := foldl_keeps m _ _ _ fun s a => by simp [*]
  have h3 : masked m s3 = masked m s2 := foldl_keeps m _ _ _ fun s a => foldl_keeps m _ _ _ fun s b => by simp [*]
  have h4 : masked m s4 = masked m s3 := foldl_keeps m _ _ _ fun s a => by simp [*]
  clear_value s1 s2 s3 s4
  rw [← h1, ← h2, ← h3, ← h4]
  simp [*]

@[simp] theorem trxTmo_keeps (m : Parts) (hcalls : m.calls = true) (hevq : m.evq = true) (hlgt : m.lgt = true) (hrad : m.rad = true) (s : State)
    (p : Nat) :
    masked m (trxTmo s p) = masked m s := by
  unfold trxTmo; simp only []; (repeat' split) <;> simp [hcalls, hevq, hlgt, hrad]

@[simp] theorem trxDone_keeps (m : Parts) (htim : m.tim = true) (hevq : m.evq = true) (hrad : m.rad = true) (hfree : m.free = true) (s : State)
    (p : Nat) :
    masked m (trxDone s p) = masked m s := by
  unfold trxDone; (repeat' split) <;> simp [htim, hevq, hrad, hfree]

@[simp] theorem portRetry_keeps (m : Parts) (htim : m.tim = true) (hevq : m.evq = true) (hrad : m.rad = true) (s : State) (p : Nat) :
    masked m (portRetry s p) = masked m s := by
  unfold portRetry; (repeat' split) <;> simp [htim, hevq, hrad]

@[simp] theorem portBringUp_keeps (m : Parts) (hevq : m.evq = true) (hrad : m.rad = true) (hpins : m.pins = true) (s : State) :
    masked m (portBringUp s) = masked m s := by
  unfold portBringUp; (try simp only []); (repeat' split) <;> (refine (foldl_keeps m _ _ _ ?_).trans ?_) <;> (try intro s a) <;> (try simp only []) <;> (repeat' split) <;> simp [hevq, hrad, hpins]

@[simp] theorem radStationReset_keeps (m : Parts) (hrad : m.rad = true) (s : State) :
    masked m (radStationReset s) = masked m s := by
  unfold radStationReset; simp [hrad]

@[simp] theorem radStart_keeps (m : Parts) (hevq : m.evq = true) (hrad : m.rad = true) (hsec : m.sec = true) (hkeys : m.keys = true)
    (hledr : m.ledr = true) (hfree : m.free = true) (s : State) :
    masked m (radStart s) = masked m s := by
  unfold radStart; simp [hevq, hrad, hsec, hkeys, hledr, hfree]

@[simp] theorem recordFindings_keeps (m : Parts) (hcfg : m.cfg = true) (s : State) (l : List Finding) :
    masked m (recordFindings s l) = masked m s := by
  unfold recordFindings; simp [hcfg]

@[simp] theorem specialEnable_keeps (m : Parts) (hcfg : m.cfg = true) (s : State) (set_ : List Nat) :
    masked m (specialEnable s set_) = masked m s := by
  unfold specialEnable; simp [hcfg]

@[simp] theorem overlayAtBoundary_keeps (m : Parts) (hcfg : m.cfg = true) (s : State) :
    masked m (overlayAtBoundary s) = masked m s := by
  unfold overlayAtBoundary; (repeat' split) <;> simp [hcfg]

@[simp] theorem alarmEvent_keeps (m : Parts) (hevq : m.evq = true) (s : State) (a : Nat) :
    masked m (alarmEvent s a) = masked m s := by
  unfold alarmEvent; (repeat' split) <;> simp [hevq]

@[simp] theorem alarmCheck_keeps (m : Parts) (hrtc : m.rtc = true) (hevq : m.evq = true) (s : State) :
    masked m (alarmCheck s) = masked m s := by
  unfold alarmCheck; simp only []; (repeat' split) <;> simp [hrtc, hevq]

@[simp] theorem stampPhase_keeps (m : Parts) (hrtc : m.rtc = true) (s : State) (skip : Bool) :
    masked m (stampPhase s skip) = masked m s := by
  unfold stampPhase; (repeat' split) <;> simp [hrtc]

@[simp] theorem commitUtc_keeps (m : Parts) (hrtc : m.rtc = true) (s : State) :
    masked m (commitUtc s) = masked m s := by
  unfold commitUtc; (repeat' split) <;> simp [hrtc]

@[simp] theorem calendarCheck_keeps (m : Parts) (hrtc : m.rtc = true) (s : State) :
    masked m (calendarCheck s) = masked m s := by
  unfold calendarCheck; simp only []; (repeat' split) <;> simp [hrtc]

@[simp] theorem rtcCapture_keeps (m : Parts) (hrtc : m.rtc = true) (s : State) :
    masked m (rtcCapture s) = masked m s := by
  unfold rtcCapture; simp [hrtc]

@[simp] theorem stagingWrite_keeps (m : Parts) (hrtc : m.rtc = true) (s : State) (i : Nat) (v : Nat) :
    masked m (stagingWrite s i v) = masked m s := by
  unfold stagingWrite; simp [hrtc]

@[simp] theorem commitGo_keeps (m : Parts) (hrtc : m.rtc = true) (s : State) (onSecond : Bool) :
    masked m (commitGo s onSecond) = masked m s := by
  unfold commitGo; simp [hrtc]

@[simp] theorem commitRefused_keeps (m : Parts) (hrtc : m.rtc = true) (s : State) (cause : Nat) :
    masked m (commitRefused s cause) = masked m s := by
  unfold commitRefused; simp [hrtc]

@[simp] theorem commitSets_keeps (m : Parts) (hrtc : m.rtc = true) (hevq : m.evq = true) (s : State) (c : Commit) :
    masked m (commitSets s c) = masked m s := by
  unfold commitSets; simp [hrtc, hevq]

@[simp] theorem commitApply_keeps (m : Parts) (htim : m.tim = true) (hrtc : m.rtc = true) (hevq : m.evq = true) (s : State) :
    masked m (commitApply s) = masked m s := by
  unfold commitApply; (repeat' split) <;> simp [htim, hrtc, hevq]

@[simp] theorem rollover_keeps (m : Parts) (hrtc : m.rtc = true) (hevq : m.evq = true) (s : State) :
    masked m (rollover s) = masked m s := by
  unfold rollover; simp only []; (repeat' split) <;> simp [hrtc, hevq]

@[simp] theorem secondEnd_keeps (m : Parts) (hrtc : m.rtc = true) (hevq : m.evq = true) (s : State) :
    masked m (secondEnd s) = masked m s := by
  unfold secondEnd; (repeat' split) <;> simp [hrtc, hevq]

@[simp] theorem compWindow_keeps (m : Parts) (hrtc : m.rtc = true) (s : State) (t : Int) :
    masked m (compWindow s t) = masked m s := by
  unfold compWindow; simp [hrtc]

@[simp] theorem agingSet_keeps (m : Parts) (hrtc : m.rtc = true) (s : State) (g : Int) :
    masked m (agingSet s g) = masked m s := by
  unfold agingSet; simp [hrtc]

@[simp] theorem agingSave_keeps (m : Parts) (hrtc : m.rtc = true) (hledBad : m.ledBad = true) (hled : m.led = true) (haon : m.aon = true)
    (s : State) (g : Int) :
    masked m (agingSave s g) = masked m s := by
  unfold agingSave; simp [hrtc, hledBad, hled, haon]

@[simp] theorem agingCheck_keeps (m : Parts) (hrtc : m.rtc = true) (hevq : m.evq = true) (s : State) :
    masked m (agingCheck s) = masked m s := by
  unfold agingCheck; (repeat' split) <;> simp [hrtc, hevq]

@[simp] theorem agingUpdate_keeps (m : Parts) (hrtc : m.rtc = true) (hledBad : m.ledBad = true) (hled : m.led = true) (haon : m.aon = true)
    (s : State) :
    masked m (agingUpdate s) = masked m s := by
  unfold agingUpdate; (repeat' split) <;> simp [hrtc, hledBad, hled, haon]

@[simp] theorem calendarStarts_keeps (m : Parts) (hrtc : m.rtc = true) (s : State) :
    masked m (calendarStarts s) = masked m s := by
  unfold calendarStarts; simp [hrtc]

@[simp] theorem vbatApplied_keeps (m : Parts) (hrtc : m.rtc = true) (hpins : m.pins = true) (s : State) :
    masked m (vbatApplied s) = masked m s := by
  unfold vbatApplied; simp [hrtc, hpins]

@[simp] theorem vaonUp_keeps (m : Parts) (hrtc : m.rtc = true) (s : State) :
    masked m (vaonUp s) = masked m s := by
  unfold vaonUp; (repeat' split) <;> simp [hrtc]

@[simp] theorem setOsf_keeps (m : Parts) (hrtc : m.rtc = true) (s : State) :
    masked m (setOsf s) = masked m s := by
  unfold setOsf; simp [hrtc]

@[simp] theorem rtcStationReset_keeps (m : Parts) (hrtc : m.rtc = true) (s : State) :
    masked m (rtcStationReset s) = masked m s := by
  unfold rtcStationReset; simp [hrtc]

@[simp] theorem copyLeap_keeps (m : Parts) (hrtc : m.rtc = true) (s : State) :
    masked m (copyLeap s) = masked m s := by
  unfold copyLeap; (repeat' split) <;> simp [hrtc]

@[simp] theorem owedCheck_keeps (m : Parts) (hrtc : m.rtc = true) (s : State) :
    masked m (owedCheck s) = masked m s := by
  unfold owedCheck; (repeat' split) <;> simp [hrtc]

@[simp] theorem calendarKept_keeps (m : Parts) (hrtc : m.rtc = true) (s : State) :
    masked m (calendarKept s) = masked m s := by
  unfold calendarKept; (repeat' split) <;> simp [hrtc]

@[simp] theorem learnFollows_keeps (m : Parts) (hrtc : m.rtc = true) (s : State) :
    masked m (learnFollows s) = masked m s := by
  unfold learnFollows; simp [hrtc]

@[simp] theorem evtRefused_keeps (m : Parts) (hcrs : m.crs = true) (s : State) :
    masked m (evtRefused s) = masked m s := by
  unfold evtRefused; simp [hcrs]

@[simp] theorem detectorRecord_keeps (m : Parts) (hevq : m.evq = true) (s : State) (e : CorrEvent) (result : Nat) :
    masked m (detectorRecord s e result) = masked m s := by
  unfold detectorRecord; simp [hevq]

@[simp] theorem addCorridor_keeps (m : Parts) (hcrs : m.crs = true) (s : State) (c : Corridor) :
    masked m (addCorridor s c).1 = masked m s := by
  unfold addCorridor; (repeat' split) <;> simp [hcrs]

@[simp] theorem evalEvent_keeps (m : Parts) (hevq : m.evq = true) (hcrs : m.crs = true) (s : State) (e : CorrEvent) :
    masked m (evalEvent s e) = masked m s := by
  unfold evalEvent; simp only []; (repeat' split) <;> simp [hevq, hcrs]

@[simp] theorem evalHandoff_keeps (m : Parts) (hcrs : m.crs = true) (s : State) (e : CorrEvent) :
    masked m (evalHandoff s e) = masked m s := by
  unfold evalHandoff; (repeat' split) <;> simp [hcrs]

@[simp] theorem evalEvents_keeps (m : Parts) (hevq : m.evq = true) (hcrs : m.crs = true) (s : State) :
    masked m (evalEvents s) = masked m s := by
  unfold evalEvents; (try simp only []); (repeat' split) <;> (refine (foldl_keeps m _ _ _ ?_).trans ?_) <;> (try intro s a) <;> (try simp only []) <;> (repeat' split) <;> simp [hevq, hcrs]

@[simp] theorem setNbr_keeps (m : Parts) (hcrs : m.crs = true) (s : State) (n : Nat) (f : NbrState → NbrState) :
    masked m (setNbr s n f) = masked m s := by
  unfold setNbr; simp [hcrs]

@[simp] theorem nbrCounter_keeps (m : Parts) (hcrs : m.crs = true) (hledr : m.ledr = true) (hledBad : m.ledBad = true) (s : State) (n : Nat) :
    masked m (nbrCounter s n).1 = masked m s := by
  unfold nbrCounter; simp only []; (repeat' split) <;> simp [hcrs, hledr, hledBad]

@[simp] theorem buildHandoff_keeps (m : Parts) (hcrs : m.crs = true) (hledr : m.ledr = true) (hledBad : m.ledBad = true) (s : State) (r : Nat) :
    masked m (buildHandoff s r) = masked m s := by
  unfold buildHandoff; simp only []; (repeat' split) <;> simp [hcrs, hledr, hledBad]

@[simp] theorem handoffEvent_keeps (m : Parts) (hevq : m.evq = true) (s : State) (h_ : Handoff) (result : Nat) :
    masked m (handoffEvent s h_ result) = masked m s := by
  unfold handoffEvent; simp [hevq]

@[simp] theorem transmitHandoff_keeps (m : Parts) (heth : m.eth = true) (s : State) (h_ : Handoff) :
    masked m (transmitHandoff s h_) = masked m s := by
  unfold transmitHandoff; simp [heth]

@[simp] theorem setHandoff_keeps (m : Parts) (hcrs : m.crs = true) (s : State) (n : Nat) (counter : Nat) (f : Handoff → Handoff) :
    masked m (setHandoff s n counter f) = masked m s := by
  unfold setHandoff; simp [hcrs]

@[simp] theorem releaseHandoffs_keeps (m : Parts) (heth : m.eth = true) (hevq : m.evq = true) (hcrs : m.crs = true) (s : State) :
    masked m (releaseHandoffs s) = masked m s := by
  unfold releaseHandoffs; simp [heth, hevq, hcrs]

@[simp] theorem handoffRepeat_keeps (m : Parts) (htim : m.tim = true) (heth : m.eth = true) (hcrs : m.crs = true) (s : State) (n : Nat)
    (counter : Nat) :
    masked m (handoffRepeat s n counter) = masked m s := by
  unfold handoffRepeat; (repeat' split) <;> simp [htim, heth, hcrs]

@[simp] theorem handoffAnswered_keeps (m : Parts) (hevq : m.evq = true) (hcrs : m.crs = true) (s : State) (n : Nat) (counter : Nat) (corridor : Nat)
    (result : Nat) :
    masked m (handoffAnswered s n counter corridor result) = masked m s := by
  unfold handoffAnswered; (repeat' split) <;> simp [hevq, hcrs]

@[simp] theorem handoffAck_keeps (m : Parts) (hevq : m.evq = true) (hcrs : m.crs = true) (s : State) (data : List Byte) :
    masked m (handoffAck s data) = masked m s := by
  unfold handoffAck; (repeat' split) <;> simp [hevq, hcrs]

@[simp] theorem handoffUnconfirmed_keeps (m : Parts) (htim : m.tim = true) (hevq : m.evq = true) (hcrs : m.crs = true) (s : State) (n : Nat)
    (counter : Nat) :
    masked m (handoffUnconfirmed s n counter) = masked m s := by
  unfold handoffUnconfirmed; (repeat' split) <;> simp [htim, hevq, hcrs]

@[simp] theorem sendHandoffAck_keeps (m : Parts) (heth : m.eth = true) (hcrs : m.crs = true) (hledr : m.ledr = true) (hledBad : m.ledBad = true)
    (s : State) (n : Nat) (m_ : HandoffMsg) (result : Nat) :
    masked m (sendHandoffAck s n m_ result) = masked m s := by
  unfold sendHandoffAck; simp only []; (repeat' split) <;> simp [heth, hcrs, hledr, hledBad]

@[simp] theorem acceptCounter_keeps (m : Parts) (hcrs : m.crs = true) (s : State) (n : Nat) (counter : Nat) (data : List Byte) :
    masked m (acceptCounter s n counter data) = masked m s := by
  unfold acceptCounter; (repeat' split) <;> simp [hcrs]

@[simp] theorem nbrFloorsSave_keeps (m : Parts) (hcrs : m.crs = true) (hledr : m.ledr = true) (hledBad : m.ledBad = true) (s : State) :
    masked m (nbrFloorsSave s) = masked m s := by
  unfold nbrFloorsSave; (try simp only []); (repeat' split) <;> (refine (foldl_keeps m _ _ _ ?_).trans ?_) <;> (try intro s a) <;> (try simp only []) <;> (repeat' split) <;> simp [hcrs, hledr, hledBad]

@[simp] theorem handoffReceive_keeps (m : Parts) (heth : m.eth = true) (hevq : m.evq = true) (hcrs : m.crs = true) (hledr : m.ledr = true)
    (hledBad : m.ledBad = true) (s : State) (data : List Byte) :
    masked m (handoffReceive s data) = masked m s := by
  unfold handoffReceive; simp only []; (repeat' split) <;> simp [heth, hevq, hcrs, hledr, hledBad]

@[simp] theorem composeInputs_keeps (m : Parts) (hcrs : m.crs = true) (s : State) (t : Nat) :
    masked m (composeInputs s t) = masked m s := by
  unfold composeInputs; simp [hcrs]

@[simp] theorem handInputs_keeps (m : Parts) (hlgt : m.lgt = true) (hcrs : m.crs = true) (s : State) (ws : List Wanted) :
    masked m (handInputs s ws) = masked m s := by
  unfold handInputs; simp [hlgt, hcrs]

@[simp] theorem evalPrograms_keeps (m : Parts) (hevq : m.evq = true) (hcrs : m.crs = true) (s : State) (t : Nat) :
    masked m (evalPrograms s t) = masked m s := by
  unfold evalPrograms; simp only []; (repeat' split) <;> simp [hevq, hcrs]

@[simp] theorem freeCorridors_keeps (m : Parts) (hcrs : m.crs = true) (s : State) (t : Nat) :
    masked m (freeCorridors s t) = masked m s := by
  unfold freeCorridors; simp [hcrs]

@[simp] theorem crsEvaluate_keeps (m : Parts) (hevq : m.evq = true) (hcrs : m.crs = true) (hledr : m.ledr = true) (hledBad : m.ledBad = true)
    (s : State) :
    masked m (crsEvaluate s) = masked m s := by
  unfold crsEvaluate; simp [hevq, hcrs, hledr, hledBad]

@[simp] theorem crsStationReset_keeps (m : Parts) (hcrs : m.crs = true) (s : State) :
    masked m (crsStationReset s) = masked m s := by
  unfold crsStationReset; simp [hcrs]

@[simp] theorem nbrFloorsLost_keeps (m : Parts) (hevq : m.evq = true) (hsec : m.sec = true) (s : State) :
    masked m (nbrFloorsLost s) = masked m s := by
  unfold nbrFloorsLost; simp [hevq, hsec]

@[simp] theorem crsStart_keeps (m : Parts) (hevq : m.evq = true) (hcrs : m.crs = true) (hsec : m.sec = true) (s : State) :
    masked m (crsStart s) = masked m s := by
  unfold crsStart; simp [hevq, hcrs, hsec]

end Sys2Proof.Machine
end

