-- ==== Sys2Proof/Laws/KeepsRx.lean ====
section
/-! SUPPORT. Frames of the operations of receiving on the radio and metering: which parts of the state each may change. -/
set_option linter.unusedSimpArgs false
set_option linter.unusedVariables false
set_option Elab.async false
namespace Sys2Proof.Machine

@[simp] theorem dropped_keeps (m : Parts) (hrad : m.rad = true) (s : State) (i : Nat) :
    masked m (dropped s i) = masked m s := by
  unfold dropped; simp [hrad]

@[simp] theorem rxFails_keeps (m : Parts) (hrad : m.rad = true) (hfree : m.free = true) (s : State) (p : Nat) (e : RxFail) :
    masked m (rxFails s p e) = masked m s := by
  unfold rxFails; (repeat' split) <;> simp [hrad, hfree]

@[simp] theorem rxEnds_keeps (m : Parts) (htim : m.tim = true) (hrad : m.rad = true) (s : State) (f : RxFrame) :
    masked m (rxEnds s f) = masked m s := by
  unfold rxEnds; simp [htim, hrad]

@[simp] theorem armAck_keeps (m : Parts) (hrad : m.rad = true) (hfree : m.free = true) (s : State) (f : RxFrame) (i : Option Nat) (nack : Bool) :
    masked m (armAck s f i nack) = masked m s := by
  unfold armAck; simp only []; (repeat' split) <;> simp [hrad, hfree]

@[simp] theorem withdrawAck_keeps (m : Parts) (hrad : m.rad = true) (hfree : m.free = true) (s : State) (p : Nat) :
    masked m (withdrawAck s p) = masked m s := by
  unfold withdrawAck; simp only []; (repeat' split) <;> simp [hrad, hfree]

@[simp] theorem ackOwes_keeps (m : Parts) (hrad : m.rad = true) (s : State) (f : RxFrame) (i : Nat) (pend : Bool) :
    masked m (ackOwes s f i pend) = masked m s := by
  unfold ackOwes; (repeat' split) <;> simp [hrad]

@[simp] theorem ackTxgo_keeps (m : Parts) (htim : m.tim = true) (hrad : m.rad = true) (s : State) (p : Nat) :
    masked m (ackTxgo s p) = masked m s := by
  unfold ackTxgo; (repeat' split) <;> simp [htim, hrad]

@[simp] theorem restartSeen_keeps (m : Parts) (hrad : m.rad = true) (s : State) (i : Nat) (f : RxFrame) :
    masked m (restartSeen s i f) = masked m s := by
  unfold restartSeen; (repeat' split) <;> simp [hrad]

@[simp] theorem acceptCounterOf_keeps (m : Parts) (hrad : m.rad = true) (hkeys : m.keys = true) (hfree : m.free = true) (s : State) (i : Nat)
    (f : RxFrame) :
    masked m (acceptCounterOf s i f) = masked m s := by
  unfold acceptCounterOf; (repeat' split) <;> simp [hrad, hkeys, hfree]

@[simp] theorem confirmRekey_keeps (m : Parts) (hevq : m.evq = true) (hrad : m.rad = true) (hsec : m.sec = true) (hledr : m.ledr = true)
    (hledBad : m.ledBad = true) (s : State) (i : Nat) (f : RxFrame) :
    masked m (confirmRekey s i f) = masked m s := by
  unfold confirmRekey; (repeat' split) <;> simp [hevq, hrad, hsec, hledr, hledBad]

@[simp] theorem enrolAgain_keeps (m : Parts) (hrad : m.rad = true) (s : State) (i : Nat) (f : RxFrame) :
    masked m (enrolAgain s i f) = masked m s := by
  unfold enrolAgain; simp only []; (repeat' split) <;> simp [hrad]

@[simp] theorem micFail_keeps (m : Parts) (hrad : m.rad = true) (hsec : m.sec = true) (hfree : m.free = true) (s : State) (f : RxFrame) (i : Nat)
    (cnt : Nat) :
    masked m (micFail s f i cnt) = masked m s := by
  unfold micFail; (repeat' split) <;> simp [hrad, hsec, hfree]

@[simp] theorem fcsFail_keeps (m : Parts) (hrad : m.rad = true) (hfree : m.free = true) (s : State) (f : RxFrame) (i : Option Nat) :
    masked m (fcsFail s f i) = masked m s := by
  unfold fcsFail; simp only []; (repeat' split) <;> simp [hrad, hfree]

@[simp] theorem madeContact_keeps (m : Parts) (hrad : m.rad = true) (s : State) (i : Nat) :
    masked m (madeContact s i) = masked m s := by
  unfold madeContact; simp only []; (repeat' split) <;> simp [hrad]

@[simp] theorem adriftEnds_keeps (m : Parts) (hevq : m.evq = true) (hrad : m.rad = true) (s : State) (f : RxFrame) (i : Nat) (e : NatEnt) :
    masked m (adriftEnds s f i e) = masked m s := by
  unfold adriftEnds; simp [hevq, hrad]

@[simp] theorem acceptFrame_keeps (m : Parts) (hevq : m.evq = true) (hrad : m.rad = true) (s : State) (f : RxFrame) (i : Nat) :
    masked m (acceptFrame s f i) = masked m s := by
  unfold acceptFrame; simp only []; (repeat' split) <;> simp [hevq, hrad]

@[simp] theorem reportRewound_keeps (m : Parts) (hevq : m.evq = true) (s : State) (a1 : Option (Nat × Nat)) :
    masked m (reportRewound s a1) = masked m s := by
  unfold reportRewound; (repeat' split) <;> simp [hevq]

@[simp] theorem rxDecided_keeps (m : Parts) (hevq : m.evq = true) (hrad : m.rad = true) (hsec : m.sec = true) (hkeys : m.keys = true)
    (hfree : m.free = true) (s : State) (f : RxFrame) (i : Nat) (e : NatEnt) (typed : Bool) (buffer : Bool) (pend : Bool) (pkt : Option (Nat × Nat)) :
    masked m (rxDecided s f i e typed buffer pend pkt).1 = masked m s := by
  unfold rxDecided; simp only []; (repeat' split) <;> simp [hevq, hrad, hsec, hkeys, hfree]

@[simp] theorem rxKnown_keeps (m : Parts) (hevq : m.evq = true) (hrad : m.rad = true) (hsec : m.sec = true) (hkeys : m.keys = true)
    (hledr : m.ledr = true) (hledBad : m.ledBad = true) (hfree : m.free = true) (s : State) (f : RxFrame) (i : Nat) (typed : Bool) (buffer : Bool)
    (pkt : Option (Nat × Nat)) :
    masked m (rxKnown s f i typed buffer pkt).1 = masked m s := by
  unfold rxKnown; simp only []; (repeat' split) <;> simp [hevq, hrad, hsec, hkeys, hledr, hledBad, hfree]

@[simp] theorem rxHeaded_keeps (m : Parts) (hevq : m.evq = true) (hrad : m.rad = true) (hsec : m.sec = true) (hkeys : m.keys = true)
    (hledr : m.ledr = true) (hledBad : m.ledBad = true) (hfree : m.free = true) (s : State) (f : RxFrame) (typed : Bool) (buffer : Bool)
    (pkt : Option (Nat × Nat)) (h_ : Except RxFail (Option Nat)) :
    masked m (rxHeaded s f typed buffer pkt h_).1 = masked m s := by
  unfold rxHeaded; (repeat' split) <;> simp [hevq, hrad, hsec, hkeys, hledr, hledBad, hfree]

@[simp] theorem rxJudge_keeps (m : Parts) (htim : m.tim = true) (hevq : m.evq = true) (hrad : m.rad = true) (hsec : m.sec = true)
    (hkeys : m.keys = true) (hledr : m.ledr = true) (hledBad : m.ledBad = true) (hfree : m.free = true) (s : State) (f : RxFrame) (typed : Bool)
    (buffer : Bool) (pkt : Option (Nat × Nat)) :
    masked m (rxJudge s f typed buffer pkt).1 = masked m s := by
  unfold rxJudge; (repeat' split) <;> simp [htim, hevq, hrad, hsec, hkeys, hledr, hledBad, hfree]

@[simp] theorem rxLink_keeps (m : Parts) (htim : m.tim = true) (hevq : m.evq = true) (hrad : m.rad = true) (hsec : m.sec = true)
    (hkeys : m.keys = true) (hledr : m.ledr = true) (hledBad : m.ledBad = true) (hfree : m.free = true) (s : State) (f : RxFrame) (typed : Bool) :
    masked m (rxLink s f typed).1 = masked m s := by
  unfold rxLink; simp [htim, hevq, hrad, hsec, hkeys, hledr, hledBad, hfree]

@[simp] theorem rxReport_keeps (m : Parts) (htim : m.tim = true) (hevq : m.evq = true) (hrad : m.rad = true) (hsec : m.sec = true)
    (hkeys : m.keys = true) (hledr : m.ledr = true) (hledBad : m.ledBad = true) (hfree : m.free = true) (s : State) (f : RxFrame) (q : Nat)
    (n : Nat) :
    masked m (rxReport s f q n).1 = masked m s := by
  unfold rxReport; simp [htim, hevq, hrad, hsec, hkeys, hledr, hledBad, hfree]

@[simp] theorem rxAborted_keeps (m : Parts) (htim : m.tim = true) (hevq : m.evq = true) (hrad : m.rad = true) (hsec : m.sec = true)
    (hkeys : m.keys = true) (hledr : m.ledr = true) (hledBad : m.ledBad = true) (hfree : m.free = true) (s : State) (f : RxFrame) :
    masked m (rxAborted s f) = masked m s := by
  unfold rxAborted; simp only []; (repeat' split) <;> simp [htim, hevq, hrad, hsec, hkeys, hledr, hledBad, hfree]

@[simp] theorem reportOutcomes_keeps (m : Parts) (hevq : m.evq = true) (hlgt : m.lgt = true) (hrad : m.rad = true) (s : State) (c : Nat) (sfd : Nat)
    (lfCtr : Nat) :
    masked m (reportOutcomes s c sfd lfCtr) = masked m s := by
  unfold reportOutcomes; simp [hevq, hlgt, hrad]

@[simp] theorem outcomeTimeout_keeps (m : Parts) (htim : m.tim = true) (hevq : m.evq = true) (hlgt : m.lgt = true) (hrad : m.rad = true) (s : State)
    (c : Nat) :
    masked m (outcomeTimeout s c) = masked m s := by
  unfold outcomeTimeout; (repeat' split) <;> simp [htim, hevq, hlgt, hrad]

@[simp] theorem requeueChan_keeps (m : Parts) (hrad : m.rad = true) (s : State) (c : Nat) (codes : List Nat) :
    masked m (requeueChan s c codes) = masked m s := by
  unfold requeueChan; (repeat' split) <;> simp [hrad]

@[simp] theorem reportRecord_keeps (m : Parts) (hevq : m.evq = true) (s : State) (i : Nat) (f : RxFrame) (b : LanternBody) :
    masked m (reportRecord s i f b) = masked m s := by
  unfold reportRecord; simp [hevq]

@[simp] theorem lanternReported_keeps (m : Parts) (hevq : m.evq = true) (hlgt : m.lgt = true) (hrad : m.rad = true) (s : State) (i : Nat)
    (f : RxFrame) (b : LanternBody) :
    masked m (lanternReported s i f b) = masked m s := by
  unfold lanternReported; (repeat' split) <;> simp [hevq, hlgt, hrad]

@[simp] theorem detectorEvent_keeps (m : Parts) (htim : m.tim = true) (hevq : m.evq = true) (hcrs : m.crs = true) (hrad : m.rad = true)
    (hsec : m.sec = true) (hkeys : m.keys = true) (hledr : m.ledr = true) (hledBad : m.ledBad = true) (hfree : m.free = true) (s : State)
    (f : RxFrame) (payload : List Byte) :
    masked m (detectorEvent s f payload) = masked m s := by
  unfold detectorEvent; simp only []; (repeat' split) <;> simp [htim, hevq, hcrs, hrad, hsec, hkeys, hledr, hledBad, hfree]

@[simp] theorem sensorHeartbeat_keeps (m : Parts) (htim : m.tim = true) (hevq : m.evq = true) (hrad : m.rad = true) (hsec : m.sec = true)
    (hkeys : m.keys = true) (hledr : m.ledr = true) (hledBad : m.ledBad = true) (hfree : m.free = true) (s : State) (f : RxFrame) (flags : Nat)
    (batt : Nat) (data : List Byte) :
    masked m (sensorHeartbeat s f flags batt data) = masked m s := by
  unfold sensorHeartbeat; simp only []; (repeat' split) <;> simp [htim, hevq, hrad, hsec, hkeys, hledr, hledBad, hfree]

@[simp] theorem unlistedMtype_keeps (m : Parts) (htim : m.tim = true) (hevq : m.evq = true) (hrad : m.rad = true) (hsec : m.sec = true)
    (hkeys : m.keys = true) (hledr : m.ledr = true) (hledBad : m.ledBad = true) (hfree : m.free = true) (s : State) (f : RxFrame) (mtype : Nat) :
    masked m (unlistedMtype s f mtype) = masked m s := by
  unfold unlistedMtype; simp only []; (repeat' split) <;> simp [htim, hevq, hrad, hsec, hkeys, hledr, hledBad, hfree]

@[simp] theorem windowClose_keeps (m : Parts) (hevq : m.evq = true) (hrad : m.rad = true) (s : State) (i : Nat) :
    masked m (windowClose s i) = masked m s := by
  unfold windowClose; (repeat' split) <;> simp [hevq, hrad]

@[simp] theorem queueParts_keeps (m : Parts) (hrad : m.rad = true) (s : State) (i n : Nat) (l : List (List Byte)) (j k : Nat) :
    masked m (queueParts s i n l j k) = masked m s := by
  induction k generalizing s l j with
  | zero => rfl
  | succ k ih => unfold queueParts; simp only []; (repeat' split) <;> simp [ih, hrad]

@[simp] theorem answerEnrol_keeps (m : Parts) (hrad : m.rad = true) (hsec : m.sec = true) (hkeys : m.keys = true) (hledr : m.ledr = true)
    (hfree : m.free = true) (s : State) (i reqCtr : Nat) : masked m (answerEnrol s i reqCtr) = masked m s := by
  unfold answerEnrol
  split
  · rfl
  · simp only [queueParts_keeps m hrad, setDyn_keeps m hrad, setSec_keeps m hsec, setLedr_keeps m hledr, setNat_keeps m hrad, putLink_keeps m hkeys]
    split <;> simp [*]

@[simp] theorem unknownJoiner_keeps (m : Parts) (hcalls : m.calls = true) (hevq : m.evq = true) (hrad : m.rad = true) (s : State) (f : RxFrame) :
    masked m (unknownJoiner s f) = masked m s := by
  unfold unknownJoiner; simp only []; (repeat' split) <;> simp [hcalls, hevq, hrad]

@[simp] theorem enrolKnown_keeps (m : Parts) (hevq : m.evq = true) (hrad : m.rad = true) (hsec : m.sec = true) (hkeys : m.keys = true)
    (hledr : m.ledr = true) (hfree : m.free = true) (s : State) (f : RxFrame) (i : Nat) (pend : Bool) (buffer : Bool) :
    masked m (enrolKnown s f i pend buffer) = masked m s := by
  unfold enrolKnown; simp only []; (repeat' split) <;> simp [hevq, hrad, hsec, hkeys, hledr, hfree]

@[simp] theorem enrolJudge_keeps (m : Parts) (hcalls : m.calls = true) (htim : m.tim = true) (hevq : m.evq = true) (hrad : m.rad = true)
    (hsec : m.sec = true) (hkeys : m.keys = true) (hledr : m.ledr = true) (hfree : m.free = true) (s : State) (f : RxFrame) (buffer : Bool) :
    masked m (enrolJudge s f buffer) = masked m s := by
  unfold enrolJudge; simp only []; (repeat' split) <;> simp [hcalls, htim, hevq, hrad, hsec, hkeys, hledr, hfree]

@[simp] theorem enrolRequest_keeps (m : Parts) (hcalls : m.calls = true) (htim : m.tim = true) (hevq : m.evq = true) (hrad : m.rad = true)
    (hsec : m.sec = true) (hkeys : m.keys = true) (hledr : m.ledr = true) (hfree : m.free = true) (s : State) (f : RxFrame) :
    masked m (enrolRequest s f) = masked m s := by
  unfold enrolRequest; simp [hcalls, htim, hevq, hrad, hsec, hkeys, hledr, hfree]

@[simp] theorem queueFallback_keeps (m : Parts) (hrad : m.rad = true) (s : State) (i : Nat) :
    masked m (queueFallback s i) = masked m s := by
  unfold queueFallback; (repeat' split) <;> simp [hrad]

@[simp] theorem fallbackTrack_keeps (m : Parts) (hrad : m.rad = true) (s : State) :
    masked m (fallbackTrack s) = masked m s := by
  unfold fallbackTrack; (try simp only []); (repeat' split) <;> (refine (foldl_keeps m _ _ _ ?_).trans ?_) <;> (try intro s a) <;> (try simp only []) <;> (repeat' split) <;> simp [hrad]

@[simp] theorem rejoinRequest_keeps (m : Parts) (htim : m.tim = true) (hevq : m.evq = true) (hrad : m.rad = true) (hsec : m.sec = true)
    (hkeys : m.keys = true) (hledr : m.ledr = true) (hledBad : m.ledBad = true) (hfree : m.free = true) (s : State) (f : RxFrame) (recCrc : Nat) :
    masked m (rejoinRequest s f recCrc) = masked m s := by
  unfold rejoinRequest; simp only []; (repeat' split) <;> simp [htim, hevq, hrad, hsec, hkeys, hledr, hledBad, hfree]

@[simp] theorem uploadAgain_keeps (m : Parts) (hevq : m.evq = true) (hrad : m.rad = true) (s : State) (i : Nat) :
    masked m (uploadAgain s i) = masked m s := by
  unfold uploadAgain; simp only []; (repeat' split) <;> simp [hevq, hrad]

@[simp] theorem recordPart_keeps (m : Parts) (htim : m.tim = true) (hevq : m.evq = true) (hlgt : m.lgt = true) (hrad : m.rad = true)
    (hsec : m.sec = true) (hkeys : m.keys = true) (hledr : m.ledr = true) (hledBad : m.ledBad = true) (hfree : m.free = true) (s : State)
    (f : RxFrame) (part : Nat) (data : List Byte) :
    masked m (recordPart s f part data).1 = masked m s := by
  unfold recordPart; simp only []; (repeat' split) <;> simp [htim, hevq, hlgt, hrad, hsec, hkeys, hledr, hledBad, hfree]

@[simp] theorem recordTimeout_keeps (m : Parts) (htim : m.tim = true) (hevq : m.evq = true) (hrad : m.rad = true) (s : State) (i : Nat) :
    masked m (recordTimeout s i) = masked m s := by
  unfold recordTimeout; simp only []; (repeat' split) <;> simp [htim, hevq, hrad]

@[simp] theorem enrolled_keeps (m : Parts) (hrad : m.rad = true) (s : State) (i : Nat) :
    masked m (enrolled s i) = masked m s := by
  unfold enrolled; (repeat' split) <;> simp [hrad]

@[simp] theorem uniConfirmed_keeps (m : Parts) (hcalls : m.calls = true) (hevq : m.evq = true) (hrad : m.rad = true) (hsec : m.sec = true)
    (hledr : m.ledr = true) (hledBad : m.ledBad = true) (s : State) (p : Nat) (u : Unicast) :
    masked m (uniConfirmed s p u) = masked m s := by
  unfold uniConfirmed; simp only []; (repeat' split) <;> simp [hcalls, hevq, hrad, hsec, hledr, hledBad]

@[simp] theorem ackConfirms_keeps (m : Parts) (hcalls : m.calls = true) (hevq : m.evq = true) (hrad : m.rad = true) (hsec : m.sec = true)
    (hledr : m.ledr = true) (hledBad : m.ledBad = true) (s : State) (f : RxFrame) (u : Unicast) :
    masked m (ackConfirms s f u) = masked m s := by
  unfold ackConfirms; simp [hcalls, hevq, hrad, hsec, hledr, hledBad]

@[simp] theorem ackJudged_keeps (m : Parts) (hcalls : m.calls = true) (hevq : m.evq = true) (hrad : m.rad = true) (hsec : m.sec = true)
    (hledr : m.ledr = true) (hledBad : m.ledBad = true) (hfree : m.free = true) (s : State) (f : RxFrame) (u : Unicast) :
    masked m (ackJudged s f u) = masked m s := by
  unfold ackJudged; (repeat' split) <;> simp [hcalls, hevq, hrad, hsec, hledr, hledBad, hfree]

@[simp] theorem ackReceive_keeps (m : Parts) (hcalls : m.calls = true) (htim : m.tim = true) (hevq : m.evq = true) (hrad : m.rad = true)
    (hsec : m.sec = true) (hledr : m.ledr = true) (hledBad : m.ledBad = true) (hfree : m.free = true) (s : State) (f : RxFrame) :
    masked m (ackReceive s f) = masked m s := by
  unfold ackReceive; (repeat' split) <;> simp [hcalls, htim, hevq, hrad, hsec, hledr, hledBad, hfree]

@[simp] theorem downlinkUnconfirmed_keeps (m : Parts) (hcalls : m.calls = true) (htim : m.tim = true) (hevq : m.evq = true) (hrad : m.rad = true)
    (s : State) (i : Nat) :
    masked m (downlinkUnconfirmed s i) = masked m s := by
  unfold downlinkUnconfirmed; (repeat' split) <;> simp [hcalls, htim, hevq, hrad]

@[simp] theorem nodeSendTimeout_keeps (m : Parts) (hcalls : m.calls = true) (htim : m.tim = true) (hevq : m.evq = true) (hrad : m.rad = true)
    (s : State) (h_ : Nat) :
    masked m (nodeSendTimeout s h_) = masked m s := by
  unfold nodeSendTimeout; (repeat' split) <;> simp [hcalls, htim, hevq, hrad]

@[simp] theorem unservedHeaded_keeps (m : Parts) (hrad : m.rad = true) (hfree : m.free = true) (s : State) (f : RxFrame) (r : Resource)
    (h_ : Except RxFail (Option Nat)) :
    masked m (unservedHeaded s f r h_) = masked m s := by
  unfold unservedHeaded; (repeat' split) <;> simp [hrad, hfree]

@[simp] theorem frameUnserved_keeps (m : Parts) (hcalls : m.calls = true) (htim : m.tim = true) (hevq : m.evq = true) (hrad : m.rad = true)
    (hsec : m.sec = true) (hkeys : m.keys = true) (hledr : m.ledr = true) (hledBad : m.ledBad = true) (hfree : m.free = true) (s : State)
    (f : RxFrame) (r : Resource) :
    masked m (frameUnserved s f r) = masked m s := by
  unfold frameUnserved; (repeat' split) <;> simp [hcalls, htim, hevq, hrad, hsec, hkeys, hledr, hledBad, hfree]

@[simp] theorem waitTimesOut_keeps (m : Parts) (htim : m.tim = true) (hrad : m.rad = true) (s : State) (w : Work) (r : Resource) :
    masked m (waitTimesOut s w r).1 = masked m s := by
  unfold waitTimesOut; simp [htim, hrad]

@[simp] theorem natCmd_keeps (m : Parts) (hrad : m.rad = true) (s : State) (op : Nat) (i : Nat) :
    masked m (natCmd s op i) = masked m s := by
  unfold natCmd; (repeat' split) <;> simp [hrad]

@[simp] theorem radDues_keeps (m : Parts) (hrad : m.rad = true) (hledr : m.ledr = true) (hledBad : m.ledBad = true) (s : State) :
    masked m (radDues s) = masked m s := by
  unfold radDues; simp only []; (repeat' split) <;> simp [hrad, hledr, hledBad]

@[simp] theorem setMtr_keeps (m : Parts) (hmtr : m.mtr = true) (s : State) (f : MtrState → MtrState) :
    masked m (setMtr s f) = masked m s := by
  unfold setMtr; simp [hmtr]

@[simp] theorem setFeeder_keeps (m : Parts) (hmtr : m.mtr = true) (s : State) (f : Nat) (g : FeederSt → FeederSt) :
    masked m (setFeeder s f g) = masked m s := by
  unfold setFeeder; simp [hmtr]

@[simp] theorem setLedm_keeps (m : Parts) (hledm : m.ledm = true) (s : State) (g : LedgerMtr → LedgerMtr) :
    masked m (setLedm s g) = masked m s := by
  unfold setLedm; simp [hledm]

@[simp] theorem calCheck_keeps (m : Parts) (hevq : m.evq = true) (hmtr : m.mtr = true) (s : State) :
    masked m (calCheck s) = masked m s := by
  unfold calCheck; simp [hevq, hmtr]

@[simp] theorem moveTo_keeps (m : Parts) (hmtr : m.mtr = true) (s : State) (f : Nat) (idx : Nat) (start : Nat) (why : Nat) :
    masked m (moveTo s f idx start why) = masked m s := by
  unfold moveTo; simp only []; (repeat' split) <;> simp [hmtr]

@[simp] theorem mtrClose_keeps (m : Parts) (hevq : m.evq = true) (hmtr : m.mtr = true) (hfree : m.free = true) (s : State) (samples : StrokeSamples) :
    masked m (mtrClose s samples) = masked m s := by
  unfold mtrClose; simp only []; (repeat' split) <;> simp [hevq, hmtr, hfree]

@[simp] theorem mclkCheck_keeps (m : Parts) (hmtr : m.mtr = true) (s : State) (misalign : Int) :
    masked m (mclkCheck s misalign) = masked m s := by
  unfold mclkCheck; (repeat' split) <;> simp [hmtr]

@[simp] theorem addStroke_keeps (m : Parts) (hmtr : m.mtr = true) (s : State) (v : MeterStroke) (f : Nat) :
    masked m (addStroke s v f) = masked m s := by
  unfold addStroke; simp [hmtr]

@[simp] theorem closeDue_keeps (m : Parts) (hmtr : m.mtr = true) (s : State) :
    masked m (closeDue s) = masked m s := by
  unfold closeDue; (try simp only []); (repeat' split) <;> (refine (foldl_keeps m _ _ _ ?_).trans ?_) <;> (try intro s a) <;> (try simp only []) <;> (repeat' split) <;> simp [hmtr]

@[simp] theorem signRule_keeps (m : Parts) (hmtr : m.mtr = true) (s : State) : masked m (signRule s) = masked m s := by
  unfold signRule
  split
  · rfl
  · simp only [closeDue_keeps m hmtr, setMtr_keeps m hmtr]
    exact foldl_keeps m _ _ _ fun s a => foldl_keeps m _ _ _ fun s b => addStroke_keeps m hmtr _ _ _

@[simp] theorem mtrPublish_keeps (m : Parts) (hevq : m.evq = true) (hmtr : m.mtr = true) (s : State) :
    masked m (mtrPublish s) = masked m s := by
  unfold mtrPublish; simp only []; (repeat' split) <;> simp [hevq, hmtr]

@[simp] theorem mtrCrab_keeps (m : Parts) (hmtr : m.mtr = true) (s : State) :
    masked m (mtrCrab s) = masked m s := by
  unfold mtrCrab; simp [hmtr]

@[simp] theorem setMtrChan_keeps (m : Parts) (hmtr : m.mtr = true) (s : State) (c : Nat) (f : MtrChan → MtrChan) :
    masked m (setMtrChan s c f) = masked m s := by
  unfold setMtrChan; simp [hmtr]

@[simp] theorem invalidates_keeps (m : Parts) (hmtr : m.mtr = true) (s : State) (c : Nat) :
    masked m (invalidates s c) = masked m s := by
  unfold invalidates; (try simp only []); (repeat' split) <;> (refine (foldl_keeps m _ _ _ ?_).trans ?_) <;> (try intro s a) <;> (try simp only []) <;> (repeat' split) <;> simp [hmtr]

@[simp] theorem channelStuck_keeps (m : Parts) (hmtr : m.mtr = true) (s : State) (c : Nat) :
    masked m (channelStuck s c) = masked m s := by
  unfold channelStuck; (repeat' split) <;> simp [hmtr]

@[simp] theorem channelOverload_keeps (m : Parts) (hmtr : m.mtr = true) (s : State) (c : Nat) :
    masked m (channelOverload s c) = masked m s := by
  unfold channelOverload; (repeat' split) <;> simp [hmtr]

@[simp] theorem channelPersist_keeps (m : Parts) (hevq : m.evq = true) (s : State) (c : Nat) :
    masked m (channelPersist s c) = masked m s := by
  unfold channelPersist; simp only []; (repeat' split) <;> simp [hevq]

@[simp] theorem channelClear_keeps (m : Parts) (hmtr : m.mtr = true) (s : State) (c : Nat) (overload : Bool) :
    masked m (channelClear s c overload) = masked m s := by
  unfold channelClear; (repeat' split) <;> simp [hmtr]

@[simp] theorem sensorRead_keeps (m : Parts) (hmtr : m.mtr = true) (s : State) (l : List (Option Int)) :
    masked m (sensorRead s l) = masked m s := by
  unfold sensorRead; simp [hmtr]

@[simp] theorem sensorStale_keeps (m : Parts) (hmtr : m.mtr = true) (s : State) (k : Nat) :
    masked m (sensorStale s k) = masked m s := by
  unfold sensorStale; (repeat' split) <;> simp [hmtr]

@[simp] theorem residualWindow_keeps (m : Parts) (hevq : m.evq = true) (hmtr : m.mtr = true) (s : State) (r : Nat) (rms : Nat) :
    masked m (residualWindow s r rms) = masked m s := by
  unfold residualWindow; simp only []; (repeat' split) <;> simp [hevq, hmtr]

@[simp] theorem windowEnds_keeps (m : Parts) (hevq : m.evq = true) (hmtr : m.mtr = true) (s : State) (sums : List (Nat × Nat)) :
    masked m (windowEnds s sums) = masked m s := by
  unfold windowEnds; simp [hevq, hmtr]

@[simp] theorem rmsWindowEnd_keeps (m : Parts) (hevq : m.evq = true) (hmtr : m.mtr = true) (s : State) (us : Nat) (x : StrokeSamples) :
    masked m (rmsWindowEnd s us x) = masked m s := by
  unfold rmsWindowEnd; simp only []; (repeat' split) <;> simp [hevq, hmtr]

@[simp] theorem fixedFallback_keeps (m : Parts) (hmtr : m.mtr = true) (s : State) :
    masked m (fixedFallback s) = masked m s := by
  unfold fixedFallback; (repeat' split) <;> simp [hmtr]

@[simp] theorem fixedWindows_keeps (m : Parts) (hevq : m.evq = true) (hmtr : m.mtr = true) (s : State) (x : StrokeSamples) (skip : Nat) :
    masked m (fixedWindows s x skip) = masked m s := by
  unfold fixedWindows; simp only []; (repeat' split) <;> simp [hevq, hmtr]

@[simp] theorem mtrSave_keeps (m : Parts) (hmtr : m.mtr = true) (hledm : m.ledm = true) (hledBad : m.ledBad = true) (s : State) (kind : Nat)
    (snap : Nat) :
    masked m (mtrSave s kind snap).1 = masked m s := by
  unfold mtrSave; simp only []; (repeat' split) <;> simp [hmtr, hledm, hledBad]

@[simp] theorem stepSaves_keeps (m : Parts) (htim : m.tim = true) (hlgt : m.lgt = true) (hcrs : m.crs = true) (hrad : m.rad = true)
    (hmtr : m.mtr = true) (hledr : m.ledr = true) (hledm : m.ledm = true) (hledBad : m.ledBad = true) (hled : m.led = true) (s : State) (kind : Nat) :
    masked m (stepSaves s kind).1 = masked m s := by
  unfold stepSaves; simp [htim, hlgt, hcrs, hrad, hmtr, hledr, hledm, hledBad, hled]

@[simp] theorem mtrFinal_keeps (m : Parts) (hmtr : m.mtr = true) (hledm : m.ledm = true) (hledBad : m.ledBad = true) (s : State) :
    masked m (mtrFinal s) = masked m s := by
  unfold mtrFinal; (repeat' split) <;> simp [hmtr, hledm, hledBad]

@[simp] theorem mtrPeriodic_keeps (m : Parts) (hmtr : m.mtr = true) (hledm : m.ledm = true) (hledBad : m.ledBad = true) (s : State) :
    masked m (mtrPeriodic s) = masked m s := by
  unfold mtrPeriodic; (repeat' split) <;> simp [hmtr, hledm, hledBad]

@[simp] theorem pfiTrip_keeps (m : Parts) (hevq : m.evq = true) (hmtr : m.mtr = true) (hledBad : m.ledBad = true) (hpins : m.pins = true)
    (hled : m.led = true) (s : State) :
    masked m (pfiTrip s) = masked m s := by
  unfold pfiTrip; simp only []; (repeat' split) <;> simp [hevq, hmtr, hledBad, hpins, hled]

@[simp] theorem pfModeEnd_keeps (m : Parts) (htim : m.tim = true) (hevq : m.evq = true) (hmtr : m.mtr = true) (hpins : m.pins = true) (s : State) :
    masked m (pfModeEnd s) = masked m s := by
  unfold pfModeEnd; simp only []; (repeat' split) <;> simp [htim, hevq, hmtr, hpins]

@[simp] theorem addEstimate_keeps (m : Parts) (hmtr : m.mtr = true) (s : State) (g : Gap) (ns : Nat) (f : Nat) :
    masked m (addEstimate s g ns f) = masked m s := by
  unfold addEstimate; simp [hmtr]

@[simp] theorem mtrResume_keeps (m : Parts) (hmtr : m.mtr = true) (s : State) : masked m (mtrResume s) = masked m s := by
  unfold mtrResume
  split
  · rfl
  · simp only [setMtr_keeps m hmtr]
    refine foldl_keeps m _ _ _ fun s a => ?_
    (repeat' split) <;> simp [*]

@[simp] theorem mtrBegin_keeps (m : Parts) (hmtr : m.mtr = true) (s : State) :
    masked m (mtrBegin s) = masked m s := by
  unfold mtrBegin; (repeat' split) <;> simp [hmtr]

@[simp] theorem mtrStationReset_keeps (m : Parts) (hmtr : m.mtr = true) (s : State) :
    masked m (mtrStationReset s) = masked m s := by
  unfold mtrStationReset; simp [hmtr]

@[simp] theorem mtrStart_keeps (m : Parts) (hevq : m.evq = true) (hmtr : m.mtr = true) (s : State) (cal : MeterRecord) :
    masked m (mtrStart s cal) = masked m s := by
  unfold mtrStart; (repeat' split) <;> simp [hevq, hmtr]

@[simp] theorem lanReport_keeps (m : Parts) (hmtr : m.mtr = true) (s : State) (i : Nat) (at_ : Nat) (energy : Nat) (power : Nat) :
    masked m (lanReport s i at_ energy power) = masked m s := by
  unfold lanReport; simp [hmtr]

@[simp] theorem reconcile_keeps (m : Parts) (hevq : m.evq = true) (hmtr : m.mtr = true) (s : State) (f : Nat) (c : ClosedInt) :
    masked m (reconcile s f c).1 = masked m s := by
  unfold reconcile
  extract_lets k x d meas lans per lan subst loss given other res th bad skip mwh view hi lo within aHi aLo s1 flags stat s2 s3
  show masked m s3 = _
  simp only [s3]
  split
  · exact setFeeder_keeps m hmtr _ _ _
  · rw [event_keeps m hevq]; exact setFeeder_keeps m hmtr _ _ _

@[simp] theorem ringPut_keeps (m : Parts) (hevq : m.evq = true) (hledm : m.ledm = true) (hledBad : m.ledBad = true) (s : State) (r : IntRec) :
    masked m (ringPut s r).1 = masked m s := by
  unfold ringPut; simp only []; (repeat' split) <;> simp [hevq, hledm, hledBad]

@[simp] theorem recordDue_keeps (m : Parts) (hevq : m.evq = true) (hmtr : m.mtr = true) (hledm : m.ledm = true) (hledBad : m.ledBad = true)
    (s : State) (f : Nat) :
    masked m (recordDue s f) = masked m s := by
  unfold recordDue; simp only []; (repeat' split) <;> simp [hevq, hmtr, hledm, hledBad]

@[simp] theorem gapsDue_keeps (m : Parts) (hevq : m.evq = true) (hmtr : m.mtr = true) (hledm : m.ledm = true) (hledBad : m.ledBad = true)
    (s : State) :
    masked m (gapsDue s) = masked m s := by
  unfold gapsDue; (try simp only []); (repeat' split) <;> (refine (foldl_keeps m _ _ _ ?_).trans ?_) <;> (try intro s a) <;> (try simp only []) <;> (repeat' split) <;> simp [hevq, hmtr, hledm, hledBad]

@[simp] theorem flashWrite_keeps (m : Parts) (hflashBad : m.flashBad = true) (s : State) (w : Stn) (f : State → State)
    (h : ∀ s, masked m (f s) = masked m s) : masked m (flashWrite s w f).1 = masked m s := by
  unfold flashWrite; split <;> simp [h, hflashBad]

@[simp] theorem archiveSector_keeps (m : Parts) (hledm : m.ledm = true) (hflashBad : m.flashBad = true) (hflash : m.flash = true) (s : State)
    (l : List IntRec) :
    masked m (archiveSector s l).1 = masked m s := by
  unfold archiveSector; simp [hledm, hflashBad, hflash]

@[simp] theorem archiveAll_keeps (m : Parts) (hledm : m.ledm = true) (hflashBad : m.flashBad = true) (hflash : m.flash = true) (s : State)
    (l : List IntRec) (n : Nat) : masked m (archiveAll s l n).1 = masked m s := by
  induction n generalizing s l with
  | zero => rfl
  | succ n ih => unfold archiveAll; simp only []; (repeat' split) <;> simp [ih, hledm, hflashBad, hflash]

@[simp] theorem profileArchive_keeps (m : Parts) (hmtr : m.mtr = true) (hledm : m.ledm = true) (hflashBad : m.flashBad = true)
    (hflash : m.flash = true) (s : State) : masked m (profileArchive s) = masked m s := by
  unfold profileArchive; generalize 512 = k; simp only []; (repeat' split) <;> simp [hledm, hflashBad, hflash, hmtr]

@[simp] theorem mtrRecovery_keeps (m : Parts) (hevq : m.evq = true) (hmtr : m.mtr = true) (hledm : m.ledm = true) (hledBad : m.ledBad = true)
    (hflashBad : m.flashBad = true) (hflash : m.flash = true) (s : State) (temps : List (Option Int)) :
    masked m (mtrRecovery s temps) = masked m s := by
  unfold mtrRecovery; (repeat' split) <;> simp [hevq, hmtr, hledm, hledBad, hflashBad, hflash]

@[simp] theorem mtrDues_keeps (m : Parts) (hevq : m.evq = true) (hmtr : m.mtr = true) (s : State) :
    masked m (mtrDues s) = masked m s := by
  unfold mtrDues; (repeat' split) <;> simp [hevq, hmtr]

end Sys2Proof.Machine
end

