-- ==== Sys2Proof/Laws/KeepsPower.lean ====
section
/-! SUPPORT. Frames of the operations of PWR, station resets and radio events: which parts of the state each may change. -/
set_option linter.unusedSimpArgs false
set_option linter.unusedVariables false
set_option Elab.async false
namespace Sys2Proof.Machine

@[simp] theorem setPwr_keeps (m : Parts) (hpwr : m.pwr = true) (s : State) (f : PwrState → PwrState) :
    masked m (setPwr s f) = masked m s := by
  unfold setPwr; simp [hpwr]

@[simp] theorem setPower_keeps (m : Parts) (hpwr : m.pwr = true) (s : State) (p : PwrSt) :
    masked m (setPower s p) = masked m s := by
  unfold setPower; (repeat' split) <;> simp [hpwr]

@[simp] theorem featherAtBoundary_keeps (m : Parts) (hstns : m.stns = true) (hpwr : m.pwr = true) (hupd : m.upd = true) (s : State) :
    masked m (featherAtBoundary s) = masked m s := by
  unfold featherAtBoundary; simp only []; (repeat' split) <;> simp [hstns, hpwr, hupd]

@[simp] theorem updGate_keeps (m : Parts) (hstns : m.stns = true) (htim : m.tim = true) (hpwr : m.pwr = true) (s : State) :
    masked m (updGate s) = masked m s := by
  unfold updGate; (repeat' split) <;> simp [hstns, htim, hpwr]

@[simp] theorem setAlarm0_keeps (m : Parts) (hrtc : m.rtc = true) (s : State) (wake : Nat) :
    masked m (setAlarm0 s wake) = masked m s := by
  unfold setAlarm0; simp [hrtc]

@[simp] theorem easyAsked_keeps (m : Parts) (hrtc : m.rtc = true) (hpwr : m.pwr = true) (s : State) (trigger : Nat) (wake : Nat) :
    masked m (easyAsked s trigger wake) = masked m s := by
  unfold easyAsked; simp [hrtc, hpwr]

@[simp] theorem easyRefused_keeps (m : Parts) (hevq : m.evq = true) (hpwr : m.pwr = true) (s : State) (trigger : Nat) (e : Err) :
    masked m (easyRefused s trigger e) = masked m s := by
  unfold easyRefused; simp [hevq, hpwr]

@[simp] theorem dayRefused_keeps (m : Parts) (hevq : m.evq = true) (hpwr : m.pwr = true) (s : State) (e : Err) :
    masked m (dayRefused s e) = masked m s := by
  unfold dayRefused; simp only []; (repeat' split) <;> simp [hevq, hpwr]

@[simp] theorem dayTry_keeps (m : Parts) (hrtc : m.rtc = true) (hevq : m.evq = true) (hpwr : m.pwr = true) (s : State) :
    masked m (dayTry s) = masked m s := by
  unfold dayTry; simp only []; (repeat' split) <;> simp [hrtc, hevq, hpwr]

@[simp] theorem dayRetry_keeps (m : Parts) (hrtc : m.rtc = true) (hevq : m.evq = true) (hpwr : m.pwr = true) (s : State) :
    masked m (dayRetry s) = masked m s := by
  unfold dayRetry; (repeat' split) <;> simp [hrtc, hevq, hpwr]

@[simp] theorem cmpFell_keeps (m : Parts) (hpwr : m.pwr = true) (hpins : m.pins = true) (s : State) :
    masked m (cmpFell s) = masked m s := by
  unfold cmpFell; simp [hpwr, hpins]

@[simp] theorem easyDay_keeps (m : Parts) (hrtc : m.rtc = true) (hevq : m.evq = true) (hpwr : m.pwr = true) (hpins : m.pins = true) (s : State) :
    masked m (easyDay s) = masked m s := by
  unfold easyDay; simp [hrtc, hevq, hpwr, hpins]

@[simp] theorem sleepRequest_keeps (m : Parts) (hrtc : m.rtc = true) (hpwr : m.pwr = true) (s : State) :
    masked m (sleepRequest s) = masked m s := by
  unfold sleepRequest; simp [hrtc, hpwr]

@[simp] theorem easyCommit_keeps (m : Parts) (hevq : m.evq = true) (hpwr : m.pwr = true) (s : State) :
    masked m (easyCommit s) = masked m s := by
  unfold easyCommit; (repeat' split) <;> simp [hevq, hpwr]

@[simp] theorem drivePads_keeps (m : Parts) (hpins : m.pins = true) (s : State) (n : Stn) :
    masked m (drivePads s n) = masked m s := by
  unfold drivePads; simp [hpins]

@[simp] theorem easyAbandon_keeps (m : Parts) (hevq : m.evq = true) (hrad : m.rad = true) (hmtr : m.mtr = true) (hpwr : m.pwr = true)
    (hpins : m.pins = true) (s : State) (e : Entry) (err : Err) (pending : Nat) :
    masked m (easyAbandon s e err pending) = masked m s := by
  unfold easyAbandon; (repeat' split) <;> simp [hevq, hrad, hmtr, hpwr, hpins]

@[simp] theorem easyLate_keeps (m : Parts) (hevq : m.evq = true) (hrad : m.rad = true) (hmtr : m.mtr = true) (hpwr : m.pwr = true)
    (hpins : m.pins = true) (s : State) :
    masked m (easyLate s) = masked m s := by
  unfold easyLate; (repeat' split) <;> simp [hevq, hrad, hmtr, hpwr, hpins]

@[simp] theorem easySaves_keeps (m : Parts) (htim : m.tim = true) (hevq : m.evq = true) (hlgt : m.lgt = true) (hcrs : m.crs = true)
    (hrad : m.rad = true) (hmtr : m.mtr = true) (hledr : m.ledr = true) (hledm : m.ledm = true) (hledBad : m.ledBad = true) (hpwr : m.pwr = true)
    (hpins : m.pins = true) (hled : m.led = true) (s : State) :
    masked m (easySaves s) = masked m s := by
  unfold easySaves; simp only []; (repeat' split) <;> simp [htim, hevq, hlgt, hcrs, hrad, hmtr, hledr, hledm, hledBad, hpwr, hpins, hled]

@[simp] theorem easyPads_keeps (m : Parts) (htim : m.tim = true) (hrad : m.rad = true) (hpins : m.pins = true) (hfree : m.free = true)
    (s : State) : masked m (easyPads s) = masked m s := by
  unfold easyPads
  extract_lets p s1 s2 d
  have h1 : masked m s1 = masked m s := foldl_keeps m _ _ _ fun s a => by split <;> simp [*]
  have h2 : masked m s2 = masked m s1 := foldl_keeps m _ _ _ fun s a => by simp [*]
  have h3 : ∀ a b c, masked m { s2 with tim := a, rad := b, pins := c } = masked m s2 := by intros; simp [masked, htim, hrad, hpins]
  exact (h3 _ _ _).trans (h2.trans h1)

@[simp] theorem sleepGrace_keeps (m : Parts) (htim : m.tim = true) (hevq : m.evq = true) (hrad : m.rad = true) (hpwr : m.pwr = true)
    (hpins : m.pins = true) (haon : m.aon = true) (hfree : m.free = true) (s : State) :
    masked m (sleepGrace s) = masked m s := by
  unfold sleepGrace; (repeat' split) <;> simp [htim, hevq, hrad, hpwr, hpins, haon, hfree]

@[simp] theorem domainsOff_keeps (m : Parts) (hmodp : m.modp = true) (hvtp : m.vtp = true) (hcox : m.cox = true) (hstns : m.stns = true)
    (hevq : m.evq = true) (hrad : m.rad = true) (hpwr : m.pwr = true) (s : State) (e : Entry) :
    masked m (domainsOff s e) = masked m s := by
  unfold domainsOff; simp [hmodp, hvtp, hcox, hstns, hevq, hrad, hpwr]

@[simp] theorem easyFinal_keeps (m : Parts) (hmodp : m.modp = true) (hvtp : m.vtp = true) (hcox : m.cox = true) (hstns : m.stns = true)
    (hevq : m.evq = true) (hrad : m.rad = true) (hmtr : m.mtr = true) (hpwr : m.pwr = true) (hpins : m.pins = true) (s : State) (qualifying : Bool) :
    masked m (easyFinal s qualifying) = masked m s := by
  unfold easyFinal; simp only []; (repeat' split) <;> simp [hmodp, hvtp, hcox, hstns, hevq, hrad, hmtr, hpwr, hpins]

@[simp] theorem holdRelease_keeps (m : Parts) (hrad : m.rad = true) (hpwr : m.pwr = true) (s : State) :
    masked m (holdRelease s) = masked m s := by
  unfold holdRelease; simp only []; (repeat' split) <;> simp [hrad, hpwr]

@[simp] theorem reloadSections_keeps (m : Parts) (hcfg : m.cfg = true) (s : State) (n : Stn) :
    masked m (reloadSections s n) = masked m s := by
  unfold reloadSections; simp [hcfg]

@[simp] theorem resetPads_keeps (m : Parts) (hpins : m.pins = true) (s : State) (n : Stn) :
    masked m (resetPads s n) = masked m s := by
  unfold resetPads; simp [hpins]

@[simp] theorem setUpd_keeps (m : Parts) (hupd : m.upd = true) (s : State) (f : UpdState → UpdState) :
    masked m (setUpd s f) = masked m s := by
  unfold setUpd; simp [hupd]

@[simp] theorem setLast_keeps (m : Parts) (hledBad : m.ledBad = true) (hled : m.led = true) (s : State) (h_ : Nat) (op : Nat) (st : Nat) (e : Err) :
    masked m (setLast s h_ op st e) = masked m s := by
  unfold setLast; simp [hledBad, hled]

@[simp] theorem updOpLost_keeps (m : Parts) (hcalls : m.calls = true) (hevq : m.evq = true) (hledBad : m.ledBad = true) (hupd : m.upd = true)
    (hled : m.led = true) (s : State) (n : Stn) (c : StnCause) :
    masked m (updOpLost s n c) = masked m s := by
  unfold updOpLost; (repeat' split) <;> simp [hcalls, hevq, hledBad, hupd, hled]

@[simp] theorem callsLost_keeps (m : Parts) (hcalls : m.calls = true) (hevq : m.evq = true) (s : State) (n : Stn) :
    masked m (callsLost s n) = masked m s := by
  unfold callsLost; (try simp only []); (repeat' split) <;> first | (simp [hcalls, hevq] <;> fail) | ((refine (foldl_keeps m _ _ _ ?_).trans ?_) <;> (try intro s a) <;> (try simp only []) <;> (repeat' split) <;> simp [hcalls, hevq])

@[simp] theorem sysReset_keeps (m : Parts) (hsys : m.sys = true) (hvtp : m.vtp = true) (hcox : m.cox = true) (hstns : m.stns = true) (s : State) :
    masked m (sysReset s) = masked m s := by
  unfold sysReset; simp [hsys, hvtp, hcox, hstns]

@[simp] theorem nodesAdded_keeps (m : Parts) (hrad : m.rad = true) (hledr : m.ledr = true) (hledBad : m.ledBad = true) (s : State) :
    masked m (nodesAdded s) = masked m s := by
  unfold nodesAdded; (try simp only []); (repeat' split) <;> (refine (foldl_keeps m _ _ _ ?_).trans ?_) <;> (try intro s a) <;> (try simp only []) <;> (repeat' split) <;> simp [hrad, hledr, hledBad]

@[simp] theorem clearLatch_keeps (m : Parts) (hlatch : m.latch = true) (s : State) (n : Stn) :
    masked m (clearLatch s n) = masked m s := by
  unfold clearLatch; simp [hlatch]

@[simp] theorem rewriteWords_keeps (m : Parts) (hsys : m.sys = true) (hmem : m.mem = true) (hfree : m.free = true) (s : State) (n : Stn) :
    masked m (rewriteWords s n) = masked m s := by
  unfold rewriteWords; simp [hsys, hmem, hfree]

@[simp] theorem resetStation_keeps (m : Parts) (hsys : m.sys = true) (hvtp : m.vtp = true) (hcalls : m.calls = true) (hcox : m.cox = true)
    (hstns : m.stns = true) (hcfg : m.cfg = true) (htim : m.tim = true) (hrtc : m.rtc = true) (heth : m.eth = true) (hevq : m.evq = true)
    (hlgt : m.lgt = true) (hcrs : m.crs = true) (hrad : m.rad = true) (hsec : m.sec = true) (hmtr : m.mtr = true) (hledr : m.ledr = true)
    (hledBad : m.ledBad = true) (hpwr : m.pwr = true) (hupd : m.upd = true) (hled : m.led = true) (hmem : m.mem = true) (hlatch : m.latch = true)
    (hfree : m.free = true) (s : State) (n : Stn) (c : StnCause) :
    masked m (resetStation s n c) = masked m s := by
  unfold resetStation; (repeat' split) <;> simp [hsys, hvtp, hcalls, hcox, hstns, hcfg, htim, hrtc, heth, hevq, hlgt, hcrs, hrad, hsec, hmtr, hledr, hledBad, hpwr, hupd, hled, hmem, hlatch, hfree]

@[simp] theorem stnEvent_keeps (m : Parts) (hevq : m.evq = true) (s : State) (n : Stn) :
    masked m (stnEvent s n) = masked m s := by
  unfold stnEvent; simp [hevq]

@[simp] theorem discardWork_keeps (m : Parts) (hlgt : m.lgt = true) (s : State) (n : Stn) :
    masked m (discardWork s n) = masked m s := by
  unfold discardWork; (repeat' split) <;> simp [hlgt]

@[simp] theorem leaveStroke_keeps (m : Parts) (hstns : m.stns = true) (hlgt : m.lgt = true) (s : State) (n : Stn) :
    masked m (leaveStroke s n) = masked m s := by
  unfold leaveStroke; simp [hstns, hlgt]

@[simp] theorem portsFollow_keeps (m : Parts) (hevq : m.evq = true) (hrad : m.rad = true) (s : State) :
    masked m (portsFollow s) = masked m s := by
  unfold portsFollow; (repeat' split) <;> simp [hevq, hrad]

@[simp] theorem stationFault_keeps (m : Parts) (hsys : m.sys = true) (hcox : m.cox = true) (hstns : m.stns = true) (hevq : m.evq = true)
    (hlgt : m.lgt = true) (hrad : m.rad = true) (s : State) (n : Stn) (c : StnCause) :
    masked m (stationFault s n c) = masked m s := by
  unfold stationFault; (repeat' split) <;> simp [hsys, hcox, hstns, hevq, hlgt, hrad]

@[simp] theorem stationResetStart_keeps (m : Parts) (hsys : m.sys = true) (hvtp : m.vtp = true) (hcalls : m.calls = true) (hcox : m.cox = true)
    (hstns : m.stns = true) (hcfg : m.cfg = true) (htim : m.tim = true) (hrtc : m.rtc = true) (heth : m.eth = true) (hevq : m.evq = true)
    (hlgt : m.lgt = true) (hcrs : m.crs = true) (hrad : m.rad = true) (hsec : m.sec = true) (hmtr : m.mtr = true) (hledr : m.ledr = true)
    (hledBad : m.ledBad = true) (hpwr : m.pwr = true) (hupd : m.upd = true) (hpins : m.pins = true) (hled : m.led = true) (hmem : m.mem = true)
    (hlatch : m.latch = true) (hfree : m.free = true) (s : State) :
    masked m (stationResetStart s) = masked m s := by
  unfold stationResetStart; simp only []; (repeat' split) <;> simp [hsys, hvtp, hcalls, hcox, hstns, hcfg, htim, hrtc, heth, hevq, hlgt, hcrs, hrad, hsec, hmtr, hledr, hledBad, hpwr, hupd, hpins, hled, hmem, hlatch, hfree]

@[simp] theorem readyPads_keeps (m : Parts) (hpins : m.pins = true) (s : State) (n : Stn) :
    masked m (readyPads s n) = masked m s := by
  unfold readyPads; (repeat' split) <;> simp [hpins]

@[simp] theorem stationReady_keeps (m : Parts) (hcalls : m.calls = true) (hcox : m.cox = true) (hstns : m.stns = true) (hevq : m.evq = true)
    (hrad : m.rad = true) (hpwr : m.pwr = true) (hpins : m.pins = true) (s : State) (n : Stn) :
    masked m (stationReady s n) = masked m s := by
  unfold stationReady; simp only []; (repeat' split) <;> simp [hcalls, hcox, hstns, hevq, hrad, hpwr, hpins]

@[simp] theorem stationResetAsked_keeps (m : Parts) (hsys : m.sys = true) (hcalls : m.calls = true) (hcox : m.cox = true) (hstns : m.stns = true)
    (hevq : m.evq = true) (hlgt : m.lgt = true) (hrad : m.rad = true) (hpwr : m.pwr = true) (hupd : m.upd = true) (s : State) (h_ : Nat) (n : Stn) :
    masked m (stationResetAsked s h_ n) = masked m s := by
  unfold stationResetAsked; simp only []; (repeat' split) <;> simp [hsys, hcalls, hcox, hstns, hevq, hlgt, hrad, hpwr, hupd]

@[simp] theorem pllLost_keeps (m : Parts) (hsys : m.sys = true) (hvtp : m.vtp = true) (hcalls : m.calls = true) (hcox : m.cox = true)
    (hstns : m.stns = true) (hcfg : m.cfg = true) (htim : m.tim = true) (hrtc : m.rtc = true) (heth : m.eth = true) (hevq : m.evq = true)
    (hlgt : m.lgt = true) (hcrs : m.crs = true) (hrad : m.rad = true) (hsec : m.sec = true) (hmtr : m.mtr = true) (hledr : m.ledr = true)
    (hledBad : m.ledBad = true) (hpwr : m.pwr = true) (hupd : m.upd = true) (hpins : m.pins = true) (hled : m.led = true) (hmem : m.mem = true)
    (hlatch : m.latch = true) (hfree : m.free = true) (s : State) (c : ClockSrc) :
    masked m (pllLost s c) = masked m s := by
  unfold pllLost; (try simp only []); (repeat' split) <;> first | (simp [hsys, hvtp, hcalls, hcox, hstns, hcfg, htim, hrtc, heth, hevq, hlgt, hcrs, hrad, hsec, hmtr, hledr, hledBad, hpwr, hupd, hpins, hled, hmem, hlatch, hfree] <;> fail) | ((refine (foldl_keeps m _ _ _ ?_).trans ?_) <;> (try intro s a) <;> (try simp only []) <;> (repeat' split) <;> simp [hsys, hvtp, hcalls, hcox, hstns, hcfg, htim, hrtc, heth, hevq, hlgt, hcrs, hrad, hsec, hmtr, hledr, hledBad, hpwr, hupd, hpins, hled, hmem, hlatch, hfree])

@[simp] theorem pllRegained_keeps (m : Parts) (hcox : m.cox = true) (s : State) (c : ClockSrc) :
    masked m (pllRegained s c) = masked m s := by
  unfold pllRegained; (try simp only []); (repeat' split) <;> first | (simp [hcox] <;> fail) | ((refine (foldl_keeps m _ _ _ ?_).trans ?_) <;> (try intro s a) <;> (try simp only []) <;> (repeat' split) <;> simp [hcox])

@[simp] theorem lanternEnrolment_keeps (m : Parts) (hvtp : m.vtp = true) (hcalls : m.calls = true) (heth : m.eth = true) (hevq : m.evq = true)
    (hrad : m.rad = true) (hledr : m.ledr = true) (hledBad : m.ledBad = true) (s : State) (m_ : CallMeta) (a : List Byte) :
    masked m (lanternEnrolment s m_ a) = masked m s := by
  unfold lanternEnrolment
  apply vtpCall_keeps <;> first | assumption | (intro h; simp at h; done) | (intros; assumption) | (intros; (try dsimp only); (repeat' split) <;> simp [*] <;> fail) | (intros; rfl)

@[simp] theorem scanStart_keeps (m : Parts) (hcalls : m.calls = true) (hevq : m.evq = true) (hrad : m.rad = true) (s : State) (h_ : Nat)
    (ports : Nat) (test : Bool) (secs : Nat) :
    masked m (scanStart s h_ ports test secs) = masked m s := by
  unfold scanStart; (try simp only []); (repeat' split) <;> (refine (foldl_keeps m _ _ _ ?_).trans ?_) <;> (try intro s a) <;> (try simp only []) <;> (repeat' split) <;> simp [hcalls, hevq, hrad]

@[simp] theorem commissioningScan_keeps (m : Parts) (hvtp : m.vtp = true) (hcalls : m.calls = true) (heth : m.eth = true) (hevq : m.evq = true)
    (hrad : m.rad = true) (s : State) (m_ : CallMeta) (a : List Byte) :
    masked m (commissioningScan s m_ a) = masked m s := by
  unfold commissioningScan
  apply vtpCall_keeps <;> first | assumption | (intro h; simp at h; done) | (intros; assumption) | (intros; (try dsimp only); (repeat' split) <;> simp [*] <;> fail) | (intros; rfl)

@[simp] theorem scanRelease_keeps (m : Parts) (hrad : m.rad = true) (hkeys : m.keys = true) (hfree : m.free = true) (s : State) (c : Scan) :
    masked m (scanRelease s c) = masked m s := by
  unfold scanRelease; simp [hrad, hkeys, hfree]

@[simp] theorem nextScan_keeps (m : Parts) (hcalls : m.calls = true) (hevq : m.evq = true) (hrad : m.rad = true) (s : State) :
    masked m (nextScan s) = masked m s := by
  unfold nextScan; (repeat' split) <;> simp [hcalls, hevq, hrad]

@[simp] theorem scanEnd_keeps (m : Parts) (hcalls : m.calls = true) (htim : m.tim = true) (hevq : m.evq = true) (hrad : m.rad = true)
    (hkeys : m.keys = true) (hfree : m.free = true) (s : State) :
    masked m (scanEnd s) = masked m s := by
  unfold scanEnd; (repeat' split) <;> simp [hcalls, htim, hevq, hrad, hkeys, hfree]

@[simp] theorem nodeSend_keeps (m : Parts) (hvtp : m.vtp = true) (hcalls : m.calls = true) (heth : m.eth = true) (hevq : m.evq = true)
    (hrad : m.rad = true) (s : State) (m_ : CallMeta) (a : List Byte) :
    masked m (nodeSend s m_ a) = masked m s := by
  unfold nodeSend
  apply vtpCall_keeps <;> first | assumption | (intro h; simp at h; done) | (intros; assumption) | (intros; (try dsimp only); (repeat' split) <;> simp [*] <;> fail) | (intros; rfl)

@[simp] theorem binningPart_keeps (m : Parts) (htim : m.tim = true) (hevq : m.evq = true) (hlgt : m.lgt = true) (hrad : m.rad = true)
    (hsec : m.sec = true) (hkeys : m.keys = true) (hledr : m.ledr = true) (hledBad : m.ledBad = true) (hupd : m.upd = true) (hfree : m.free = true)
    (s : State) (f : RxFrame) (part : Nat) (data : List Byte) :
    masked m (binningPart s f part data) = masked m s := by
  unfold binningPart; simp only []; (repeat' split) <;> simp [htim, hevq, hlgt, hrad, hsec, hkeys, hledr, hledBad, hupd, hfree]

end Sys2Proof.Machine
end

