-- ==== Sys2Proof/Laws/KeepsUpdate.lean ====
section
/-! SUPPORT. Frames of the operations of UPD, starts and wakes: which parts of the state each may change. -/
set_option linter.unusedSimpArgs false
set_option linter.unusedVariables false
set_option Elab.async false
namespace Sys2Proof.Machine

@[simp] theorem rewriteHeader_keeps (m : Parts) (hflashBad : m.flashBad = true) (hflash : m.flash = true) (s : State) (f : BootHdr → BootHdr) :
    masked m (rewriteHeader s f).1 = masked m s := by
  unfold rewriteHeader; simp [hflashBad, hflash]

@[simp] theorem xferOpen_keeps (m : Parts) (hupd : m.upd = true) (s : State) (w : Word) :
    masked m (xferOpen s w) = masked m s := by
  unfold xferOpen; simp [hupd]

@[simp] theorem xferAbort_keeps (m : Parts) (hledBad : m.ledBad = true) (hupd : m.upd = true) (hled : m.led = true) (s : State) :
    masked m (xferAbort s) = masked m s := by
  unfold xferAbort; simp [hledBad, hupd, hled]

@[simp] theorem xferTimeout_keeps (m : Parts) (htim : m.tim = true) (hledBad : m.ledBad = true) (hupd : m.upd = true) (hled : m.led = true)
    (s : State) :
    masked m (xferTimeout s) = masked m s := by
  unfold xferTimeout; (repeat' split) <;> simp [htim, hledBad, hupd, hled]

@[simp] theorem blockRefused_keeps (m : Parts) (hupd : m.upd = true) (s : State) (e : Err) :
    masked m (blockRefused s e) = masked m s := by
  unfold blockRefused; simp [hupd]

@[simp] theorem blockCommit_keeps (m : Parts) (hupd : m.upd = true) (s : State) :
    masked m (blockCommit s) = masked m s := by
  unfold blockCommit; simp [hupd]

@[simp] theorem putImage_keeps (m : Parts) (hflash : m.flash = true) (s : State) (k : Nat) (i : Option Image) :
    masked m (putImage s k i) = masked m s := by
  unfold putImage; simp [hflash]

@[simp] theorem slotBlock_keeps (m : Parts) (hflash : m.flash = true) (s : State) (sigs : ImageSigs) :
    masked m (slotBlock s sigs) = masked m s := by
  unfold slotBlock; simp [hflash]

@[simp] theorem blockDone_keeps (m : Parts) (hledBad : m.ledBad = true) (hflashBad : m.flashBad = true) (hupd : m.upd = true)
    (hflash : m.flash = true) (hled : m.led = true) (s : State) (sigs : ImageSigs) :
    masked m (blockDone s sigs) = masked m s := by
  unfold blockDone; simp only []; (repeat' split) <;> simp [hledBad, hflashBad, hupd, hflash, hled]

@[simp] theorem updEnd_keeps (m : Parts) (hcalls : m.calls = true) (hevq : m.evq = true) (hledBad : m.ledBad = true) (hupd : m.upd = true)
    (hled : m.led = true) (s : State) (h_ : Nat) (st : CallSt) (e : Err) :
    masked m (updEnd s h_ st e) = masked m s := by
  unfold updEnd; simp only []; (repeat' split) <;> simp [hcalls, hevq, hledBad, hupd, hled]

@[simp] theorem updFail_keeps (m : Parts) (hcalls : m.calls = true) (hevq : m.evq = true) (hledBad : m.ledBad = true) (hupd : m.upd = true)
    (hled : m.led = true) (s : State) (h_ : Nat) (e : Err) (n : Nat) :
    masked m (updFail s h_ e n) = masked m s := by
  unfold updFail; simp [hcalls, hevq, hledBad, hupd, hled]

@[simp] theorem imageStart_keeps (m : Parts) (hcalls : m.calls = true) (hevq : m.evq = true) (hledBad : m.ledBad = true)
    (hflashBad : m.flashBad = true) (hupd : m.upd = true) (hflash : m.flash = true) (hled : m.led = true) (s : State) (h_ : Nat) (a : List Byte)
    (sigs : ImageSigs) :
    masked m (imageStart s h_ a sigs) = masked m s := by
  unfold imageStart; simp only []; (repeat' split) <;> simp [hcalls, hevq, hledBad, hflashBad, hupd, hflash, hled]

@[simp] theorem imageApply_keeps (m : Parts) (hvtp : m.vtp = true) (hcalls : m.calls = true) (hstns : m.stns = true) (heth : m.eth = true)
    (hevq : m.evq = true) (hledBad : m.ledBad = true) (hflashBad : m.flashBad = true) (hpwr : m.pwr = true) (hupd : m.upd = true)
    (hflash : m.flash = true) (hled : m.led = true) (s : State) (m_ : CallMeta) (a : List Byte) (sigs : ImageSigs) :
    masked m (imageApply s m_ a sigs) = masked m s := by
  unfold imageApply
  apply vtpCall_keeps <;> first | assumption | (intro h; simp at h; done) | (intros; assumption) | (intros; (try dsimp only); (repeat' split) <;> simp [*] <;> fail) | (intros; rfl)

@[simp] theorem imageBuilt_keeps (m : Parts) (hcalls : m.calls = true) (hevq : m.evq = true) (hledBad : m.ledBad = true) (hupd : m.upd = true)
    (hflash : m.flash = true) (hled : m.led = true) (s : State) :
    masked m (imageBuilt s) = masked m s := by
  unfold imageBuilt; (repeat' split) <;> simp [hcalls, hevq, hledBad, hupd, hflash, hled]

@[simp] theorem writeCount_keeps (m : Parts) (hledBad : m.ledBad = true) (hled : m.led = true) (haon : m.aon = true) (s : State) (count : Nat)
    (inprog : Bool) :
    masked m (writeCount s count inprog) = masked m s := by
  unfold writeCount; simp [hledBad, hled, haon]

@[simp] theorem imageActivate_keeps (m : Parts) (hcalls : m.calls = true) (htim : m.tim = true) (hevq : m.evq = true) (hlgt : m.lgt = true)
    (hcrs : m.crs = true) (hrad : m.rad = true) (hmtr : m.mtr = true) (hledr : m.ledr = true) (hledm : m.ledm = true) (hledBad : m.ledBad = true)
    (hflashBad : m.flashBad = true) (hupd : m.upd = true) (hflash : m.flash = true) (hled : m.led = true) (haon : m.aon = true) (s : State)
    (h_ : Nat) (o : ImageOp) :
    masked m (imageActivate s h_ o).1 = masked m s := by
  unfold imageActivate; simp only []; (repeat' split) <;> simp [hcalls, htim, hevq, hlgt, hcrs, hrad, hmtr, hledr, hledm, hledBad, hflashBad, hupd, hflash, hled, haon]

@[simp] theorem putMicro_keeps (m : Parts) (hcfg : m.cfg = true) (s : State) (n : Nat) (v : List Byte) :
    masked m (putMicro s n v) = masked m s := by
  unfold putMicro; simp [hcfg]

@[simp] theorem seriesNext_keeps (m : Parts) (hsys : m.sys = true) (hcalls : m.calls = true) (hcox : m.cox = true) (hstns : m.stns = true)
    (hcfg : m.cfg = true) (hevq : m.evq = true) (hlgt : m.lgt = true) (hrad : m.rad = true) (hledBad : m.ledBad = true)
    (hflashBad : m.flashBad = true) (hupd : m.upd = true) (hflash : m.flash = true) (hled : m.led = true) (s : State) (h_ : Nat) (o : ImageOp) :
    masked m (seriesNext s h_ o) = masked m s := by
  unfold seriesNext; simp only []; (repeat' split) <;> simp [hsys, hcalls, hcox, hstns, hcfg, hevq, hlgt, hrad, hledBad, hflashBad, hupd, hflash, hled]

@[simp] theorem seriesStart_keeps (m : Parts) (hsys : m.sys = true) (hcalls : m.calls = true) (hcox : m.cox = true) (hstns : m.stns = true)
    (hcfg : m.cfg = true) (hevq : m.evq = true) (hlgt : m.lgt = true) (hrad : m.rad = true) (hledBad : m.ledBad = true)
    (hflashBad : m.flashBad = true) (hupd : m.upd = true) (hflash : m.flash = true) (hled : m.led = true) (s : State) (h_ : Nat) (o : ImageOp) :
    masked m (seriesStart s h_ o) = masked m s := by
  unfold seriesStart; simp [hsys, hcalls, hcox, hstns, hcfg, hevq, hlgt, hrad, hledBad, hflashBad, hupd, hflash, hled]

@[simp] theorem seriesPass_keeps (m : Parts) (hsys : m.sys = true) (hcalls : m.calls = true) (hcox : m.cox = true) (hstns : m.stns = true)
    (hcfg : m.cfg = true) (hevq : m.evq = true) (hlgt : m.lgt = true) (hrad : m.rad = true) (hledBad : m.ledBad = true)
    (hflashBad : m.flashBad = true) (hupd : m.upd = true) (hflash : m.flash = true) (hled : m.led = true) (s : State) :
    masked m (seriesPass s) = masked m s := by
  unfold seriesPass; (repeat' split) <;> simp [hsys, hcalls, hcox, hstns, hcfg, hevq, hlgt, hrad, hledBad, hflashBad, hupd, hflash, hled]

@[simp] theorem seriesStroke_keeps (m : Parts) (hupd : m.upd = true) (s : State) (crabbed : Stn → Bool) :
    masked m (seriesStroke s crabbed) = masked m s := by
  unfold seriesStroke; (repeat' split) <;> simp [hupd]

@[simp] theorem seriesFault_keeps (m : Parts) (hsys : m.sys = true) (hcalls : m.calls = true) (hcox : m.cox = true) (hstns : m.stns = true)
    (hcfg : m.cfg = true) (hevq : m.evq = true) (hlgt : m.lgt = true) (hrad : m.rad = true) (hledBad : m.ledBad = true) (hupd : m.upd = true)
    (hled : m.led = true) (s : State) (n : Stn) (c : StnCause) :
    masked m (seriesFault s n c) = masked m s := by
  unfold seriesFault
  split
  · split
    · extract_lets s1 s2
      have h1 : masked m s1 = masked m s := foldl_keeps m _ _ _ fun s a => by simp [*]
      have h2 : masked m s2 = masked m s1 := foldl_keeps m _ _ _ fun s a => by (repeat' split) <;> simp [*]
      clear_value s1 s2
      rw [← h1, ← h2]
      simp [*]
    · rfl
  · rfl

@[simp] theorem takeFault_keeps (m : Parts) (hsys : m.sys = true) (hcalls : m.calls = true) (hcox : m.cox = true) (hstns : m.stns = true)
    (hcfg : m.cfg = true) (hevq : m.evq = true) (hlgt : m.lgt = true) (hrad : m.rad = true) (hledBad : m.ledBad = true) (hupd : m.upd = true)
    (hled : m.led = true) (s : State) (n : Stn) (c : StnCause) :
    masked m (takeFault s n c) = masked m s := by
  unfold takeFault; (repeat' split) <;> simp [hsys, hcalls, hcox, hstns, hcfg, hevq, hlgt, hrad, hledBad, hupd, hled]

@[simp] theorem requestFails_keeps (m : Parts) (hvtp : m.vtp = true) (hstns : m.stns = true) (heth : m.eth = true) (hpwr : m.pwr = true)
    (hupd : m.upd = true) (s : State) (req : Option VtpReq) (e : Err) :
    masked m (requestFails s req e) = masked m s := by
  unfold requestFails; (repeat' split) <;> simp [hvtp, hstns, heth, hpwr, hupd]

@[simp] theorem resourceTmo_keeps (m : Parts) (hvtp : m.vtp = true) (hcalls : m.calls = true) (hstns : m.stns = true) (htim : m.tim = true)
    (heth : m.eth = true) (hevq : m.evq = true) (hrad : m.rad = true) (hsec : m.sec = true) (hkeys : m.keys = true) (hledr : m.ledr = true)
    (hledBad : m.ledBad = true) (hpwr : m.pwr = true) (hupd : m.upd = true) (hfree : m.free = true) (s : State) (w : Work) (r : Resource) (index : Nat) :
    masked m (resourceTmo s w r index) = masked m s := by
  unfold resourceTmo; simp only []; (repeat' split) <;> simp [hvtp, hcalls, hstns, htim, heth, hevq, hrad, hsec, hkeys, hledr, hledBad, hpwr, hupd, hfree]

@[simp] theorem fabricTimeout_keeps (m : Parts) (hsys : m.sys = true) (hvtp : m.vtp = true) (hcalls : m.calls = true) (hcox : m.cox = true)
    (hstns : m.stns = true) (hcfg : m.cfg = true) (heth : m.eth = true) (hevq : m.evq = true) (hlgt : m.lgt = true) (hrad : m.rad = true)
    (hledBad : m.ledBad = true) (hpwr : m.pwr = true) (hupd : m.upd = true) (hled : m.led = true) (s : State) (n : Stn) (req : Option VtpReq) :
    masked m (fabricTimeout s n req) = masked m s := by
  unfold fabricTimeout; simp [hsys, hvtp, hcalls, hcox, hstns, hcfg, heth, hevq, hlgt, hrad, hledBad, hpwr, hupd, hled]

@[simp] theorem pllLoss_keeps (m : Parts) (hsys : m.sys = true) (hvtp : m.vtp = true) (hcalls : m.calls = true) (hcox : m.cox = true)
    (hstns : m.stns = true) (hcfg : m.cfg = true) (htim : m.tim = true) (hrtc : m.rtc = true) (heth : m.eth = true) (hevq : m.evq = true)
    (hlgt : m.lgt = true) (hcrs : m.crs = true) (hrad : m.rad = true) (hsec : m.sec = true) (hmtr : m.mtr = true) (hledr : m.ledr = true)
    (hledBad : m.ledBad = true) (hpwr : m.pwr = true) (hupd : m.upd = true) (hpins : m.pins = true) (hled : m.led = true) (hmem : m.mem = true)
    (hlatch : m.latch = true) (hfree : m.free = true) (s : State) (c : ClockSrc) :
    masked m (pllLoss s c) = masked m s := by
  unfold pllLoss; (repeat' split) <;> simp [hsys, hvtp, hcalls, hcox, hstns, hcfg, htim, hrtc, heth, hevq, hlgt, hcrs, hrad, hsec, hmtr, hledr, hledBad, hpwr, hupd, hpins, hled, hmem, hlatch, hfree]

@[simp] theorem rigWrite_keeps (m : Parts) (hflashBad : m.flashBad = true) (hflash : m.flash = true) (s : State) (set_ : RigSet) (only : Bool) :
    masked m (rigWrite s set_ only).1 = masked m s := by
  unfold rigWrite; simp only []; (repeat' split) <;> simp [hflashBad, hflash]

@[simp] theorem rigStart_keeps (m : Parts) (hcalls : m.calls = true) (hcfg : m.cfg = true) (hevq : m.evq = true) (hledBad : m.ledBad = true)
    (hflashBad : m.flashBad = true) (hupd : m.upd = true) (hflash : m.flash = true) (hled : m.led = true) (s : State) (h_ : Nat) (a : List Byte)
    (set_ : RigSet) :
    masked m (rigStart s h_ a set_) = masked m s := by
  unfold rigStart; simp only []; (repeat' split) <;> simp [hcalls, hcfg, hevq, hledBad, hflashBad, hupd, hflash, hled]

@[simp] theorem rigApply_keeps (m : Parts) (hvtp : m.vtp = true) (hcalls : m.calls = true) (hstns : m.stns = true) (hcfg : m.cfg = true)
    (heth : m.eth = true) (hevq : m.evq = true) (hledBad : m.ledBad = true) (hflashBad : m.flashBad = true) (hpwr : m.pwr = true)
    (hupd : m.upd = true) (hflash : m.flash = true) (hled : m.led = true) (s : State) (m_ : CallMeta) (a : List Byte) (set_ : RigSet) :
    masked m (rigApply s m_ a set_) = masked m s := by
  unfold rigApply
  apply vtpCall_keeps <;> first | assumption | (intro h; simp at h; done) | (intros; assumption) | (intros; (try dsimp only); (repeat' split) <;> simp [*] <;> fail) | (intros; rfl)

@[simp] theorem rigAtBoundary_keeps (m : Parts) (hsys : m.sys = true) (hcalls : m.calls = true) (hcox : m.cox = true) (hstns : m.stns = true)
    (hcfg : m.cfg = true) (hevq : m.evq = true) (hlgt : m.lgt = true) (hrad : m.rad = true) (hledBad : m.ledBad = true) (hupd : m.upd = true)
    (hled : m.led = true) (s : State) :
    masked m (rigAtBoundary s) = masked m s := by
  unfold rigAtBoundary; (try simp only []); (repeat' split) <;> first | (simp [hsys, hcalls, hcox, hstns, hcfg, hevq, hlgt, hrad, hledBad, hupd, hled] <;> fail) | ((refine (foldl_keeps m _ _ _ ?_).trans ?_) <;> (try intro s a) <;> (try simp only []) <;> (repeat' split) <;> simp [hsys, hcalls, hcox, hstns, hcfg, hevq, hlgt, hrad, hledBad, hupd, hled])

@[simp] theorem calWrite_keeps (m : Parts) (hcfg : m.cfg = true) (hflashBad : m.flashBad = true) (hflash : m.flash = true) (s : State) (bin : List
    (Nat × BinRecord)) (m_ : Option MeterRecord) :
    masked m (calWrite s bin m_).1 = masked m s := by
  unfold calWrite; simp only []; (repeat' split) <;> simp [hcfg, hflashBad, hflash]

@[simp] theorem calStart_keeps (m : Parts) (hcalls : m.calls = true) (hcfg : m.cfg = true) (hevq : m.evq = true) (hlgt : m.lgt = true)
    (hmtr : m.mtr = true) (hledBad : m.ledBad = true) (hflashBad : m.flashBad = true) (hupd : m.upd = true) (hflash : m.flash = true)
    (hled : m.led = true) (s : State) (h_ : Nat) :
    masked m (calStart s h_) = masked m s := by
  unfold calStart; simp only []; (repeat' split) <;> simp [hcalls, hcfg, hevq, hlgt, hmtr, hledBad, hflashBad, hupd, hflash, hled]

@[simp] theorem calLoad_keeps (m : Parts) (hvtp : m.vtp = true) (hcalls : m.calls = true) (hstns : m.stns = true) (hcfg : m.cfg = true)
    (heth : m.eth = true) (hevq : m.evq = true) (hlgt : m.lgt = true) (hmtr : m.mtr = true) (hledBad : m.ledBad = true)
    (hflashBad : m.flashBad = true) (hpwr : m.pwr = true) (hupd : m.upd = true) (hflash : m.flash = true) (hled : m.led = true) (s : State)
    (m_ : CallMeta) (a : List Byte) :
    masked m (calLoad s m_ a) = masked m s := by
  unfold calLoad
  apply vtpCall_keeps <;> first | assumption | (intro h; simp at h; done) | (intros; assumption) | (intros; (try dsimp only); (repeat' split) <;> simp [*] <;> fail) | (intros; rfl)

@[simp] theorem calGathered_keeps (m : Parts) (hcfg : m.cfg = true) (htim : m.tim = true) (hflashBad : m.flashBad = true) (hupd : m.upd = true)
    (hflash : m.flash = true) (s : State) :
    masked m (calGathered s) = masked m s := by
  unfold calGathered; simp only []; (repeat' split) <;> simp [hcfg, htim, hflashBad, hupd, hflash]

@[simp] theorem anchorCall_keeps (m : Parts) (hvtp : m.vtp = true) (hcalls : m.calls = true) (hstns : m.stns = true) (heth : m.eth = true)
    (hevq : m.evq = true) (hkeys : m.keys = true) (hpwr : m.pwr = true) (hupd : m.upd = true) (s : State) (m_ : CallMeta) (a : List Byte)
    (signedBy : Option KeyId) :
    masked m (anchorCall s m_ a signedBy) = masked m s := by
  unfold anchorCall
  apply vtpCall_keeps <;> first | assumption | (intro h; simp at h; done) | (intros; assumption) | (intros; (try dsimp only); (repeat' split) <;> simp [*] <;> fail) | (intros; rfl)

@[simp] theorem handoffKey_keeps (m : Parts) (hcrs : m.crs = true) (hledr : m.ledr = true) (s : State) (slot : Nat) :
    masked m (handoffKey s slot) = masked m s := by
  unfold handoffKey; simp [hcrs, hledr]

@[simp] theorem deviceKey_keeps (m : Parts) (hrad : m.rad = true) (hkeys : m.keys = true) (hledr : m.ledr = true) (s : State) (i : Nat) (k : Key) :
    masked m (deviceKey s i k) = masked m s := by
  unfold deviceKey; simp [hrad, hkeys, hledr]

@[simp] theorem importKey_keeps (m : Parts) (hcalls : m.calls = true) (hevq : m.evq = true) (hcrs : m.crs = true) (hrad : m.rad = true)
    (hkeys : m.keys = true) (hledr : m.ledr = true) (h_ : Nat) (s : State) (p : KeyEntry × KeySecret) :
    masked m (importKey h_ s p) = masked m s := by
  unfold importKey; simp only []; (repeat' split) <;> simp [hcalls, hevq, hcrs, hrad, hkeys, hledr]

@[simp] theorem keyStart_keeps (m : Parts) (hcalls : m.calls = true) (hevq : m.evq = true) (hcrs : m.crs = true) (hrad : m.rad = true)
    (hkeys : m.keys = true) (hledr : m.ledr = true) (hledBad : m.ledBad = true) (hupd : m.upd = true) (hled : m.led = true) (s : State) (h_ : Nat)
    (l : List KeySecret) :
    masked m (keyStart s h_ l) = masked m s := by
  unfold keyStart; (repeat' split) <;> simp [hcalls, hevq, hcrs, hrad, hkeys, hledr, hledBad, hupd, hled]

@[simp] theorem keyImport_keeps (m : Parts) (hvtp : m.vtp = true) (hcalls : m.calls = true) (hstns : m.stns = true) (heth : m.eth = true)
    (hevq : m.evq = true) (hcrs : m.crs = true) (hrad : m.rad = true) (hkeys : m.keys = true) (hledr : m.ledr = true) (hledBad : m.ledBad = true)
    (hpwr : m.pwr = true) (hupd : m.upd = true) (hled : m.led = true) (s : State) (m_ : CallMeta) (a : List Byte) (l : List KeySecret) :
    masked m (keyImport s m_ a l) = masked m s := by
  unfold keyImport
  apply vtpCall_keeps <;> first | assumption | (intro h; simp at h; done) | (intros; assumption) | (intros; (try dsimp only); (repeat' split) <;> simp [*] <;> fail) | (intros; rfl)

@[simp] theorem setDist_keeps (m : Parts) (hupd : m.upd = true) (s : State) (f : DistOp → DistOp) :
    masked m (setDist s f) = masked m s := by
  unfold setDist; simp [hupd]

@[simp] theorem setTarget_keeps (m : Parts) (hupd : m.upd = true) (s : State) (i : Nat) (f : DistTarget → DistTarget) :
    masked m (setTarget s i f) = masked m s := by
  unfold setTarget; simp [hupd]

@[simp] theorem distOutcome_keeps (m : Parts) (hcalls : m.calls = true) (hevq : m.evq = true) (hupd : m.upd = true) (s : State) (h_ : Nat) (i : Nat)
    (outcome : Nat) :
    masked m (distOutcome s h_ i outcome) = masked m s := by
  unfold distOutcome; simp [hcalls, hevq, hupd]

@[simp] theorem distOffer_keeps (m : Parts) (hcalls : m.calls = true) (hevq : m.evq = true) (hrad : m.rad = true) (hupd : m.upd = true) (h_ : Nat)
    (s : State) (i : Nat) :
    masked m (distOffer h_ s i) = masked m s := by
  unfold distOffer; (repeat' split) <;> simp [hcalls, hevq, hrad, hupd]

@[simp] theorem distStart_keeps (m : Parts) (hcalls : m.calls = true) (hevq : m.evq = true) (hrad : m.rad = true) (hledBad : m.ledBad = true)
    (hupd : m.upd = true) (hled : m.led = true) (s : State) (h_ : Nat) (a : List Byte) :
    masked m (distStart s h_ a) = masked m s := by
  unfold distStart; simp only []; (repeat' split) <;> simp [hcalls, hevq, hrad, hledBad, hupd, hled]

@[simp] theorem distApply_keeps (m : Parts) (hvtp : m.vtp = true) (hcalls : m.calls = true) (hstns : m.stns = true) (heth : m.eth = true)
    (hevq : m.evq = true) (hrad : m.rad = true) (hledBad : m.ledBad = true) (hpwr : m.pwr = true) (hupd : m.upd = true) (hled : m.led = true)
    (s : State) (m_ : CallMeta) (a : List Byte) :
    masked m (distApply s m_ a) = masked m s := by
  unfold distApply
  apply vtpCall_keeps <;> first | assumption | (intro h; simp at h; done) | (intros; assumption) | (intros; (try dsimp only); (repeat' split) <;> simp [*] <;> fail) | (intros; rfl)

@[simp] theorem distRound_keeps (m : Parts) (hrad : m.rad = true) (hupd : m.upd = true) (s : State) :
    masked m (distRound s) = masked m s := by
  unfold distRound; simp [hrad, hupd]

@[simp] theorem distActivate_keeps (m : Parts) (hrad : m.rad = true) (hupd : m.upd = true) (s : State) :
    masked m (distActivate s) = masked m s := by
  unfold distActivate; simp [hrad, hupd]

@[simp] theorem distWithhold_keeps (m : Parts) (hrad : m.rad = true) (hupd : m.upd = true) (s : State) :
    masked m (distWithhold s) = masked m s := by
  unfold distWithhold; simp only []; (repeat' split) <;> simp [hrad, hupd]

@[simp] theorem distRefresh_keeps (m : Parts) (hrad : m.rad = true) (hupd : m.upd = true) (s : State) :
    masked m (distRefresh s) = masked m s := by
  unfold distRefresh
  simp only [setRad_keeps m hrad]
  refine foldl_keeps m _ _ _ fun s a => ?_
  split <;> simp [*]

@[simp] theorem distEnd_keeps (m : Parts) (hcalls : m.calls = true) (hevq : m.evq = true) (hrad : m.rad = true) (hledBad : m.ledBad = true)
    (hupd : m.upd = true) (hled : m.led = true) (s : State) (h_ : Nat) (st : CallSt) :
    masked m (distEnd s h_ st) = masked m s := by
  unfold distEnd; simp [hcalls, hevq, hrad, hledBad, hupd, hled]

@[simp] theorem distFinals_keeps (m : Parts) (hcalls : m.calls = true) (hevq : m.evq = true) (hrad : m.rad = true) (hledBad : m.ledBad = true)
    (hupd : m.upd = true) (hled : m.led = true) (s : State) (h_ : Nat) :
    masked m (distFinals s h_) = masked m s := by
  unfold distFinals; simp only []; (repeat' split) <;> simp [hcalls, hevq, hrad, hledBad, hupd, hled]

@[simp] theorem distStep_keeps (m : Parts) (hcalls : m.calls = true) (hevq : m.evq = true) (hrad : m.rad = true) (hledBad : m.ledBad = true)
    (hupd : m.upd = true) (hled : m.led = true) (s : State) :
    masked m (distStep s) = masked m s := by
  unfold distStep; simp only []; (repeat' split) <;> simp [hcalls, hevq, hrad, hledBad, hupd, hled]

@[simp] theorem distReport_keeps (m : Parts) (hcalls : m.calls = true) (hevq : m.evq = true) (hupd : m.upd = true) (s : State) (i : Nat) (sfd : Nat)
    (fw : Nat) :
    masked m (distReport s i sfd fw) = masked m s := by
  unfold distReport; simp only []; (repeat' split) <;> simp [hcalls, hevq, hupd]

@[simp] theorem distTimeout_keeps (m : Parts) (hcalls : m.calls = true) (htim : m.tim = true) (hevq : m.evq = true) (hupd : m.upd = true)
    (s : State) (i : Nat) :
    masked m (distTimeout s i) = masked m s := by
  unfold distTimeout; (repeat' split) <;> simp [hcalls, htim, hevq, hupd]

@[simp] theorem lanternReport_keeps (m : Parts) (hcalls : m.calls = true) (htim : m.tim = true) (hevq : m.evq = true) (hlgt : m.lgt = true)
    (hrad : m.rad = true) (hsec : m.sec = true) (hkeys : m.keys = true) (hmtr : m.mtr = true) (hledr : m.ledr = true) (hledBad : m.ledBad = true)
    (hupd : m.upd = true) (hfree : m.free = true) (s : State) (f : RxFrame) (b : LanternBody) :
    masked m (lanternReport s f b) = masked m s := by
  unfold lanternReport; simp only []; (repeat' split) <;> simp [hcalls, htim, hevq, hlgt, hrad, hsec, hkeys, hmtr, hledr, hledBad, hupd, hfree]

@[simp] theorem exportStart_keeps (m : Parts) (hcalls : m.calls = true) (hevq : m.evq = true) (s : State) (h : Nat) (l : List (List Byte)) :
    masked m (exportStart s h l) = masked m s := by simp [exportStart, hcalls, hevq]

@[simp] theorem profileExport_keeps (m : Parts) (hvtp : m.vtp = true) (hcalls : m.calls = true) (heth : m.eth = true) (hevq : m.evq = true)
    (hflashBad : m.flashBad = true) (s : State) (m_ : CallMeta) (a : List Byte) :
    masked m (profileExport s m_ a) = masked m s := by
  unfold profileExport
  apply vtpCall_keeps <;> first | assumption | (intro h; simp at h; done) | (intros; assumption) | (intros; (try dsimp only); (repeat' split) <;> simp [*] <;> fail) | (intros; rfl)

@[simp] theorem captureExport_keeps (m : Parts) (hvtp : m.vtp = true) (hcalls : m.calls = true) (heth : m.eth = true) (hevq : m.evq = true)
    (s : State) (m_ : CallMeta) (a : List Byte) :
    masked m (captureExport s m_ a) = masked m s := by
  unfold captureExport
  apply vtpCall_keeps <;> first | assumption | (intro h; simp at h; done) | (intros; assumption) | (intros; (try dsimp only); (repeat' split) <;> simp [*] <;> fail) | (intros; rfl)

@[simp] theorem stationResetCall_keeps (m : Parts) (hsys : m.sys = true) (hvtp : m.vtp = true) (hcalls : m.calls = true) (hcox : m.cox = true)
    (hstns : m.stns = true) (heth : m.eth = true) (hevq : m.evq = true) (hlgt : m.lgt = true) (hrad : m.rad = true) (hpwr : m.pwr = true)
    (hupd : m.upd = true) (s : State) (m_ : CallMeta) (a : List Byte) :
    masked m (stationResetCall s m_ a) = masked m s := by
  unfold stationResetCall
  apply vtpCall_keeps <;> first | assumption | (intro h; simp at h; done) | (intros; assumption) | (intros; (try dsimp only); (repeat' split) <;> simp [*] <;> fail) | (intros; rfl)

@[simp] theorem moduleResetCall_keeps (m : Parts) (hsys : m.sys = true) (hvtp : m.vtp = true) (hcalls : m.calls = true) (heth : m.eth = true)
    (hevq : m.evq = true) (s : State) (m_ : CallMeta) (a : List Byte) :
    masked m (moduleResetCall s m_ a) = masked m s := by
  unfold moduleResetCall
  apply vtpCall_keeps <;> first | assumption | (intro h; simp at h; done) | (intros; assumption) | (intros; (try dsimp only); (repeat' split) <;> simp [*] <;> fail) | (intros; rfl)

@[simp] theorem sendWithdrawn_keeps (m : Parts) (hcalls : m.calls = true) (hevq : m.evq = true) (hrad : m.rad = true) (s : State) (h_ : Nat) :
    masked m (sendWithdrawn s h_) = masked m s := by
  unfold sendWithdrawn; (repeat' split) <;> simp [hcalls, hevq, hrad]

@[simp] theorem cancelEffect_keeps (m : Parts) (hcalls : m.calls = true) (hcox : m.cox = true) (hstns : m.stns = true) (hevq : m.evq = true)
    (hrad : m.rad = true) (hkeys : m.keys = true) (hledBad : m.ledBad = true) (hupd : m.upd = true) (hled : m.led = true) (hfree : m.free = true)
    (s : State) (h_ : Nat) :
    masked m (cancelEffect s h_) = masked m s := by
  unfold cancelEffect; simp only []; (repeat' split) <;> simp [hcalls, hcox, hstns, hevq, hrad, hkeys, hledBad, hupd, hled, hfree]

@[simp] theorem cancelDues_keeps (m : Parts) (hcalls : m.calls = true) (hcox : m.cox = true) (hstns : m.stns = true) (hevq : m.evq = true)
    (hrad : m.rad = true) (hkeys : m.keys = true) (hledBad : m.ledBad = true) (hupd : m.upd = true) (hled : m.led = true) (hfree : m.free = true)
    (s : State) :
    masked m (cancelDues s) = masked m s := by
  unfold cancelDues; (try simp only []); (repeat' split) <;> (refine (foldl_keeps m _ _ _ ?_).trans ?_) <;> (try intro s a) <;> (try simp only []) <;> (repeat' split) <;> simp [hcalls, hcox, hstns, hevq, hrad, hkeys, hledBad, hupd, hled, hfree]

@[simp] theorem cancelServe_keeps (m : Parts) (hcalls : m.calls = true) (q : VtpReq) (handle : Nat) (s : State) :
    masked m (cancelServe q handle s).1 = masked m s := by
  unfold cancelServe; (repeat' split) <;> simp [hcalls]

@[simp] theorem updStart_keeps (m : Parts) (hupd : m.upd = true) (s : State) :
    masked m (updStart s) = masked m s := by
  unfold updStart; simp [hupd]

@[simp] theorem updSteady_keeps (m : Parts) (hledBad : m.ledBad = true) (hled : m.led = true) (s : State) :
    masked m (updSteady s) = masked m s := by
  unfold updSteady; (repeat' split) <;> simp [hledBad, hled]

@[simp] theorem easyTimed_keeps (m : Parts) (hledBad : m.ledBad = true) (hled : m.led = true) (s : State) :
    masked m (easyTimed s) = masked m s := by
  unfold easyTimed; (repeat' split) <;> simp [hledBad, hled]

@[simp] theorem rigTaken_keeps (m : Parts) (hsys : m.sys = true) (hcfg : m.cfg = true) (s : State) (active : Nat) :
    masked m (rigTaken s active) = masked m s := by
  unfold rigTaken; simp [hsys, hcfg]

@[simp] theorem calTaken_keeps (m : Parts) (hcfg : m.cfg = true) (s : State) :
    masked m (calTaken s).1 = masked m s := by
  unfold calTaken; (repeat' split) <;> simp [hcfg]

@[simp] theorem stationsLoaded_keeps (m : Parts) (hcfg : m.cfg = true) (hevq : m.evq = true) (hlgt : m.lgt = true) (hcrs : m.crs = true)
    (hrad : m.rad = true) (hsec : m.sec = true) (hkeys : m.keys = true) (hmtr : m.mtr = true) (hledr : m.ledr = true) (hledm : m.ledm = true)
    (hupd : m.upd = true) (hfree : m.free = true) (s : State) :
    masked m (stationsLoaded s) = masked m s := by
  unfold stationsLoaded; simp only []; (repeat' split) <;> simp [hcfg, hevq, hlgt, hcrs, hrad, hsec, hkeys, hmtr, hledr, hledm, hupd, hfree]

@[simp] theorem wakeEvents_keeps (m : Parts) (hevq : m.evq = true) (hpwr : m.pwr = true) (s : State) :
    masked m (wakeEvents s) = masked m s := by
  unfold wakeEvents; simp [hevq, hpwr]

@[simp] theorem firmwareUp_keeps (m : Parts) (hmodp : m.modp = true) (hsys : m.sys = true) (hstns : m.stns = true) (hcfg : m.cfg = true)
    (hrtc : m.rtc = true) (hevq : m.evq = true) (hlgt : m.lgt = true) (hcrs : m.crs = true) (hrad : m.rad = true) (hsec : m.sec = true)
    (hkeys : m.keys = true) (hmtr : m.mtr = true) (hledr : m.ledr = true) (hledm : m.ledm = true) (hledBad : m.ledBad = true) (hpwr : m.pwr = true)
    (hupd : m.upd = true) (hled : m.led = true) (hfree : m.free = true) (s : State) (active : Nat) :
    masked m (firmwareUp s active) = masked m s := by
  unfold firmwareUp; simp only []; (repeat' split) <;> simp [hmodp, hsys, hstns, hcfg, hrtc, hevq, hlgt, hcrs, hrad, hsec, hkeys, hmtr, hledr, hledm, hledBad, hpwr, hupd, hled, hfree]

@[simp] theorem serviceOpen_keeps (m : Parts) (hvtp : m.vtp = true) (hpins : m.pins = true) (s : State) :
    masked m (serviceOpen s) = masked m s := by
  unfold serviceOpen; (repeat' split) <;> simp [hvtp, hpins]

@[simp] theorem bootRecord_keeps (m : Parts) (hsys : m.sys = true) (hcfg : m.cfg = true) (s : State) (b : State) (c : BootChoice) (cause : Nat)
    (detail : Nat) :
    masked m (bootRecord s b c cause detail) = masked m s := by
  unfold bootRecord; simp [hsys, hcfg]

@[simp] theorem bootOn_keeps (m : Parts) (hmodp : m.modp = true) (hsys : m.sys = true) (hvtp : m.vtp = true) (hstns : m.stns = true)
    (hcfg : m.cfg = true) (hrtc : m.rtc = true) (hevq : m.evq = true) (hlgt : m.lgt = true) (hcrs : m.crs = true) (hrad : m.rad = true)
    (hsec : m.sec = true) (hkeys : m.keys = true) (hmtr : m.mtr = true) (hledr : m.ledr = true) (hledm : m.ledm = true) (hledBad : m.ledBad = true)
    (hpwr : m.pwr = true) (hupd : m.upd = true) (hpins : m.pins = true) (hled : m.led = true) (hfree : m.free = true) (s : State) (c : BootChoice)
    (rig : Nat) :
    masked m (bootOn s c rig) = masked m s := by
  unfold bootOn; (repeat' split) <;> simp [hmodp, hsys, hvtp, hstns, hcfg, hrtc, hevq, hlgt, hcrs, hrad, hsec, hkeys, hmtr, hledr, hledm, hledBad, hpwr, hupd, hpins, hled, hfree]

@[simp] theorem flashReset_keeps (m : Parts) (hcfg : m.cfg = true) (hpins : m.pins = true) (hflash : m.flash = true) (s : State) :
    masked m (flashReset s) = masked m s := by
  unfold flashReset; simp [hcfg, hpins, hflash]

@[simp] theorem supplied_keeps (m : Parts) (hmodp : m.modp = true) (hbankA : m.bankA = true) (hbankB : m.bankB = true) (hrtc : m.rtc = true)
    (hpwr : m.pwr = true) (hpins : m.pins = true) (haon : m.aon = true) (s : State) (a : Nat) (b : Nat) (aonLost : Bool) :
    masked m (supplied s a b aonLost) = masked m s := by
  unfold supplied; simp [hmodp, hbankA, hbankB, hrtc, hpwr, hpins, haon]

@[simp] theorem startRecord_keeps (m : Parts) (hevq : m.evq = true) (s : State) :
    masked m (startRecord s) = masked m s := by
  unfold startRecord; simp [hevq]

@[simp] theorem steady_keeps (m : Parts) (hsys : m.sys = true) (hevq : m.evq = true) (hledBad : m.ledBad = true) (hflashBad : m.flashBad = true)
    (hflash : m.flash = true) (hled : m.led = true) (haon : m.aon = true) (s : State) :
    masked m (steady s) = masked m s := by
  unfold steady; simp only []; (repeat' split) <;> simp [hsys, hevq, hledBad, hflashBad, hflash, hled, haon]

@[simp] theorem rigMigrationWrite_keeps (m : Parts) (hcfg : m.cfg = true) (hflashBad : m.flashBad = true) (hflash : m.flash = true) (s : State) :
    masked m (rigMigrationWrite s) = masked m s := by
  unfold rigMigrationWrite; simp only []; (repeat' split) <;> simp [hcfg, hflashBad, hflash]

@[simp] theorem wakeNoted_keeps (m : Parts) (haon : m.aon = true) (s : State) :
    masked m (wakeNoted s) = masked m s := by
  unfold wakeNoted; simp [haon]

@[simp] theorem startWake_keeps (m : Parts) (hpwr : m.pwr = true) (haon : m.aon = true) (s : State) (source : Nat) (port : Nat) :
    masked m (startWake s source port) = masked m s := by
  unfold startWake; (repeat' split) <;> simp [hpwr, haon]

@[simp] theorem wakeCmp_keeps (m : Parts) (hpwr : m.pwr = true) (hpins : m.pins = true) (haon : m.aon = true) (s : State) :
    masked m (wakeCmp s) = masked m s := by
  unfold wakeCmp; simp only []; (repeat' split) <;> simp [hpwr, hpins, haon]

@[simp] theorem wakeFrame_keeps (m : Parts) (hpwr : m.pwr = true) (haon : m.aon = true) (s : State) (port : Nat) (o : List Byte) (fcsOk : Bool) :
    masked m (wakeFrame s port o fcsOk) = masked m s := by
  unfold wakeFrame; (repeat' split) <;> simp [hpwr, haon]

@[simp] theorem secondEnds_keeps (m : Parts) (hrtc : m.rtc = true) (hevq : m.evq = true) (hpwr : m.pwr = true) (haon : m.aon = true) (s : State) :
    masked m (secondEnds s) = masked m s := by
  unfold secondEnds; simp only []; (repeat' split) <;> simp [hrtc, hevq, hpwr, haon]

@[simp] theorem oweEvent_keeps (m : Parts) (hpwr : m.pwr = true) (s : State) (e : Nat × Nat × Nat × Nat) :
    masked m (oweEvent s e) = masked m s := by
  unfold oweEvent; simp [hpwr]

@[simp] theorem failedWake_keeps (m : Parts) (hledBad : m.ledBad = true) (hpwr : m.pwr = true) (hled : m.led = true) (haon : m.aon = true)
    (s : State) (result : Nat) :
    masked m (failedWake s result) = masked m s := by
  unfold failedWake; simp only []; (repeat' split) <;> simp [hledBad, hpwr, hled, haon]

@[simp] theorem wakeRetry_keeps (m : Parts) (htim : m.tim = true) (hpwr : m.pwr = true) (haon : m.aon = true) (s : State) :
    masked m (wakeRetry s) = masked m s := by
  unfold wakeRetry; (repeat' split) <;> simp [htim, hpwr, haon]

@[simp] theorem easyUnlock_keeps (m : Parts) (hledBad : m.ledBad = true) (hpwr : m.pwr = true) (hled : m.led = true) (haon : m.aon = true)
    (s : State) :
    masked m (easyUnlock s) = masked m s := by
  unfold easyUnlock; simp only []; (repeat' split) <;> simp [hledBad, hpwr, hled, haon]

@[simp] theorem wakeReached_keeps (m : Parts) (haon : m.aon = true) (s : State) :
    masked m (wakeReached s) = masked m s := by
  unfold wakeReached; (repeat' split) <;> simp [haon]

end Sys2Proof.Machine
end

