-- ==== Sys2Proof/Laws/KeepsVtp.lean ====
section
/-! SUPPORT. Frames of the operations of VTP requests: which parts of the state each may change. -/
set_option linter.unusedSimpArgs false
set_option linter.unusedVariables false
set_option Elab.async false
namespace Sys2Proof.Machine

theorem readOne_keeps (m : Parts) (n : Stn) (hrtc : n = .rtc → m.rtc = true) (hlatch : m.latch = true) (a : State × List Word) (off : Nat) :
    masked m (readOne n a off).1 = masked m a.1 := by
  unfold readOne
  simp only [masked_latch m hlatch]
  split
  · rename_i h; simp [hrtc (by simp at h; exact h.1)]
  · rfl

theorem readRegs_keeps (m : Parts) (n : Stn) (hrtc : n = .rtc → m.rtc = true) (hevq : m.evq = true) (hlatch : m.latch = true)
    (s : State) (l : List Nat) : masked m (readRegs s n l).1 = masked m s := by
  unfold readRegs
  refine (foldl_keeps m _ _ _ fun s a => ?_).trans (foldl1_keeps m _ _ _ fun s a => ?_)
  · exact pairEvent_keeps m hevq _ _ _
  · exact readOne_keeps m n hrtc hlatch _ _

@[simp] theorem whileServed_keeps (m : Parts) (hvtp : m.vtp = true) (q : VtpReq) (s : State) : masked m (whileServed q s) = masked m s := by
  unfold whileServed; simp [hvtp]

@[simp] theorem servedIn_keeps (m : Parts) (hvtp : m.vtp = true) (s : State) (q : VtpReq) (t : State) : masked m (servedIn s q t) = masked m t := by
  unfold servedIn; simp [hvtp]

theorem readServe_keeps (m : Parts) (q : VtpReq) (hvtp : m.vtp = true) (hrtc : q.station = 3 → m.rtc = true) (hevq : m.evq = true)
    (hlatch : m.latch = true) (s : State) :
    masked m (readServe q s).1 = masked m s := by
  unfold readServe
  split
  · rfl
  · rename_i n hn
    split
    · rfl
    · refine (servedIn_keeps m hvtp _ _ _).trans ((readRegs_keeps m n (fun h => hrtc (by subst h; exact (idx_ofIdx hn).symm)) hevq hlatch _ _).trans ?_)
      exact whileServed_keeps m hvtp _ _

theorem vtpRead_keeps (m : Parts) (hvtp : m.vtp = true) (heth : m.eth = true) (hevq : m.evq = true) (hlatch : m.latch = true) (n : Nat)
    (hrtc : n = 3 → m.rtc = true) (hstns : n = 11 → m.stns = true) (hpwr : n = 11 → m.pwr = true) (hupd : n = 11 → m.upd = true) (s : State)
    (c : VtpMeta) (off len : Nat) :
    masked m (vtpRead s c n off len) = masked m s := by
  unfold vtpRead
  exact vtpServe_keeps m hvtp heth s _ hstns hpwr hupd _ _ _ fun s => readServe_keeps m _ hvtp hrtc hevq hlatch s
@[simp] theorem vtpRead_rad_keeps (m : Parts) (hvtp : m.vtp = true) (heth : m.eth = true) (hevq : m.evq = true) (hlatch : m.latch = true)
    (s : State) (c : VtpMeta) (off len : Nat) : masked m (vtpRead s c Stn.rad.idx off len) = masked m s :=
  vtpRead_keeps m hvtp heth hevq hlatch Stn.rad.idx (fun h => by simp [Stn.idx] at h) (fun h => by simp [Stn.idx] at h) (fun h => by simp [Stn.idx] at h) (fun h => by simp [Stn.idx] at h) _ _ _ _

@[simp] theorem vtpRead_tim_keeps (m : Parts) (hvtp : m.vtp = true) (heth : m.eth = true) (hevq : m.evq = true) (hlatch : m.latch = true)
    (s : State) (c : VtpMeta) (off len : Nat) : masked m (vtpRead s c Stn.tim.idx off len) = masked m s :=
  vtpRead_keeps m hvtp heth hevq hlatch Stn.tim.idx (fun h => by simp [Stn.idx] at h) (fun h => by simp [Stn.idx] at h) (fun h => by simp [Stn.idx] at h) (fun h => by simp [Stn.idx] at h) _ _ _ _

@[simp] theorem vtpRead_rtc_keeps (m : Parts) (hvtp : m.vtp = true) (heth : m.eth = true) (hevq : m.evq = true) (hlatch : m.latch = true)
    (hrtc : m.rtc = true)
    (s : State) (c : VtpMeta) (off len : Nat) : masked m (vtpRead s c Stn.rtc.idx off len) = masked m s :=
  vtpRead_keeps m hvtp heth hevq hlatch Stn.rtc.idx (fun _ => hrtc) (fun h => by simp [Stn.idx] at h) (fun h => by simp [Stn.idx] at h) (fun h => by simp [Stn.idx] at h) _ _ _ _

@[simp] theorem lgtPut_keeps (m : Parts) (hlgt : m.lgt = true) (s : State) (off : Nat) (w : Word) :
    masked m (lgtPut s off w) = masked m s := by
  unfold lgtPut; (repeat' split) <;> simp [hlgt]

@[simp] theorem lgtAct_keeps (m : Parts) (hevq : m.evq = true) (hlgt : m.lgt = true) (s : State) (off : Nat) (w : Word) :
    masked m (lgtAct s off w) = masked m s := by
  unfold lgtAct; (repeat' split) <;> simp [hevq, hlgt]

@[simp] theorem crsPut_keeps (m : Parts) (hcrs : m.crs = true) (s : State) (off : Nat) (w : Word) :
    masked m (crsPut s off w) = masked m s := by
  unfold crsPut; (repeat' split) <;> simp [hcrs]

@[simp] theorem crsAct_keeps (m : Parts) (hcrs : m.crs = true) (s : State) (off : Nat) (w : Word) :
    masked m (crsAct s off w) = masked m s := by
  unfold crsAct; (repeat' split) <;> simp [hcrs]

@[simp] theorem radPut_keeps (m : Parts) (hrad : m.rad = true) (s : State) (off : Nat) (w : Word) :
    masked m (radPut s off w) = masked m s := by
  unfold radPut; (repeat' split) <;> simp [hrad]

@[simp] theorem radAct_keeps (m : Parts) (hrad : m.rad = true) (s : State) (off : Nat) (w : Word) :
    masked m (radAct s off w) = masked m s := by
  unfold radAct; (repeat' split) <;> simp [hrad]

@[simp] theorem radBad_keeps (m : Parts) (hrad : m.rad = true) (s : State) (ws : Words) :
    masked m (radBad s ws) = masked m s := by
  unfold radBad; (repeat' split) <;> simp [hrad]

@[simp] theorem secAct_keeps (m : Parts) (hrad : m.rad = true) (hsec : m.sec = true) (hkeys : m.keys = true) (hfree : m.free = true) (s : State)
    (off : Nat) (w : Word) :
    masked m (secAct s off w) = masked m s := by
  unfold secAct; (repeat' split) <;> simp [hrad, hsec, hkeys, hfree]

@[simp] theorem secBad_keeps (m : Parts) (hsec : m.sec = true) (s : State) (ws : Words) :
    masked m (secBad s ws) = masked m s := by
  unfold secBad; (repeat' split) <;> simp [hsec]

@[simp] theorem timPut_keeps (m : Parts) (htim : m.tim = true) (s : State) (off : Nat) (w : Word) :
    masked m (timPut s off w) = masked m s := by
  unfold timPut; (repeat' split) <;> simp [htim]

@[simp] theorem timAct_keeps (m : Parts) (htim : m.tim = true) (hevq : m.evq = true) (s : State) (off : Nat) (w : Word) :
    masked m (timAct s off w) = masked m s := by
  unfold timAct; (repeat' split) <;> simp [htim, hevq]

@[simp] theorem rtcClear_keeps (m : Parts) (hrtc : m.rtc = true) (s : State) (w : Word) :
    masked m (rtcClear s w) = masked m s := by
  unfold rtcClear; simp [hrtc]

@[simp] theorem agingPut_keeps (m : Parts) (hrtc : m.rtc = true) (hledBad : m.ledBad = true) (hled : m.led = true) (haon : m.aon = true) (s : State)
    (w : Word) :
    masked m (agingPut s w) = masked m s := by
  unfold agingPut; simp [hrtc, hledBad, hled, haon]

@[simp] theorem rtcPut_keeps (m : Parts) (hrtc : m.rtc = true) (hledBad : m.ledBad = true) (hled : m.led = true) (haon : m.aon = true) (s : State)
    (off : Nat) (w : Word) :
    masked m (rtcPut s off w) = masked m s := by
  unfold rtcPut; (repeat' split) <;> simp [hrtc, hledBad, hled, haon]

@[simp] theorem rtcAct_keeps (m : Parts) (hrtc : m.rtc = true) (s : State) (off : Nat) (w : Word) :
    masked m (rtcAct s off w) = masked m s := by
  unfold rtcAct; (repeat' split) <;> simp [hrtc]

@[simp] theorem rtcBad_keeps (m : Parts) (hrtc : m.rtc = true) (s : State) (t : State) (ws : Words) :
    masked m (rtcBad s t ws) = masked m s := by
  unfold rtcBad; (repeat' split) <;> simp [hrtc]

@[simp] theorem mtrPut_keeps (m : Parts) (hmtr : m.mtr = true) (s : State) (off : Nat) (w : Word) :
    masked m (mtrPut s off w) = masked m s := by
  unfold mtrPut; (repeat' split) <;> simp [hmtr]

@[simp] theorem evqPut_keeps (m : Parts) (hevq : m.evq = true) (s : State) (session : Nat) (off : Nat) (w : Word) :
    masked m (evqPut s session off w) = masked m s := by
  unfold evqPut; (repeat' split) <;> simp [hevq]

@[simp] theorem pwrPut_keeps (m : Parts) (hledBad : m.ledBad = true) (hpwr : m.pwr = true) (hled : m.led = true) (haon : m.aon = true) (s : State)
    (off : Nat) (w : Word) :
    masked m (pwrPut s off w) = masked m s := by
  unfold pwrPut; (repeat' split) <;> simp [hledBad, hpwr, hled, haon]

@[simp] theorem pwrAct_keeps (m : Parts) (hrtc : m.rtc = true) (hpwr : m.pwr = true) (s : State) (off : Nat) (w : Word) :
    masked m (pwrAct s off w) = masked m s := by
  unfold pwrAct; (repeat' split) <;> simp [hrtc, hpwr]

@[simp] theorem pwrBad_keeps (m : Parts) (hevq : m.evq = true) (hpwr : m.pwr = true) (s : State) (t : State) (ws : Words) :
    masked m (pwrBad s t ws) = masked m s := by
  unfold pwrBad; (repeat' split) <;> simp [hevq, hpwr]

@[simp] theorem updPut_keeps (m : Parts) (hupd : m.upd = true) (s : State) (off : Nat) (w : Word) :
    masked m (updPut s off w) = masked m s := by
  unfold updPut; (repeat' split) <;> simp [hupd]

@[simp] theorem updAct_keeps (m : Parts) (hledBad : m.ledBad = true) (hupd : m.upd = true) (hled : m.led = true) (s : State) (off : Nat) (w : Word) :
    masked m (updAct s off w) = masked m s := by
  unfold updAct; (repeat' split) <;> simp [hledBad, hupd, hled]

@[simp] theorem updBad_keeps (m : Parts) (hupd : m.upd = true) (s : State) (t : State) (ws : Words) :
    masked m (updBad s t ws) = masked m s := by
  unfold updBad; (repeat' split) <;> simp [hupd]

@[simp] theorem ethAct_keeps (m : Parts) (heth : m.eth = true) (s : State) (phy : Nat) (w : Word) :
    masked m (ethAct s phy w) = masked m s := by
  unfold ethAct; (repeat' split) <;> simp [heth]

@[simp] theorem sysPut_keeps (m : Parts) (hvtp : m.vtp = true) (hcalls : m.calls = true) (hledBad : m.ledBad = true) (hled : m.led = true)
    (haon : m.aon = true) (s : State) (off : Nat) (w : Word) :
    masked m (sysPut s off w) = masked m s := by
  unfold sysPut; (repeat' split) <;> simp [hvtp, hcalls, hledBad, hled, haon]

@[simp] theorem sysAct_keeps (m : Parts) (hcalls : m.calls = true) (hevq : m.evq = true) (s : State) (off : Nat) :
    masked m (sysAct s off) = masked m s := by unfold sysAct; (repeat' split) <;> simp [hcalls, hevq]

@[simp] theorem putReg_keeps (m : Parts) (hvtp : m.vtp = true) (hcalls : m.calls = true) (htim : m.tim = true) (hrtc : m.rtc = true)
    (hevq : m.evq = true) (hlgt : m.lgt = true) (hcrs : m.crs = true) (hrad : m.rad = true) (hmtr : m.mtr = true) (hledBad : m.ledBad = true)
    (hpwr : m.pwr = true) (hupd : m.upd = true) (hled : m.led = true) (haon : m.aon = true) (n : Stn) (session : Nat) (s : State) (w : Nat × Word) :
    masked m (putReg n session s w) = masked m s := by
  unfold putReg; (repeat' split) <;> simp [hvtp, hcalls, htim, hrtc, hevq, hlgt, hcrs, hrad, hmtr, hledBad, hpwr, hupd, hled, haon]

@[simp] theorem actReg_keeps (m : Parts) (hcalls : m.calls = true) (htim : m.tim = true) (hrtc : m.rtc = true) (heth : m.eth = true)
    (hevq : m.evq = true) (hlgt : m.lgt = true) (hcrs : m.crs = true) (hrad : m.rad = true) (hsec : m.sec = true) (hkeys : m.keys = true)
    (hledBad : m.ledBad = true) (hpwr : m.pwr = true) (hupd : m.upd = true) (hled : m.led = true) (hfree : m.free = true) (n : Stn) (phy : Nat)
    (s : State) (w : Nat × Word) :
    masked m (actReg n phy s w) = masked m s := by
  unfold actReg; (repeat' split) <;> simp [hcalls, htim, hrtc, heth, hevq, hlgt, hcrs, hrad, hsec, hkeys, hledBad, hpwr, hupd, hled, hfree]

@[simp] theorem writeBad_keeps (m : Parts) (hrtc : m.rtc = true) (hevq : m.evq = true) (hrad : m.rad = true) (hsec : m.sec = true)
    (hpwr : m.pwr = true) (hupd : m.upd = true) (n : Stn) (s : State) (t : State) (ws : Words) :
    masked m (writeBad n s t ws) = masked m s := by
  unfold writeBad; (repeat' split) <;> simp [hrtc, hevq, hrad, hsec, hpwr, hupd]

/-- A WRITE changes what its station's registers, actions and refusals change. -/
theorem writeRegs_keeps (m : Parts) (n : Stn) (i phy : Nat) (hput : ∀ s w, masked m (putReg n i s w) = masked m s)
    (hact : ∀ s w, masked m (actReg n phy s w) = masked m s) (hbad : ∀ s t ws, masked m (writeBad n s t ws) = masked m s)
    (s : State) (ws : Words) : masked m (writeRegs s n i phy ws).1 = masked m s := by
  unfold writeRegs
  split
  · split
    · dsimp only
      split
      · exact (foldl_keeps m _ _ _ fun s a => hact s a).trans (foldl_keeps m _ _ _ fun s a => hput s a)
      · exact hbad _ _ _
    · rfl
  · rfl

theorem writeServe_keeps (m : Parts) (phy : Nat) (q : VtpReq)
    (hput : ∀ n, Stn.ofIdx q.station = some n → ∀ i s w, masked m (putReg n i s w) = masked m s)
    (hact : ∀ n, Stn.ofIdx q.station = some n → ∀ s w, masked m (actReg n phy s w) = masked m s)
    (hbad : ∀ n, Stn.ofIdx q.station = some n → ∀ s t ws, masked m (writeBad n s t ws) = masked m s) (s : State) :
    masked m (writeServe phy q s).1 = masked m s := by
  unfold writeServe
  split
  · rfl
  · rename_i n hn
    exact writeRegs_keeps m n _ phy (hput n hn _) (hact n hn) (hbad n hn) s _

/-- A WRITE to a station changes SYS, ETH and what the station's registers change. -/
theorem vtpWrite_keeps (m : Parts) (hvtp : m.vtp = true) (heth : m.eth = true) (n : Stn)
    (h11 : n.idx = 11 → m.stns = true ∧ m.pwr = true ∧ m.upd = true) (phy : Nat)
    (hput : ∀ i s w, masked m (putReg n i s w) = masked m s) (hact : ∀ s w, masked m (actReg n phy s w) = masked m s)
    (hbad : ∀ s t ws, masked m (writeBad n s t ws) = masked m s) (s : State) (c : VtpMeta) (off : Nat) (ws : List Word) :
    masked m (vtpWrite s c n.idx off ws phy) = masked m s := by
  have hn : ∀ k, Stn.ofIdx n.idx = some k → k = n := by simp
  unfold vtpWrite
  refine vtpServe_keeps m hvtp heth s _ (fun h => (h11 h).1) (fun h => (h11 h).2.1) (fun h => (h11 h).2.2) _ _ _ fun s => writeServe_keeps m phy _ ?_ ?_ ?_ s
  · intro k hk; rw [hn k hk]; exact hput
  · intro k hk; rw [hn k hk]; exact hact
  · intro k hk; rw [hn k hk]; exact hbad

/-- A WRITE to any station. -/
theorem vtpWrite_keeps_any (m : Parts) (hvtp : m.vtp = true) (heth : m.eth = true) (hstns : m.stns = true) (hpwr : m.pwr = true)
    (hupd : m.upd = true) (phy : Nat)
    (hput : ∀ n i s w, masked m (putReg n i s w) = masked m s) (hact : ∀ n s w, masked m (actReg n phy s w) = masked m s)
    (hbad : ∀ n s t ws, masked m (writeBad n s t ws) = masked m s) (s : State) (c : VtpMeta) (k off : Nat) (ws : List Word) :
    masked m (vtpWrite s c k off ws phy) = masked m s := by
  unfold vtpWrite
  exact vtpServe_keeps m hvtp heth s _ (fun _ => hstns) (fun _ => hpwr) (fun _ => hupd) _ _ _ fun s =>
    writeServe_keeps m phy _ (fun n _ => hput n) (fun n _ => hact n) (fun n _ => hbad n) s

@[simp] theorem vtpWrite_sys_keeps (m : Parts) (hvtp : m.vtp = true) (hcalls : m.calls = true) (heth : m.eth = true) (hevq : m.evq = true)
    (hledBad : m.ledBad = true) (hled : m.led = true) (haon : m.aon = true) (s : State) (c : VtpMeta)
    (off : Nat) (ws : List Word) (phy : Nat) : masked m (vtpWrite s c Stn.sys.idx off ws phy) = masked m s := by
  refine vtpWrite_keeps m hvtp heth Stn.sys (fun h => by simp [Stn.idx] at h) _ ?_ ?_ ?_ _ _ _ _ <;> intros <;> simp [putReg, actReg, writeBad, *]

@[simp] theorem vtpWrite_tim_keeps (m : Parts) (hvtp : m.vtp = true) (htim : m.tim = true) (heth : m.eth = true) (hevq : m.evq = true) (s : State)
    (c : VtpMeta)
    (off : Nat) (ws : List Word) (phy : Nat) : masked m (vtpWrite s c Stn.tim.idx off ws phy) = masked m s := by
  refine vtpWrite_keeps m hvtp heth Stn.tim (fun h => by simp [Stn.idx] at h) _ ?_ ?_ ?_ _ _ _ _ <;> intros <;> simp [putReg, actReg, writeBad, *]

@[simp] theorem vtpWrite_rtc_keeps (m : Parts) (hvtp : m.vtp = true) (hrtc : m.rtc = true) (heth : m.eth = true) (hledBad : m.ledBad = true)
    (hled : m.led = true) (haon : m.aon = true) (s : State) (c : VtpMeta)
    (off : Nat) (ws : List Word) (phy : Nat) : masked m (vtpWrite s c Stn.rtc.idx off ws phy) = masked m s := by
  refine vtpWrite_keeps m hvtp heth Stn.rtc (fun h => by simp [Stn.idx] at h) _ ?_ ?_ ?_ _ _ _ _ <;> intros <;> simp [putReg, actReg, writeBad, *]

@[simp] theorem vtpWrite_rad_keeps (m : Parts) (hvtp : m.vtp = true) (heth : m.eth = true) (hrad : m.rad = true) (s : State) (c : VtpMeta)
    (off : Nat) (ws : List Word) (phy : Nat) : masked m (vtpWrite s c Stn.rad.idx off ws phy) = masked m s := by
  refine vtpWrite_keeps m hvtp heth Stn.rad (fun h => by simp [Stn.idx] at h) _ ?_ ?_ ?_ _ _ _ _ <;> intros <;> simp [putReg, actReg, writeBad, *]

@[simp] theorem vtpWrite_sec_keeps (m : Parts) (hvtp : m.vtp = true) (heth : m.eth = true) (hrad : m.rad = true) (hsec : m.sec = true)
    (hkeys : m.keys = true) (hfree : m.free = true) (s : State) (c : VtpMeta)
    (off : Nat) (ws : List Word) (phy : Nat) : masked m (vtpWrite s c Stn.sec.idx off ws phy) = masked m s := by
  refine vtpWrite_keeps m hvtp heth Stn.sec (fun h => by simp [Stn.idx] at h) _ ?_ ?_ ?_ _ _ _ _ <;> intros <;> simp [putReg, actReg, writeBad, *]

@[simp] theorem vtpWrite_lgt_keeps (m : Parts) (hvtp : m.vtp = true) (heth : m.eth = true) (hevq : m.evq = true) (hlgt : m.lgt = true) (s : State)
    (c : VtpMeta)
    (off : Nat) (ws : List Word) (phy : Nat) : masked m (vtpWrite s c Stn.lgt.idx off ws phy) = masked m s := by
  refine vtpWrite_keeps m hvtp heth Stn.lgt (fun h => by simp [Stn.idx] at h) _ ?_ ?_ ?_ _ _ _ _ <;> intros <;> simp [putReg, actReg, writeBad, *]

@[simp] theorem vtpWrite_crs_keeps (m : Parts) (hvtp : m.vtp = true) (heth : m.eth = true) (hcrs : m.crs = true) (s : State) (c : VtpMeta)
    (off : Nat) (ws : List Word) (phy : Nat) : masked m (vtpWrite s c Stn.crs.idx off ws phy) = masked m s := by
  refine vtpWrite_keeps m hvtp heth Stn.crs (fun h => by simp [Stn.idx] at h) _ ?_ ?_ ?_ _ _ _ _ <;> intros <;> simp [putReg, actReg, writeBad, *]

@[simp] theorem vtpWrite_mtr_keeps (m : Parts) (hvtp : m.vtp = true) (heth : m.eth = true) (hmtr : m.mtr = true) (s : State) (c : VtpMeta)
    (off : Nat) (ws : List Word) (phy : Nat) : masked m (vtpWrite s c Stn.mtr.idx off ws phy) = masked m s := by
  refine vtpWrite_keeps m hvtp heth Stn.mtr (fun h => by simp [Stn.idx] at h) _ ?_ ?_ ?_ _ _ _ _ <;> intros <;> simp [putReg, actReg, writeBad, *]

@[simp] theorem vtpWrite_eth_keeps (m : Parts) (hvtp : m.vtp = true) (heth : m.eth = true) (s : State) (c : VtpMeta)
    (off : Nat) (ws : List Word) (phy : Nat) : masked m (vtpWrite s c Stn.eth.idx off ws phy) = masked m s := by
  refine vtpWrite_keeps m hvtp heth Stn.eth (fun h => by simp [Stn.idx] at h) _ ?_ ?_ ?_ _ _ _ _ <;> intros <;> simp [putReg, actReg, writeBad, *]

@[simp] theorem vtpWrite_pwr_keeps (m : Parts) (hvtp : m.vtp = true) (hrtc : m.rtc = true) (heth : m.eth = true) (hevq : m.evq = true)
    (hpwr : m.pwr = true) (hledBad : m.ledBad = true) (hled : m.led = true) (haon : m.aon = true) (s : State) (c : VtpMeta)
    (off : Nat) (ws : List Word) (phy : Nat) : masked m (vtpWrite s c Stn.pwr.idx off ws phy) = masked m s := by
  refine vtpWrite_keeps m hvtp heth Stn.pwr (fun h => by simp [Stn.idx] at h) _ ?_ ?_ ?_ _ _ _ _ <;> intros <;> simp [putReg, actReg, writeBad, *]

@[simp] theorem vtpWrite_upd_keeps (m : Parts) (hvtp : m.vtp = true) (hstns : m.stns = true) (heth : m.eth = true) (hpwr : m.pwr = true)
    (hupd : m.upd = true) (hled : m.led = true) (hledBad : m.ledBad = true) (s : State) (c : VtpMeta)
    (off : Nat) (ws : List Word) (phy : Nat) : masked m (vtpWrite s c Stn.upd.idx off ws phy) = masked m s := by
  refine vtpWrite_keeps m hvtp heth Stn.upd (fun _ => ⟨hstns, hpwr, hupd⟩) _ ?_ ?_ ?_ _ _ _ _ <;> intros <;> simp [putReg, actReg, writeBad, *]

@[simp] theorem vtpWrite_evq_keeps (m : Parts) (hvtp : m.vtp = true) (heth : m.eth = true) (hevq : m.evq = true) (s : State) (c : VtpMeta)
    (off : Nat) (ws : List Word) (phy : Nat) : masked m (vtpWrite s c Stn.evq.idx off ws phy) = masked m s := by
  refine vtpWrite_keeps m hvtp heth Stn.evq (fun h => by simp [Stn.idx] at h) _ ?_ ?_ ?_ _ _ _ _ <;> intros <;> simp [putReg, actReg, writeBad, *]

@[simp] theorem notInRom_keeps (m : Parts) (q : VtpReq) (f : State → State × VtpReply) (s : State)
    (h : ∀ s, masked m (f s).1 = masked m s) : masked m (notInRom q f s).1 = masked m s := by
  unfold notInRom; (repeat' split) <;> simp [h]

@[simp] theorem vtpPoll_keeps (m : Parts) (hvtp : m.vtp = true) (hcalls : m.calls = true) (heth : m.eth = true) (s : State) (c : VtpMeta) (a : Nat) :
    masked m (vtpPoll s c a) = masked m s := by
  unfold vtpPoll
  refine vtpServe_keeps m hvtp heth s _ (fun h => ?_) (fun h => ?_) (fun h => ?_) _ _ _ fun s => notInRom_keeps m _ _ _ fun s => ?_
  · simp [plainReq] at h
  · simp [plainReq] at h
  · simp [plainReq] at h
  · simp [hcalls]

@[simp] theorem vtpCancel_keeps (m : Parts) (hvtp : m.vtp = true) (hcalls : m.calls = true) (heth : m.eth = true) (s : State) (c : VtpMeta)
    (a : Nat) :
    masked m (vtpCancel s c a) = masked m s := by
  unfold vtpCancel
  refine vtpServe_keeps m hvtp heth s _ (fun h => ?_) (fun h => ?_) (fun h => ?_) _ _ _ fun s => notInRom_keeps m _ _ _ fun s => ?_
  · simp [plainReq] at h
  · simp [plainReq] at h
  · simp [plainReq] at h
  · simp [hcalls]

@[simp] theorem ledgerFails_keeps (m : Parts) (hevq : m.evq = true) (hledBad : m.ledBad = true) (s : State) (n : Stn) :
    masked m (ledgerFails s n) = masked m s := by
  unfold ledgerFails; simp [hevq, hledBad]

@[simp] theorem flashFails_keeps (m : Parts) (hflashBad : m.flashBad = true) (s : State) (n : Stn) :
    masked m (flashFails s n) = masked m s := by
  unfold flashFails; simp [hflashBad]

@[simp] theorem vbatLow_keeps (m : Parts) (hrtc : m.rtc = true) (s : State) :
    masked m (vbatLow s) = masked m s := by
  unfold vbatLow; (repeat' split) <;> simp [hrtc]

@[simp] theorem timeSave_keeps (m : Parts) (htim : m.tim = true) (hledBad : m.ledBad = true) (hled : m.led = true) (s : State) :
    masked m (timeSave s) = masked m s := by
  unfold timeSave; (repeat' split) <;> simp [htim, hledBad, hled]

@[simp] theorem specialTrim_keeps (m : Parts) (hcfg : m.cfg = true) (s : State) (i : Nat) :
    masked m (specialTrim s i) = masked m s := by
  unfold specialTrim; simp only []; (repeat' split) <;> simp [hcfg]

end Sys2Proof.Machine
end

