-- ==== Sys2Proof/Laws/KeepsStroke.lean ====
section
/-! SUPPORT. Frames of the operations of the stroke: which parts of the state each may change. -/
set_option linter.unusedSimpArgs false
set_option linter.unusedVariables false
set_option Elab.async false
namespace Sys2Proof.Machine

@[simp] theorem reportQueue_keeps (m : Parts) (heth : m.eth = true) (hevq : m.evq = true) (s : State) (q : Nat) :
    masked m (reportQueue s q) = masked m s := by
  unfold reportQueue; simp only []; (repeat' split) <;> simp [heth, hevq]

@[simp] theorem reportsSend_keeps (m : Parts) (heth : m.eth = true) (hevq : m.evq = true) (s : State) :
    masked m (reportsSend s) = masked m s := by
  unfold reportsSend; simp only []; (repeat' split) <;> simp [heth, hevq]

@[simp] theorem reportResend_keeps (m : Parts) (htim : m.tim = true) (hevq : m.evq = true) (s : State) (q : Nat) (seq : Nat) :
    masked m (reportResend s q seq) = masked m s := by
  unfold reportResend; (repeat' split) <;> simp [htim, hevq]

@[simp] theorem startPrograms_keeps (m : Parts) (hstns : m.stns = true) (s : State) :
    masked m (startPrograms s) = masked m s := by
  unfold startPrograms; (try simp only []); (repeat' split) <;> (refine (foldl_keeps m _ _ _ ?_).trans ?_) <;> (try intro s a) <;> (try simp only []) <;> (repeat' split) <;> simp [hstns]

@[simp] theorem driveStart_keeps (m : Parts) (hstns : m.stns = true) (htim : m.tim = true) (hlgt : m.lgt = true) (s : State) (n : Stn) :
    masked m (driveStart s n) = masked m s := by
  unfold driveStart; (repeat' split) <;> simp [hstns, htim, hlgt]

@[simp] theorem stepResults_keeps (m : Parts) (htim : m.tim = true) (hevq : m.evq = true) (hlgt : m.lgt = true) (hcrs : m.crs = true)
    (hmtr : m.mtr = true) (hledr : m.ledr = true) (hledBad : m.ledBad = true) (hled : m.led = true) (s : State) (n : Stn) (k : StkStep) (cyc : Nat) :
    masked m (stepResults s n k cyc) = masked m s := by
  unfold stepResults; (repeat' split) <;> simp [htim, hevq, hlgt, hcrs, hmtr, hledr, hledBad, hled]

@[simp] theorem coxBegin_keeps (m : Parts) (hcox : m.cox = true) (s : State) (prev : Option Nat) (b : Nat) (stepped : Bool) :
    masked m (coxBegin s prev b stepped) = masked m s := by
  unfold coxBegin; simp [hcox]

@[simp] theorem joinStations_keeps (m : Parts) (hstns : m.stns = true) (hpins : m.pins = true) (s : State) (fromHold : Bool) :
    masked m (joinStations s fromHold) = masked m s := by
  unfold joinStations; simp [hstns, hpins]

@[simp] theorem boundaryDues_keeps (m : Parts) (hsys : m.sys = true) (hcalls : m.calls = true) (hcox : m.cox = true) (hstns : m.stns = true)
    (hcfg : m.cfg = true) (hrtc : m.rtc = true) (hevq : m.evq = true) (hlgt : m.lgt = true) (hcrs : m.crs = true) (hrad : m.rad = true)
    (hkeys : m.keys = true) (hmtr : m.mtr = true) (hledr : m.ledr = true) (hledBad : m.ledBad = true) (hpwr : m.pwr = true) (hupd : m.upd = true)
    (hpins : m.pins = true) (hled : m.led = true) (hfree : m.free = true) (s : State) :
    masked m (boundaryDues s) = masked m s := by
  unfold boundaryDues; simp only []; (repeat' split) <;> simp [hsys, hcalls, hcox, hstns, hcfg, hrtc, hevq, hlgt, hcrs, hrad, hkeys, hmtr, hledr, hledBad, hpwr, hupd, hpins, hled, hfree]

@[simp] theorem catchWork_keeps (m : Parts) (hrtc : m.rtc = true) (hevq : m.evq = true) (hlgt : m.lgt = true) (hcrs : m.crs = true)
    (hrad : m.rad = true) (hmtr : m.mtr = true) (s : State) :
    masked m (catchWork s) = masked m s := by
  unfold catchWork; simp only []; (repeat' split) <;> simp [hrtc, hevq, hlgt, hcrs, hrad, hmtr]

@[simp] theorem beginStroke_keeps (m : Parts) (hsys : m.sys = true) (hcalls : m.calls = true) (hcox : m.cox = true) (hstns : m.stns = true)
    (hcfg : m.cfg = true) (htim : m.tim = true) (hrtc : m.rtc = true) (hevq : m.evq = true) (hlgt : m.lgt = true) (hcrs : m.crs = true)
    (hrad : m.rad = true) (hkeys : m.keys = true) (hmtr : m.mtr = true) (hledr : m.ledr = true) (hledBad : m.ledBad = true) (hpwr : m.pwr = true)
    (hupd : m.upd = true) (hpins : m.pins = true) (hled : m.led = true) (hfree : m.free = true) (s : State) (prev : Option Nat) (b : Nat)
    (stepped : Bool) (fromHold : Bool) :
    masked m (beginStroke s prev b stepped fromHold) = masked m s := by
  unfold beginStroke; simp [hsys, hcalls, hcox, hstns, hcfg, htim, hrtc, hevq, hlgt, hcrs, hrad, hkeys, hmtr, hledr, hledBad, hpwr, hupd, hpins, hled, hfree]

@[simp] theorem imageSeries_keeps (m : Parts) (hsys : m.sys = true) (hcalls : m.calls = true) (hcox : m.cox = true) (hstns : m.stns = true)
    (hcfg : m.cfg = true) (htim : m.tim = true) (hevq : m.evq = true) (hlgt : m.lgt = true) (hcrs : m.crs = true) (hrad : m.rad = true)
    (hmtr : m.mtr = true) (hledr : m.ledr = true) (hledm : m.ledm = true) (hledBad : m.ledBad = true) (hflashBad : m.flashBad = true)
    (hupd : m.upd = true) (hflash : m.flash = true) (hled : m.led = true) (haon : m.aon = true) (s : State) :
    masked m (imageSeries s) = masked m s := by
  unfold imageSeries; (repeat' split) <;> simp [hsys, hcalls, hcox, hstns, hcfg, htim, hevq, hlgt, hcrs, hrad, hmtr, hledr, hledm, hledBad, hflashBad, hupd, hflash, hled, haon]

@[simp] theorem passBoundary_keeps (m : Parts) (hcox : m.cox = true) (s : State) :
    masked m (passBoundary s) = masked m s := by
  unfold passBoundary; simp [hcox]

@[simp] theorem stepAt_keeps (m : Parts) (htim : m.tim = true) (hrtc : m.rtc = true) (hevq : m.evq = true) (hledBad : m.ledBad = true)
    (hled : m.led = true) (s : State) (b : Nat) :
    masked m (stepAt s b) = masked m s := by
  unfold stepAt; (repeat' split) <;> simp [htim, hrtc, hevq, hledBad, hled]

@[simp] theorem closeMeters_keeps (m : Parts) (hevq : m.evq = true) (hmtr : m.mtr = true) (hledm : m.ledm = true) (hledBad : m.ledBad = true)
    (hfree : m.free = true) (s : State) (held : Bool) (samples : StrokeSamples) :
    masked m (closeMeters s held samples) = masked m s := by
  unfold closeMeters; (repeat' split) <;> simp [hevq, hmtr, hledm, hledBad, hfree]

@[simp] theorem stepAndBegin_keeps (m : Parts) (hsys : m.sys = true) (hcalls : m.calls = true) (hcox : m.cox = true) (hstns : m.stns = true)
    (hcfg : m.cfg = true) (htim : m.tim = true) (hrtc : m.rtc = true) (hevq : m.evq = true) (hlgt : m.lgt = true) (hcrs : m.crs = true)
    (hrad : m.rad = true) (hkeys : m.keys = true) (hmtr : m.mtr = true) (hledr : m.ledr = true) (hledBad : m.ledBad = true) (hpwr : m.pwr = true)
    (hupd : m.upd = true) (hpins : m.pins = true) (hled : m.led = true) (hfree : m.free = true) (s : State) (prev : Option Nat) (b : Nat)
    (held : Bool) (misalign : Int) :
    masked m (stepAndBegin s prev b held misalign) = masked m s := by
  unfold stepAndBegin; simp only []; (repeat' split) <;> simp [hsys, hcalls, hcox, hstns, hcfg, htim, hrtc, hevq, hlgt, hcrs, hrad, hkeys, hmtr, hledr, hledBad, hpwr, hupd, hpins, hled, hfree]

@[simp] theorem startEnds_keeps (m : Parts) (hmodp : m.modp = true) (hsys : m.sys = true) (s : State) :
    masked m (startEnds s) = masked m s := by
  unfold startEnds; simp [hmodp, hsys]

@[simp] theorem firstStroke_keeps (m : Parts) (hmodp : m.modp = true) (hsys : m.sys = true) (hcalls : m.calls = true) (hcox : m.cox = true)
    (hstns : m.stns = true) (hcfg : m.cfg = true) (htim : m.tim = true) (hrtc : m.rtc = true) (hevq : m.evq = true) (hlgt : m.lgt = true)
    (hcrs : m.crs = true) (hrad : m.rad = true) (hkeys : m.keys = true) (hmtr : m.mtr = true) (hledr : m.ledr = true) (hledBad : m.ledBad = true)
    (hpwr : m.pwr = true) (hupd : m.upd = true) (hpins : m.pins = true) (hled : m.led = true) (haon : m.aon = true) (hfree : m.free = true)
    (s : State) :
    masked m (firstStroke s) = masked m s := by
  unfold firstStroke; (repeat' split) <;> simp [hmodp, hsys, hcalls, hcox, hstns, hcfg, htim, hrtc, hevq, hlgt, hcrs, hrad, hkeys, hmtr, hledr, hledBad, hpwr, hupd, hpins, hled, haon, hfree]

@[simp] theorem driveWaiting_keeps (m : Parts) (hstns : m.stns = true) (htim : m.tim = true) (hlgt : m.lgt = true) (s : State) (n : Stn) :
    masked m (driveWaiting s n) = masked m s := by
  unfold driveWaiting; (repeat' split) <;> simp [hstns, htim, hlgt]

@[simp] theorem setPhase_keeps (m : Parts) (hcox : m.cox = true) (s : State) (p : Phase) :
    masked m (setPhase s p) = masked m s := by
  unfold setPhase; simp [hcox]

@[simp] theorem drive_keeps (m : Parts) (hcox : m.cox = true) (hstns : m.stns = true) (htim : m.tim = true) (hlgt : m.lgt = true) (s : State) :
    masked m (drive s) = masked m s := by
  unfold drive
  split
  · refine (foldl_keeps m _ _ _ fun s a => ?_).trans ?_ <;> simp [hcox, hstns, htim, hlgt]
  · rfl

@[simp] theorem stepDone_keeps (m : Parts) (hstns : m.stns = true) (htim : m.tim = true) (hevq : m.evq = true) (hlgt : m.lgt = true)
    (hcrs : m.crs = true) (hmtr : m.mtr = true) (hledr : m.ledr = true) (hledBad : m.ledBad = true) (hled : m.led = true) (s : State) (n : Stn)
    (cyc : Nat) :
    masked m (stepDone s n cyc) = masked m s := by
  unfold stepDone; simp only []; (repeat' split) <;> simp [hstns, htim, hevq, hlgt, hcrs, hmtr, hledr, hledBad, hled]

@[simp] theorem guardEvent_keeps (m : Parts) (hsys : m.sys = true) (hevq : m.evq = true) (s : State) (g : GuardLast) :
    masked m (guardEvent s g) = masked m s := by
  unfold guardEvent; simp [hsys, hevq]

@[simp] theorem stageFree_keeps (m : Parts) (hevq : m.evq = true) (hfree : m.free = true) (s : State) (q : Nat) (k : Nat) :
    masked m (stageFree s q k) = masked m s := by
  unfold stageFree; simp [hevq, hfree]

@[simp] theorem guardStage_keeps (m : Parts) (hsys : m.sys = true) (hevq : m.evq = true) (hfree : m.free = true) (s : State) (h_ : GuardHit)
    (q : Nat) (k : Nat) :
    masked m (guardStage s h_ q k) = masked m s := by
  unfold guardStage; simp only []; (repeat' split) <;> simp [hsys, hevq, hfree]

@[simp] theorem stageHits_keeps (m : Parts) (hsys : m.sys = true) (hevq : m.evq = true) (hfree : m.free = true) (s : State) (l : List GuardHit) :
    masked m (stageHits s l) = masked m s := by
  unfold stageHits; (try simp only []); (repeat' split) <;> (refine (foldl_keeps m _ _ _ ?_).trans ?_) <;> (try intro s a) <;> (try simp only []) <;> (repeat' split) <;> simp [hsys, hevq, hfree]

@[simp] theorem judged_keeps (m : Parts) (hstns : m.stns = true) (s : State) (n : Stn) :
    masked m (judged s n) = masked m s := by
  unfold judged; (repeat' split) <;> simp [hstns]

@[simp] theorem crabEffect_keeps (m : Parts) (htim : m.tim = true) (hlgt : m.lgt = true) (hcrs : m.crs = true) (hrad : m.rad = true)
    (hmtr : m.mtr = true) (hevq : m.evq = true) (s : State) (n : Stn) :
    masked m (crabEffect s n) = masked m s := by
  unfold crabEffect; (repeat' split) <;> simp [htim, hlgt, hcrs, hrad, hmtr, hevq]

@[simp] theorem crabLimit_keeps (m : Parts) (hsys : m.sys = true) (hcalls : m.calls = true) (hcox : m.cox = true) (hstns : m.stns = true)
    (hcfg : m.cfg = true) (hevq : m.evq = true) (hlgt : m.lgt = true) (hrad : m.rad = true) (hledBad : m.ledBad = true) (hupd : m.upd = true)
    (hled : m.led = true) (s : State) (n : Stn) :
    masked m (crabLimit s n) = masked m s := by
  unfold crabLimit; (repeat' split) <;> simp [hsys, hcalls, hcox, hstns, hcfg, hevq, hlgt, hrad, hledBad, hupd, hled]

@[simp] theorem judge_keeps (m : Parts) (hsys : m.sys = true) (hcalls : m.calls = true) (hcox : m.cox = true) (hstns : m.stns = true)
    (hcfg : m.cfg = true) (htim : m.tim = true) (hevq : m.evq = true) (hlgt : m.lgt = true) (hcrs : m.crs = true) (hrad : m.rad = true)
    (hmtr : m.mtr = true) (hledBad : m.ledBad = true) (hupd : m.upd = true) (hled : m.led = true) (s : State) :
    masked m (judge s) = masked m s := by
  unfold judge; simp [hsys, hcalls, hcox, hstns, hcfg, htim, hevq, hlgt, hcrs, hrad, hmtr, hledBad, hupd, hled]

@[simp] theorem finishWork_keeps (m : Parts) (htim : m.tim = true) (heth : m.eth = true) (hevq : m.evq = true) (hlgt : m.lgt = true)
    (hcrs : m.crs = true) (hrad : m.rad = true) (hmtr : m.mtr = true) (hpwr : m.pwr = true) (s : State) (done : Stn → Bool) :
    masked m (finishWork s done) = masked m s := by
  unfold finishWork; (repeat' split) <;> simp [htim, heth, hevq, hlgt, hcrs, hrad, hmtr, hpwr]

@[simp] theorem nextSeq_keeps (m : Parts) (htim : m.tim = true) (s : State) :
    masked m (nextSeq s).1 = masked m s := by
  unfold nextSeq; simp [htim]

@[simp] theorem ptpQueue_keeps (m : Parts) (htim : m.tim = true) (heth : m.eth = true) (s : State) (p : Nat) (i : TxItem) (message : Nat) (j : Nat) :
    masked m (ptpQueue s p i message j) = masked m s := by
  unfold ptpQueue; simp only []; (repeat' split) <;> simp [htim, heth]

@[simp] theorem delayReqSend_keeps (m : Parts) (htim : m.tim = true) (heth : m.eth = true) (s : State) :
    masked m (delayReqSend s) = masked m s := by
  unfold delayReqSend; (repeat' split) <;> simp [htim, heth]

@[simp] theorem pdelayReqSend_keeps (m : Parts) (htim : m.tim = true) (heth : m.eth = true) (s : State) (p : Nat) :
    masked m (pdelayReqSend s p) = masked m s := by
  unfold pdelayReqSend; (repeat' split) <;> simp [htim, heth]

@[simp] theorem pdelayReqReceive_keeps (m : Parts) (htim : m.tim = true) (heth : m.eth = true) (s : State) (src : PtpSrc) :
    masked m (pdelayReqReceive s src) = masked m s := by
  unfold pdelayReqReceive; (repeat' split) <;> simp [htim, heth]

@[simp] theorem ptpUnsupported_keeps (m : Parts) (htim : m.tim = true) (s : State) :
    masked m (ptpUnsupported s) = masked m s := by
  unfold ptpUnsupported; simp [htim]

end Sys2Proof.Machine
end

