-- ==== Sys2Proof/Laws/Memory.lean ====
section
/-! SUPPORT. Main SRAM: a byte written reads back, every other byte is as before, and every operation keeps the canonical form. -/
set_option Elab.async false
namespace Sys2Proof.Machine

/-- The canonical form of a nonempty list: its first entry is in range and not the default, lies below the next, and the rest is canonical. -/
theorem memWf_cons (c : Host.Cell) (l : List Host.Cell) :
    memWf (c :: l) = true ↔ c.1 < sramSize ∧ c.2 ≠ memDefault ∧ (∀ d ∈ l.head?, c.1 < d.1) ∧ memWf l = true := by
  cases l <;> simp [memWf, and_assoc]

/-- In a canonical memory every listed address lies at or above the first. -/
theorem memRead_below (l : List Host.Cell) (a : Nat) (hw : memWf l = true) (h : ∀ d ∈ l.head?, a < d.1) : memRead l a = memDefault := by
  induction l with
  | nil => rfl
  | cons c l ih =>
    obtain ⟨_, _, hn, hl⟩ := (memWf_cons c l).1 hw
    have hc : a < c.1 := h c (by simp)
    have : memRead l a = memDefault := ih hl fun d hd => Nat.lt_trans hc (hn d hd)
    obtain ⟨i, b⟩ := c
    simp only [memRead]
    rw [if_neg (by simp at hc; omega), this]

/-- What is written reads back. -/
theorem memRead_memPut_same (l : List Host.Cell) (a : Nat) (v : Byte) (hw : memWf l = true) : memRead (memPut l a v) a = v := by
  induction l with
  | nil => simp only [memPut]; split <;> simp_all [memRead]
  | cons c l ih =>
    obtain ⟨_, _, hn, hl⟩ := (memWf_cons c l).1 hw
    obtain ⟨i, b⟩ := c
    simp only [memPut]
    split
    · rename_i h
      split
      · rename_i hv; rw [hv]; exact memRead_below _ _ hw (by simpa using h)
      · simp [memRead]
    · split
      · rename_i h; subst h
        split
        · rename_i hv; rw [hv]; exact memRead_below _ _ hl (by simpa using hn)
        · simp [memRead]
      · rename_i h
        simp only [memRead]; rw [if_neg (fun hh => h hh.symm)]; exact ih hl

/-- A write leaves every other address alone. -/
theorem memRead_memPut_other (l : List Host.Cell) (a x : Nat) (v : Byte) (hx : x ≠ a) : memRead (memPut l a v) x = memRead l x := by
  induction l with
  | nil => simp only [memPut]; split <;> simp [memRead, hx.symm]
  | cons c l ih =>
    obtain ⟨i, b⟩ := c
    simp only [memPut]
    split
    · split <;> simp [memRead, hx.symm]
    · split
      · rename_i h; subst h
        split <;> simp [memRead, hx.symm]
      · simp only [memRead, ih]

/-- The first address after a write is the one written or the one before. -/
theorem memPut_head (l : List Host.Cell) (a : Nat) (v : Byte) (k : Nat) (hw : memWf l = true) (h : ∀ d ∈ l.head?, k < d.1) (ha : k < a) :
    ∀ d ∈ (memPut l a v).head?, k < d.1 := by
  cases l with
  | nil => simp only [memPut]; split <;> simp_all
  | cons c l =>
    obtain ⟨_, _, hn, _⟩ := (memWf_cons c l).1 hw
    obtain ⟨i, b⟩ := c
    have hi : k < i := by simpa using h
    simp only [memPut]
    split
    · split <;> simp_all
    · split
      · split
        · intro d hd; exact Nat.lt_trans hi (hn d hd)
        · simp_all
      · simp_all

/-- A write keeps the canonical form. -/
theorem memWf_memPut (l : List Host.Cell) (a : Nat) (v : Byte) (hw : memWf l = true) (ha : a < sramSize) : memWf (memPut l a v) = true := by
  induction l with
  | nil => simp only [memPut]; split <;> simp_all [memWf]
  | cons c l ih =>
    obtain ⟨h1, h2, hn, hl⟩ := (memWf_cons c l).1 hw
    obtain ⟨i, b⟩ := c
    simp only [memPut]
    split
    · split
      · exact hw
      · rename_i h hv; exact (memWf_cons _ _).2 ⟨ha, hv, by simpa using h, hw⟩
    · split
      · rename_i h; subst h
        split
        · exact hl
        · rename_i hv; exact (memWf_cons _ _).2 ⟨ha, hv, hn, hl⟩
      · rename_i h3 h4
        exact (memWf_cons _ _).2 ⟨h1, h2, memPut_head _ _ _ _ hl hn (by simp at h3 ⊢; omega), ih hl⟩

theorem memWf_memWrite (l : List Host.Cell) (a : Nat) (v : Byte) (hw : memWf l = true) : memWf (memWrite l a v) = true := by
  unfold memWrite
  split
  · exact memWf_memPut l a v hw ‹_›
  · exact hw

theorem memWf_memWriteAll (bs : List Byte) (l : List Host.Cell) (a : Nat) (hw : memWf l = true) : memWf (memWriteAll l a bs) = true := by
  induction bs generalizing l a with
  | nil => exact hw
  | cons b r ih => exact ih _ _ (memWf_memWrite l a b hw)

/-- A run of octets changes no address outside it. -/
theorem memRead_memWriteAll_other (bs : List Byte) (l : List Host.Cell) (a x : Nat) (hx : x < a ∨ a + bs.length ≤ x) :
    memRead (memWriteAll l a bs) x = memRead l x := by
  induction bs generalizing l a with
  | nil => rfl
  | cons b r ih =>
    simp only [List.length_cons] at hx
    rw [memWriteAll, ih _ _ (by omega)]
    unfold memWrite
    split
    · exact memRead_memPut_other _ _ _ _ (by omega)
    · rfl

end Sys2Proof.Machine
end

