-- ==== Sys2Proof/Laws/State.lean ====
section
/-! SUPPORT. What each field of the state reads after each of the named updates: the field that the update writes, and every other field as it was. -/
set_option Elab.async false
namespace Sys2Proof.Machine

/-! ### setPhase -/

@[simp] theorem setPhase_modp (s : State) (p : Phase) : (setPhase s p).modp = s.modp := rfl
@[simp] theorem setPhase_bankA (s : State) (p : Phase) : (setPhase s p).bankA = s.bankA := rfl
@[simp] theorem setPhase_bankB (s : State) (p : Phase) : (setPhase s p).bankB = s.bankB := rfl
@[simp] theorem setPhase_sys (s : State) (p : Phase) : (setPhase s p).sys = s.sys := rfl
@[simp] theorem setPhase_vtp (s : State) (p : Phase) : (setPhase s p).vtp = s.vtp := rfl
@[simp] theorem setPhase_calls (s : State) (p : Phase) : (setPhase s p).calls = s.calls := rfl
@[simp] theorem setPhase_cox (s : State) (p : Phase) : (setPhase s p).cox = { s.cox with phase := p } := rfl
@[simp] theorem setPhase_stns (s : State) (p : Phase) : (setPhase s p).stns = s.stns := rfl
@[simp] theorem setPhase_cfg (s : State) (p : Phase) : (setPhase s p).cfg = s.cfg := rfl
@[simp] theorem setPhase_tim (s : State) (p : Phase) : (setPhase s p).tim = s.tim := rfl
@[simp] theorem setPhase_rtc (s : State) (p : Phase) : (setPhase s p).rtc = s.rtc := rfl
@[simp] theorem setPhase_eth (s : State) (p : Phase) : (setPhase s p).eth = s.eth := rfl
@[simp] theorem setPhase_evq (s : State) (p : Phase) : (setPhase s p).evq = s.evq := rfl
@[simp] theorem setPhase_lgt (s : State) (p : Phase) : (setPhase s p).lgt = s.lgt := rfl
@[simp] theorem setPhase_crs (s : State) (p : Phase) : (setPhase s p).crs = s.crs := rfl
@[simp] theorem setPhase_rad (s : State) (p : Phase) : (setPhase s p).rad = s.rad := rfl
@[simp] theorem setPhase_sec (s : State) (p : Phase) : (setPhase s p).sec = s.sec := rfl
@[simp] theorem setPhase_keys (s : State) (p : Phase) : (setPhase s p).keys = s.keys := rfl
@[simp] theorem setPhase_mtr (s : State) (p : Phase) : (setPhase s p).mtr = s.mtr := rfl
@[simp] theorem setPhase_ledr (s : State) (p : Phase) : (setPhase s p).ledr = s.ledr := rfl
@[simp] theorem setPhase_ledm (s : State) (p : Phase) : (setPhase s p).ledm = s.ledm := rfl
@[simp] theorem setPhase_ledBad (s : State) (p : Phase) : (setPhase s p).ledBad = s.ledBad := rfl
@[simp] theorem setPhase_flashBad (s : State) (p : Phase) : (setPhase s p).flashBad = s.flashBad := rfl
@[simp] theorem setPhase_pwr (s : State) (p : Phase) : (setPhase s p).pwr = s.pwr := rfl
@[simp] theorem setPhase_upd (s : State) (p : Phase) : (setPhase s p).upd = s.upd := rfl
@[simp] theorem setPhase_pins (s : State) (p : Phase) : (setPhase s p).pins = s.pins := rfl
@[simp] theorem setPhase_flash (s : State) (p : Phase) : (setPhase s p).flash = s.flash := rfl
@[simp] theorem setPhase_led (s : State) (p : Phase) : (setPhase s p).led = s.led := rfl
@[simp] theorem setPhase_aon (s : State) (p : Phase) : (setPhase s p).aon = s.aon := rfl
@[simp] theorem setPhase_mem (s : State) (p : Phase) : (setPhase s p).mem = s.mem := rfl
@[simp] theorem setPhase_latch (s : State) (p : Phase) : (setPhase s p).latch = s.latch := rfl
@[simp] theorem setPhase_free (s : State) (p : Phase) : (setPhase s p).free = s.free := rfl
@[simp] theorem setPhase_ahead (s : State) (p : Phase) : (setPhase s p).ahead = s.ahead := rfl
@[simp] theorem setPhase_pending (s : State) (p : Phase) : (setPhase s p).pending = s.pending := rfl

/-! ### setStn -/

@[simp] theorem setStn_modp (s : State) (n : Stn) (f : StnRec → StnRec) : (setStn s n f).modp = s.modp := rfl
@[simp] theorem setStn_bankA (s : State) (n : Stn) (f : StnRec → StnRec) : (setStn s n f).bankA = s.bankA := rfl
@[simp] theorem setStn_bankB (s : State) (n : Stn) (f : StnRec → StnRec) : (setStn s n f).bankB = s.bankB := rfl
@[simp] theorem setStn_sys (s : State) (n : Stn) (f : StnRec → StnRec) : (setStn s n f).sys = s.sys := rfl
@[simp] theorem setStn_vtp (s : State) (n : Stn) (f : StnRec → StnRec) : (setStn s n f).vtp = s.vtp := rfl
@[simp] theorem setStn_calls (s : State) (n : Stn) (f : StnRec → StnRec) : (setStn s n f).calls = s.calls := rfl
@[simp] theorem setStn_cox (s : State) (n : Stn) (f : StnRec → StnRec) : (setStn s n f).cox = s.cox := rfl
@[simp] theorem setStn_stns (s : State) (n : Stn) (f : StnRec → StnRec) : (setStn s n f).stns = upd s.stns n.idx f := rfl
@[simp] theorem setStn_cfg (s : State) (n : Stn) (f : StnRec → StnRec) : (setStn s n f).cfg = s.cfg := rfl
@[simp] theorem setStn_tim (s : State) (n : Stn) (f : StnRec → StnRec) : (setStn s n f).tim = s.tim := rfl
@[simp] theorem setStn_rtc (s : State) (n : Stn) (f : StnRec → StnRec) : (setStn s n f).rtc = s.rtc := rfl
@[simp] theorem setStn_eth (s : State) (n : Stn) (f : StnRec → StnRec) : (setStn s n f).eth = s.eth := rfl
@[simp] theorem setStn_evq (s : State) (n : Stn) (f : StnRec → StnRec) : (setStn s n f).evq = s.evq := rfl
@[simp] theorem setStn_lgt (s : State) (n : Stn) (f : StnRec → StnRec) : (setStn s n f).lgt = s.lgt := rfl
@[simp] theorem setStn_crs (s : State) (n : Stn) (f : StnRec → StnRec) : (setStn s n f).crs = s.crs := rfl
@[simp] theorem setStn_rad (s : State) (n : Stn) (f : StnRec → StnRec) : (setStn s n f).rad = s.rad := rfl
@[simp] theorem setStn_sec (s : State) (n : Stn) (f : StnRec → StnRec) : (setStn s n f).sec = s.sec := rfl
@[simp] theorem setStn_keys (s : State) (n : Stn) (f : StnRec → StnRec) : (setStn s n f).keys = s.keys := rfl
@[simp] theorem setStn_mtr (s : State) (n : Stn) (f : StnRec → StnRec) : (setStn s n f).mtr = s.mtr := rfl
@[simp] theorem setStn_ledr (s : State) (n : Stn) (f : StnRec → StnRec) : (setStn s n f).ledr = s.ledr := rfl
@[simp] theorem setStn_ledm (s : State) (n : Stn) (f : StnRec → StnRec) : (setStn s n f).ledm = s.ledm := rfl
@[simp] theorem setStn_ledBad (s : State) (n : Stn) (f : StnRec → StnRec) : (setStn s n f).ledBad = s.ledBad := rfl
@[simp] theorem setStn_flashBad (s : State) (n : Stn) (f : StnRec → StnRec) : (setStn s n f).flashBad = s.flashBad := rfl
@[simp] theorem setStn_pwr (s : State) (n : Stn) (f : StnRec → StnRec) : (setStn s n f).pwr = s.pwr := rfl
@[simp] theorem setStn_upd (s : State) (n : Stn) (f : StnRec → StnRec) : (setStn s n f).upd = s.upd := rfl
@[simp] theorem setStn_pins (s : State) (n : Stn) (f : StnRec → StnRec) : (setStn s n f).pins = s.pins := rfl
@[simp] theorem setStn_flash (s : State) (n : Stn) (f : StnRec → StnRec) : (setStn s n f).flash = s.flash := rfl
@[simp] theorem setStn_led (s : State) (n : Stn) (f : StnRec → StnRec) : (setStn s n f).led = s.led := rfl
@[simp] theorem setStn_aon (s : State) (n : Stn) (f : StnRec → StnRec) : (setStn s n f).aon = s.aon := rfl
@[simp] theorem setStn_mem (s : State) (n : Stn) (f : StnRec → StnRec) : (setStn s n f).mem = s.mem := rfl
@[simp] theorem setStn_latch (s : State) (n : Stn) (f : StnRec → StnRec) : (setStn s n f).latch = s.latch := rfl
@[simp] theorem setStn_free (s : State) (n : Stn) (f : StnRec → StnRec) : (setStn s n f).free = s.free := rfl
@[simp] theorem setStn_ahead (s : State) (n : Stn) (f : StnRec → StnRec) : (setStn s n f).ahead = s.ahead := rfl
@[simp] theorem setStn_pending (s : State) (n : Stn) (f : StnRec → StnRec) : (setStn s n f).pending = s.pending := rfl

/-! ### passCycles -/

@[simp] theorem passCycles_modp (s : State) (n : Nat) : (passCycles s n).modp = s.modp := rfl
@[simp] theorem passCycles_bankA (s : State) (n : Nat) : (passCycles s n).bankA = s.bankA := rfl
@[simp] theorem passCycles_bankB (s : State) (n : Nat) : (passCycles s n).bankB = s.bankB := rfl
@[simp] theorem passCycles_sys (s : State) (n : Nat) : (passCycles s n).sys = s.sys := rfl
@[simp] theorem passCycles_vtp (s : State) (n : Nat) : (passCycles s n).vtp = s.vtp := rfl
@[simp] theorem passCycles_calls (s : State) (n : Nat) : (passCycles s n).calls = s.calls := rfl
@[simp] theorem passCycles_cox (s : State) (n : Nat) : (passCycles s n).cox = s.cox := rfl
@[simp] theorem passCycles_stns (s : State) (n : Nat) : (passCycles s n).stns = s.stns := rfl
@[simp] theorem passCycles_cfg (s : State) (n : Nat) : (passCycles s n).cfg = s.cfg := rfl
@[simp] theorem passCycles_tim (s : State) (n : Nat) : (passCycles s n).tim = { s.tim with sub := s.tim.sub + n * addend s, cyc := s.tim.cyc + n } := rfl
@[simp] theorem passCycles_rtc (s : State) (n : Nat) : (passCycles s n).rtc = s.rtc := rfl
@[simp] theorem passCycles_eth (s : State) (n : Nat) : (passCycles s n).eth = s.eth := rfl
@[simp] theorem passCycles_evq (s : State) (n : Nat) : (passCycles s n).evq = s.evq := rfl
@[simp] theorem passCycles_lgt (s : State) (n : Nat) : (passCycles s n).lgt = s.lgt := rfl
@[simp] theorem passCycles_crs (s : State) (n : Nat) : (passCycles s n).crs = s.crs := rfl
@[simp] theorem passCycles_rad (s : State) (n : Nat) : (passCycles s n).rad = s.rad := rfl
@[simp] theorem passCycles_sec (s : State) (n : Nat) : (passCycles s n).sec = s.sec := rfl
@[simp] theorem passCycles_keys (s : State) (n : Nat) : (passCycles s n).keys = s.keys := rfl
@[simp] theorem passCycles_mtr (s : State) (n : Nat) : (passCycles s n).mtr = s.mtr := rfl
@[simp] theorem passCycles_ledr (s : State) (n : Nat) : (passCycles s n).ledr = s.ledr := rfl
@[simp] theorem passCycles_ledm (s : State) (n : Nat) : (passCycles s n).ledm = s.ledm := rfl
@[simp] theorem passCycles_ledBad (s : State) (n : Nat) : (passCycles s n).ledBad = s.ledBad := rfl
@[simp] theorem passCycles_flashBad (s : State) (n : Nat) : (passCycles s n).flashBad = s.flashBad := rfl
@[simp] theorem passCycles_pwr (s : State) (n : Nat) : (passCycles s n).pwr = s.pwr := rfl
@[simp] theorem passCycles_upd (s : State) (n : Nat) : (passCycles s n).upd = s.upd := rfl
@[simp] theorem passCycles_pins (s : State) (n : Nat) : (passCycles s n).pins = s.pins := rfl
@[simp] theorem passCycles_flash (s : State) (n : Nat) : (passCycles s n).flash = s.flash := rfl
@[simp] theorem passCycles_led (s : State) (n : Nat) : (passCycles s n).led = s.led := rfl
@[simp] theorem passCycles_aon (s : State) (n : Nat) : (passCycles s n).aon = s.aon := rfl
@[simp] theorem passCycles_mem (s : State) (n : Nat) : (passCycles s n).mem = s.mem := rfl
@[simp] theorem passCycles_latch (s : State) (n : Nat) : (passCycles s n).latch = s.latch := rfl
@[simp] theorem passCycles_free (s : State) (n : Nat) : (passCycles s n).free = s.free := rfl
@[simp] theorem passCycles_ahead (s : State) (n : Nat) : (passCycles s n).ahead = s.ahead := rfl
@[simp] theorem passCycles_pending (s : State) (n : Nat) : (passCycles s n).pending = s.pending := rfl

/-! ### setPort -/

@[simp] theorem setPort_modp (s : State) (p : Nat) (f : EthPort → EthPort) : (setPort s p f).modp = s.modp := rfl
@[simp] theorem setPort_bankA (s : State) (p : Nat) (f : EthPort → EthPort) : (setPort s p f).bankA = s.bankA := rfl
@[simp] theorem setPort_bankB (s : State) (p : Nat) (f : EthPort → EthPort) : (setPort s p f).bankB = s.bankB := rfl
@[simp] theorem setPort_sys (s : State) (p : Nat) (f : EthPort → EthPort) : (setPort s p f).sys = s.sys := rfl
@[simp] theorem setPort_vtp (s : State) (p : Nat) (f : EthPort → EthPort) : (setPort s p f).vtp = s.vtp := rfl
@[simp] theorem setPort_calls (s : State) (p : Nat) (f : EthPort → EthPort) : (setPort s p f).calls = s.calls := rfl
@[simp] theorem setPort_cox (s : State) (p : Nat) (f : EthPort → EthPort) : (setPort s p f).cox = s.cox := rfl
@[simp] theorem setPort_stns (s : State) (p : Nat) (f : EthPort → EthPort) : (setPort s p f).stns = s.stns := rfl
@[simp] theorem setPort_cfg (s : State) (p : Nat) (f : EthPort → EthPort) : (setPort s p f).cfg = s.cfg := rfl
@[simp] theorem setPort_tim (s : State) (p : Nat) (f : EthPort → EthPort) : (setPort s p f).tim = s.tim := rfl
@[simp] theorem setPort_rtc (s : State) (p : Nat) (f : EthPort → EthPort) : (setPort s p f).rtc = s.rtc := rfl
@[simp] theorem setPort_eth (s : State) (p : Nat) (f : EthPort → EthPort) : (setPort s p f).eth = { s.eth with ports := upd s.eth.ports p f } := rfl
@[simp] theorem setPort_evq (s : State) (p : Nat) (f : EthPort → EthPort) : (setPort s p f).evq = s.evq := rfl
@[simp] theorem setPort_lgt (s : State) (p : Nat) (f : EthPort → EthPort) : (setPort s p f).lgt = s.lgt := rfl
@[simp] theorem setPort_crs (s : State) (p : Nat) (f : EthPort → EthPort) : (setPort s p f).crs = s.crs := rfl
@[simp] theorem setPort_rad (s : State) (p : Nat) (f : EthPort → EthPort) : (setPort s p f).rad = s.rad := rfl
@[simp] theorem setPort_sec (s : State) (p : Nat) (f : EthPort → EthPort) : (setPort s p f).sec = s.sec := rfl
@[simp] theorem setPort_keys (s : State) (p : Nat) (f : EthPort → EthPort) : (setPort s p f).keys = s.keys := rfl
@[simp] theorem setPort_mtr (s : State) (p : Nat) (f : EthPort → EthPort) : (setPort s p f).mtr = s.mtr := rfl
@[simp] theorem setPort_ledr (s : State) (p : Nat) (f : EthPort → EthPort) : (setPort s p f).ledr = s.ledr := rfl
@[simp] theorem setPort_ledm (s : State) (p : Nat) (f : EthPort → EthPort) : (setPort s p f).ledm = s.ledm := rfl
@[simp] theorem setPort_ledBad (s : State) (p : Nat) (f : EthPort → EthPort) : (setPort s p f).ledBad = s.ledBad := rfl
@[simp] theorem setPort_flashBad (s : State) (p : Nat) (f : EthPort → EthPort) : (setPort s p f).flashBad = s.flashBad := rfl
@[simp] theorem setPort_pwr (s : State) (p : Nat) (f : EthPort → EthPort) : (setPort s p f).pwr = s.pwr := rfl
@[simp] theorem setPort_upd (s : State) (p : Nat) (f : EthPort → EthPort) : (setPort s p f).upd = s.upd := rfl
@[simp] theorem setPort_pins (s : State) (p : Nat) (f : EthPort → EthPort) : (setPort s p f).pins = s.pins := rfl
@[simp] theorem setPort_flash (s : State) (p : Nat) (f : EthPort → EthPort) : (setPort s p f).flash = s.flash := rfl
@[simp] theorem setPort_led (s : State) (p : Nat) (f : EthPort → EthPort) : (setPort s p f).led = s.led := rfl
@[simp] theorem setPort_aon (s : State) (p : Nat) (f : EthPort → EthPort) : (setPort s p f).aon = s.aon := rfl
@[simp] theorem setPort_mem (s : State) (p : Nat) (f : EthPort → EthPort) : (setPort s p f).mem = s.mem := rfl
@[simp] theorem setPort_latch (s : State) (p : Nat) (f : EthPort → EthPort) : (setPort s p f).latch = s.latch := rfl
@[simp] theorem setPort_free (s : State) (p : Nat) (f : EthPort → EthPort) : (setPort s p f).free = s.free := rfl
@[simp] theorem setPort_ahead (s : State) (p : Nat) (f : EthPort → EthPort) : (setPort s p f).ahead = s.ahead := rfl
@[simp] theorem setPort_pending (s : State) (p : Nat) (f : EthPort → EthPort) : (setPort s p f).pending = s.pending := rfl

/-! ### setQueue -/

@[simp] theorem setQueue_modp (s : State) (q : Nat) (f : EvqQueue → EvqQueue) : (setQueue s q f).modp = s.modp := rfl
@[simp] theorem setQueue_bankA (s : State) (q : Nat) (f : EvqQueue → EvqQueue) : (setQueue s q f).bankA = s.bankA := rfl
@[simp] theorem setQueue_bankB (s : State) (q : Nat) (f : EvqQueue → EvqQueue) : (setQueue s q f).bankB = s.bankB := rfl
@[simp] theorem setQueue_sys (s : State) (q : Nat) (f : EvqQueue → EvqQueue) : (setQueue s q f).sys = s.sys := rfl
@[simp] theorem setQueue_vtp (s : State) (q : Nat) (f : EvqQueue → EvqQueue) : (setQueue s q f).vtp = s.vtp := rfl
@[simp] theorem setQueue_calls (s : State) (q : Nat) (f : EvqQueue → EvqQueue) : (setQueue s q f).calls = s.calls := rfl
@[simp] theorem setQueue_cox (s : State) (q : Nat) (f : EvqQueue → EvqQueue) : (setQueue s q f).cox = s.cox := rfl
@[simp] theorem setQueue_stns (s : State) (q : Nat) (f : EvqQueue → EvqQueue) : (setQueue s q f).stns = s.stns := rfl
@[simp] theorem setQueue_cfg (s : State) (q : Nat) (f : EvqQueue → EvqQueue) : (setQueue s q f).cfg = s.cfg := rfl
@[simp] theorem setQueue_tim (s : State) (q : Nat) (f : EvqQueue → EvqQueue) : (setQueue s q f).tim = s.tim := rfl
@[simp] theorem setQueue_rtc (s : State) (q : Nat) (f : EvqQueue → EvqQueue) : (setQueue s q f).rtc = s.rtc := rfl
@[simp] theorem setQueue_eth (s : State) (q : Nat) (f : EvqQueue → EvqQueue) : (setQueue s q f).eth = s.eth := rfl
@[simp] theorem setQueue_evq (s : State) (q : Nat) (f : EvqQueue → EvqQueue) : (setQueue s q f).evq = { s.evq with queues := upd s.evq.queues q f } := rfl
@[simp] theorem setQueue_lgt (s : State) (q : Nat) (f : EvqQueue → EvqQueue) : (setQueue s q f).lgt = s.lgt := rfl
@[simp] theorem setQueue_crs (s : State) (q : Nat) (f : EvqQueue → EvqQueue) : (setQueue s q f).crs = s.crs := rfl
@[simp] theorem setQueue_rad (s : State) (q : Nat) (f : EvqQueue → EvqQueue) : (setQueue s q f).rad = s.rad := rfl
@[simp] theorem setQueue_sec (s : State) (q : Nat) (f : EvqQueue → EvqQueue) : (setQueue s q f).sec = s.sec := rfl
@[simp] theorem setQueue_keys (s : State) (q : Nat) (f : EvqQueue → EvqQueue) : (setQueue s q f).keys = s.keys := rfl
@[simp] theorem setQueue_mtr (s : State) (q : Nat) (f : EvqQueue → EvqQueue) : (setQueue s q f).mtr = s.mtr := rfl
@[simp] theorem setQueue_ledr (s : State) (q : Nat) (f : EvqQueue → EvqQueue) : (setQueue s q f).ledr = s.ledr := rfl
@[simp] theorem setQueue_ledm (s : State) (q : Nat) (f : EvqQueue → EvqQueue) : (setQueue s q f).ledm = s.ledm := rfl
@[simp] theorem setQueue_ledBad (s : State) (q : Nat) (f : EvqQueue → EvqQueue) : (setQueue s q f).ledBad = s.ledBad := rfl
@[simp] theorem setQueue_flashBad (s : State) (q : Nat) (f : EvqQueue → EvqQueue) : (setQueue s q f).flashBad = s.flashBad := rfl
@[simp] theorem setQueue_pwr (s : State) (q : Nat) (f : EvqQueue → EvqQueue) : (setQueue s q f).pwr = s.pwr := rfl
@[simp] theorem setQueue_upd (s : State) (q : Nat) (f : EvqQueue → EvqQueue) : (setQueue s q f).upd = s.upd := rfl
@[simp] theorem setQueue_pins (s : State) (q : Nat) (f : EvqQueue → EvqQueue) : (setQueue s q f).pins = s.pins := rfl
@[simp] theorem setQueue_flash (s : State) (q : Nat) (f : EvqQueue → EvqQueue) : (setQueue s q f).flash = s.flash := rfl
@[simp] theorem setQueue_led (s : State) (q : Nat) (f : EvqQueue → EvqQueue) : (setQueue s q f).led = s.led := rfl
@[simp] theorem setQueue_aon (s : State) (q : Nat) (f : EvqQueue → EvqQueue) : (setQueue s q f).aon = s.aon := rfl
@[simp] theorem setQueue_mem (s : State) (q : Nat) (f : EvqQueue → EvqQueue) : (setQueue s q f).mem = s.mem := rfl
@[simp] theorem setQueue_latch (s : State) (q : Nat) (f : EvqQueue → EvqQueue) : (setQueue s q f).latch = s.latch := rfl
@[simp] theorem setQueue_free (s : State) (q : Nat) (f : EvqQueue → EvqQueue) : (setQueue s q f).free = s.free := rfl
@[simp] theorem setQueue_ahead (s : State) (q : Nat) (f : EvqQueue → EvqQueue) : (setQueue s q f).ahead = s.ahead := rfl
@[simp] theorem setQueue_pending (s : State) (q : Nat) (f : EvqQueue → EvqQueue) : (setQueue s q f).pending = s.pending := rfl

/-! ### setLgt -/

@[simp] theorem setLgt_modp (s : State) (f : LgtState → LgtState) : (setLgt s f).modp = s.modp := rfl
@[simp] theorem setLgt_bankA (s : State) (f : LgtState → LgtState) : (setLgt s f).bankA = s.bankA := rfl
@[simp] theorem setLgt_bankB (s : State) (f : LgtState → LgtState) : (setLgt s f).bankB = s.bankB := rfl
@[simp] theorem setLgt_sys (s : State) (f : LgtState → LgtState) : (setLgt s f).sys = s.sys := rfl
@[simp] theorem setLgt_vtp (s : State) (f : LgtState → LgtState) : (setLgt s f).vtp = s.vtp := rfl
@[simp] theorem setLgt_calls (s : State) (f : LgtState → LgtState) : (setLgt s f).calls = s.calls := rfl
@[simp] theorem setLgt_cox (s : State) (f : LgtState → LgtState) : (setLgt s f).cox = s.cox := rfl
@[simp] theorem setLgt_stns (s : State) (f : LgtState → LgtState) : (setLgt s f).stns = s.stns := rfl
@[simp] theorem setLgt_cfg (s : State) (f : LgtState → LgtState) : (setLgt s f).cfg = s.cfg := rfl
@[simp] theorem setLgt_tim (s : State) (f : LgtState → LgtState) : (setLgt s f).tim = s.tim := rfl
@[simp] theorem setLgt_rtc (s : State) (f : LgtState → LgtState) : (setLgt s f).rtc = s.rtc := rfl
@[simp] theorem setLgt_eth (s : State) (f : LgtState → LgtState) : (setLgt s f).eth = s.eth := rfl
@[simp] theorem setLgt_evq (s : State) (f : LgtState → LgtState) : (setLgt s f).evq = s.evq := rfl
@[simp] theorem setLgt_lgt (s : State) (f : LgtState → LgtState) : (setLgt s f).lgt = f s.lgt := rfl
@[simp] theorem setLgt_crs (s : State) (f : LgtState → LgtState) : (setLgt s f).crs = s.crs := rfl
@[simp] theorem setLgt_rad (s : State) (f : LgtState → LgtState) : (setLgt s f).rad = s.rad := rfl
@[simp] theorem setLgt_sec (s : State) (f : LgtState → LgtState) : (setLgt s f).sec = s.sec := rfl
@[simp] theorem setLgt_keys (s : State) (f : LgtState → LgtState) : (setLgt s f).keys = s.keys := rfl
@[simp] theorem setLgt_mtr (s : State) (f : LgtState → LgtState) : (setLgt s f).mtr = s.mtr := rfl
@[simp] theorem setLgt_ledr (s : State) (f : LgtState → LgtState) : (setLgt s f).ledr = s.ledr := rfl
@[simp] theorem setLgt_ledm (s : State) (f : LgtState → LgtState) : (setLgt s f).ledm = s.ledm := rfl
@[simp] theorem setLgt_ledBad (s : State) (f : LgtState → LgtState) : (setLgt s f).ledBad = s.ledBad := rfl
@[simp] theorem setLgt_flashBad (s : State) (f : LgtState → LgtState) : (setLgt s f).flashBad = s.flashBad := rfl
@[simp] theorem setLgt_pwr (s : State) (f : LgtState → LgtState) : (setLgt s f).pwr = s.pwr := rfl
@[simp] theorem setLgt_upd (s : State) (f : LgtState → LgtState) : (setLgt s f).upd = s.upd := rfl
@[simp] theorem setLgt_pins (s : State) (f : LgtState → LgtState) : (setLgt s f).pins = s.pins := rfl
@[simp] theorem setLgt_flash (s : State) (f : LgtState → LgtState) : (setLgt s f).flash = s.flash := rfl
@[simp] theorem setLgt_led (s : State) (f : LgtState → LgtState) : (setLgt s f).led = s.led := rfl
@[simp] theorem setLgt_aon (s : State) (f : LgtState → LgtState) : (setLgt s f).aon = s.aon := rfl
@[simp] theorem setLgt_mem (s : State) (f : LgtState → LgtState) : (setLgt s f).mem = s.mem := rfl
@[simp] theorem setLgt_latch (s : State) (f : LgtState → LgtState) : (setLgt s f).latch = s.latch := rfl
@[simp] theorem setLgt_free (s : State) (f : LgtState → LgtState) : (setLgt s f).free = s.free := rfl
@[simp] theorem setLgt_ahead (s : State) (f : LgtState → LgtState) : (setLgt s f).ahead = s.ahead := rfl
@[simp] theorem setLgt_pending (s : State) (f : LgtState → LgtState) : (setLgt s f).pending = s.pending := rfl

/-! ### setCrs -/

@[simp] theorem setCrs_modp (s : State) (f : CrsState → CrsState) : (setCrs s f).modp = s.modp := rfl
@[simp] theorem setCrs_bankA (s : State) (f : CrsState → CrsState) : (setCrs s f).bankA = s.bankA := rfl
@[simp] theorem setCrs_bankB (s : State) (f : CrsState → CrsState) : (setCrs s f).bankB = s.bankB := rfl
@[simp] theorem setCrs_sys (s : State) (f : CrsState → CrsState) : (setCrs s f).sys = s.sys := rfl
@[simp] theorem setCrs_vtp (s : State) (f : CrsState → CrsState) : (setCrs s f).vtp = s.vtp := rfl
@[simp] theorem setCrs_calls (s : State) (f : CrsState → CrsState) : (setCrs s f).calls = s.calls := rfl
@[simp] theorem setCrs_cox (s : State) (f : CrsState → CrsState) : (setCrs s f).cox = s.cox := rfl
@[simp] theorem setCrs_stns (s : State) (f : CrsState → CrsState) : (setCrs s f).stns = s.stns := rfl
@[simp] theorem setCrs_cfg (s : State) (f : CrsState → CrsState) : (setCrs s f).cfg = s.cfg := rfl
@[simp] theorem setCrs_tim (s : State) (f : CrsState → CrsState) : (setCrs s f).tim = s.tim := rfl
@[simp] theorem setCrs_rtc (s : State) (f : CrsState → CrsState) : (setCrs s f).rtc = s.rtc := rfl
@[simp] theorem setCrs_eth (s : State) (f : CrsState → CrsState) : (setCrs s f).eth = s.eth := rfl
@[simp] theorem setCrs_evq (s : State) (f : CrsState → CrsState) : (setCrs s f).evq = s.evq := rfl
@[simp] theorem setCrs_lgt (s : State) (f : CrsState → CrsState) : (setCrs s f).lgt = s.lgt := rfl
@[simp] theorem setCrs_crs (s : State) (f : CrsState → CrsState) : (setCrs s f).crs = f s.crs := rfl
@[simp] theorem setCrs_rad (s : State) (f : CrsState → CrsState) : (setCrs s f).rad = s.rad := rfl
@[simp] theorem setCrs_sec (s : State) (f : CrsState → CrsState) : (setCrs s f).sec = s.sec := rfl
@[simp] theorem setCrs_keys (s : State) (f : CrsState → CrsState) : (setCrs s f).keys = s.keys := rfl
@[simp] theorem setCrs_mtr (s : State) (f : CrsState → CrsState) : (setCrs s f).mtr = s.mtr := rfl
@[simp] theorem setCrs_ledr (s : State) (f : CrsState → CrsState) : (setCrs s f).ledr = s.ledr := rfl
@[simp] theorem setCrs_ledm (s : State) (f : CrsState → CrsState) : (setCrs s f).ledm = s.ledm := rfl
@[simp] theorem setCrs_ledBad (s : State) (f : CrsState → CrsState) : (setCrs s f).ledBad = s.ledBad := rfl
@[simp] theorem setCrs_flashBad (s : State) (f : CrsState → CrsState) : (setCrs s f).flashBad = s.flashBad := rfl
@[simp] theorem setCrs_pwr (s : State) (f : CrsState → CrsState) : (setCrs s f).pwr = s.pwr := rfl
@[simp] theorem setCrs_upd (s : State) (f : CrsState → CrsState) : (setCrs s f).upd = s.upd := rfl
@[simp] theorem setCrs_pins (s : State) (f : CrsState → CrsState) : (setCrs s f).pins = s.pins := rfl
@[simp] theorem setCrs_flash (s : State) (f : CrsState → CrsState) : (setCrs s f).flash = s.flash := rfl
@[simp] theorem setCrs_led (s : State) (f : CrsState → CrsState) : (setCrs s f).led = s.led := rfl
@[simp] theorem setCrs_aon (s : State) (f : CrsState → CrsState) : (setCrs s f).aon = s.aon := rfl
@[simp] theorem setCrs_mem (s : State) (f : CrsState → CrsState) : (setCrs s f).mem = s.mem := rfl
@[simp] theorem setCrs_latch (s : State) (f : CrsState → CrsState) : (setCrs s f).latch = s.latch := rfl
@[simp] theorem setCrs_free (s : State) (f : CrsState → CrsState) : (setCrs s f).free = s.free := rfl
@[simp] theorem setCrs_ahead (s : State) (f : CrsState → CrsState) : (setCrs s f).ahead = s.ahead := rfl
@[simp] theorem setCrs_pending (s : State) (f : CrsState → CrsState) : (setCrs s f).pending = s.pending := rfl

/-! ### setRad -/

@[simp] theorem setRad_modp (s : State) (f : RadState → RadState) : (setRad s f).modp = s.modp := rfl
@[simp] theorem setRad_bankA (s : State) (f : RadState → RadState) : (setRad s f).bankA = s.bankA := rfl
@[simp] theorem setRad_bankB (s : State) (f : RadState → RadState) : (setRad s f).bankB = s.bankB := rfl
@[simp] theorem setRad_sys (s : State) (f : RadState → RadState) : (setRad s f).sys = s.sys := rfl
@[simp] theorem setRad_vtp (s : State) (f : RadState → RadState) : (setRad s f).vtp = s.vtp := rfl
@[simp] theorem setRad_calls (s : State) (f : RadState → RadState) : (setRad s f).calls = s.calls := rfl
@[simp] theorem setRad_cox (s : State) (f : RadState → RadState) : (setRad s f).cox = s.cox := rfl
@[simp] theorem setRad_stns (s : State) (f : RadState → RadState) : (setRad s f).stns = s.stns := rfl
@[simp] theorem setRad_cfg (s : State) (f : RadState → RadState) : (setRad s f).cfg = s.cfg := rfl
@[simp] theorem setRad_tim (s : State) (f : RadState → RadState) : (setRad s f).tim = s.tim := rfl
@[simp] theorem setRad_rtc (s : State) (f : RadState → RadState) : (setRad s f).rtc = s.rtc := rfl
@[simp] theorem setRad_eth (s : State) (f : RadState → RadState) : (setRad s f).eth = s.eth := rfl
@[simp] theorem setRad_evq (s : State) (f : RadState → RadState) : (setRad s f).evq = s.evq := rfl
@[simp] theorem setRad_lgt (s : State) (f : RadState → RadState) : (setRad s f).lgt = s.lgt := rfl
@[simp] theorem setRad_crs (s : State) (f : RadState → RadState) : (setRad s f).crs = s.crs := rfl
@[simp] theorem setRad_rad (s : State) (f : RadState → RadState) : (setRad s f).rad = f s.rad := rfl
@[simp] theorem setRad_sec (s : State) (f : RadState → RadState) : (setRad s f).sec = s.sec := rfl
@[simp] theorem setRad_keys (s : State) (f : RadState → RadState) : (setRad s f).keys = s.keys := rfl
@[simp] theorem setRad_mtr (s : State) (f : RadState → RadState) : (setRad s f).mtr = s.mtr := rfl
@[simp] theorem setRad_ledr (s : State) (f : RadState → RadState) : (setRad s f).ledr = s.ledr := rfl
@[simp] theorem setRad_ledm (s : State) (f : RadState → RadState) : (setRad s f).ledm = s.ledm := rfl
@[simp] theorem setRad_ledBad (s : State) (f : RadState → RadState) : (setRad s f).ledBad = s.ledBad := rfl
@[simp] theorem setRad_flashBad (s : State) (f : RadState → RadState) : (setRad s f).flashBad = s.flashBad := rfl
@[simp] theorem setRad_pwr (s : State) (f : RadState → RadState) : (setRad s f).pwr = s.pwr := rfl
@[simp] theorem setRad_upd (s : State) (f : RadState → RadState) : (setRad s f).upd = s.upd := rfl
@[simp] theorem setRad_pins (s : State) (f : RadState → RadState) : (setRad s f).pins = s.pins := rfl
@[simp] theorem setRad_flash (s : State) (f : RadState → RadState) : (setRad s f).flash = s.flash := rfl
@[simp] theorem setRad_led (s : State) (f : RadState → RadState) : (setRad s f).led = s.led := rfl
@[simp] theorem setRad_aon (s : State) (f : RadState → RadState) : (setRad s f).aon = s.aon := rfl
@[simp] theorem setRad_mem (s : State) (f : RadState → RadState) : (setRad s f).mem = s.mem := rfl
@[simp] theorem setRad_latch (s : State) (f : RadState → RadState) : (setRad s f).latch = s.latch := rfl
@[simp] theorem setRad_free (s : State) (f : RadState → RadState) : (setRad s f).free = s.free := rfl
@[simp] theorem setRad_ahead (s : State) (f : RadState → RadState) : (setRad s f).ahead = s.ahead := rfl
@[simp] theorem setRad_pending (s : State) (f : RadState → RadState) : (setRad s f).pending = s.pending := rfl

/-! ### setDyn -/

@[simp] theorem setDyn_modp (s : State) (i : Nat) (f : NodeDyn → NodeDyn) : (setDyn s i f).modp = s.modp := rfl
@[simp] theorem setDyn_bankA (s : State) (i : Nat) (f : NodeDyn → NodeDyn) : (setDyn s i f).bankA = s.bankA := rfl
@[simp] theorem setDyn_bankB (s : State) (i : Nat) (f : NodeDyn → NodeDyn) : (setDyn s i f).bankB = s.bankB := rfl
@[simp] theorem setDyn_sys (s : State) (i : Nat) (f : NodeDyn → NodeDyn) : (setDyn s i f).sys = s.sys := rfl
@[simp] theorem setDyn_vtp (s : State) (i : Nat) (f : NodeDyn → NodeDyn) : (setDyn s i f).vtp = s.vtp := rfl
@[simp] theorem setDyn_calls (s : State) (i : Nat) (f : NodeDyn → NodeDyn) : (setDyn s i f).calls = s.calls := rfl
@[simp] theorem setDyn_cox (s : State) (i : Nat) (f : NodeDyn → NodeDyn) : (setDyn s i f).cox = s.cox := rfl
@[simp] theorem setDyn_stns (s : State) (i : Nat) (f : NodeDyn → NodeDyn) : (setDyn s i f).stns = s.stns := rfl
@[simp] theorem setDyn_cfg (s : State) (i : Nat) (f : NodeDyn → NodeDyn) : (setDyn s i f).cfg = s.cfg := rfl
@[simp] theorem setDyn_tim (s : State) (i : Nat) (f : NodeDyn → NodeDyn) : (setDyn s i f).tim = s.tim := rfl
@[simp] theorem setDyn_rtc (s : State) (i : Nat) (f : NodeDyn → NodeDyn) : (setDyn s i f).rtc = s.rtc := rfl
@[simp] theorem setDyn_eth (s : State) (i : Nat) (f : NodeDyn → NodeDyn) : (setDyn s i f).eth = s.eth := rfl
@[simp] theorem setDyn_evq (s : State) (i : Nat) (f : NodeDyn → NodeDyn) : (setDyn s i f).evq = s.evq := rfl
@[simp] theorem setDyn_lgt (s : State) (i : Nat) (f : NodeDyn → NodeDyn) : (setDyn s i f).lgt = s.lgt := rfl
@[simp] theorem setDyn_crs (s : State) (i : Nat) (f : NodeDyn → NodeDyn) : (setDyn s i f).crs = s.crs := rfl
@[simp] theorem setDyn_rad (s : State) (i : Nat) (f : NodeDyn → NodeDyn) : (setDyn s i f).rad = { s.rad with dyn := tput s.rad.dyn i (f (nodeDyn s i)) } := rfl
@[simp] theorem setDyn_sec (s : State) (i : Nat) (f : NodeDyn → NodeDyn) : (setDyn s i f).sec = s.sec := rfl
@[simp] theorem setDyn_keys (s : State) (i : Nat) (f : NodeDyn → NodeDyn) : (setDyn s i f).keys = s.keys := rfl
@[simp] theorem setDyn_mtr (s : State) (i : Nat) (f : NodeDyn → NodeDyn) : (setDyn s i f).mtr = s.mtr := rfl
@[simp] theorem setDyn_ledr (s : State) (i : Nat) (f : NodeDyn → NodeDyn) : (setDyn s i f).ledr = s.ledr := rfl
@[simp] theorem setDyn_ledm (s : State) (i : Nat) (f : NodeDyn → NodeDyn) : (setDyn s i f).ledm = s.ledm := rfl
@[simp] theorem setDyn_ledBad (s : State) (i : Nat) (f : NodeDyn → NodeDyn) : (setDyn s i f).ledBad = s.ledBad := rfl
@[simp] theorem setDyn_flashBad (s : State) (i : Nat) (f : NodeDyn → NodeDyn) : (setDyn s i f).flashBad = s.flashBad := rfl
@[simp] theorem setDyn_pwr (s : State) (i : Nat) (f : NodeDyn → NodeDyn) : (setDyn s i f).pwr = s.pwr := rfl
@[simp] theorem setDyn_upd (s : State) (i : Nat) (f : NodeDyn → NodeDyn) : (setDyn s i f).upd = s.upd := rfl
@[simp] theorem setDyn_pins (s : State) (i : Nat) (f : NodeDyn → NodeDyn) : (setDyn s i f).pins = s.pins := rfl
@[simp] theorem setDyn_flash (s : State) (i : Nat) (f : NodeDyn → NodeDyn) : (setDyn s i f).flash = s.flash := rfl
@[simp] theorem setDyn_led (s : State) (i : Nat) (f : NodeDyn → NodeDyn) : (setDyn s i f).led = s.led := rfl
@[simp] theorem setDyn_aon (s : State) (i : Nat) (f : NodeDyn → NodeDyn) : (setDyn s i f).aon = s.aon := rfl
@[simp] theorem setDyn_mem (s : State) (i : Nat) (f : NodeDyn → NodeDyn) : (setDyn s i f).mem = s.mem := rfl
@[simp] theorem setDyn_latch (s : State) (i : Nat) (f : NodeDyn → NodeDyn) : (setDyn s i f).latch = s.latch := rfl
@[simp] theorem setDyn_free (s : State) (i : Nat) (f : NodeDyn → NodeDyn) : (setDyn s i f).free = s.free := rfl
@[simp] theorem setDyn_ahead (s : State) (i : Nat) (f : NodeDyn → NodeDyn) : (setDyn s i f).ahead = s.ahead := rfl
@[simp] theorem setDyn_pending (s : State) (i : Nat) (f : NodeDyn → NodeDyn) : (setDyn s i f).pending = s.pending := rfl

/-! ### setSec -/

@[simp] theorem setSec_modp (s : State) (f : SecState → SecState) : (setSec s f).modp = s.modp := rfl
@[simp] theorem setSec_bankA (s : State) (f : SecState → SecState) : (setSec s f).bankA = s.bankA := rfl
@[simp] theorem setSec_bankB (s : State) (f : SecState → SecState) : (setSec s f).bankB = s.bankB := rfl
@[simp] theorem setSec_sys (s : State) (f : SecState → SecState) : (setSec s f).sys = s.sys := rfl
@[simp] theorem setSec_vtp (s : State) (f : SecState → SecState) : (setSec s f).vtp = s.vtp := rfl
@[simp] theorem setSec_calls (s : State) (f : SecState → SecState) : (setSec s f).calls = s.calls := rfl
@[simp] theorem setSec_cox (s : State) (f : SecState → SecState) : (setSec s f).cox = s.cox := rfl
@[simp] theorem setSec_stns (s : State) (f : SecState → SecState) : (setSec s f).stns = s.stns := rfl
@[simp] theorem setSec_cfg (s : State) (f : SecState → SecState) : (setSec s f).cfg = s.cfg := rfl
@[simp] theorem setSec_tim (s : State) (f : SecState → SecState) : (setSec s f).tim = s.tim := rfl
@[simp] theorem setSec_rtc (s : State) (f : SecState → SecState) : (setSec s f).rtc = s.rtc := rfl
@[simp] theorem setSec_eth (s : State) (f : SecState → SecState) : (setSec s f).eth = s.eth := rfl
@[simp] theorem setSec_evq (s : State) (f : SecState → SecState) : (setSec s f).evq = s.evq := rfl
@[simp] theorem setSec_lgt (s : State) (f : SecState → SecState) : (setSec s f).lgt = s.lgt := rfl
@[simp] theorem setSec_crs (s : State) (f : SecState → SecState) : (setSec s f).crs = s.crs := rfl
@[simp] theorem setSec_rad (s : State) (f : SecState → SecState) : (setSec s f).rad = s.rad := rfl
@[simp] theorem setSec_sec (s : State) (f : SecState → SecState) : (setSec s f).sec = f s.sec := rfl
@[simp] theorem setSec_keys (s : State) (f : SecState → SecState) : (setSec s f).keys = s.keys := rfl
@[simp] theorem setSec_mtr (s : State) (f : SecState → SecState) : (setSec s f).mtr = s.mtr := rfl
@[simp] theorem setSec_ledr (s : State) (f : SecState → SecState) : (setSec s f).ledr = s.ledr := rfl
@[simp] theorem setSec_ledm (s : State) (f : SecState → SecState) : (setSec s f).ledm = s.ledm := rfl
@[simp] theorem setSec_ledBad (s : State) (f : SecState → SecState) : (setSec s f).ledBad = s.ledBad := rfl
@[simp] theorem setSec_flashBad (s : State) (f : SecState → SecState) : (setSec s f).flashBad = s.flashBad := rfl
@[simp] theorem setSec_pwr (s : State) (f : SecState → SecState) : (setSec s f).pwr = s.pwr := rfl
@[simp] theorem setSec_upd (s : State) (f : SecState → SecState) : (setSec s f).upd = s.upd := rfl
@[simp] theorem setSec_pins (s : State) (f : SecState → SecState) : (setSec s f).pins = s.pins := rfl
@[simp] theorem setSec_flash (s : State) (f : SecState → SecState) : (setSec s f).flash = s.flash := rfl
@[simp] theorem setSec_led (s : State) (f : SecState → SecState) : (setSec s f).led = s.led := rfl
@[simp] theorem setSec_aon (s : State) (f : SecState → SecState) : (setSec s f).aon = s.aon := rfl
@[simp] theorem setSec_mem (s : State) (f : SecState → SecState) : (setSec s f).mem = s.mem := rfl
@[simp] theorem setSec_latch (s : State) (f : SecState → SecState) : (setSec s f).latch = s.latch := rfl
@[simp] theorem setSec_free (s : State) (f : SecState → SecState) : (setSec s f).free = s.free := rfl
@[simp] theorem setSec_ahead (s : State) (f : SecState → SecState) : (setSec s f).ahead = s.ahead := rfl
@[simp] theorem setSec_pending (s : State) (f : SecState → SecState) : (setSec s f).pending = s.pending := rfl

/-! ### setKeys -/

@[simp] theorem setKeys_modp (s : State) (f : KeyStore → KeyStore) : (setKeys s f).modp = s.modp := rfl
@[simp] theorem setKeys_bankA (s : State) (f : KeyStore → KeyStore) : (setKeys s f).bankA = s.bankA := rfl
@[simp] theorem setKeys_bankB (s : State) (f : KeyStore → KeyStore) : (setKeys s f).bankB = s.bankB := rfl
@[simp] theorem setKeys_sys (s : State) (f : KeyStore → KeyStore) : (setKeys s f).sys = s.sys := rfl
@[simp] theorem setKeys_vtp (s : State) (f : KeyStore → KeyStore) : (setKeys s f).vtp = s.vtp := rfl
@[simp] theorem setKeys_calls (s : State) (f : KeyStore → KeyStore) : (setKeys s f).calls = s.calls := rfl
@[simp] theorem setKeys_cox (s : State) (f : KeyStore → KeyStore) : (setKeys s f).cox = s.cox := rfl
@[simp] theorem setKeys_stns (s : State) (f : KeyStore → KeyStore) : (setKeys s f).stns = s.stns := rfl
@[simp] theorem setKeys_cfg (s : State) (f : KeyStore → KeyStore) : (setKeys s f).cfg = s.cfg := rfl
@[simp] theorem setKeys_tim (s : State) (f : KeyStore → KeyStore) : (setKeys s f).tim = s.tim := rfl
@[simp] theorem setKeys_rtc (s : State) (f : KeyStore → KeyStore) : (setKeys s f).rtc = s.rtc := rfl
@[simp] theorem setKeys_eth (s : State) (f : KeyStore → KeyStore) : (setKeys s f).eth = s.eth := rfl
@[simp] theorem setKeys_evq (s : State) (f : KeyStore → KeyStore) : (setKeys s f).evq = s.evq := rfl
@[simp] theorem setKeys_lgt (s : State) (f : KeyStore → KeyStore) : (setKeys s f).lgt = s.lgt := rfl
@[simp] theorem setKeys_crs (s : State) (f : KeyStore → KeyStore) : (setKeys s f).crs = s.crs := rfl
@[simp] theorem setKeys_rad (s : State) (f : KeyStore → KeyStore) : (setKeys s f).rad = s.rad := rfl
@[simp] theorem setKeys_sec (s : State) (f : KeyStore → KeyStore) : (setKeys s f).sec = s.sec := rfl
@[simp] theorem setKeys_keys (s : State) (f : KeyStore → KeyStore) : (setKeys s f).keys = f s.keys := rfl
@[simp] theorem setKeys_mtr (s : State) (f : KeyStore → KeyStore) : (setKeys s f).mtr = s.mtr := rfl
@[simp] theorem setKeys_ledr (s : State) (f : KeyStore → KeyStore) : (setKeys s f).ledr = s.ledr := rfl
@[simp] theorem setKeys_ledm (s : State) (f : KeyStore → KeyStore) : (setKeys s f).ledm = s.ledm := rfl
@[simp] theorem setKeys_ledBad (s : State) (f : KeyStore → KeyStore) : (setKeys s f).ledBad = s.ledBad := rfl
@[simp] theorem setKeys_flashBad (s : State) (f : KeyStore → KeyStore) : (setKeys s f).flashBad = s.flashBad := rfl
@[simp] theorem setKeys_pwr (s : State) (f : KeyStore → KeyStore) : (setKeys s f).pwr = s.pwr := rfl
@[simp] theorem setKeys_upd (s : State) (f : KeyStore → KeyStore) : (setKeys s f).upd = s.upd := rfl
@[simp] theorem setKeys_pins (s : State) (f : KeyStore → KeyStore) : (setKeys s f).pins = s.pins := rfl
@[simp] theorem setKeys_flash (s : State) (f : KeyStore → KeyStore) : (setKeys s f).flash = s.flash := rfl
@[simp] theorem setKeys_led (s : State) (f : KeyStore → KeyStore) : (setKeys s f).led = s.led := rfl
@[simp] theorem setKeys_aon (s : State) (f : KeyStore → KeyStore) : (setKeys s f).aon = s.aon := rfl
@[simp] theorem setKeys_mem (s : State) (f : KeyStore → KeyStore) : (setKeys s f).mem = s.mem := rfl
@[simp] theorem setKeys_latch (s : State) (f : KeyStore → KeyStore) : (setKeys s f).latch = s.latch := rfl
@[simp] theorem setKeys_free (s : State) (f : KeyStore → KeyStore) : (setKeys s f).free = s.free := rfl
@[simp] theorem setKeys_ahead (s : State) (f : KeyStore → KeyStore) : (setKeys s f).ahead = s.ahead := rfl
@[simp] theorem setKeys_pending (s : State) (f : KeyStore → KeyStore) : (setKeys s f).pending = s.pending := rfl

/-! ### setMtr -/

@[simp] theorem setMtr_modp (s : State) (f : MtrState → MtrState) : (setMtr s f).modp = s.modp := rfl
@[simp] theorem setMtr_bankA (s : State) (f : MtrState → MtrState) : (setMtr s f).bankA = s.bankA := rfl
@[simp] theorem setMtr_bankB (s : State) (f : MtrState → MtrState) : (setMtr s f).bankB = s.bankB := rfl
@[simp] theorem setMtr_sys (s : State) (f : MtrState → MtrState) : (setMtr s f).sys = s.sys := rfl
@[simp] theorem setMtr_vtp (s : State) (f : MtrState → MtrState) : (setMtr s f).vtp = s.vtp := rfl
@[simp] theorem setMtr_calls (s : State) (f : MtrState → MtrState) : (setMtr s f).calls = s.calls := rfl
@[simp] theorem setMtr_cox (s : State) (f : MtrState → MtrState) : (setMtr s f).cox = s.cox := rfl
@[simp] theorem setMtr_stns (s : State) (f : MtrState → MtrState) : (setMtr s f).stns = s.stns := rfl
@[simp] theorem setMtr_cfg (s : State) (f : MtrState → MtrState) : (setMtr s f).cfg = s.cfg := rfl
@[simp] theorem setMtr_tim (s : State) (f : MtrState → MtrState) : (setMtr s f).tim = s.tim := rfl
@[simp] theorem setMtr_rtc (s : State) (f : MtrState → MtrState) : (setMtr s f).rtc = s.rtc := rfl
@[simp] theorem setMtr_eth (s : State) (f : MtrState → MtrState) : (setMtr s f).eth = s.eth := rfl
@[simp] theorem setMtr_evq (s : State) (f : MtrState → MtrState) : (setMtr s f).evq = s.evq := rfl
@[simp] theorem setMtr_lgt (s : State) (f : MtrState → MtrState) : (setMtr s f).lgt = s.lgt := rfl
@[simp] theorem setMtr_crs (s : State) (f : MtrState → MtrState) : (setMtr s f).crs = s.crs := rfl
@[simp] theorem setMtr_rad (s : State) (f : MtrState → MtrState) : (setMtr s f).rad = s.rad := rfl
@[simp] theorem setMtr_sec (s : State) (f : MtrState → MtrState) : (setMtr s f).sec = s.sec := rfl
@[simp] theorem setMtr_keys (s : State) (f : MtrState → MtrState) : (setMtr s f).keys = s.keys := rfl
@[simp] theorem setMtr_mtr (s : State) (f : MtrState → MtrState) : (setMtr s f).mtr = f s.mtr := rfl
@[simp] theorem setMtr_ledr (s : State) (f : MtrState → MtrState) : (setMtr s f).ledr = s.ledr := rfl
@[simp] theorem setMtr_ledm (s : State) (f : MtrState → MtrState) : (setMtr s f).ledm = s.ledm := rfl
@[simp] theorem setMtr_ledBad (s : State) (f : MtrState → MtrState) : (setMtr s f).ledBad = s.ledBad := rfl
@[simp] theorem setMtr_flashBad (s : State) (f : MtrState → MtrState) : (setMtr s f).flashBad = s.flashBad := rfl
@[simp] theorem setMtr_pwr (s : State) (f : MtrState → MtrState) : (setMtr s f).pwr = s.pwr := rfl
@[simp] theorem setMtr_upd (s : State) (f : MtrState → MtrState) : (setMtr s f).upd = s.upd := rfl
@[simp] theorem setMtr_pins (s : State) (f : MtrState → MtrState) : (setMtr s f).pins = s.pins := rfl
@[simp] theorem setMtr_flash (s : State) (f : MtrState → MtrState) : (setMtr s f).flash = s.flash := rfl
@[simp] theorem setMtr_led (s : State) (f : MtrState → MtrState) : (setMtr s f).led = s.led := rfl
@[simp] theorem setMtr_aon (s : State) (f : MtrState → MtrState) : (setMtr s f).aon = s.aon := rfl
@[simp] theorem setMtr_mem (s : State) (f : MtrState → MtrState) : (setMtr s f).mem = s.mem := rfl
@[simp] theorem setMtr_latch (s : State) (f : MtrState → MtrState) : (setMtr s f).latch = s.latch := rfl
@[simp] theorem setMtr_free (s : State) (f : MtrState → MtrState) : (setMtr s f).free = s.free := rfl
@[simp] theorem setMtr_ahead (s : State) (f : MtrState → MtrState) : (setMtr s f).ahead = s.ahead := rfl
@[simp] theorem setMtr_pending (s : State) (f : MtrState → MtrState) : (setMtr s f).pending = s.pending := rfl

/-! ### setLedr -/

@[simp] theorem setLedr_modp (s : State) (f : LedgerRad → LedgerRad) : (setLedr s f).modp = s.modp := rfl
@[simp] theorem setLedr_bankA (s : State) (f : LedgerRad → LedgerRad) : (setLedr s f).bankA = s.bankA := rfl
@[simp] theorem setLedr_bankB (s : State) (f : LedgerRad → LedgerRad) : (setLedr s f).bankB = s.bankB := rfl
@[simp] theorem setLedr_sys (s : State) (f : LedgerRad → LedgerRad) : (setLedr s f).sys = s.sys := rfl
@[simp] theorem setLedr_vtp (s : State) (f : LedgerRad → LedgerRad) : (setLedr s f).vtp = s.vtp := rfl
@[simp] theorem setLedr_calls (s : State) (f : LedgerRad → LedgerRad) : (setLedr s f).calls = s.calls := rfl
@[simp] theorem setLedr_cox (s : State) (f : LedgerRad → LedgerRad) : (setLedr s f).cox = s.cox := rfl
@[simp] theorem setLedr_stns (s : State) (f : LedgerRad → LedgerRad) : (setLedr s f).stns = s.stns := rfl
@[simp] theorem setLedr_cfg (s : State) (f : LedgerRad → LedgerRad) : (setLedr s f).cfg = s.cfg := rfl
@[simp] theorem setLedr_tim (s : State) (f : LedgerRad → LedgerRad) : (setLedr s f).tim = s.tim := rfl
@[simp] theorem setLedr_rtc (s : State) (f : LedgerRad → LedgerRad) : (setLedr s f).rtc = s.rtc := rfl
@[simp] theorem setLedr_eth (s : State) (f : LedgerRad → LedgerRad) : (setLedr s f).eth = s.eth := rfl
@[simp] theorem setLedr_evq (s : State) (f : LedgerRad → LedgerRad) : (setLedr s f).evq = s.evq := rfl
@[simp] theorem setLedr_lgt (s : State) (f : LedgerRad → LedgerRad) : (setLedr s f).lgt = s.lgt := rfl
@[simp] theorem setLedr_crs (s : State) (f : LedgerRad → LedgerRad) : (setLedr s f).crs = s.crs := rfl
@[simp] theorem setLedr_rad (s : State) (f : LedgerRad → LedgerRad) : (setLedr s f).rad = s.rad := rfl
@[simp] theorem setLedr_sec (s : State) (f : LedgerRad → LedgerRad) : (setLedr s f).sec = s.sec := rfl
@[simp] theorem setLedr_keys (s : State) (f : LedgerRad → LedgerRad) : (setLedr s f).keys = s.keys := rfl
@[simp] theorem setLedr_mtr (s : State) (f : LedgerRad → LedgerRad) : (setLedr s f).mtr = s.mtr := rfl
@[simp] theorem setLedr_ledr (s : State) (f : LedgerRad → LedgerRad) : (setLedr s f).ledr = f s.ledr := rfl
@[simp] theorem setLedr_ledm (s : State) (f : LedgerRad → LedgerRad) : (setLedr s f).ledm = s.ledm := rfl
@[simp] theorem setLedr_ledBad (s : State) (f : LedgerRad → LedgerRad) : (setLedr s f).ledBad = s.ledBad := rfl
@[simp] theorem setLedr_flashBad (s : State) (f : LedgerRad → LedgerRad) : (setLedr s f).flashBad = s.flashBad := rfl
@[simp] theorem setLedr_pwr (s : State) (f : LedgerRad → LedgerRad) : (setLedr s f).pwr = s.pwr := rfl
@[simp] theorem setLedr_upd (s : State) (f : LedgerRad → LedgerRad) : (setLedr s f).upd = s.upd := rfl
@[simp] theorem setLedr_pins (s : State) (f : LedgerRad → LedgerRad) : (setLedr s f).pins = s.pins := rfl
@[simp] theorem setLedr_flash (s : State) (f : LedgerRad → LedgerRad) : (setLedr s f).flash = s.flash := rfl
@[simp] theorem setLedr_led (s : State) (f : LedgerRad → LedgerRad) : (setLedr s f).led = s.led := rfl
@[simp] theorem setLedr_aon (s : State) (f : LedgerRad → LedgerRad) : (setLedr s f).aon = s.aon := rfl
@[simp] theorem setLedr_mem (s : State) (f : LedgerRad → LedgerRad) : (setLedr s f).mem = s.mem := rfl
@[simp] theorem setLedr_latch (s : State) (f : LedgerRad → LedgerRad) : (setLedr s f).latch = s.latch := rfl
@[simp] theorem setLedr_free (s : State) (f : LedgerRad → LedgerRad) : (setLedr s f).free = s.free := rfl
@[simp] theorem setLedr_ahead (s : State) (f : LedgerRad → LedgerRad) : (setLedr s f).ahead = s.ahead := rfl
@[simp] theorem setLedr_pending (s : State) (f : LedgerRad → LedgerRad) : (setLedr s f).pending = s.pending := rfl

/-! ### setLedm -/

@[simp] theorem setLedm_modp (s : State) (f : LedgerMtr → LedgerMtr) : (setLedm s f).modp = s.modp := rfl
@[simp] theorem setLedm_bankA (s : State) (f : LedgerMtr → LedgerMtr) : (setLedm s f).bankA = s.bankA := rfl
@[simp] theorem setLedm_bankB (s : State) (f : LedgerMtr → LedgerMtr) : (setLedm s f).bankB = s.bankB := rfl
@[simp] theorem setLedm_sys (s : State) (f : LedgerMtr → LedgerMtr) : (setLedm s f).sys = s.sys := rfl
@[simp] theorem setLedm_vtp (s : State) (f : LedgerMtr → LedgerMtr) : (setLedm s f).vtp = s.vtp := rfl
@[simp] theorem setLedm_calls (s : State) (f : LedgerMtr → LedgerMtr) : (setLedm s f).calls = s.calls := rfl
@[simp] theorem setLedm_cox (s : State) (f : LedgerMtr → LedgerMtr) : (setLedm s f).cox = s.cox := rfl
@[simp] theorem setLedm_stns (s : State) (f : LedgerMtr → LedgerMtr) : (setLedm s f).stns = s.stns := rfl
@[simp] theorem setLedm_cfg (s : State) (f : LedgerMtr → LedgerMtr) : (setLedm s f).cfg = s.cfg := rfl
@[simp] theorem setLedm_tim (s : State) (f : LedgerMtr → LedgerMtr) : (setLedm s f).tim = s.tim := rfl
@[simp] theorem setLedm_rtc (s : State) (f : LedgerMtr → LedgerMtr) : (setLedm s f).rtc = s.rtc := rfl
@[simp] theorem setLedm_eth (s : State) (f : LedgerMtr → LedgerMtr) : (setLedm s f).eth = s.eth := rfl
@[simp] theorem setLedm_evq (s : State) (f : LedgerMtr → LedgerMtr) : (setLedm s f).evq = s.evq := rfl
@[simp] theorem setLedm_lgt (s : State) (f : LedgerMtr → LedgerMtr) : (setLedm s f).lgt = s.lgt := rfl
@[simp] theorem setLedm_crs (s : State) (f : LedgerMtr → LedgerMtr) : (setLedm s f).crs = s.crs := rfl
@[simp] theorem setLedm_rad (s : State) (f : LedgerMtr → LedgerMtr) : (setLedm s f).rad = s.rad := rfl
@[simp] theorem setLedm_sec (s : State) (f : LedgerMtr → LedgerMtr) : (setLedm s f).sec = s.sec := rfl
@[simp] theorem setLedm_keys (s : State) (f : LedgerMtr → LedgerMtr) : (setLedm s f).keys = s.keys := rfl
@[simp] theorem setLedm_mtr (s : State) (f : LedgerMtr → LedgerMtr) : (setLedm s f).mtr = s.mtr := rfl
@[simp] theorem setLedm_ledr (s : State) (f : LedgerMtr → LedgerMtr) : (setLedm s f).ledr = s.ledr := rfl
@[simp] theorem setLedm_ledm (s : State) (f : LedgerMtr → LedgerMtr) : (setLedm s f).ledm = f s.ledm := rfl
@[simp] theorem setLedm_ledBad (s : State) (f : LedgerMtr → LedgerMtr) : (setLedm s f).ledBad = s.ledBad := rfl
@[simp] theorem setLedm_flashBad (s : State) (f : LedgerMtr → LedgerMtr) : (setLedm s f).flashBad = s.flashBad := rfl
@[simp] theorem setLedm_pwr (s : State) (f : LedgerMtr → LedgerMtr) : (setLedm s f).pwr = s.pwr := rfl
@[simp] theorem setLedm_upd (s : State) (f : LedgerMtr → LedgerMtr) : (setLedm s f).upd = s.upd := rfl
@[simp] theorem setLedm_pins (s : State) (f : LedgerMtr → LedgerMtr) : (setLedm s f).pins = s.pins := rfl
@[simp] theorem setLedm_flash (s : State) (f : LedgerMtr → LedgerMtr) : (setLedm s f).flash = s.flash := rfl
@[simp] theorem setLedm_led (s : State) (f : LedgerMtr → LedgerMtr) : (setLedm s f).led = s.led := rfl
@[simp] theorem setLedm_aon (s : State) (f : LedgerMtr → LedgerMtr) : (setLedm s f).aon = s.aon := rfl
@[simp] theorem setLedm_mem (s : State) (f : LedgerMtr → LedgerMtr) : (setLedm s f).mem = s.mem := rfl
@[simp] theorem setLedm_latch (s : State) (f : LedgerMtr → LedgerMtr) : (setLedm s f).latch = s.latch := rfl
@[simp] theorem setLedm_free (s : State) (f : LedgerMtr → LedgerMtr) : (setLedm s f).free = s.free := rfl
@[simp] theorem setLedm_ahead (s : State) (f : LedgerMtr → LedgerMtr) : (setLedm s f).ahead = s.ahead := rfl
@[simp] theorem setLedm_pending (s : State) (f : LedgerMtr → LedgerMtr) : (setLedm s f).pending = s.pending := rfl

/-! ### setPwr -/

@[simp] theorem setPwr_modp (s : State) (f : PwrState → PwrState) : (setPwr s f).modp = s.modp := rfl
@[simp] theorem setPwr_bankA (s : State) (f : PwrState → PwrState) : (setPwr s f).bankA = s.bankA := rfl
@[simp] theorem setPwr_bankB (s : State) (f : PwrState → PwrState) : (setPwr s f).bankB = s.bankB := rfl
@[simp] theorem setPwr_sys (s : State) (f : PwrState → PwrState) : (setPwr s f).sys = s.sys := rfl
@[simp] theorem setPwr_vtp (s : State) (f : PwrState → PwrState) : (setPwr s f).vtp = s.vtp := rfl
@[simp] theorem setPwr_calls (s : State) (f : PwrState → PwrState) : (setPwr s f).calls = s.calls := rfl
@[simp] theorem setPwr_cox (s : State) (f : PwrState → PwrState) : (setPwr s f).cox = s.cox := rfl
@[simp] theorem setPwr_stns (s : State) (f : PwrState → PwrState) : (setPwr s f).stns = s.stns := rfl
@[simp] theorem setPwr_cfg (s : State) (f : PwrState → PwrState) : (setPwr s f).cfg = s.cfg := rfl
@[simp] theorem setPwr_tim (s : State) (f : PwrState → PwrState) : (setPwr s f).tim = s.tim := rfl
@[simp] theorem setPwr_rtc (s : State) (f : PwrState → PwrState) : (setPwr s f).rtc = s.rtc := rfl
@[simp] theorem setPwr_eth (s : State) (f : PwrState → PwrState) : (setPwr s f).eth = s.eth := rfl
@[simp] theorem setPwr_evq (s : State) (f : PwrState → PwrState) : (setPwr s f).evq = s.evq := rfl
@[simp] theorem setPwr_lgt (s : State) (f : PwrState → PwrState) : (setPwr s f).lgt = s.lgt := rfl
@[simp] theorem setPwr_crs (s : State) (f : PwrState → PwrState) : (setPwr s f).crs = s.crs := rfl
@[simp] theorem setPwr_rad (s : State) (f : PwrState → PwrState) : (setPwr s f).rad = s.rad := rfl
@[simp] theorem setPwr_sec (s : State) (f : PwrState → PwrState) : (setPwr s f).sec = s.sec := rfl
@[simp] theorem setPwr_keys (s : State) (f : PwrState → PwrState) : (setPwr s f).keys = s.keys := rfl
@[simp] theorem setPwr_mtr (s : State) (f : PwrState → PwrState) : (setPwr s f).mtr = s.mtr := rfl
@[simp] theorem setPwr_ledr (s : State) (f : PwrState → PwrState) : (setPwr s f).ledr = s.ledr := rfl
@[simp] theorem setPwr_ledm (s : State) (f : PwrState → PwrState) : (setPwr s f).ledm = s.ledm := rfl
@[simp] theorem setPwr_ledBad (s : State) (f : PwrState → PwrState) : (setPwr s f).ledBad = s.ledBad := rfl
@[simp] theorem setPwr_flashBad (s : State) (f : PwrState → PwrState) : (setPwr s f).flashBad = s.flashBad := rfl
@[simp] theorem setPwr_pwr (s : State) (f : PwrState → PwrState) : (setPwr s f).pwr = f s.pwr := rfl
@[simp] theorem setPwr_upd (s : State) (f : PwrState → PwrState) : (setPwr s f).upd = s.upd := rfl
@[simp] theorem setPwr_pins (s : State) (f : PwrState → PwrState) : (setPwr s f).pins = s.pins := rfl
@[simp] theorem setPwr_flash (s : State) (f : PwrState → PwrState) : (setPwr s f).flash = s.flash := rfl
@[simp] theorem setPwr_led (s : State) (f : PwrState → PwrState) : (setPwr s f).led = s.led := rfl
@[simp] theorem setPwr_aon (s : State) (f : PwrState → PwrState) : (setPwr s f).aon = s.aon := rfl
@[simp] theorem setPwr_mem (s : State) (f : PwrState → PwrState) : (setPwr s f).mem = s.mem := rfl
@[simp] theorem setPwr_latch (s : State) (f : PwrState → PwrState) : (setPwr s f).latch = s.latch := rfl
@[simp] theorem setPwr_free (s : State) (f : PwrState → PwrState) : (setPwr s f).free = s.free := rfl
@[simp] theorem setPwr_ahead (s : State) (f : PwrState → PwrState) : (setPwr s f).ahead = s.ahead := rfl
@[simp] theorem setPwr_pending (s : State) (f : PwrState → PwrState) : (setPwr s f).pending = s.pending := rfl

/-! ### drawn -/

@[simp] theorem drawn_modp (s : State) : (drawn s).modp = s.modp := rfl
@[simp] theorem drawn_bankA (s : State) : (drawn s).bankA = s.bankA := rfl
@[simp] theorem drawn_bankB (s : State) : (drawn s).bankB = s.bankB := rfl
@[simp] theorem drawn_sys (s : State) : (drawn s).sys = s.sys := rfl
@[simp] theorem drawn_vtp (s : State) : (drawn s).vtp = s.vtp := rfl
@[simp] theorem drawn_calls (s : State) : (drawn s).calls = s.calls := rfl
@[simp] theorem drawn_cox (s : State) : (drawn s).cox = s.cox := rfl
@[simp] theorem drawn_stns (s : State) : (drawn s).stns = s.stns := rfl
@[simp] theorem drawn_cfg (s : State) : (drawn s).cfg = s.cfg := rfl
@[simp] theorem drawn_tim (s : State) : (drawn s).tim = s.tim := rfl
@[simp] theorem drawn_rtc (s : State) : (drawn s).rtc = s.rtc := rfl
@[simp] theorem drawn_eth (s : State) : (drawn s).eth = s.eth := rfl
@[simp] theorem drawn_evq (s : State) : (drawn s).evq = s.evq := rfl
@[simp] theorem drawn_lgt (s : State) : (drawn s).lgt = s.lgt := rfl
@[simp] theorem drawn_crs (s : State) : (drawn s).crs = s.crs := rfl
@[simp] theorem drawn_rad (s : State) : (drawn s).rad = s.rad := rfl
@[simp] theorem drawn_sec (s : State) : (drawn s).sec = s.sec := rfl
@[simp] theorem drawn_keys (s : State) : (drawn s).keys = s.keys := rfl
@[simp] theorem drawn_mtr (s : State) : (drawn s).mtr = s.mtr := rfl
@[simp] theorem drawn_ledr (s : State) : (drawn s).ledr = s.ledr := rfl
@[simp] theorem drawn_ledm (s : State) : (drawn s).ledm = s.ledm := rfl
@[simp] theorem drawn_ledBad (s : State) : (drawn s).ledBad = s.ledBad := rfl
@[simp] theorem drawn_flashBad (s : State) : (drawn s).flashBad = s.flashBad := rfl
@[simp] theorem drawn_pwr (s : State) : (drawn s).pwr = s.pwr := rfl
@[simp] theorem drawn_upd (s : State) : (drawn s).upd = s.upd := rfl
@[simp] theorem drawn_pins (s : State) : (drawn s).pins = s.pins := rfl
@[simp] theorem drawn_flash (s : State) : (drawn s).flash = s.flash := rfl
@[simp] theorem drawn_led (s : State) : (drawn s).led = s.led := rfl
@[simp] theorem drawn_aon (s : State) : (drawn s).aon = s.aon := rfl
@[simp] theorem drawn_mem (s : State) : (drawn s).mem = s.mem := rfl
@[simp] theorem drawn_latch (s : State) : (drawn s).latch = s.latch := rfl
@[simp] theorem drawn_free (s : State) : (drawn s).free = s.free + 1 := rfl
@[simp] theorem drawn_ahead (s : State) : (drawn s).ahead = s.ahead := rfl
@[simp] theorem drawn_pending (s : State) : (drawn s).pending = s.pending := rfl

end Sys2Proof.Machine
end

