-- ==== Sys2Proof/Laws/Stations.lean ====
section
/-! SUPPORT. Station records and the Cox's clock: what a record reads after it is changed, and which operations leave the clock alone. -/
set_option Elab.async false
namespace Sys2Proof.Machine

/-- How a command completes: by the state its meaning makes, with the queue kept. -/
theorem done_ran {c : Instr} {s u : State} {P : State → Prop} (h : exec c s = ran s u) (hp : P { u with pending := s.pending }) : Done c s P :=
  ⟨_, h, hp⟩

theorem ran_eq {s u t : State} (h : ran s u = .next t) : t = { u with pending := s.pending } := by
  simpa [ran] using h.symm

/-- A changed record reads as changed. -/
theorem stn_setStn_same (s : State) (n : Stn) (f : StnRec → StnRec) (h : n.idx < s.stns.length) : stn (setStn s n f) n = f (stn s n) := by
  simp [stn, setStn, nth, upd, List.getD, h]

/-- The other records are as before. -/
theorem stn_setStn_other (s : State) (n k : Stn) (f : StnRec → StnRec) (h : k ≠ n) : stn (setStn s n f) k = stn s k := by
  have hi : n.idx ≠ k.idx := fun e => h (by
    have := ofIdx_idx n
    rw [e, ofIdx_idx k] at this
    exact Option.some.inj this)
  simp [stn, setStn, nth, upd, List.getD, hi]

@[simp] theorem setStn_length (s : State) (n : Stn) (f : StnRec → StnRec) : (setStn s n f).stns.length = s.stns.length := by simp [setStn, upd]

/-- A record that differs from the default stands in the list. -/
theorem idx_lt_of_stn (s : State) (n : Stn) (h : stn s n ≠ {}) : n.idx < s.stns.length := by
  by_cases hl : n.idx < s.stns.length
  · exact hl
  · exact (h (by simp [stn, nth, List.getD, List.getElem?_eq_none (Nat.le_of_not_lt hl)])).elim

theorem stn_of_stns {s t : State} (h : t.stns = s.stns) (n : Stn) : stn t n = stn s n := by simp [stn, h]

/-- Every part but the Cox. -/
abbrev offCox : Parts := { Parts.all with cox := false, pending := true }

/-- Every part but the station records. -/
abbrev offStns : Parts := { Parts.all with stns := false, pending := true }

theorem cox_of_keeps {s t : State} (h : masked offCox t = masked offCox s) : t.cox = s.cox := KeepsAllBut.cox (m := offCox) h rfl

theorem stns_of_keeps {s t : State} (h : masked offStns t = masked offStns s) : t.stns = s.stns := KeepsAllBut.stns (m := offStns) h rfl

theorem clock_of_keeps {s t : State} (h : masked offCox t = masked offCox s) : strokeClock t = strokeClock s := by
  simp [strokeClock, cox_of_keeps h]

/-! What leaves the Cox's clock alone. -/

@[simp] theorem stationFault_clock (s : State) (n : Stn) (c : StnCause) : strokeClock (stationFault s n c) = strokeClock s := by
  unfold stationFault
  split
  · rfl
  · refine (clock_of_keeps (stnEvent_keeps offCox rfl _ _)).trans ?_
    have h : masked offCox (setStn (leaveStroke s n) n fun r => { r with state := .fault }) = masked offCox s :=
      (setStn_keeps offCox rfl _ _ _).trans (leaveStroke_keeps offCox rfl rfl _ _)
    generalize (setStn (leaveStroke s n) n fun r => { r with state := .fault }) = u at h
    show strokeClock (if _ then portsFollow u else u) = _
    split
    · exact clock_of_keeps ((portsFollow_keeps offCox rfl rfl _).trans h)
    · exact clock_of_keeps h

theorem clock_foldl {α : Type} (f : State → α → State) (s : State) (l : List α) (h : ∀ s a, strokeClock (f s a) = strokeClock s) :
    strokeClock (l.foldl f s) = strokeClock s := by
  induction l generalizing s with
  | nil => rfl
  | cons a l ih => rw [List.foldl_cons, ih, h]

@[simp] theorem seriesFault_clock (s : State) (n : Stn) (c : StnCause) : strokeClock (seriesFault s n c) = strokeClock s := by
  unfold seriesFault
  split
  · split
    · refine (clock_of_keeps (updFail_keeps offCox rfl rfl rfl rfl rfl _ _ _ _)).trans ((clock_foldl _ _ _ fun s a => ?_).trans ?_)
      · split
        · split
          · rfl
          · simp
        · rfl
      · exact clock_of_keeps (by simp)
    · rfl
  · rfl

@[simp] theorem takeFault_clock (s : State) (n : Stn) (c : StnCause) : strokeClock (takeFault s n c) = strokeClock s := by
  unfold takeFault
  split
  · rfl
  · simp

@[simp] theorem cancelEffect_clock (s : State) (h : Nat) : strokeClock (cancelEffect s h) = strokeClock s := by
  have he : ∀ (s : State) (st : CallSt), strokeClock (endCall s h st .ok) = strokeClock s := fun s st =>
    clock_of_keeps (endCall_keeps offCox rfl rfl _ _ _ _)
  unfold cancelEffect
  dsimp only
  split
  · split
    · split
      · split
        · exact (he _ _).trans ((clock_of_keeps (setStn_keeps offCox rfl _ _ _)).trans rfl)
        · exact (he _ _).trans rfl
      · exact he _ _
    · exact he _ _
  · split
    · exact (he _ _).trans (clock_of_keeps (sendWithdrawn_keeps offCox rfl rfl rfl _ _))
    · split
      · split
        · split
          · exact (clock_of_keeps ((nextScan_keeps offCox rfl rfl rfl _).trans (scanRelease_keeps offCox rfl rfl rfl _ _))).trans (he _ _)
          · exact he _ _
        · exact he _ _
      · split
        · refine clock_of_keeps ((distEnd_keeps offCox rfl rfl rfl rfl rfl rfl _ _ _).trans ?_)
          exact foldl_keeps offCox _ _ _ fun s a => distOutcome_keeps offCox rfl rfl rfl _ _ _ _
        · split
          · exact clock_of_keeps (updEnd_keeps offCox rfl rfl rfl rfl rfl _ _ _ _)
          · exact he _ _

@[simp] theorem cancelDues_clock (s : State) : strokeClock (cancelDues s) = strokeClock s := by
  unfold cancelDues
  refine clock_foldl _ _ _ fun s h => ?_
  split
  · split
    · dsimp only
      split
      · rw [cancelEffect_clock]; exact clock_of_keeps (by simp)
      · exact clock_of_keeps (by simp)
    · rfl
  · rfl

@[simp] theorem rigAtBoundary_clock (s : State) : strokeClock (rigAtBoundary s) = strokeClock s := by
  have hf : ∀ (s : State) (l : List Stn), strokeClock (l.foldl (fun s n =>
      if inReset s n then { s with cox := { s.cox with faults := s.cox.faults ++ [(n, .rig)] } } else takeFault s n .rig) s) = strokeClock s := by
    intro s l
    refine clock_foldl _ _ _ fun s a => ?_
    split
    · rfl
    · simp
  unfold rigAtBoundary
  split
  · split
    · split
      · rfl
      · dsimp only
        (repeat' split) <;> first
          | rfl
          | exact (clock_of_keeps (updEnd_keeps offCox rfl rfl rfl rfl rfl _ _ _ _)).trans rfl
          | exact (hf _ _).trans rfl
    · split
      · exact clock_of_keeps (updEnd_keeps offCox rfl rfl rfl rfl rfl _ _ _ _)
      · rfl
  · rfl

@[simp] theorem boundaryDues_clock (s : State) : strokeClock (boundaryDues s) = strokeClock s := by
  unfold boundaryDues
  dsimp only
  rw [rigAtBoundary_clock, clock_of_keeps (s := cancelDues s) (by simp; split <;> simp), cancelDues_clock]

@[simp] theorem seriesNext_clock (s : State) (h : Nat) (o : ImageOp) : strokeClock (seriesNext s h o) = strokeClock s := by
  unfold seriesNext
  split
  · dsimp only
    split
    · rw [stationFault_clock]; exact clock_of_keeps (by simp)
    · exact clock_of_keeps (by simp)
  · dsimp only
    split <;> exact clock_of_keeps (by simp)

@[simp] theorem imageSeries_clock (s : State) : strokeClock (imageSeries s) = strokeClock s := by
  unfold imageSeries seriesStart
  split
  · split
    · dsimp only; rw [seriesNext_clock]
    · exact clock_of_keeps (by simp; split <;> simp)
  · rfl

@[simp] theorem crabLimit_clock (s : State) (n : Stn) : strokeClock (crabLimit s n) = strokeClock s := by
  unfold crabLimit
  split
  · exact takeFault_clock _ _ _
  · rfl

@[simp] theorem judge_clock (s : State) : strokeClock (judge s) = strokeClock s := by
  unfold judge
  extract_lets late s1 s2 s3 clean
  have h2 : masked offCox s2 = masked offCox s := by simp [s2, s1]
  have h3 : strokeClock s3 = strokeClock s := (clock_foldl _ _ _ crabLimit_clock).trans (clock_of_keeps h2)
  clear_value s3
  exact h3

end Sys2Proof.Machine
end

