-- ==== Sys2Proof/Laws/Vtp.lean ====
section
/-! SUPPORT. What a VTP request does that passes R459: served once, answered, its reply kept; what a WRITE, a READ and a CALL then leave. -/
set_option Elab.async false
namespace Sys2Proof.Machine

/-- Every part but sessions and Ethernet, which a reply changes. -/
abbrev offReply : Parts := { vtp := true, eth := true }

/-- What a request has changed when it meets its station. -/
abbrev offMeets : Parts := { vtp := true, stns := true, pwr := true, upd := true }

theorem meets_keeps (s : State) (q : VtpReq) : KeepsAllBut offMeets s (meets s q) := by
  unfold KeepsAllBut meets
  rw [atServe_keeps offMeets rfl _ _ (fun _ => rfl) (fun _ => rfl) (fun _ => rfl)]
  exact received_keeps offMeets rfl s q

theorem sess_setSess_same (s : State) (i : Nat) (f : Session → Session) (h : i < s.vtp.sessions.length) :
    sess (setSess s i f) i = f (sess s i) := by
  simp [sess, setSess, nth, upd, List.getD, h]

theorem session_lt (s : State) (i : Nat) (h : (sess s i).state = .open_) : i < s.vtp.sessions.length := by
  by_cases hl : i < s.vtp.sessions.length
  · exact hl
  · exact absurd h (by simp [sess, nth, List.getD, List.getElem?_eq_none (Nat.le_of_not_lt hl)])

theorem setSess_length (s : State) (i : Nat) (f : Session → Session) : (setSess s i f).vtp.sessions.length = s.vtp.sessions.length := by
  simp [setSess, upd]

theorem limitCount_length (s : State) (i : Nat) (e : Err) : (limitCount s i e).vtp.sessions.length = s.vtp.sessions.length := by
  unfold limitCount; split
  · exact setSess_length _ _ _
  · rfl

/-- Every part but the sessions. -/
abbrev offVtp : Parts := { Parts.all with vtp := false, pending := true }

/-- A change of a session that is none of its kept requests leaves what every session keeps. -/
theorem kept_of_upd {s t : State} {i : Nat} {f : Session → Session} (h : t.vtp.sessions = upd s.vtp.sessions i f)
    (hf : ∀ x, (f x).kept = x.kept) (j : Nat) : (sess t j).kept = (sess s j).kept := by
  simp only [sess, h, nth, upd, List.getD]
  by_cases hij : i = j
  · subst hij
    by_cases hl : i < s.vtp.sessions.length
    · simp [hl, hf]
    · simp [List.getElem?_eq_none (Nat.le_of_not_lt hl)]
  · simp [hij]

theorem kept_of_sendReply (s : State) (i j : Nat) (r : VtpReply) (b : Bool) : (sess (sendReply s i r b) j).kept = (sess s j).kept := by
  have he : ∀ p q e, (ethQueue s p q e).1.vtp = s.vtp := fun p q e =>
    KeepsAllBut.vtp (m := offVtp) (ethQueue_keeps offVtp rfl s p q e) rfl
  unfold sendReply
  dsimp only
  split
  · split <;> rfl
  · split
    · simp only [sess, he]
    · split
      · exact (kept_of_upd rfl (by simp) j).trans (by simp only [sess, he])
      · exact (kept_of_upd rfl (by simp) j).trans (by simp only [sess, he])

theorem lastN_getLast {α : Type} (l : List α) (a : α) : (lastN 32 (l ++ [a])).getLast? = some a := by
  have h : (l ++ [a]).length - 32 < (l ++ [a]).length := by simp only [List.length_append, List.length_singleton]; omega
  rw [lastN, List.getLast?_drop, if_neg (Nat.not_le.mpr h), List.getLast?_append]
  rfl

/-- An answered request is the last its session keeps. -/
theorem replied_answer (s : State) (q : VtpReq) (r : VtpReply) (h : q.session < s.vtp.sessions.length) : Replied (answer s q r) q r := by
  unfold Replied answer
  rw [kept_of_sendReply, sess_setSess_same _ _ _ (by rw [limitCount_length]; exact h)]
  exact lastN_getLast _ _

/-- A request that passes R459 is served in the state in which its station meets it, and answered. -/
theorem vtpServe_passes {s : State} {q : VtpReq} {lo : Bool} {o : Nat} (h : Passes s q lo o) (f : State → State × VtpReply) :
    vtpServe s q lo o f = answer (f (meets s q)).1 q (f (meets s q)).2 := by
  have hl := session_lt _ _ h.opened
  have hs : sess (received s q) q.session =
      noteRecord { sess s q.session with req := inc32 (sess s q.session).req, lastRec := s.tim.cyc } q.record := by
    have : (received s q).vtp.sessions =
        (setSess s q.session fun x => noteRecord { x with req := inc32 x.req, lastRec := s.tim.cyc } q.record).vtp.sessions := by
      unfold received; dsimp only; split <;> rfl
    unfold sess
    rw [this]
    exact sess_setSess_same s q.session _ hl
  have hk : (sess s q.session).kept.find? (fun k => decide (k.1.tid = q.tid)) = none := by
    simp only [List.find?_eq_none, decide_eq_true_eq]
    exact h.notKept
  have ht : (received s q).tim = s.tim := KeepsAllBut.tim (m := offReply) (received_keeps offReply rfl s q) rfl
  have htok : tokens (received s q) (sess (received s q) q.session) = tokens s (sess s q.session) := by
    rw [hs]; simp [tokens, ht, noteRecord]
  obtain ⟨h0, h5⟩ := h.typ
  have hu := h.up
  unfold vtpServe
  rw [if_neg (by simp [h.up, h.opened, h.first])]
  dsimp only
  rw [if_neg (by simp [h.version]), if_neg (by simp; omega), if_neg (by rw [hs]; simpa [noteRecord] using h.fresh)]
  have e1 : (sess (received s q) q.session).kept = (sess s q.session).kept := by rw [hs]; rfl
  have e2 : (sess (received s q) q.session).outstanding = (sess s q.session).outstanding := by rw [hs]; rfl
  rw [e1, hk]
  dsimp only
  rw [if_neg (by rw [htok, e2]; have := h.few; have := h.token; simp; omega)]
  unfold serveAdmitted
  rw [h.admitted]
  rfl

/-- A WRITE that no register refuses takes its plain registers in ascending offset and then its action fields (R461). -/
theorem writeRegs_ok {s : State} {n : Stn} {i phy : Nat} {ws : Words} (h : (writeRegs s n i phy ws).2 = .ok) :
    writeRegs s n i phy ws = (ws.foldl (actReg n phy) (ws.foldl (putReg n i) s), .ok) := by
  unfold writeRegs at h ⊢
  split <;> rename_i h1
  · split <;> rename_i h2
    · dsimp only
      split <;> rename_i h3
      · rfl
      · simp [h1, h2] at h; exact (h3 h).elim
    · simp [h1] at h; exact (h2 h).elim
  · split at h
    · exact (h1 ‹_›).elim
    · exact (h1 h).elim

theorem meets_length (s : State) (q : VtpReq) (h : (sess s q.session).state = .open_) : q.session < (meets s q).vtp.sessions.length := by
  have hl := session_lt _ _ h
  have h1 : (received s q).vtp.sessions.length = s.vtp.sessions.length := by
    unfold received; dsimp only; split <;> exact setSess_length _ _ _
  have h2 : ∀ s : State, (takeToken s q.session).vtp.sessions.length = s.vtp.sessions.length := fun s => setSess_length _ _ _
  have h3 : ∀ s : State, (updUse s).vtp = s.vtp := fun s => KeepsAllBut.vtp (m := offVtp) (updUse_keeps offVtp rfl rfl rfl s) rfl
  unfold meets atServe
  split
  · rw [h3, h2, h1]; exact hl
  · rw [h2, h1]; exact hl

/-- What a WRITE that is served whole leaves. -/
theorem vtpWrite_ok {s : State} {m : VtpMeta} {n : Stn} {off : Nat} {ws : List Word} {phy : Nat} (h : WriteOk s m n off ws phy) :
    vtpWrite s m n.idx off ws phy =
      answer (((offsOf off ws.length).zip ws).foldl (actReg n phy)
        (((offsOf off ws.length).zip ws).foldl (putReg n m.session) (meets s (writeReq m n off ws))))
        (writeReq m n off ws) (replyOf (writeReq m n off ws) .ok []) := by
  obtain ⟨hp, hw⟩ := h
  have := vtpServe_passes hp (writeServe phy (writeReq m n off ws))
  unfold vtpWrite
  refine this.trans ?_
  have e : writeServe phy (writeReq m n off ws) (meets s (writeReq m n off ws)) =
      ((writeRegs (meets s (writeReq m n off ws)) n m.session phy ((offsOf off ws.length).zip ws)).1,
        replyOf (writeReq m n off ws) (writeRegs (meets s (writeReq m n off ws)) n m.session phy ((offsOf off ws.length).zip ws)).2 []) := by
    unfold writeServe
    have : Stn.ofIdx (writeReq m n off ws).station = some n := ofIdx_idx n
    rw [this]
    rfl
  rw [e, writeRegs_ok hw]

/-- What an admitted CALL leaves: its record taken, its start done, its reply sent. -/
theorem vtpCall_ok {s : State} {q : VtpReq} {err : State → Err} {p : State → CallPlan} {start : State → Nat → State} {bad : Err → State → State}
    {h : Nat} (hc : CallOk s q err p h) :
    vtpCall s q err p start bad =
      answer (start (callEvent (takeCall (meets s q) h q.station (p (meets s q))) h) h) q
        (replyOf q .ok (callReplyData (start (callEvent (takeCall (meets s q) h q.station (p (meets s q))) h) h) h)) := by
  obtain ⟨hp, he, hd, hf⟩ := hc
  unfold vtpCall
  rw [vtpServe_passes hp]
  dsimp only
  rw [he, hd, hf]

end Sys2Proof.Machine
end

