-- ==== Sys2Proof/Laws/Tables.lean ====
section
/-! SUPPORT. Keyed tables, lists changed at one place, and the fields of the words that commands write. -/
set_option Elab.async false
namespace Sys2Proof.Machine

variable {α : Type}

@[simp] theorem tget_tput_same (t : Tab α) (k : Nat) (a : α) : tget (tput t k a) k = some a := by
  induction t with
  | nil => simp [tput, tget]
  | cons p r ih =>
    obtain ⟨i, b⟩ := p
    unfold tput
    split
    · simp [tget]
    · split
      · simp [tget]
      · rename_i h1 h2
        have h3 : ¬ i = k := fun e => h2 e.symm
        simp [tget, ih, h3]

theorem tget_tput_other (t : Tab α) (k j : Nat) (a : α) (h : j ≠ k) : tget (tput t k a) j = tget t j := by
  have hk : ¬ k = j := fun e => h e.symm
  induction t with
  | nil => simp [tput, tget, hk]
  | cons p r ih =>
    obtain ⟨i, b⟩ := p
    unfold tput
    split
    · simp [tget, hk]
    · split
      · rename_i h2; subst h2; simp [tget, hk]
      · simp [tget, ih]

@[simp] theorem tget_tdel_same (t : Tab α) (k : Nat) : tget (tdel t k) k = none := by
  induction t with
  | nil => rfl
  | cons p r ih =>
    obtain ⟨i, b⟩ := p
    simp only [tdel, ne_eq, decide_not] at ih ⊢
    by_cases h : i = k
    · simp [h, ih]
    · simp [h, tget, ih]

theorem tget_tdel_other (t : Tab α) (k j : Nat) (h : j ≠ k) : tget (tdel t k) j = tget t j := by
  induction t with
  | nil => rfl
  | cons p r ih =>
    obtain ⟨i, b⟩ := p
    simp only [tdel, ne_eq, decide_not] at ih ⊢
    by_cases hi : i = k
    · subst hi
      have h3 : ¬ i = j := fun e => h e.symm
      simp [tget, ih, h3]
    · simp [hi, tget, ih]

theorem tgetD_tput_same (t : Tab α) (k : Nat) (a d : α) : tgetD (tput t k a) k d = a := by simp [tgetD]

/-! Lists changed at one place. -/

theorem upd_get_same (l : List α) (i : Nat) (f : α → α) : (upd l i f)[i]? = l[i]?.map f := by simp [upd]

theorem upd_get_other (l : List α) (i j : Nat) (f : α → α) (h : j ≠ i) : (upd l i f)[j]? = l[j]? := by
  have h3 : ¬ i = j := fun e => h e.symm
  simp [upd, h3]

@[simp] theorem upd_length (l : List α) (i : Nat) (f : α → α) : (upd l i f).length = l.length := by simp [upd]

theorem upd_map {β : Type} (g : α → β) (l : List α) (i : Nat) (f : α → α) (b : β → β) (h : ∀ x, g (f x) = b (g x)) :
    (upd l i f).map g = upd (l.map g) i b := by
  induction l generalizing i with
  | nil => simp [upd]
  | cons a l ih =>
    cases i with
    | zero => simp [upd, h]
    | succ i => simpa [upd] using ih i

theorem upd_upd (l : List α) (i : Nat) (f g : α → α) : upd (upd l i f) i g = upd l i fun x => g (f x) := by
  induction l generalizing i with
  | nil => simp [upd]
  | cons a l ih =>
    cases i with
    | zero => simp [upd]
    | succ i => simpa [upd] using ih i

theorem upd_id (l : List α) (i : Nat) : upd l i (fun x => x) = l := by
  induction l generalizing i with
  | nil => simp [upd]
  | cons a l ih =>
    cases i with
    | zero => simp [upd]
    | succ i => simpa [upd] using ih i

/-! NAT entries and what RAD keeps of nodes. -/

theorem natEnt_setNat_same (s : State) (i : Nat) (f : NatEnt → NatEnt) : natEnt (setNat s i f) i = (natEnt s i).map f := by
  unfold setNat
  split
  · rename_i h; rw [h]; rfl
  · rename_i e h
    rw [h]
    exact tget_tput_same _ _ _

theorem natEnt_setNat_other (s : State) (i j : Nat) (f : NatEnt → NatEnt) (h : j ≠ i) : natEnt (setNat s i f) j = natEnt s j := by
  unfold setNat
  split
  · rfl
  · exact tget_tput_other _ _ _ _ h

theorem nodeDyn_setDyn_same (s : State) (i : Nat) (f : NodeDyn → NodeDyn) : nodeDyn (setDyn s i f) i = f (nodeDyn s i) := by
  simp [nodeDyn, tgetD]

/-! The fields of a word that is packed of two fields that do not overlap. -/

theorem pack_two (h a : Nat) (hh : h < 16) (ha : a < 2 ^ 28) :
    (pack [(28, h), (0, a)]).field 31 28 = h ∧ (pack [(28, h), (0, a)]).toNat % 2 ^ 28 = a := by
  have e : (pack [(28, h), (0, a)]).toNat = h * 2 ^ 28 + a := by
    simp [pack, w32]
    omega
  unfold Word.field
  rw [e]
  omega

theorem pack_low (h a : Nat) (hi : Nat) (hh : h < 16) (ha : a < 2 ^ 28) (hhi : hi < 28) :
    (pack [(28, h), (0, a)]).field hi 0 = a % 2 ^ (hi + 1) := by
  have e := (pack_two h a hh ha).2
  unfold Word.field
  simp only [Nat.pow_zero, Nat.div_one, Nat.sub_zero]
  have hx : (pack [(28, h), (0, a)]).toNat % 2 ^ (hi + 1) = (pack [(28, h), (0, a)]).toNat % 2 ^ 28 % 2 ^ (hi + 1) := by
    have hd : hi + 1 ≤ 28 := by omega
    exact (Nat.mod_mod_of_dvd _ (Nat.pow_dvd_pow 2 hd)).symm
  rw [hx, e]

end Sys2Proof.Machine
end

