-- ==== Sys2Proof/Laws/Queues.lean ====
section
/-! SUPPORT. Records of the event queues: a record that is written is the newest packet of its queue. -/
set_option Elab.async false
namespace Sys2Proof.Machine

/-- A packet committed is the newest, with its second word and payload as given. -/
theorem commitPacket_last (e : EvqQueue) (a b : Word64) (p : List Word64) :
    ∃ c, (commitPacket e (a :: b :: p)).vis.getLast? = some (c :: b :: p) :=
  ⟨withSeq (wordsArrive e (p.length + 1 + 1) 0).seq a, by unfold commitPacket; simp⟩

/-- A changed queue reads as changed. -/
theorem setQueue_get (s : State) (q : Nat) (f : EvqQueue → EvqQueue) (e : EvqQueue) (h : s.evq.queues[q]? = some e) :
    (setQueue s q f).evq.queues[q]? = some (f e) := by
  unfold setQueue; simp [upd_get_same, h]

/-- A record is the newest packet of its queue, in a state that has the queues and the reset of EVQ of `s`. -/
theorem record_wrote {s u : State} (q typ : Nat) (w : Stn) (r a ql : Nat) (p : List Word64) (h : u.evq.queues.length = s.evq.queues.length)
    (hd : evqDown u = evqDown s) : Wrote s (record u q typ w r a ql p) q p := by
  intro h1 h2
  obtain ⟨e, he⟩ : ∃ e, u.evq.queues[q]? = some e := ⟨u.evq.queues[q]'(h ▸ h2), by simp [h, h2]⟩
  have hp : record u q typ w r a ql p = setQueue u q fun e => commitPacket e (headerWords u typ w (p.length + 2) r a ql ++ p) := by
    unfold record putPacket; rw [hd, h1]; exact if_neg Bool.false_ne_true
  obtain ⟨c, hc⟩ := commitPacket_last e (nth (headerWords u typ w (p.length + 2) r a ql) 0 0) (nth (headerWords u typ w (p.length + 2) r a ql) 1 0) p
  rw [hp]
  exact ⟨_, _, setQueue_get u q _ e he, hc, rfl⟩

/-- An EVENT record is the newest packet of its station's queue. -/
theorem event_said {s u : State} (w : Stn) (code subject d0 d1 : Nat) (h : u.evq.queues.length = s.evq.queues.length)
    (hd : evqDown u = evqDown s) : Said s (event u w code subject d0 d1) w code subject d0 d1 :=
  record_wrote _ _ _ _ _ _ _ h hd

end Sys2Proof.Machine
end

