-- ==== Sys2Proof/Laws/Radio.lean ====
section
/-! SUPPORT. Radio frames as received: what runs of templates and the end of a frame change of RAD, what the checks of a header read, and how a frame
that is heard is judged. -/
set_option Elab.async false
namespace Sys2Proof.Machine

/-- A change that is none. -/
theorem upd_same {α} (l : List α) (i : Nat) (f : α → α) (h : ∀ x, f x = x) : upd l i f = l := by
  have : f = fun x => x := funext h
  rw [this, upd_id]

/-- Runs of templates change nothing of RAD but the runs noted of their port. -/
theorem runOp_rad (s : State) (p op : Nat) (x : SpiArg) :
    ∃ l, (runOp s p op x).rad = { s.rad with ports := upd s.rad.ports p fun y => { y with spi := y.spi ++ l } } := by
  unfold runOp
  dsimp only
  generalize List.filter _ _ = ts
  generalize (radCfg s p).profile = k
  revert s
  induction ts with
  | nil => exact fun s => ⟨[], by simp [upd_same]⟩
  | cons a r ih =>
    intro s
    obtain ⟨l, hl⟩ := ih (setRadPort (drawn s) p fun y => { y with spi := y.spi ++ [spiRun k x a s.free] })
    refine ⟨spiRun k x a s.free :: l, ?_⟩
    rw [List.foldl_cons, hl]
    simp [setRadPort, setRad, drawn, upd_upd]

/-- Two runs one after the other. -/
theorem runs_trans {r u v : RadState} {p : Nat} {l m : List SpiRun} (h : u = { r with ports := upd r.ports p fun y => { y with spi := y.spi ++ l } })
    (k : v = { u with ports := upd u.ports p fun y => { y with spi := y.spi ++ m } }) :
    v = { r with ports := upd r.ports p fun y => { y with spi := y.spi ++ (l ++ m) } } := by
  subst h; subst k; simp [upd_upd]

theorem trxRearm_rad (s : State) (p : Nat) :
    ∃ l, (trxRearm s p).rad = { s.rad with ports := upd s.rad.ports p fun y => { y with spi := y.spi ++ l } } := by
  obtain ⟨l, hl⟩ := runOp_rad s p opIdle {}
  obtain ⟨m, hm⟩ := runOp_rad (runOp s p opIdle {}) p opRxArm {}
  exact ⟨_, runs_trans hl hm⟩

theorem trxRead_rad (s : State) (p n : Nat) :
    ∃ l, (trxRead s p n).rad = { s.rad with ports := upd s.rad.ports p fun y => { y with spi := y.spi ++ l } } := by
  obtain ⟨a, ha⟩ := runOp_rad s p opRxLevel { length := n }
  obtain ⟨b, hb⟩ := runOp_rad _ p opRxRead { length := n, count := n }
  obtain ⟨c, hc⟩ := runOp_rad _ p opRssi {}
  obtain ⟨d, hd⟩ := runOp_rad _ p opIrqClear {}
  exact ⟨_, runs_trans (runs_trans (runs_trans ha hb) hc) hd⟩

/-- The parts of RAD that the checks of a header read. -/
theorem rxHeader_congr {s t : State} (f : RxFrame) (h1 : t.cfg = s.cfg) (h2 : t.sys = s.sys) (h3 : t.rad.nat = s.rad.nat)
    (h4 : t.rad.dyn = s.rad.dyn) : rxHeader t f = rxHeader s f := by
  have c1 : cRadio t = cRadio s := by simp only [cRadio, h1]
  have c2 : cGuar t = cGuar s := by simp only [cGuar, h1]
  have c3 : ∀ p, radCfg t p = radCfg s p := fun p => by unfold radCfg; rw [c1, c2]
  have c4 : ∀ i, natEnt t i = natEnt s i := fun i => by unfold natEnt; rw [h3]
  have c5 : ∀ i, nodeDyn t i = nodeDyn s i := fun i => by unfold nodeDyn; rw [h4]
  have c6 : ∀ p a, upNodes t p a = upNodes s p a := fun p a => by unfold upNodes; rw [h3, c3]
  have c7 : ∀ p a, cellOwner t p a = cellOwner s p a := fun p a => by unfold cellOwner; rw [c6]
  have c8 : ∀ p a i e, sensorServed t p a i e = sensorServed s p a i e := fun p a i e => by unfold sensorServed; rw [h2, c5, c3]
  have c9 : ∀ p a, sfdWindow t p a = sfdWindow s p a := fun p a => by simp only [sfdWindow, c3, c7, c8, h2]
  have d1 : sfdOf t f = sfdOf s f := by unfold sfdOf; rw [c3]
  have d2 : frameAsn t f = frameAsn s f := by unfold frameAsn; rw [c3, d1]
  have d3 : frameCell t f = frameCell s f := by simp only [frameCell, c3, d2]
  have d0 : cellLimit t f.port (frameAsn s f) = cellLimit s f.port (frameAsn s f) := by simp only [cellLimit, c3, c7]
  have d4 : headerOk t f = headerOk s f := by unfold headerOk; rw [d2, d0, c3, c1]
  have d5 : rxSource t f = rxSource s f := by simp only [rxSource, findNat, h3]
  have d6 : ∀ i n, relaysOf t i n = relaysOf s i n := by
    intro i n
    induction n generalizing i with
    | zero => rfl
    | succ n ih => simp only [relaysOf, c4, ih]
  have d7 : ∀ i e, entitled t f i e = entitled s f i e := fun i e => by simp only [entitled, d3, h2, c7, d2, d6]
  unfold rxHeader
  simp only [d2, c9, d1, d4, d5, d3, c4, d7]

/-- Every part but TIM stays. -/
abbrev offTim : Parts := { tim := true }
theorem advanceTo_rad (s : State) (n : Nat) : (advanceTo s n).rad = s.rad := KeepsAllBut.rad (m := offTim) (by unfold KeepsAllBut; simp) rfl
theorem advanceTo_cfg (s : State) (n : Nat) : (advanceTo s n).cfg = s.cfg := KeepsAllBut.cfg (m := offTim) (by unfold KeepsAllBut; simp) rfl
theorem advanceTo_sys (s : State) (n : Nat) : (advanceTo s n).sys = s.sys := KeepsAllBut.sys (m := offTim) (by unfold KeepsAllBut; simp) rfl

/-- A port and RAD changed. -/
theorem setBoth_rad (u : State) (p : Nat) (g : RadPort → RadPort) (h : RadState → RadState) :
    (setRad (setRadPort u p g) h).rad = h { u.rad with ports := upd u.rad.ports p g } := rfl
theorem setBoth_cfg (u : State) (p : Nat) (g : RadPort → RadPort) (h : RadState → RadState) : (setRad (setRadPort u p g) h).cfg = u.cfg := rfl
theorem setBoth_sys (u : State) (p : Nat) (g : RadPort → RadPort) (h : RadState → RadState) : (setRad (setRadPort u p g) h).sys = u.sys := rfl

/-- What the end of a frame changes of RAD. -/
theorem rxEnds_rad (s : State) (f : RxFrame) :
    (rxEnds s f).rad = { s.rad with ports := upd s.rad.ports f.port fun x => { x with sfd := ts32 (sfdOf s f) },
                                    waits := s.rad.waits.filter fun w => w.1 ≠ .frame f } := by
  unfold rxEnds
  have h := advanceTo_rad s (frameEnd s f)
  generalize advanceTo s (frameEnd s f) = u at *
  refine (setBoth_rad u f.port _ _).trans ?_
  rw [h]

theorem rxEnds_cfg (s : State) (f : RxFrame) : (rxEnds s f).cfg = s.cfg := by
  unfold rxEnds
  have h := advanceTo_cfg s (frameEnd s f)
  generalize advanceTo s (frameEnd s f) = u at *
  exact (setBoth_cfg u f.port _ _).trans h
theorem rxEnds_sys (s : State) (f : RxFrame) : (rxEnds s f).sys = s.sys := by
  unfold rxEnds
  have h := advanceTo_sys s (frameEnd s f)
  generalize advanceTo s (frameEnd s f) = u at *
  exact (setBoth_sys u f.port _ _).trans h

theorem rxHeader_rxEnds (s : State) (f : RxFrame) : rxHeader (rxEnds s f) f = rxHeader s f :=
  rxHeader_congr f (rxEnds_cfg s f) (rxEnds_sys s f) (by rw [rxEnds_rad]) (by rw [rxEnds_rad])

theorem trxRead_nat (s : State) (p n : Nat) : (trxRead s p n).rad.nat = s.rad.nat ∧ (trxRead s p n).rad.dyn = s.rad.dyn := by
  obtain ⟨l, hl⟩ := trxRead_rad s p n
  rw [hl]; exact ⟨rfl, rfl⟩

/-- A frame read from its transceiver: what the checks after the header find as before. -/
theorem read_same (s : State) (f : RxFrame) (i : Nat) :
    natEnt (trxRead (rxEnds s f) f.port f.psdu) i = natEnt s i ∧ nodeDyn (trxRead (rxEnds s f) f.port f.psdu) i = nodeDyn s i ∧
    (trxRead (rxEnds s f) f.port f.psdu).keys = s.keys := by
  have h := trxRead_nat (rxEnds s f) f.port f.psdu
  have k := rxEnds_rad s f
  refine ⟨?_, ?_, ?_⟩
  · unfold natEnt; rw [h.1, k]
  · unfold nodeDyn; rw [h.2, k]
  · exact KeepsAllBut.keys (m := { rad := true, free := true, tim := true }) (by unfold KeepsAllBut; simp) rfl

/-- The frame's state after the ack is armed and the old generation's key gone. -/
abbrev heardAt (s : State) (f : RxFrame) (i : Nat) : State :=
  oldKeyGone (armAck (trxRead (rxEnds s f) f.port f.psdu) f (some i) false) i

theorem decided_deliver (u : State) (f : RxFrame) (i : Nat) (e : NatEnt) (typed pend : Bool) (pkt : Option (Nat × Nat))
    (hj : linkJudge u i e f typed = .deliver) (hm : f.micOk = true) :
    rxDecided u f i e typed true pend pkt =
      (ackOwes (acceptFrame (acceptCounterOf (restartSeen (oldKeyGone (armAck u f (some i) false) i) i f) i f) f i) f i pend, some i) := by
  unfold rxDecided
  simp [hj, hm]

theorem known_deliver (w : State) (f : RxFrame) (i : Nat) (e : NatEnt) (typed : Bool) (pkt : Option (Nat × Nat)) (hf : f.fcsOk = true)
    (hm : f.micOk = true) (r1 : natEnt (trxRead w f.port f.psdu) i = some e) (hk : f.keyIndex = e.keyIndex)
    (hl : linkKeyOk (trxRead w f.port f.psdu) i f = true) (hj : linkJudge (trxRead w f.port f.psdu) i e f typed = .deliver) :
    rxKnown w f i typed true pkt =
      (ackOwes (acceptFrame (acceptCounterOf (restartSeen (oldKeyGone (armAck (trxRead w f.port f.psdu) f (some i) false) i) i f) i f) f i)
        f i (ackPend w (some i)), some i) := by
  unfold rxKnown
  dsimp only
  generalize trxRead w f.port f.psdu = u at *
  have hc : confirmRekey u i f = u := by
    unfold confirmRekey
    rw [r1]
    simp [hk]
  rw [hf, hc, r1, hl]
  exact decided_deliver u f i e typed _ pkt hj hm

theorem headed_known (w : State) (f : RxFrame) (i : Nat) (typed b : Bool) (pkt : Option (Nat × Nat)) :
    rxHeaded w f typed b pkt (.ok (some i)) = rxKnown w f i typed b pkt := by
  delta rxHeaded; rfl
/-- Both conditions of a guard hold. -/
theorem both_open {α : Type} (a c : Bool) (x y : α) (h1 : a = true) (h2 : c = true) : (if !a || !c then x else y) = y := by
  subst h1 h2; rfl
theorem judge_open (s : State) (f : RxFrame) (typed b : Bool) (pkt : Option (Nat × Nat)) (h1 : rxOpen (radPort s f.port) = true)
    (h2 : radServes s = true) : rxJudge s f typed b pkt = rxHeaded (rxEnds s f) f typed b pkt (rxHeader (rxEnds s f) f) :=
  (rxJudge.eq_1 s f typed b pkt).trans (both_open _ _ _ _ h1 h2)

theorem heard_key {s : State} {f : RxFrame} {i : Nat} {e : NatEnt} {typed : Bool} (h : Heard s f i e typed) : f.keyIndex = e.keyIndex := by
    have := h.key
    unfold linkKeyOk at this
    rw [h.ent] at this
    simp at this
    exact this.1
theorem linkKeyOk_congr {s t : State} (i : Nat) (f : RxFrame) (h1 : natEnt t i = natEnt s i) (h2 : t.keys = s.keys) :
    linkKeyOk t i f = linkKeyOk s i f := by
  unfold linkKeyOk linkKey; rw [h1, h2]
theorem linkJudge_congr {s t : State} (i : Nat) (e : NatEnt) (f : RxFrame) (typed : Bool) (h : nodeDyn t i = nodeDyn s i) :
    linkJudge t i e f typed = linkJudge s i e f typed := by
  unfold linkJudge; rw [h]
theorem judge_link (s : State) (f : RxFrame) (i : Nat) (typed b : Bool) (pkt : Option (Nat × Nat)) (h1 : rxOpen (radPort s f.port) = true)
    (h2 : radServes s = true) (h3 : rxHeader s f = .ok (some i)) : rxJudge s f typed b pkt = rxKnown (rxEnds s f) f i typed b pkt :=
  (judge_open s f typed b pkt h1 h2).trans
    ((congrArg (rxHeaded (rxEnds s f) f typed b pkt) ((rxHeader_rxEnds s f).trans h3)).trans (headed_known (rxEnds s f) f i typed b pkt))
/-- A frame that is heard is accepted and delivered. -/
theorem heard_judge {s : State} {f : RxFrame} {i : Nat} {e : NatEnt} {typed : Bool} (h : Heard s f i e typed) (pkt : Option (Nat × Nat)) :
    rxJudge s f typed true pkt =
      (ackOwes (acceptFrame (acceptCounterOf (restartSeen (oldKeyGone (armAck (trxRead (rxEnds s f) f.port f.psdu) f (some i) false) i) i f) i f) f i)
        f i (ackPend (rxEnds s f) (some i)), some i) := by
  have r := read_same s f i
  have hl := (linkKeyOk_congr i f r.1 r.2.2).trans h.key
  have hj := (linkJudge_congr i e f typed r.2.1).trans h.fresh
  have j := judge_link s f i typed true pkt h.opened h.serves h.header
  have k := known_deliver (rxEnds s f) f i e typed pkt h.fcs h.mic (r.1.trans h.ent) (heard_key h) hl hj
  rw [j, k]
end Sys2Proof.Machine
end

