-- ==== Sys2Proof/WellFormed.lean ====
section
/-! DEFINITION. Well-formed commands: operands within the ranges the spec gives what they name. A request may carry any field its header holds
(R457): what is out of range there is refused by the module. -/
namespace Sys2Proof

/-- A request whose fields fit the header and whose session exists (R454, R457). -/
def VtpMeta.ok (m : VtpMeta) : Bool := m.session < 4 && m.tid < 4294967296 && m.version < 256 && m.typ < 256

/-- A CALL whose DEADLINE fits its field (R458) and whose arguments fit a message. -/
def CallMeta.ok (m : CallMeta) (args : List Byte) : Bool := m.vtp.ok && args.length ≤ 1380

/-- The words of a WRITE: 1 to 348 (R458). -/
def wordsOk (n : Nat) : Bool := 1 ≤ n && n ≤ 348

/-- A radio frame: a port (R195), a PSDU of at most 2,047 octets and header fields of their widths. -/
def RxFrame.ok (f : RxFrame) : Bool := f.port < 4 && f.psdu < 2048 && f.fcf < 65536 && f.destPan < 65536 && f.counter < 4294967296

/-- Samples of the 40 metering channels (R369). -/
def samplesOk (l : List (List (Int × Int))) : Bool := l.length ≤ 40

/-- A clock source of the module (R14). -/
def ClockSrc.ok : ClockSrc → Bool
  | .serdes p => p < 2
  | _ => true

/-- Entries of the NAT (R220). -/
def natSize : Nat := 4096

/-- Shared slots of the beacon and group keys (R268). -/
def sharedSlots : Nat := 10

/-- A shared resource that exists (R57, R220). -/
def Resource.has (k : Resource) (i : Nat) : Bool :=
  match k with
  | .natEntry => i < natSize
  | .keySlot => i < 3 * natSize + 64
  | .frameBuffer => true

/-- A unit of work whose fields fit. -/
def Work.ok : Work → Bool
  | .frame f => f.ok
  | .request q => q.session < 4

/-- What arrives at a port: the SMD-S number of a preemptable frame and its frag_count are below 4 (R316). -/
def EthRx.ok : EthRx → Bool
  | .mStart smd _ _ _ => smd < 4
  | .mCont smd frag _ _ _ => smd < 4 && frag < 4
  | _ => true

/-- Lantern channels (R130). -/
def chanCount : Nat := 256

/-- Metering channels (R369). -/
def mtrChans : Nat := 40

/-- Operands within their ranges. -/
def Instr.wellFormed : Instr → Bool
  | .strokeBoundary samples _ => samplesOk samples
  | .drive => true
  | .finish hits word temps _ =>
    (hits.all fun h => h.bad.all (· < 304) && h.word < (if h.beat then 16 else 262144) && h.stage.all fun x => x.1 < 8 && x.2 < 1024) && word.bad.all (· < 304) && temps.length ≤ 4
  | .slotStart port => port < 4
  | .stepDone _ _ => true
  | .stationResetStart => true
  | .stationReady _ => true
  | .pllLockLoss source => source.ok
  | .pllLockRegained source => source.ok
  | .tcxoFailure => true
  | .fabricTmo _ => true
  | .resourceTmo work kind index => work.ok && kind.has index
  | .ledgerFail _ => true
  | .flashTmo _ => true
  | .powerOnReset _ _ _ _ => true
  | .timeInit => true
  | .firstStroke => true
  | .bankNotValid _ _ _ _ => true
  | .bankFault _ => true
  | .resetN => true
  | .brownout => true
  | .watchdog => true
  | .steadyTmo => true
  | .steady => true
  | .rigMigrationWrite => true
  | .specialTrimEnable index => index < 16
  | .srvEnRise => true
  | .srvEnFall => true
  | .wakeCmp => true
  | .pfiTrip => true
  | .pfModeEnd => true
  | .vbatApplied => true
  | .oscillatorStop => true
  | .vbatLow => true
  | .lgtCmdIssue req slot _ rest => req.ok && slot < 32 && wordsOk (rest.length + 1)
  | .lgtCmdCancel req slot => req.ok && slot < 32
  | .lgtForce req _ => req.ok
  | .tempStale chan => chan < chanCount
  | .hoursSave => true
  | .scheduleStepWrite req program step part words => req.ok && program < 32 && step < 24 && part < 3 && wordsOk words.length
  | .mreqIssue req slot mode rest => req.ok && slot < 8 && mode < 8 && wordsOk (rest.length + 1)
  | .mreqCancel req slot => req.ok && slot < 8
  | .handoffRepeat nbr _ => nbr < 8
  | .handoffAck head counter body tag => (head ++ counter ++ body ++ tag).length < 1500
  | .handoffUnconfirmed nbr _ => nbr < 8
  | .handoffReceive data => data.length < 1500
  | .trxTmo port => port < 4
  | .transceiverResetDone port => port < 4
  | .portInitRetry port => port < 4
  | .rxWindowClose node => node < natSize
  | .ackTxgo port => port < 4
  | .lanternReport frame body => frame.ok && body.codes.length ≤ 4
  | .detectorEvent frame payload => frame.ok && payload.length = 6
  | .sensorHeartbeat frame flags batt _ => frame.ok && flags < 256 && batt < 65536
  | .enrolmentRequest frame => frame.ok
  | .rejoinRequest frame recCrc => frame.ok && recCrc < 4294967296
  | .binningRecordPart frame part data => frame.ok && part < 256 && data.length < 2048
  | .unlistedMtype frame mtype => frame.ok && mtype < 256
  | .enhancedAckReceive port _ psdu head _ _ => ({ toRxHead := head, port := port, psdu := psdu } : RxFrame).ok
  | .recordUploadTimeout node => node < natSize
  | .downlinkUnconfirmed node => node < natSize
  | .lightOutcomeTimeout chan => chan < chanCount
  | .dutyBinRoll => true
  | .natFind req => req.ok
  | .natCmdClear req node => req.ok && node < 4096
  | .natCmdEvict req node => req.ok && node < 4096
  | .linkKeyAge node => node < natSize
  | .beaconKeyAge => true
  | .keySwitch slot => slot < sharedSlots
  | .oldKeyErase slot => slot < sharedSlots
  | .rekeyLink req node => req.ok && node < 4096
  | .renewGroupKey req port => req.ok && port < 4
  | .renewBeaconKey req => req.ok
  | .forgetLink req node => req.ok && node < 4096
  | .eraseDeviceKey req node => req.ok && node < 4096
  | .linkChange port _ _ _ _ => port < 2
  | .mdioPoll links => links.length ≤ 2
  | .mdioTmo port _ => port < 2
  | .mdioCmd req _ data => req.ok && data < 65536
  | .ethFrameReceive port rx => port < 2 && rx.ok
  | .ethTransmit port => port < 2
  | .verifyTimeout port => port < 2
  | .wakeFrame port _ _ => port < 2
  | .timeRead req words => req.ok && 1 ≤ words && words ≤ 3
  | .announceReceive msg => msg.port < 2
  | .announceReceiptTimeout => true
  | .syncReceive src _ _ _ => src.port < 2
  | .followUpReceive src _ _ => src.port < 2
  | .delayRespReceive src _ _ => src.port < 2
  | .delayReqSend => true
  | .pdelayReqSend port => port < 2
  | .pdelayReqReceive src => src.port < 2
  | .pdelayRespReceive src _ _ => src.port < 2
  | .headEndStep req _ rest => req.ok && wordsOk (rest.length + 1)
  | .timeSave => true
  | .compareArm req unit_ _ rest => req.ok && unit_ < 8 && wordsOk (rest.length + 1)
  | .compareDisarm req unit_ _ => req.ok && unit_ < 8
  | .compareEdge unit_ => unit_ < 8
  | .pulseEnd unit_ => unit_ < 8
  | .captureEdge unit_ _ _ taps => unit_ < 8 && taps < 8
  | .secondEnd => true
  | .rtcSnap req _ => req.ok
  | .rtcSecRead req words => req.ok && 1 ≤ words && words ≤ 348
  | .stagingWrite req field words => req.ok && field < 8 && wordsOk words.length
  | .rtcCommit req _ => req.ok
  | .commitApply => true
  | .compensationWindow temp => -32768 ≤ temp && temp < 32768
  | .agingUpdate => true
  | .calendarCheck => true
  | .sensorStale sensor => sensor < 4
  | .channelStuck chan => chan < mtrChans
  | .channelOverload chan => chan < mtrChans
  | .channelFaultPersist chan => chan < mtrChans
  | .channelFaultClear chan _ => chan < mtrChans
  | .rmsWindowEnd us samples => 1 ≤ us && samplesOk samples
  | .fixedWindowFallback => true
  | .otherWrite req feeder words => req.ok && feeder < 8 && wordsOk words.length
  | .evqCommit queue words => queue < 8 && 1 ≤ words.length && words.length ≤ 16
  | .evqRewind queue words => queue < 8 && words ≤ 16
  | .reportResend queue seq => queue < 8 && seq < 4294967296
  | .reportEnable req resend => req.ok && resend < 65536
  | .reportAck req queue ack => req.ok && queue < 8 && ack < 4294967296
  | .updPowerGate => true
  | .easyDayTrigger => true
  | .sleepRequest req wake => req.ok && wordsOk (wake.length + 1)
  | .easySavesDone => true
  | .sleepGraceExpiry => true
  | .easyFinalCheck _ => true
  | .wakeStepReady _ => true
  | .wakeStepTimeout => true
  | .wakeRetry => true
  | .easyUnlock req _ => req.ok
  | .xferOpen req kind slot rest => req.ok && kind < 8 && slot < 2 && wordsOk (rest.length + 1)
  | .xferAbort req => req.ok
  | .xferTimeout => true
  | .blockCommit req index => req.ok && index < 4096
  | .blockWriteDone _ => true
  | .imageApply call args _ => call.ok args
  | .imageBuildComplete => true
  | .microcodeStationPass => true
  | .rigApply call args _ => call.ok args
  | .calibrationLoad req _ args => (CallMeta.mk req none).ok args
  | .calibrationArchiveWrite => true
  | .lanternFirmwareDistribution req _ args => (CallMeta.mk req none).ok args
  | .distributionOutcomeTimeout node => node < natSize
  | .keyImport call args secrets => call.ok args && secrets.all fun x => x.z.length = 32
  | .anchor req _ args _ => (CallMeta.mk req none).ok args
  | .clientHello port _ _ _ _ => port < 2
  | .handshakeTimeout port _ => port < 2
  | .sessionClose session => session < 4
  | .sessionIdleTimeout session => session < 4
  | .read req station offset length => req.ok && station < 256 && offset < 4294967296 && length < 65536
  | .write req station offset words phy => req.ok && station < 256 && offset < 4294967296 && words.length < 16384 && phy < 65536
  | .poll req handle => req.ok && handle < 4294967296
  | .cancel req handle => req.ok && handle < 4294967296
  | .stationResetCall call args => call.ok args
  | .moduleResetCall call args => call.ok args
  | .moduleReset => true
  | .lanternEnrolment call args => call.ok args
  | .commissioningScan call args => call.ok args
  | .scanEnd => true
  | .nodeSend call args => call.ok args
  | .nodeSendTimeout handle => handle < 8
  | .profileExport call args => call.ok args
  | .captureExport call args => call.ok args
  | .callRecordFree handle => handle < 8
  | .callTaken req handle taken => req.ok && handle < 8 && taken < 4294967296
  | .srvBaud req rate => req.ok && rate < 4294967296
  | .baudRevert => true
  | .rxFrameAborted frame => frame.ok
  | .serviceFrameDropped => true
  | .handshakeEnd port _ _ _ _ _ => port < 2
  | .expressCreditAboveZero port => port < 2

end Sys2Proof
end

