-- ==== Sys2Proof/Tests/Slice0.lean ====
section
/-! SUPPORT. Tests of the model: ill-formed commands are refused, single steps on small states, and for every statement a state and operands that
meet its hypotheses. -/
set_option Elab.async false
namespace Sys2Proof.Tests
open Sys2Proof.Machine

/-! ## Well-formed commands -/

/-- A request of a session that does not exist. -/
def badM : VtpMeta := { session := 4 }

/-- A frame of a port that does not exist. -/
def badF : RxFrame := { port := 4 }

/-- Whether every command of a list is refused. -/
def refused (l : List Instr) : Bool := l.all fun i => !i.wellFormed

theorem wf_refuses_meta : refused [.lgtForce badM 0, .lgtForce { tid := 4294967296 } 0, .lgtForce { version := 256 } 0, .lgtForce { typ := 256 } 0,
    .moduleResetCall { vtp := badM } [], .moduleResetCall {} (List.replicate 1381 0), .natFind badM, .renewBeaconKey badM, .rtcSnap badM 0,
    .rtcCommit badM true, .easyUnlock badM true, .xferAbort badM] = true := by decide +kernel

theorem wf_refuses_stroke : refused [.strokeBoundary (List.replicate 41 []) 0, .finish [] ⟨[304], none⟩ [] {},
    .finish [] {} [none, none, none, none, none] {}, .finish [(GuardHit.mk true 16 [0] none none none)] {} [] {},
    .finish [(GuardHit.mk false 262144 [0] none none none)] {} [] {},
    .slotStart 4, .pllLockLoss (.serdes 2), .pllLockRegained (.serdes 2), .resourceTmo (.frame badF) .natEntry 0, .resourceTmo (.request {}) .natEntry 4096,
    .specialTrimEnable 16] = true := by decide +kernel

theorem wf_refuses_light : refused [.lgtCmdIssue badM 0 0 [], .lgtCmdIssue {} 32 0 [], .lgtCmdIssue {} 0 0 (List.replicate 348 0),
    .lgtCmdCancel badM 0, .lgtCmdCancel {} 32, .tempStale 256, .lightOutcomeTimeout 256] = true := by decide +kernel

theorem wf_refuses_corridor : refused [.scheduleStepWrite badM 0 0 0 [0], .scheduleStepWrite {} 32 0 0 [0], .scheduleStepWrite {} 0 24 0 [0],
    .scheduleStepWrite {} 0 0 3 [0], .scheduleStepWrite {} 0 0 0 [], .mreqIssue badM 0 0 [], .mreqIssue {} 8 0 [], .mreqIssue {} 0 8 [],
    .mreqIssue {} 0 0 (List.replicate 348 0), .mreqCancel badM 0, .mreqCancel {} 8, .handoffRepeat 8 0, .handoffAck (List.replicate 1484 0) [] [] (List.replicate 16 0),
    .handoffUnconfirmed 8 0, .handoffReceive (List.replicate 1500 0)] = true := by
  decide +kernel

theorem wf_refuses_radio : refused [.trxTmo 4, .transceiverResetDone 4, .portInitRetry 4, .rxWindowClose 4096, .ackTxgo 4, .lanternReport badF {},
    .lanternReport { psdu := 2048 } {}, .lanternReport { fcf := 65536 } {}, .lanternReport { destPan := 65536 } {},
    .lanternReport { counter := 4294967296 } {}, .lanternReport {} { codes := [0, 0, 0, 0, 0] }, .detectorEvent badF [0, 0, 0, 0, 0, 0],
    .detectorEvent {} [], .sensorHeartbeat badF 0 0 [], .sensorHeartbeat {} 256 0 [], .sensorHeartbeat {} 0 65536 []] = true := by decide +kernel

theorem wf_refuses_radio_frames : refused [.enrolmentRequest badF, .rejoinRequest badF 0, .rejoinRequest {} 4294967296, .binningRecordPart badF 0 [],
    .binningRecordPart {} 256 [], .unlistedMtype badF 0, .unlistedMtype {} 256, .enhancedAckReceive 4 0 0 {} true true,
    .enhancedAckReceive 0 0 2048 {} true true, .rxFrameAborted badF, .recordUploadTimeout 4096,
    .downlinkUnconfirmed 4096, .nodeSendTimeout 8] = true := by decide +kernel

theorem wf_refuses_keys : refused [.natCmdClear badM 0, .natCmdClear {} 4096, .natCmdEvict badM 0, .natCmdEvict {} 4096, .linkKeyAge 4096,
    .keySwitch 10, .oldKeyErase 10, .rekeyLink badM 0, .rekeyLink {} 4096, .renewGroupKey badM 0, .renewGroupKey {} 4, .forgetLink badM 0,
    .forgetLink {} 4096, .eraseDeviceKey badM 0, .eraseDeviceKey {} 4096] = true := by decide +kernel

theorem wf_refuses_eth : refused [.linkChange 2 true true true true, .mdioPoll [true, true, true], .mdioTmo 2 true, .mdioCmd badM 0 0,
    .mdioCmd {} 0 65536, .ethFrameReceive 2 .verify, .ethTransmit 2, .verifyTimeout 2, .expressCreditAboveZero 2, .wakeFrame 2 [] true,
    .clientHello 2 0 true true true, .handshakeTimeout 2 0, .handshakeEnd 2 0 0 true 0 0, .sessionClose 4, .sessionIdleTimeout 4] = true := by decide +kernel

theorem wf_refuses_time : refused [.timeRead badM 1, .timeRead {} 0, .timeRead {} 4, .announceReceive { port := 2 }, .syncReceive { port := 2 } true 0 0,
    .followUpReceive { port := 2 } 0 0, .delayRespReceive { port := 2 } 0 0, .pdelayReqSend 2, .pdelayReqReceive { port := 2 },
    .pdelayRespReceive { port := 2 } 0 0, .headEndStep badM true [], .headEndStep {} true (List.replicate 348 0), .compareArm badM 0 0 [],
    .compareArm {} 8 0 [], .compareArm {} 0 0 (List.replicate 348 0), .compareDisarm badM 0 0, .compareDisarm {} 8 0, .compareEdge 8, .pulseEnd 8,
    .captureEdge 8 true true 0, .captureEdge 0 true true 8] = true := by decide +kernel

theorem wf_refuses_calendar : refused [.rtcSecRead badM 1, .rtcSecRead {} 0, .rtcSecRead {} 349, .stagingWrite badM 0 [0], .stagingWrite {} 8 [0],
    .stagingWrite {} 0 [], .compensationWindow 32768, .compensationWindow (-32769)] = true := by decide +kernel

theorem wf_refuses_meter : refused [.sensorStale 4, .channelStuck 40, .channelOverload 40, .channelFaultPersist 40, .channelFaultClear 40 true,
    .rmsWindowEnd 0 [], .rmsWindowEnd 1 (List.replicate 41 []), .otherWrite badM 0 [0], .otherWrite {} 8 [0], .otherWrite {} 0 [], .evqCommit 8 [0],
    .evqCommit 0 [], .evqCommit 0 (List.replicate 17 0), .evqRewind 8 0, .evqRewind 0 17, .reportResend 8 0, .reportResend 0 4294967296,
    .reportEnable badM 0, .reportEnable {} 65536, .reportAck badM 0 0, .reportAck {} 8 0, .reportAck {} 0 4294967296] = true := by decide +kernel

theorem wf_refuses_update : refused [.sleepRequest badM [], .sleepRequest {} (List.replicate 348 0), .xferOpen badM 0 0 [], .xferOpen {} 8 0 [],
    .xferOpen {} 0 2 [], .xferOpen {} 0 0 (List.replicate 348 0), .blockCommit badM 0, .blockCommit {} 4096, .imageApply { vtp := badM } [] {},
    .rigApply { vtp := badM } [] {}, .calibrationLoad badM none [], .lanternFirmwareDistribution badM none [],
    .distributionOutcomeTimeout 4096, .keyImport { vtp := badM } [] [], .anchor badM none [] none] = true := by decide +kernel

theorem wf_refuses_requests : refused [.read badM 0 0 0, .read {} 256 0 0, .read {} 0 4294967296 0, .read {} 0 0 65536, .write badM 0 0 [] 0,
    .write {} 256 0 [] 0, .write {} 0 4294967296 [] 0, .write {} 0 0 [] 65536, .poll badM 0, .poll {} 4294967296, .cancel badM 0,
    .cancel {} 4294967296, .callRecordFree 8, .callTaken badM 0 0, .callTaken {} 8 0, .callTaken {} 0 4294967296, .srvBaud badM 0,
    .srvBaud {} 4294967296] = true := by decide +kernel

theorem wf_refuses_calls : refused [.stationResetCall { vtp := badM } [], .lanternEnrolment { vtp := badM } [], .commissioningScan { vtp := badM } [],
    .nodeSend { vtp := badM } [], .profileExport { vtp := badM } [], .captureExport { vtp := badM } []] = true := by decide +kernel

theorem wf_takes_bounds : ([.slotStart 3, .lgtCmdCancel {} 31, .tempStale 255, .evqCommit 7 (List.replicate 16 0), .keySwitch 9, .reportResend 7 4294967295,
    .handoffAck (List.replicate 1483 0) [] [] (List.replicate 16 0), .channelStuck 39, .write {} 255 4294967295 [] 65535] : List Instr).all Instr.wellFormed = true := by decide +kernel

/-- No row of the table gives bits, so no word spells a command. -/
theorem test_no_word : decodeTableWord 32 0 = none := by decide +kernel

theorem test_fetch_word : State.reset.withFetchWord 32 0 = State.reset := by decide +kernel


/-! ## States and operands that meet the hypotheses of the statements -/

/-- A plan with a beacon cell and an OPEN cell, the rest free. -/
def wPort : RadioPortCfg :=
  { enabled := true, profile := trxRecord {}, plan := [{ slot := 0, kind := 1 }, { slot := 2, kind := 5 }, { slot := 3, kind := 9 }] }

/-- A configuration with one PHY port, one radio port, one feeder with one current channel, a lantern and a neighbour. -/
def wRig : Rig :=
  { backhaul := some { ports := [{ enabled := true, phy := true, preemptEn := true }, { enabled := true, verifyDis := true, preemptEn := true }] },
    board := some { phyAds := [0], sensors := [{}] },
    radio := some { ports := [wPort, {}, {}, wPort] },
    meter := some { channels := { used := true } :: List.replicate 3 {} ++ [{ used := true }], feeders := [{ used := true, phases := 1 }] },
    courses := some { neighbours := [{ segId := 7 }] },
    light := some { channels := [{ chan := 0 }] },
    power := some { switched := true } }

/-- The stations of a module in which every one runs. -/
def wStns : List StnRec := List.replicate 13 { state := .running }

/-- A module that runs, with session 0 open and that configuration. -/
def up : State :=
  { modp := .running, stns := wStns, vtp := { sessions := [{ state := .open_ }, {}, {}, {}] }, tim := { set := true },
    cfg := { loaded := wRig, validated := wRig, rigSlot := 0 }, sys := { start := { rig := 0 } } }

/-- The module with a station's record changed. -/
def withStn (s : State) (n : Stn) (r : StnRec) : State := { s with stns := s.stns.set n.idx r }

theorem witness_StepRunsTheFrontCommand : ({ up with pending := [.drive] } : State).pending = .drive :: [] := rfl

theorem witness_EmptyQueuePassesOneCycle : up.pending = [] := rfl

theorem witness_CommandsTouchOnlyTheirParts : ∃ t, exec .oscillatorStop up = .next t := ⟨_, rfl⟩

theorem witness_SramStaysCanonical : memCanonical { up with mem := [(8388607, 1)] } ∧
    ∃ t, step { up with mem := [(8388607, 1)], pending := [.oscillatorStop] } = .next t := ⟨by unfold memCanonical; decide, ⟨_, rfl⟩⟩

theorem witness_SramChangesOnlyWhereStored :
    ((touches .oscillatorStop).mem = false ∧ ∃ t, exec .oscillatorStop up = .next t) ∧
    (¬ ethStores up 0 8389000 ∧ ∃ t, exec (.ethFrameReceive 0 .verify) up = .next t) ∧
    (¬ ethSends up 0 8396800 ∧ ∃ t, exec (.ethTransmit 0) up = .next t) ∧
    (¬ inBadWord { up with sys := { up.sys with badWords := [(.eth, 1)] } } 64 ∧
      ∃ t, exec .stationResetStart { up with sys := { up.sys with badWords := [(.eth, 1)] } } = .next t) ∧
    (none ≠ some Stn.sys ∧ 32 * up.sys.pos + 32 ≤ 32 ∧
      (∀ h ∈ [GuardHit.mk false 9 [0] none none none], h.beat = false → h.owner ≠ some Stn.sys ∧ (32 < 32 * h.word ∨ 32 * h.word + 32 ≤ 32)) ∧
      ∃ t, exec (.finish [GuardHit.mk false 9 [0] none none none] {} [] {}) up = .next t) := by
  refine ⟨⟨rfl, _, rfl⟩, ⟨?_, _, rfl⟩, ⟨?_, _, rfl⟩, ⟨?_, _, rfl⟩, by decide, by decide, by decide, _, rfl⟩
  · rintro ⟨q, d, -, hd, ⟨h, k⟩ | ⟨h, k⟩⟩
    · have := Nat.mod_lt (Config.ethBuf 0 q d) (show 0 < sramSize by decide)
      simp only [bufBase, sramSize] at *; omega
    · have e : max 16 (ethCfg up 0).rqSize = 16 := by decide
      have := Nat.mod_lt (Config.ethRing 0 q) (show 0 < sramSize by decide)
      rw [e] at hd
      simp only [ringBase, sramSize] at *; omega
  · rintro ⟨q, d, hd, h, k⟩
    have e : txRingSize up 0 ≤ 512 := by decide
    have := Nat.mod_lt (Config.ethRing 0 (8 + q)) (show 0 < sramSize by decide)
    simp only [ringBase, sramSize] at *; omega
  · rintro ⟨x, hx, h, k⟩
    simp at hx; subst hx; simp at k

/-- The parts of `Passes`, evaluated. -/
def passesB (s : State) (q : VtpReq) (l : Bool) (o : Nat) : Bool :=
  moduleUp s && decide ((sess s q.session).state = .open_) && decide (q.version = 1) && decide (1 ≤ q.typ) && decide (q.typ ≤ 5) &&
    decide ((sess s q.session).outstanding = []) && decide ((sess s q.session).kept = []) && decide (replayed s q = false) &&
    decide (5000000 ≤ tokens s (sess s q.session)) && decide (admitErr (atServe (received s q) q) q l o = .ok)

theorem passesB_passes {s : State} {q : VtpReq} {l : Bool} {o : Nat} (h : passesB s q l o = true) : Passes s q l o := by
  simp only [passesB, Bool.and_eq_true, decide_eq_true_eq] at h
  obtain ⟨⟨⟨⟨⟨⟨⟨⟨⟨a, b⟩, c⟩, d⟩, e⟩, f⟩, g⟩, k⟩, i⟩, j⟩ := h
  exact ⟨a, b, k, c, ⟨d, e⟩, by simp [f], by simp [g], by simp [f], i, j⟩

/-- The parts of `WriteOk` for a request of session 0, evaluated. -/
def writeB (s : State) (n : Stn) (offset : Nat) (ws : List Word) (phy : Nat) : Bool :=
  passesB s (writeReq {} n offset ws) (1 ≤ ws.length && ws.length ≤ 348) (4 * ws.length) &&
    decide ((writeRegs (meets s (writeReq {} n offset ws)) n 0 phy ((offsOf offset ws.length).zip ws)).2 = .ok)

theorem writeB_ok {s : State} {n : Stn} {offset : Nat} {ws : List Word} {phy : Nat} (h : writeB s n offset ws phy = true) :
    WriteOk s {} n offset ws phy := by
  simp only [writeB, Bool.and_eq_true, decide_eq_true_eq] at h
  exact ⟨passesB_passes (by simpa using h.1), h.2⟩

/-- The parts of `CallOk`, evaluated. -/
def callB (s : State) (q : VtpReq) (err : State → Err) (p : State → CallPlan) (h : Nat) : Bool :=
  passesB s q true 0 && decide (err (meets s q) = .ok) && decide (deadlineErr (p (meets s q)) q.deadline = .ok) && decide (freeCall (meets s q) = some h)

theorem callB_ok {s : State} {q : VtpReq} {err : State → Err} {p : State → CallPlan} {h : Nat} (k : callB s q err p h = true) : CallOk s q err p h := by
  simp only [callB, Bool.and_eq_true, decide_eq_true_eq] at k
  obtain ⟨⟨⟨a, b⟩, c⟩, d⟩ := k
  exact ⟨passesB_passes a, b, c, d⟩

/-- The module 1,000 s into its time, locked. -/
def locked : State := { up with tim := { set := true, qual := .locked, sub := 1000 * giga * frac } }

/-- Words of a light command: a pair, a pair, and the times of its start and end. -/
def wLgt : List Word := [withState 0 1, 100, ~~~100#32, 3000, ~~~3000#32, 1100, 0, 0, 2000, 0, 0]

/-- Node 4095 and its keys. -/
def withNode : State :=
  { up with rad := { up.rad with nat := [(4095, { channel := 0 })] },
            keys := { link0 := [(4095, {})], device := [(4095, {})], shared := [(0, {}), (2, {}), (8, {})] } }

theorem witness_RefusedWritesChangeNoRegister :
    Passes up (writeReq {} .lgt 0x1000 [withState 0 1]) true 4 ∧
    (writeRegs (meets up (writeReq {} .lgt 0x1000 [withState 0 1])) .lgt 0 0 ((offsOf 0x1000 1).zip [withState 0 1])).2 ≠ .ok ∧
    ∃ t, exec (.write {} Stn.lgt.idx 0x1000 [withState 0 1] 0) up = .next t :=
  ⟨passesB_passes (by decide +kernel), by decide +kernel, _, rfl⟩

theorem witness_AcceptedWritesTakeEveryRegister : WriteOk locked {} .lgt 0x17C0 wLgt 0 := writeB_ok (by decide +kernel)

theorem witness_SlotsArePendingOrCancelled :
    WriteOk locked {} .lgt (0x1000 + 0x40 * 31) (withState 0 1 :: wLgt.drop 1) 0 ∧
    (WriteOk up {} .lgt (0x1000 + 0x40 * 31) [0] 0 ∧
      WriteOk { up with lgt := { up.lgt with cmds := List.replicate 32 { state := .ended } } } {} .lgt 0x1000 [0] 0 ∧
      WriteOk { up with lgt := { up.lgt with cmds := List.replicate 32 { state := .active } } } {} .lgt 0x1000 [0] 0) ∧
    WriteOk up {} .crs (0x100 + 0x20 * 7) (pack [(28, 1), (0, 7 % 8)] :: []) 0 ∧
    (WriteOk up {} .crs (0x100 + 0x20 * 7) [0] 0 ∧
      WriteOk { up with crs := { up.crs with mreqs := List.replicate 8 { state := .ended } } } {} .crs 0x100 [0] 0 ∧
      WriteOk { up with crs := { up.crs with mreqs := List.replicate 8 { state := .pending } } } {} .crs 0x100 [0] 0) :=
  ⟨writeB_ok (by decide +kernel), ⟨writeB_ok (by decide +kernel), writeB_ok (by decide +kernel), writeB_ok (by decide +kernel)⟩,
    writeB_ok (by decide +kernel), writeB_ok (by decide +kernel), writeB_ok (by decide +kernel), writeB_ok (by decide +kernel)⟩

theorem witness_CommittedChangesWaitForTheirBoundary :
    WriteOk up {} .lgt 0x18 [0x80000000] 0 ∧ WriteOk up {} .crs (0x1000 + 0x400 * 31 + 0x20 * 23 + 8 * 2) [5, ~~~5#32] 0 ∧
    WriteOk withNode {} .rad 0x30 [pack [(28, 2), (0, 4095)]] 0 ∧
    natEnt withNode 4095 = some { channel := 0 } ∧ WriteOk withNode {} .rad 0x30 [pack [(28, 1), (0, 4095)]] 0 :=
  ⟨writeB_ok (by decide +kernel), writeB_ok (by decide +kernel), writeB_ok (by decide +kernel), rfl, writeB_ok (by decide +kernel)⟩

theorem witness_KeyCommandsActOnTheirKeys :
    WriteOk withNode {} .sec 0x40 [keyCmd 1 4095] 0 ∧ WriteOk withNode {} .sec 0x40 [keyCmd 2 3] 0 ∧ WriteOk withNode {} .sec 0x40 [keyCmd 3 0] 0 ∧
    WriteOk withNode {} .sec 0x40 [keyCmd 4 4095] 0 ∧ WriteOk withNode {} .sec 0x40 [keyCmd 5 4095] 0 :=
  ⟨writeB_ok (by decide +kernel), writeB_ok (by decide +kernel), writeB_ok (by decide +kernel), writeB_ok (by decide +kernel),
    writeB_ok (by decide +kernel)⟩

theorem witness_CompareUnitsAreArmedAndDisarmed :
    WriteOk locked {} .tim (0x1000 + 0x40 * 7) (withState 0 1 :: [0, 1005, 0, 100, 1000, 1]) 0 ∧
    WriteOk up {} .tim (0x1000 + 0x40 * 7) [withState 0 0] 0 ∧
    WriteOk up {} .tim 0x50 (pack [(28, 1), (24, b2n false)] :: [0, 5, 0, 0, 0]) 0 :=
  ⟨writeB_ok (by decide +kernel), writeB_ok (by decide +kernel), writeB_ok (by decide +kernel)⟩

theorem witness_CalendarCommandsCaptureStageAndCommit :
    WriteOk up {} .rtc 0xC [1] 0 ∧
    (up.modp ≠ .recovery ∧ tget up.latch (latchKey .rtc 0x20) = none ∧ Passes up (plainReq {} 1 Stn.rtc.idx 0x20 (4 * 348) []) true (4 * 348)) ∧
    WriteOk up {} .rtc (0x20 + 4 * 6) [0x23, 6] 0 ∧
    WriteOk { locked with rtc := { up.rtc with stg := [0x59, 0x59, 0x23, 0x31, 0x12, 0x99, 0x23, 6] } } {} .rtc 0x10 [rtcCommitWord true] 0 :=
  ⟨writeB_ok (by decide +kernel), ⟨by decide, rfl, passesB_passes (by decide +kernel)⟩, writeB_ok (by decide +kernel), writeB_ok (by decide +kernel)⟩

/-- A feeder with a closed interval that began at second 900. -/
def withClosed : State := { up with mtr := { up.mtr with feeders := { closed := [{ int_ := { start := 900 } }] } :: List.replicate 7 {} } }

theorem witness_ReportsAreEnabledAndAcknowledged :
    WriteOk up {} .evq 0x4 [pack [(31, 1), (0, 6000 % 65536)]] 0 ∧
    WriteOk { up with evq := { up.evq with queues := List.replicate 8 { newest := some 5 } } } {} .evq (0x114 + 0x20 * 7) [w32 5] 0 ∧
    WriteOk withClosed {} .mtr (0x2010 + 0x200 * 0) [900] 0 ∧ WriteOk withClosed {} .mtr (0x2010 + 0x200 * 0) [900, 7, ~~~7#32] 0 :=
  ⟨writeB_ok (by decide +kernel), writeB_ok (by decide +kernel), writeB_ok (by decide +kernel), writeB_ok (by decide +kernel)⟩

/-- The module locked, its start steady, in a segment that may enter EASY. -/
def sleepy : State :=
  { locked with cfg := { locked.cfg with loaded := { wRig with power := some { easyEn := true, switched := true } } },
                sys := { start := { rig := 0, steady := true } }, crs := { up.crs with mode := 0 } }

theorem witness_SleepIsRequestedAndUnlocked :
    WriteOk sleepy {} .pwr 0xC (pack [(28, 1)] :: [1060, 0]) 0 ∧ WriteOk up {} .pwr 0x8 [easyUnlockWord true] 0 :=
  ⟨writeB_ok (by decide +kernel), writeB_ok (by decide +kernel)⟩

/-- A transfer of four octets, its block given. -/
def withXfer : State := { up with upd := { up.upd with xfer := { state := .open_, kind := 3, length := 4 }, blkCrc := crc32c [0, 0, 0, 0] } }

theorem witness_TransfersOpenAndAbort :
    WriteOk { up with upd := { up.upd with lenReg := 4096 } } {} .upd 0x20 (xferOpenWord 3 1 :: []) 0 ∧
    WriteOk up {} .upd 0x20 (xferOpenWord 3 1 :: [4096]) 0 ∧
    WriteOk up {} .upd 0x20 [0] 0 ∧ WriteOk withXfer {} .upd 0x30 [blockWord 0] 0 ∧ WriteOk up {} .eth 0x8 [0 ||| 0x80000000] 0 :=
  ⟨writeB_ok (by decide +kernel), writeB_ok (by decide +kernel), writeB_ok (by decide +kernel), writeB_ok (by decide +kernel), writeB_ok (by decide +kernel)⟩

/-- CALL record 7 in a state. -/
def withCall (c : CallRec) : State := { up with calls := List.replicate 7 {} ++ [c] }

theorem witness_CallRecordsArePolledAndCancelled :
    (handleRec (withCall { state := .running }) (7 % 65536) = some 7 ∧ Passes (withCall { state := .running }) (handleReq {} 4 7) true 0 ∧
      callFinal (call (withCall { state := .running }) 7) = false) ∧
    (handleRec (withCall { state := .done }) (7 % 65536) = some 7 ∧ Passes (withCall { state := .done }) (handleReq {} 4 7) true 0 ∧
      callFinal (call (withCall { state := .done }) 7) = true ∧ (call (withCall { state := .done }) 7).polledAt = none) ∧
    (handleRec (withCall { state := .running, station := 4, op := 3 }) (7 % 65536) = some 7 ∧
      cancelErr (withCall { state := .running, station := 4, op := 3 }) 7 = .ok ∧
      Passes (withCall { state := .running, station := 4, op := 3 }) (handleReq {} 5 7) true 0 ∧
      callLive (call (withCall { state := .running, station := 4, op := 3 }) 7) = true) ∧
    WriteOk (withCall { state := .partial_, results := 5, size := 4 }) {} .sys (0x100C + 0x40 * 7) [w32 5] 0 ∧
    WriteOk up {} .sys 0x300 [w32 1] 0 :=
  ⟨⟨by decide, passesB_passes (by decide +kernel), by decide⟩, ⟨by decide, passesB_passes (by decide +kernel), by decide, rfl⟩,
    ⟨by decide, by decide, passesB_passes (by decide +kernel), by decide⟩, writeB_ok (by decide +kernel), writeB_ok (by decide +kernel)⟩

theorem witness_ReadsReturnRegisters :
    (tget up.latch (latchKey .evq 0x1F8) = none ∧ Passes up (plainReq {} 1 Stn.evq.idx 0x1F8 (4 * 2) []) true (4 * 2)) ∧
    (tget up.latch (latchKey .tim 0x10) = none ∧ Passes up (plainReq {} 1 Stn.tim.idx 0x10 (4 * 3) []) true (4 * 3)) ∧
    (tget up.latch (latchKey .rad 0x2C) = none ∧ Passes up (plainReq {} 1 Stn.rad.idx 0x2C 4 []) true 4) :=
  ⟨⟨by decide, passesB_passes (by decide +kernel)⟩, ⟨by decide, passesB_passes (by decide +kernel)⟩, by decide, passesB_passes (by decide +kernel)⟩

theorem witness_UnlistedOffsetsReadZero :
    regAt .evq 0xFFC = none ∧ (up.modp = .recovery → Stn.evq = .sys) ∧ tget up.latch (latchKey .evq 0xFFC) = none ∧
    Passes up (plainReq {} 1 Stn.evq.idx 0xFFC 4 []) true 4 ∧ Passes up (writeReq {} .evq 0xFFC [1]) true 4 :=
  ⟨by decide +kernel, by decide, rfl, passesB_passes (by decide +kernel), passesB_passes (by decide +kernel)⟩

/-- A node of address 5 on port 0 with the UP cell of slot 2, its keys and a beacon key; the port runs. -/
def air (t : Nat) (x : RadPort) : State :=
  { up with tim := { set := true, sub := t * frac },
            keys := { link0 := [(4095, {})], device := [(4095, {})], shared := [(0, {})] },
            rad := { up.rad with nat := [(4095, { short := 5, upSlot := 2, enrolled := true })], ports := [x, {}, {}, {}] } }

/-- The module at 10 ms with the port of node 4095 running, the node as given. -/
def heard (d : NodeDyn) (ex : Bool) : State :=
  { air 10000000 { state := .run } with
    rad := { up.rad with nat := [(4095, { short := 5, upSlot := 2, enrolled := true, explicit_ := ex })], ports := [{ state := .run }, {}, {}, {}],
                         dyn := [(4095, d)] } }

/-- A frame in its UP cell. -/
def fUp (ctr : Nat) (ex : Bool) : RxFrame := { edge := 10376666, src := 5, counter := ctr, explicit_ := ex }

/-- A frame in the OPEN cell of an extended source that the NAT does not hold. -/
def fOpen : RxFrame := { edge := 16010000, src := 99, srcExt := true }

/-- Whether a frame's header gives a result. -/
def headIs (s : State) (f : RxFrame) (r : Except RxFail (Option Nat)) : Bool :=
  match rxHeader s f, r with
  | .ok a, .ok b => decide (a = b)
  | .error a, .error b => decide (a = b)
  | _, _ => false

theorem headIs_eq {s : State} {f : RxFrame} {r : Except RxFail (Option Nat)} (h : headIs s f r = true) : rxHeader s f = r := by
  unfold headIs at h
  split at h
  · next a b e => rw [e, of_decide_eq_true h]
  · next a b e => rw [e, of_decide_eq_true h]
  · cases h

/-- The module with node 7 of address 6 beside that node, which has no cell. -/
def twoNodes : State :=
  { heard {} false with rad := { (heard {} false).rad with nat := [(7, { short := 6 }), (4095, { short := 5, upSlot := 2, enrolled := true })] } }

/-- The arguments of an enrolment of a lantern on channel 0. -/
def wEnrol : List Byte := [5, 0, 0, 0, 0, 0, 0, 0, 1, 0, 0, 0, 0xFF, 0x0F, 2, 0, 1, 0, 0, 0, 45, 0, 0xFF, 0]

/-- The module with an anchor and a node whose key a batch may bring. -/
def anchored : State :=
  { withNode with keys := { withNode.keys with anchor := some 3 },
                  upd := { up.upd with xfer := { state := .complete, kind := 6, length := 172 } } }

theorem witness_AdmittedCallsTakeTheirRecord_upd :
    CallOk up (callReq {} 11 1 [2, 0, 0, 0, 0, 0, 0, 0, 0, 0]) (imageErr · [2, 0, 0, 0, 0, 0, 0, 0, 0, 0])
      (imagePlan [2, 0, 0, 0, 0, 0, 0, 0, 0, 0]) 0 ∧
    CallOk up (callReq {} 11 2 [0, 0, 0, 0, 0, 0, 0, 0, 0, 0]) (rigErr · [0, 0, 0, 0, 0, 0, 0, 0, 0, 0])
      (rigPlan [0, 0, 0, 0, 0, 0, 0, 0, 0, 0] {}) 0 ∧
    CallOk up (callReq {} 11 3 []) (plainErr · 3 []) calPlan 0 ∧
    CallOk up (callReq {} 11 4 [1, 0, 0, 0, 0, 0, 0, 0, 0, 0, 0, 0]) (distErr · [1, 0, 0, 0, 0, 0, 0, 0, 0, 0, 0, 0]) distPlan 0 ∧
    CallOk up (callReq {} 11 5 []) (plainErr · 5 []) keyPlan 0 ∧
    CallOk up (callReq {} 11 6 [0, 1]) (anchorErr · 0 [0, 1] none) anchorPlan 0 :=
  ⟨callB_ok (by decide +kernel), callB_ok (by decide +kernel), callB_ok (by decide +kernel), callB_ok (by decide +kernel),
    callB_ok (by decide +kernel), callB_ok (by decide +kernel)⟩

theorem witness_AdmittedCallsTakeTheirRecord_rest :
    CallOk up (callReq {} 0 1 [12]) (stationResetErr · [12]) (stationResetPlan [12]) 0 ∧
    CallOk up (callReq {} 0 2 []) (fun _ => if ([] : List Byte) ≠ [] then .range else .ok) moduleResetPlan 0 ∧
    CallOk up (callReq {} 4 1 wEnrol) (enrolErr · wEnrol) enrolPlan 0 ∧
    CallOk up (callReq {} 4 2 [1, 0, 10, 0]) (scanErr · [1, 0, 10, 0]) (scanPlan [1, 0, 10, 0]) 0 ∧
    CallOk withNode (callReq {} 4 3 [0xFF, 0x0F, 0, 4, 0, 0]) (nodeSendErr · [0xFF, 0x0F, 0, 4, 0, 0]) sendPlan 0 ∧
    CallOk up (callReq {} 8 1 [0xFF, 0, 0, 0, 0, 0, 0, 0, 0xFF, 0, 0, 0]) (fun _ => exportErr [0xFF, 0, 0, 0, 0, 0, 0, 0, 0xFF, 0, 0, 0]) exportPlan 0 ∧
    CallOk up (callReq {} 2 1 [0xFF, 0, 0, 0, 0, 0, 0, 0, 0xFF, 0, 0, 0]) (fun _ => exportErr [0xFF, 0, 0, 0, 0, 0, 0, 0, 0xFF, 0, 0, 0]) exportPlan 0 :=
  ⟨callB_ok (by decide +kernel), callB_ok (by decide +kernel), callB_ok (by decide +kernel), callB_ok (by decide +kernel),
    callB_ok (by decide +kernel), callB_ok (by decide +kernel), callB_ok (by decide +kernel)⟩

theorem leBytes_length (n v : Nat) : (leBytes n v).length = n := by
  induction n generalizing v with
  | zero => rfl
  | succ n ih => simp [leBytes, ih]

theorem sha256_length (l : List Byte) : (sha256 l).length = 32 := by simp [sha256, beBytes, leBytes_length]
theorem xorBytes_length (a b : List Byte) : (xorBytes a b).length = min a.length b.length := by simp [xorBytes]
theorem wrapKey_length (z : List Byte) (e : KeyEntry) : (wrapKey z e).length = 16 := by simp [wrapKey, hkdf, hmac, sha256_length]
theorem nextKey_length (k : List Byte) (rc : Byte) (h : k.length = 16) : (nextKey k rc).length = 16 := by simp [nextKey, xorBytes_length, h]
theorem subShift_length (b : List Byte) : (subShift b).length = 16 := by simp [subShift]
theorem mixColumns_length (b : List Byte) : (mixColumns b).length = 16 := by simp [mixColumns, mixColumn, List.range, List.range.loop]
theorem aesRounds_length (n : Nat) (k : List Byte) (rc : Byte) (b : List Byte) (h : k.length = 16) (hb : b.length = 16) :
    (aesRounds n k rc b).length = 16 := by
  induction n generalizing k rc b with
  | zero => exact hb
  | succ n ih =>
    refine ih _ _ _ (nextKey_length k rc h) ?_
    rw [xorBytes_length, nextKey_length k rc h]
    split <;> simp [subShift_length, mixColumns_length]
theorem aes_length (k b : List Byte) (h : k.length = 16) (hb : b.length = 16) : (aes k b).length = 16 :=
  aesRounds_length 10 k 1 _ h (by simp [xorBytes_length, h, hb])
theorem gcmTag_length (k n a c : List Byte) (h : k.length = 16) (hn : n.length = 12) : (gcmTag k n a c).length = 16 := by
  unfold gcmTag
  rw [xorBytes_length, aes_length k _ h (by simp [beBytes, leBytes_length, hn])]
  simp [beBytes, leBytes_length]

/-- Words of octets give the octets back. -/
theorem bytesOf_wordsOf (n : Nat) (l : List Byte) (h : l.length = 4 * n) : bytesOf (wordsOf n l) = l := by
  induction n generalizing l with
  | zero => simp at h; subst h; rfl
  | succ n ih =>
    obtain _ | ⟨a, _ | ⟨b, _ | ⟨c, _ | ⟨d, r⟩⟩⟩⟩ := l <;> simp at h <;> try omega
    have hr : bytesOf (wordsOf n r) = r := ih r (by omega)
    have : bytesOf (wordsOf (n + 1) (a :: b :: c :: d :: r)) = leBytes 4 (w32 (ofLe [a, b, c, d])).toNat ++ bytesOf (wordsOf n r) := by
      simp [bytesOf, wordsOf]
    rw [this, hr]
    have ha := a.isLt; have hb := b.isLt; have hc := c.isLt; have hd := d.isLt
    have e : (w32 (ofLe [a, b, c, d])).toNat = a.toNat + 256 * (b.toNat + 256 * (c.toNat + 256 * d.toNat)) := by
      simp [w32, ofLe, BitVec.toNat_ofNat]; omega
    rw [e]
    simp only [leBytes, List.cons_append, List.nil_append, List.cons.injEq, and_true]
    refine ⟨?_, ?_, ?_, ?_⟩ <;> apply BitVec.eq_of_toNat_eq <;> simp [BitVec.toNat_ofNat] <;> omega
/-- What the entry of a batch meets: a secret of zeros, signed by the anchor. -/
def wSecret : KeySecret := { z := List.replicate 32 0, signedBy := some 3 }

/-- The octets 0 to 11 of an entry for node 4095 with CTR 1. -/
def wHead : List Byte := [0xFF, 0x0F, 0, 0, 1, 0, 0, 0, 0, 0, 0, 0]

/-- The entry without its tag. -/
def wBare : KeyEntry := { head := wHead, slot := 4095, ctr := 1, ct := List.replicate 16 0 }

/-- The tag of the entry. -/
def wTag : List Byte := gcmTag (wrapKey wSecret.z wBare) (wrapNonce wBare) wHead (List.replicate 16 0)

/-- The entry, and the batch of that one entry. -/
def wEntry : KeyEntry := { wBare with tag := wTag }
def wBatch : List Byte := wHead ++ List.replicate 64 0 ++ List.replicate 16 0 ++ wTag ++ List.replicate 64 0

/-- The module with the batch in staging. -/
def batched : State := { anchored with flash := { anchored.flash with staging := [(0, wordsOf 43 wBatch)] } }

theorem wTag_length : wTag.length = 16 := gcmTag_length _ _ _ _ (wrapKey_length _ _) (by simp [wrapNonce, leBytes_length])

theorem wBatch_length : wBatch.length = 172 := by simp [wBatch, wTag_length, wHead]

theorem wBatch_entry : keyBatch batched [wSecret] = [(wEntry, wSecret)] := by
  have h : stagedBytes batched = wBatch := by
    have : stagedBytes batched = (bytesOf (wordsOf 43 wBatch) ++ []).take 172 := rfl
    rw [this, bytesOf_wordsOf 43 wBatch wBatch_length, List.append_nil, List.take_of_length_le (Nat.le_of_eq wBatch_length)]
  have k : keyEntryOf wBatch = wEntry := by
    have t : wBatch = (wHead ++ List.replicate 64 0 ++ List.replicate 16 0) ++ (wTag ++ List.replicate 64 0) := by simp [wBatch]
    have d : wBatch.drop 92 = wTag ++ List.replicate 64 0 := by rw [t]; exact List.drop_left' (by simp [wHead])
    have u : (wBatch.drop 92).take 16 = wTag := by rw [d]; exact List.take_left' wTag_length
    unfold keyEntryOf wEntry wBare
    rw [u]
    rfl
  unfold keyBatch keyEntriesOf
  rw [h, wBatch_length]
  simp [List.range, List.range.loop, List.take_of_length_le (Nat.le_of_eq wBatch_length), k]
  rfl

theorem wEntry_ok : keyEntryErr batched wEntry wSecret = .ok ∧
    unwrapped wSecret.z wEntry = some (BitVec.ofNat 128 (ofLe (gcmCrypt (wrapKey wSecret.z wBare) (wrapNonce wBare) wBare.ct))) := by
  have u : unwrapped wSecret.z wEntry = some (BitVec.ofNat 128 (ofLe (gcmCrypt (wrapKey wSecret.z wBare) (wrapNonce wBare) wBare.ct))) := by
    have a : wrapKey wSecret.z wEntry = wrapKey wSecret.z wBare := by unfold wrapKey; rfl
    have b : wrapNonce wEntry = wrapNonce wBare := by unfold wrapNonce; rfl
    unfold unwrapped
    rw [a, b]
    have c : gcmTag (wrapKey wSecret.z wBare) (wrapNonce wBare) wEntry.head wEntry.ct = wEntry.tag := by
      show gcmTag (wrapKey wSecret.z wBare) (wrapNonce wBare) wHead (List.replicate 16 0) = wTag
      rw [wTag]
    rw [c]
    exact if_pos rfl
  refine ⟨?_, u⟩
  unfold keyEntryErr
  rw [u]
  rfl

theorem witness_CallsDoTheirWork :
    CallOk up (callReq {} 0 2 []) (fun _ => .ok) moduleResetPlan 0 ∧
    (Stn.ofIdx (12 : Byte).toNat = some .evq ∧ stationsUp up = true ∧ isRunning up .evq = true ∧
      CallOk up (callReq {} 0 1 [12]) (stationResetErr · [12]) (stationResetPlan [12]) 0) ∧
    CallOk anchored (callReq {} 11 6 ([1, 1] ++ List.replicate 64 0 ++ [9] ++ List.replicate 67 0))
      (anchorErr · 0 ([1, 1] ++ List.replicate 64 0 ++ [9] ++ List.replicate 67 0) (some 3)) anchorPlan 0 ∧
    (xferReady batched 6 = true ∧ batched.upd.xfer.length % 172 = 0 ∧ keyBatch batched [wSecret] = [(wEntry, wSecret)] ∧
      keyEntryErr batched wEntry wSecret = .ok ∧ wEntry.slot < 0x1000 ∧
      unwrapped wSecret.z wEntry = some (BitVec.ofNat 128 (ofLe (gcmCrypt (wrapKey wSecret.z wBare) (wrapNonce wBare) wBare.ct))) ∧
      CallOk batched (callReq {} 11 5 []) (plainErr · 5 []) keyPlan 0) ∧
    (CallOk { up with rad := { up.rad with scan := some {} } } (callReq {} 4 2 [1, 0, 10, 0]) (scanErr · [1, 0, 10, 0]) (scanPlan [1, 0, 10, 0]) 0 ∧
      CallOk up (callReq {} 4 2 [1, 0, 10, 0]) (scanErr · [1, 0, 10, 0]) (scanPlan [1, 0, 10, 0]) 0) ∧
    Stn.cfg ∉ up.flashBad :=
  ⟨callB_ok (by decide +kernel), ⟨by decide, by decide, by decide, callB_ok (by decide +kernel)⟩, callB_ok (by decide +kernel),
    ⟨rfl, rfl, wBatch_entry, wEntry_ok.1, by decide, wEntry_ok.2, callB_ok (by decide +kernel)⟩, ⟨callB_ok (by decide +kernel), callB_ok (by decide +kernel)⟩, by decide⟩

/-- The module in Recovery of stroke `n`. -/
def inRecovery (n : Nat) : State := { up with cox := { phase := .recovery, abs := n, start := n * strokeNs, ends := (n + 1) * strokeNs } }

theorem witness_StrokesFollowTheTimeline :
    ((inRecovery 98).modp = .running ∧ (inRecovery 98).cox.phase = .recovery ∧ (inRecovery 98).upd.work = none ∧
      (inRecovery 98).cox.ends = ((inRecovery 98).cox.abs + 1) * strokeNs ∧ (inRecovery 98).cox.ends / strokeNs % 100 ≠ 1 ∧
      (inRecovery 98).cox.skipped < 2 ^ 32) ∧
    (let s := { up with cox := { up.cox with phase := .catch_ }, stns := List.replicate 13 { state := .running, prog := [.drive] } }
     s.modp = .running ∧ s.cox.phase = .catch_ ∧ 0 < addend s ∧ (stn s .lgt).prog = [.drive]) ∧
    (let s := { up with modp := .starting, stns := List.replicate 13 { state := .ready } }
     s.modp = .starting ∧ s.tim.set = true ∧ allStations s .ready = true) := by decide +kernel

theorem witness_BridgingStrokesAreBounded :
    (inRecovery 98).modp = .running ∧ (inRecovery 98).cox.phase = .recovery ∧ (inRecovery 98).upd.work = none ∧ (inRecovery 98).cox.ends % strokeNs = 0 ∧
      ∃ t, exec (.strokeBoundary [] 0) (inRecovery 98) = .next t := ⟨rfl, rfl, rfl, by decide +kernel, _, rfl⟩

theorem witness_StepsAreDoneBeforeFinish :
    (let s := { up with cox := { up.cox with phase := .drive }, stns := List.replicate 13 { state := .running, prog := [.drive], started := true } }
     s.modp = .running ∧ (s.cox.phase = .catch_ ∨ s.cox.phase = .drive) ∧ (stn s .crs).started = true ∧ (stn s .crs).prog = .drive :: [] ∧
       cycNow s (finishCyc - 1) < finishCyc) ∧
    finishCyc ≤ cycNow up finishCyc := by decide +kernel

theorem witness_FinishJudgesEveryStation :
    let s := { up with cox := { up.cox with phase := .drive },
                       stns := List.replicate 13 { state := .running, inStroke := true, prog := [.drive], hist := List.replicate 7 true } }
    s.modp = .running ∧ s.cox.phase = .drive ∧ s.upd.work = none ∧ isRunning s .sys = true ∧ inStroke s .mtr = true ∧
      8 ≤ ((decide ((stn s .mtr).prog ≠ []) :: (stn s .mtr).hist).take 100).count true := by decide +kernel

theorem witness_ResetsStartTheModule :
    (bankLevel 1620 ≠ .notValid ∧ bankLevel 3630 ≠ .notValid ∧ up.modp ≠ .held ∧ ({ up with modp := .held } : State).modp = .held) ∧
    firmwareRuns up = true ∧ (up.modp ≠ .off ∧ up.modp ≠ .held) ∧ moduleUp up = true ∧
    (({ up with modp := .easy } : State).modp = .easy ∧ bankLevel up.ahead.bankA ≠ .notValid ∧ bankLevel up.ahead.bankB ≠ .notValid) ∧
    (({} : Ahead).bootUe = false ∧ ({ bootUe := true } : Ahead).bootUe = true) ∧
    (({ up with sys := { timerOn := true } } : State).sys.timerOn = true ∧ firmwareRuns { up with sys := { timerOn := true } } = true) ∧
    (({ up with sys := { resetAt := some 5 } } : State).sys.resetAt = some 5 ∧ up.vtp.resetReply = none) ∧
    bankLevel (if true then 1619 else 3300) = .notValid ∧ bankLevel (if false then 3300 else 3631) = .notValid := by decide +kernel

/-- A frame that meets the wake pattern of port 0, with a pattern of sixteen zeros. -/
def wWake : List Byte :=
  List.replicate 6 255 ++ List.replicate 6 0 ++ [0x88, 0xB5] ++ List.replicate 16 0 ++ (List.replicate 8 (beBytes 6 (ethMac 0))).flatten

/-- EASY with the wake inputs armed. -/
def easy : State :=
  { up with modp := .easy, cfg := { up.cfg with loaded := { wRig with backhaul := some { wakeEn := true, wakePat := List.replicate 16 0 } } },
            pwr := { up.pwr with state := .easy, cmpArmed := true, frameArmed := true } }

theorem beAt_beBytes (m : Nat) (h : m < 2 ^ 48) : beAt (beBytes 6 m) 0 6 = m := by
  simp [beAt, beBytes, leBytes, BitVec.toNat_ofNat]
  omega

/-- The eight addresses that end a wake frame, each read at its place. -/
theorem wakeAddr (b : List Byte) (h : b.length = 6) : ∀ i < 8,
    ((((List.replicate 6 255 ++ List.replicate 6 0 ++ [0x88, 0xB5] ++ List.replicate 16 0 ++ (List.replicate 8 b).flatten : List Byte).drop 14).drop
      (16 + 6 * i)).take 6) = b := by
  obtain _ | ⟨a0, _ | ⟨a1, _ | ⟨a2, _ | ⟨a3, _ | ⟨a4, _ | ⟨a5, _ | _⟩⟩⟩⟩⟩⟩ := b <;> simp at h
  intro i hi
  have : i = 0 ∨ i = 1 ∨ i = 2 ∨ i = 3 ∨ i = 4 ∨ i = 5 ∨ i = 6 ∨ i = 7 := by omega
  rcases this with rfl | rfl | rfl | rfl | rfl | rfl | rfl | rfl <;> rfl

theorem wWake_matches : wakeMatches easy 0 wWake true = true := by
  have hm : ethMac 0 < 2 ^ 48 := Nat.mod_lt _ (by decide)
  have hb : cBackhaul easy = { wakeEn := true, wakePat := List.replicate 16 0 } := rfl
  have hn : (beBytes 6 (ethMac 0)).length = 6 := by simp [beBytes, leBytes]
  have hp : ∀ i < 8, beAt (wWake.drop 14) (16 + 6 * i) 6 = ethMac 0 := by
    intro i hi
    have h1 := wakeAddr _ hn i hi
    have h2 := beAt_beBytes _ hm
    rw [beAt, List.drop_zero, List.take_of_length_le (Nat.le_of_eq hn)] at h2
    rw [beAt, wWake, h1, h2]
  have he : etherType wWake = (14, 0x88B5, none) := by simp [etherType, wWake, beAt]
  have hd : beAt wWake 0 6 = 2 ^ 48 - 1 := by simp [wWake, beAt]
  have hl : wWake.length = 78 := by simp [wWake, hn]
  have ht : (wWake.drop 14).take 16 = List.replicate 16 0 := by simp [wWake]
  simp only [wakeMatches, hb, he, hd, hl, ht]
  simp
  intro i hi; exact hp i hi

theorem witness_WakeStepsLeadToAStart :
    (easy.modp = .easy ∧ easy.pwr.cmpArmed = true ∧ easy.pwr.wake = none) ∧
    (easy.pwr.frameArmed = true ∧ 0 = (cBackhaul easy).wakePort ∧ wakeMatches easy 0 wWake true = true) ∧
    (let w : Wake := { source := 3, step := 3 }
     let s := { easy with pwr := { easy.pwr with state := .waking, wake := some w } }
     s.pwr.wake = some w ∧ s.pwr.state = .waking ∧ w.waiting = false ∧ 1000 ≤ stepTimeout s.pwr.last.slow w.step ∧ w.step < 4 ∧
       s.aon.retryUsed = false) ∧
    (let w : Wake := { source := 3, step := 4 }
     let s := { easy with pwr := { easy.pwr with state := .waking, wake := some w },
                             aon := { easy.aon with retryUsed := true, save := some { crc := saveCrc {} {} } } }
     s.pwr.wake = some w ∧ s.pwr.state = .waking ∧ w.waiting = false ∧ 1000 ≤ stepTimeout s.pwr.last.slow w.step ∧ 4 ≤ w.step ∧
       s.aon.retryUsed = true ∧ saveGood s = true ∧ bankLevel s.ahead.bankA ≠ .notValid ∧ bankLevel s.ahead.bankB ≠ .notValid) ∧
    (let w : Wake := { source := 1, waiting := true }
     let s := { easy with pwr := { easy.pwr with wake := some w } }
     s.modp = .easy ∧ s.pwr.wake = some w ∧ w.waiting = true) :=
  ⟨by decide, ⟨rfl, rfl, wWake_matches⟩, by decide, by decide +kernel, by decide⟩

/-- The module with an entry into EASY at a step. -/
def entering (k : Nat) : State := { sleepy with pwr := { sleepy.pwr with entry := some { step := k } } }

theorem witness_EasyIsEntered :
    ((cPower sleepy).switched = true ∧ sleepy.crs.mode = 0 ∧ sleepy.pwr.entry = none ∧ sleepy.modp = .running ∧
      easyErr (cmpFell sleepy) 0 = .ok ∧ ∀ w, easyErr (cmpFell sleepy) w = .ok) ∧
    ((entering 1).pwr.entry = some { step := 1 } ∧ (entering 1).ledBad = [] ∧ (entering 1).tim.cyc ≤ 0 + msCyc 200) ∧ (entering 2).pwr.entry = some { step := 2 } ∧
    ((entering 6).pwr.entry = some { step := 6 } ∧ wakePending (setPwr (entering 6) fun x => { x with cmpQualifying := false }) = 0 ∧
      wakePending (setPwr (entering 6) fun x => { x with cmpQualifying := true }) ≠ 0) ∧
    (let s := { up with pwr := { up.pwr with state := .feather } }
     s.pwr.state = .feather ∧ isRunning s .upd = true ∧ updCallLive s = false ∧ s.upd.xfer.state ≠ .open_) := by
  refine ⟨⟨rfl, rfl, rfl, rfl, by decide +kernel, fun w => ?_⟩, by decide, by decide, by decide, by decide⟩
  simp [easyErr, cmpFell, setPwr, sleepy, locked, up, wakePending, timeAdmits, cPower, b2n, alarmPending, wRig, cmpBefore, callLive]

/-- A Rig that every stage from 5 on takes. -/
def okRig : Rig :=
  let r : Rig :=
    { length := 64, dir := [{ typ := 1, offset := 64 }], identity := some { tz := [{}] }, backhaul := some {},
      guarantee := some {}, board := some {}, time := some {}, power := some {} }
  { r with headerCrc := crc32c (headerBytes r) }

theorem test_rig_is_valid : lowerStages { rigMax := 0x100 } okRig ++ upperStages {} okRig = [] := by decide +kernel

theorem witness_StartsBecomeSteady :
    (let s := { up with sys := { timerOn := true, run := 1000 } }
     s.sys.timerOn = true ∧ s.modp = .running ∧ 1000 ≤ s.sys.run ∧ allStations s .running = true) ∧
    (let s := { up with cfg := { up.cfg with migrate := some (0, {}) } }
     s.cfg.migrate = some (0, {}) ∧ s.modp = .running ∧ Stn.cfg ∉ s.flashBad) ∧
    (let s := { up with bankA := .v33, bankB := .v33, cfg := { up.cfg with validated := okRig, trims := [{ index := 15, binding := 0xFF }] } }
     s.modp = .running ∧ inReset s .cfg = false ∧ 15 < 16 ∧
       specialErr s ((List.range 16).filter fun k => (specialsLast s).contains k || k = 15) = (.ok, [])) := by decide +kernel

/-- A frame of node 4095 in its UP cell, waiting for the entry of its source for the fourth time. -/
def waitingFrame : State :=
  { air 10000000 { state := .run } with rad := { (air 10000000 { state := .run }).rad with waits := [(.frame (fUp 1 false), 3)] } }

theorem witness_StationsFaultAndReset :
    (stationsUp up = true ∧ inReset up .evq = false ∧ (stn up .evq).state ≠ .off) ∧
    (let s := withStn { up with cox := { up.cox with faults := [(.evq, .call)] } } .evq { state := .fault }
     s.cox.resetting = none ∧ s.cox.faults = (.evq, .call) :: [] ∧ (stn s .evq).state = .fault) ∧
    (let s := withStn { up with cox := { up.cox with resetting := some .lgt } } .lgt { state := .loading }
     s.cox.resetting = some .lgt ∧ (stn s .lgt).state = .loading) ∧
    (needs up (.request {}) .frameBuffer 0 = true ∧ ((up.rad.waits.find? fun x => x.1 = .request {}).map fun x => x.2).getD 0 < 3) ∧
    (∃ e, waitingFrame.rad.waits.find? (fun x => x.1 = .frame (fUp 1 false)) = some (.frame (fUp 1 false), 3) ∧
      rxHeader waitingFrame (fUp 1 false) = .ok (some 4095) ∧ natEnt waitingFrame 4095 = some e) :=
  ⟨by decide +kernel, by decide +kernel, by decide +kernel, by decide +kernel, _, rfl, headIs_eq (by decide +kernel), rfl⟩

theorem witness_LostClocksHoldTheirStations :
    (stationsUp up = true ∧ ClockSrc.serdes 1 ∉ up.cox.lostClocks ∧ Stn.eth ∈ clockedBy (.serdes 1)) ∧
    (let s := { up with cox := { up.cox with lostClocks := [.pllA] }, stns := List.replicate 13 {} }
     ClockSrc.pllA ∈ s.cox.lostClocks ∧ Stn.sys ∈ clockedBy .pllA ∧ (stn s .sys).state = .reset) := by decide +kernel

theorem witness_CalendarCountsSeconds :
    calLegal { up with rtc := { up.rtc with leap := 1, cal := ⟨59, 59, 23, 30, 6, 2024, 0⟩ } }.rtc.cal ∧
    commitHere { up with rtc := { up.rtc with leap := 1, cal := ⟨59, 59, 23, 30, 6, 2024, 0⟩ } } = none ∧
    (lastMinute ⟨59, 59, 23, 30, 6, 2024, 0⟩ = true ∧ lastMinute ⟨58, 59, 23, 31, 12, 2399, 0⟩ = true ∧ calLegal ⟨58, 59, 23, 31, 12, 2399, 0⟩ ∧
      calLegal ⟨59, 59, 23, 29, 2, 2000, 6⟩ ∧ calLegal ⟨59, 59, 23, 31, 12, 2399, 6⟩) := by
  unfold calLegal; decide +kernel

theorem witness_CommitsAndStopsSetTheCalendar :
    ({ up with rtc := { up.rtc with commit := some {} } } : State).rtc.commit = some {} ∧
    commitHere { up with rtc := { up.rtc with commit := some {} } } = some {} ∧
    State.reset.pins.vbat = false ∧ bankLevel 3300 ≠ .notValid ∧ State.reset.modp = .off := by decide +kernel

theorem witness_CompensationStaysWithinItsBounds :
    (let s := { up with rtc := { up.rtc with phases := some (-200000000, 200000000, 0 + 1), aging := -255 } }
     s.rtc.phases = some (-200000000, 200000000, 0 + 1) ∧ -255 ≤ s.rtc.aging ∧ s.rtc.aging ≤ 255) ∧
    (let s := { locked with rtc := { up.rtc with osf := true, cal := { sec := 58, min := 59, hour := 23, day := 31, month := 12 } } }
     learnCond s = true ∧ checkBarred s = false ∧ s.rtc.commit = none ∧ s.rtc.osf = true) ∧
    up.tim.set = true ∧ isRunning up .tim = true ∧ Stn.tim ∉ up.ledBad := by decide +kernel

theorem witness_TimeStartsFromTheCalendar :
    let s := { withStn up .tim { state := .ready } with tim := {}, led := { up.led with tim := some ⟨100, 0, 37⟩ }, rtc := { up.rtc with osf := true } }
    s.tim.set = false ∧ ((stn s .tim).state = .ready ∨ (stn s .tim).state = .running) ∧ s.rtc.osf = true ∧ s.led.tim = some ⟨100, 0, 37⟩ := by
  decide +kernel

/-- The module with a master on port 1. -/
def mastered : State := { up with tim := { set := true, master := some { port := 1, clockId := 9 }, foreign := [⟨{ port := 1, clockId := 9 }, 0⟩] } }

theorem witness_TheBestMasterIsSelected :
    ptpTaken mastered 0 ∧ mastered.tim.master = some { port := 1, clockId := 9 } ∧
    (⟨{ port := 1, clockId := 9 }, 0⟩ : Foreign) ∈ mastered.tim.foreign := ⟨by unfold ptpTaken; decide +kernel, rfl, by decide⟩

/-- The same over peer delays. -/
def peered : State :=
  { up with cfg := { up.cfg with loaded := { wRig with backhaul := some { p2p := true } } }, eth := { up.eth with ports := [{ up := true }, {}] } }

theorem witness_PtpExchangesComplete :
    (ptpTaken mastered 0 ∧ mastered.tim.master = some { port := 1, clockId := 9 } ∧ isRunning mastered .tim = true ∧ (cBackhaul mastered).p2p = false) ∧
    (let s := { mastered with tim := { mastered.tim with openSync := some ⟨{ port := 1, clockId := 9, seq := 3 }, 5, 0⟩ } }
     ptpTaken s 0 ∧ s.tim.openSync = some ⟨{ port := 1, clockId := 9, seq := 3 }, 5, 0⟩) ∧
    (let s := { mastered with tim := { mastered.tim with openDreq := some (1, 3, 77) } }
     ptpTaken s 0 ∧ s.tim.openDreq = some (1, 3, 77)) ∧
    (let s := { mastered with tim := { mastered.tim with openPdelay := [(1, (3, 77))] } }
     ptpTaken s 0 ∧ tget s.tim.openPdelay 1 = some (3, 77)) ∧
    ptpTaken peered 0 ∧ isRunning peered .tim = true ∧ (cBackhaul peered).p2p = true ∧
      (ethQueue peered 0 0 ⟨.pdelayResp 3 9 (rxStamp peered 0), ptpOctets peered 54⟩).2 = true := by
  unfold ptpTaken; exact ⟨by decide +kernel, by decide +kernel, by decide +kernel, by decide +kernel, by decide +kernel⟩

/-- The module with a capture unit that takes rising edges, its queue of `n` captures. -/
def capturing (n : Nat) : State :=
  { up with tim := { up.tim with caps := [{ fifo := List.replicate n ({} : Capture) }] },
            cfg := { up.cfg with loaded := { wRig with time := some { captures := [{ enabled := true }] } } } }

theorem witness_EdgesAreIssuedAndCaptured :
    (let u : CmpUnit := { state := .armed, mode := 4 }
     let s := { up with tim := { up.tim with cmps := List.replicate 7 ({} : CmpUnit) ++ [u] } }
     s.tim.cmps[7]? = some u ∧ (u.state = .armed ∨ u.state = .running)) ∧
    (let u : CmpUnit := { state := .running, mode := 1, pin := true, lowAt := some 9 }
     let s := { up with tim := { up.tim with cmps := List.replicate 7 ({} : CmpUnit) ++ [u] } }
     s.tim.cmps[7]? = some u ∧ u.lowAt = some 9) ∧
    (∃ c, (capturing 7).tim.caps[0]? = some c ∧ capSelects (capturing 7) 0 true = true ∧ c.last = none ∧ c.fifo.length < 8) ∧
    (∃ c, (capturing 8).tim.caps[0]? = some c ∧ capSelects (capturing 8) 0 true = true ∧ c.last = none ∧ 8 ≤ c.fifo.length) :=
  ⟨by decide +kernel, by decide +kernel, ⟨_, rfl, by decide +kernel, rfl, by decide⟩, ⟨_, rfl, by decide +kernel, rfl, by decide⟩⟩

/-- A port that is up, with its queues and what is on its wire. -/
def wire (v : VerifySt) (x : Option Sending) (q : List TxQueue) : State :=
  { up with eth := { up.eth with ports := [{ up := true, verify := v, sending := x, tq := q, attempts := 3 }, {}] } }

/-- A queue with a frame. -/
def fq : TxQueue := { frames := [{ item := .verify, octets := 64 }] }

/-- A long preemptable frame on the wire. -/
def longTx : Sending := { frame := { octets := 1500 }, tq := 1 }

theorem witness_LinksFollowTheirConditions :
    (∃ e, up.eth.ports[1]? = some e ∧ e.up = false ∧ (ethCfg up 1).preemptEn = true) ∧
    ((wire .init none []).eth.ports[0]? = some { up := true, attempts := 3, tq := [] }) ∧
    (∃ e, up.eth.ports[0]? = some e ∧ (ethCfg up 0).phy = true ∧ (ethCfg up 1).phy = false ∧ (ethCfg up 0).verifyDis = false) :=
  ⟨⟨_, rfl, rfl, rfl⟩, rfl, _, rfl, rfl, rfl, rfl⟩

/-- A broadcast frame of 64 octets with its FCS. -/
def bcast (etype : List Byte) : List Byte := List.replicate 12 255 ++ etype ++ List.replicate 46 0

theorem witness_FramesAreReceived :
    (∃ e, (wire .verifying none []).eth.ports[0]? = some e ∧ e.up = true ∧ e.verify = .verifying ∧ isRunning (wire .verifying none []) .eth = true) ∧
    (60 ≤ (bcast [0x88, 0x08]).length ∧ beAt (bcast [0x88, 0x08]) 12 2 = 0x8808) ∧
    (∃ e r, (wire .init none []).eth.ports[0]? = some e ∧ 60 ≤ (bcast [8, 0]).length ∧ (bcast [8, 0]).length ≤ 1996 ∧ beAt (bcast [8, 0]) 12 2 ≠ 0x8808 ∧
      tcTakes (wire .init none []) (bcast [8, 0]) = none ∧ findRule (wire .init none []) 0 (bcast [8, 0]) = none ∧
      addrOk (wire .init none []) 0 (bcast [8, 0]) = true ∧ e.rq[(ethCfg (wire .init none []) 0).defaultQ]? = some r ∧
      r.used + buffers (bcast [8, 0]) ≤ max 16 (ethCfg (wire .init none []) 0).rqSize) ∧
    (ethPort up 0).up = false ∧
    (∃ e, ({ up with eth := { up.eth with ports := [{ up := true, assy := some (1, 3, [7]) }, {}] } } : State).eth.ports[0]? = some e ∧ e.up = true ∧
      e.assy = some (1, 3, [7])) := by
  refine ⟨⟨_, rfl, rfl, rfl, by decide⟩, by decide, ⟨_, _, rfl, by decide, by decide, by decide +kernel, by decide +kernel, by decide +kernel, ?_, rfl, by decide⟩, by decide, _, rfl, rfl, rfl⟩
  have h : beAt (bcast [8, 0]) 0 6 = 2 ^ 48 - 1 := by decide +kernel
  unfold addrOk; rw [h]; simp

theorem witness_FramesAreSent :
    (∃ e, (wire .init none [fq]).eth.ports[0]? = some e ∧ expressReady (wire .init none [fq]) e = some { item := .verify, octets := 64 } ∧
      e.up = true ∧ e.sending = none ∧ (nth e.tq 0 {}).frames = [{ item := .verify, octets := 64 }]) ∧
    (∃ e, (wire .init none [{}, {}, {}, fq]).eth.ports[0]? = some e ∧ expressReady (wire .init none [{}, {}, {}, fq]) e = none ∧
      e.suspended = none ∧ nextPreemptable e = some (3, { item := .verify, octets := 64 })) ∧
    (∃ e a, (wire .succeeded (some longTx) [fq]).eth.ports[0]? = some e ∧ e.sending = some longTx ∧
      expressReady (wire .succeeded (some longTx) [fq]) e = some { item := .verify, octets := 64 } ∧
      preemptAt (wire .succeeded (some longTx) [fq]) (ethCfg (wire .succeeded (some longTx) [fq]) 0) e longTx = some a) ∧
    (∃ e, (wire .init (some longTx) []).eth.ports[0]? = some e ∧ e.sending = some longTx ∧ expressReady (wire .init (some longTx) []) e = none) ∧
    (∃ e, (wire .verifying none []).eth.ports[0]? = some e ∧ e.verify = .verifying ∧ 3 ≤ e.attempts) :=
  ⟨⟨_, rfl, by decide +kernel, rfl, rfl, rfl⟩, ⟨_, rfl, by decide +kernel, rfl, rfl⟩, ⟨_, _, rfl, rfl, by decide +kernel, rfl⟩,
    ⟨_, rfl, rfl, by decide +kernel⟩, _, rfl, rfl, by decide⟩

/-- Event queue 7 with four packets of sixteen words, its SEQ and LOST at their ends. -/
def fullQ : EvqQueue := { vis := List.replicate 4 (List.replicate 16 0), seq := 2 ^ 32 - 1, lost := 2 ^ 32 - 1 }

/-- The module with that queue. -/
def evqFull : State := { up with evq := { up.evq with queues := List.replicate 7 ({} : EvqQueue) ++ [fullQ] } }

theorem witness_EventQueuesHoldSixtyFourWords :
    (evqFull.evq.queues[7]? = some fullQ ∧ evqDown evqFull = false ∧ queueLegal fullQ ∧ occupied fullQ 0 = 64 ∧
      (List.replicate 16 (0 : Word64)) ≠ [] ∧ (List.replicate 16 (0 : Word64)).length ≤ 16) ∧
    evqDown (withStn evqFull .evq { state := .fault }) = true := by
  unfold queueLegal; decide +kernel

theorem witness_RingsAreDrainedAndResent :
    (let q : EvqQueue := { fullQ with ring := List.replicate 512 ({} : RingPkt), rlost := 2 ^ 32 - 1 }
     q.ring.length ≤ 512 ∧ q.rlost < 2 ^ 32) ∧
    (let p : RingPkt := { seq := 2 ^ 32 - 1, sentAt := some 0 }
     let e : EvqQueue := { ring := [{}, p] }
     let s := { up with evq := { up.evq with queues := List.replicate 7 ({} : EvqQueue) ++ [e] } }
     s.evq.queues[7]? = some e ∧ (e.ring.find? fun p => p.seq = 2 ^ 32 - 1) = some p ∧ p.sentAt = some 0) := by decide +kernel

/-- A handshake under way on port 0, its link up. -/
def shaking : State := { wire .init none [] with vtp := { sessions := [{}, {}, {}, {}], hands := [{ peer := 8, start := 3 }] } }

theorem witness_HandshakesOpenSessions :
    (isRunning shaking .eth = true ∧ isRunning shaking .sys = true ∧ (ethPort shaking 0).up = true ∧ shaking.sys.start.rig ≠ 0xF ∧
      (helloAccepted shaking 0).2 = true ∧ freeNumbers shaking ≠ [] ∧
      freeNumbers { shaking with vtp := { shaking.vtp with sessions := List.replicate 4 { state := .open_ } } } = []) ∧
    (∃ i l x, (shaking.vtp.hands.find? fun h => h.port = 0 && h.peer = 8) = some { peer := 8, start := 3 } ∧ freeNumbers shaking = i :: l ∧
      shaking.vtp.sessions[i]? = some x ∧ certOk shaking 1 true 5 4 = false ∧ certOk shaking 0 true 5 4 = true) :=
  ⟨by decide +kernel, _, _, _, rfl, rfl, rfl, by decide +kernel, by decide +kernel⟩

theorem witness_SessionsAndRecordsEnd :
    (∃ x, up.vtp.sessions[0]? = some x ∧ x.state = .open_ ∧ x.port ≠ 2) ∧
    (let c : CallRec := { state := .done, finalAt := some 7, polledAt := some 9 }
     (withCall c).calls[7]? = some c ∧ c.finalAt = some 7 ∧ c.polledAt = some 9) := by
  exact ⟨⟨_, rfl, rfl, by decide⟩, by decide⟩

theorem witness_TheServicePortFollowsItsPin :
    moduleUp up = true ∧
    ({ up with vtp := { up.vtp with baudAt := some 4 } } : State).vtp.baudAt = some 4 ∧
    ({ up with pins := { up.pins with srvEn := true } } : State).pins.srvEn = true ∧ moduleUp { up with pins := { up.pins with srvEn := true } } = true ∧
    (∃ x, ({ up with vtp := { up.vtp with sessions := [{}, {}, {}, { state := .open_ }] } } : State).vtp.sessions[3]? = some x ∧ x.state = .open_) :=
  ⟨by decide, rfl, rfl, by decide, _, rfl, rfl⟩

theorem witness_ChannelFaultsInvalidateIntervals :
    (isRunning up .mtr = true ∧ (mtrChanCfg up 4).used = true ∧
      (∃ x, { up with mtr := { up.mtr with chans := List.replicate 40 ({ stuck := true } : MtrChan) } }.mtr.chans[4]? = some x ∧ x.stuck = true) ∧
      (∃ y, up.mtr.feeders[0]? = some y ∧ 0 ∈ usedFeeders up ∧ 4 ∈ feederChans up 0)) ∧
    (0 < (cBoard up).sensors.length ∧ ∃ x, up.mtr.temps[0]? = some x) :=
  ⟨⟨by decide, by decide, ⟨_, rfl, rfl⟩, _, rfl, by decide, by decide⟩, by decide, _, rfl⟩

theorem witness_WindowsAndPowerFailuresAreTaken :
    (({ up with mtr := { up.mtr with running := true } } : State).mtr.running = true ∧ 0 < 200000) ∧
    (up.modp = .running ∧ pfiTripped up = false ∧ Stn.mtr ∉ up.ledBad) ∧
    (pfiTripped { up with pins := { up.pins with pfi := true } } = true ∧
      pfiTripped { up with pins := { up.pins with pfi := true, pfiRise := some 1 } } = true ∧
      pfiTripped { up with pins := { up.pins with pfi := true, pfiRise := some 0 } } = false) ∧
    ({ up with mtr := { up.mtr with pfMode := true } } : State).mtr.pfMode = true := by decide

theorem witness_LightKeepsHoursAndOutcomes :
    (let s := { up with lgt := { up.lgt with chans := [(255, { lamp := some (-512, 9) })], strokes := 360000 } }
     (chan s 255).lamp = some (-512, 9) ∧ 0 < addend s ∧ isRunning s .lgt = true ∧ Stn.lgt ∉ s.ledBad ∧ 360000 ≤ s.lgt.strokes) ∧
    (let o : OutWait := { chan := 255, nat := 4095, last := true }
     let s := { up with rad := { up.rad with outs := [{}, o] } }
     (s.rad.outs.find? fun o => o.chan = 255 && o.last) = some o) := by decide

/-- The module with neighbour 0's key, a handoff sent `n` times and counter `rx` received of the neighbour. -/
def withHandoff (n rx : Nat) (out : Option Nat) : State :=
  { up with keys := { shared := [(10, {})] },
            crs := { up.crs with handoffs := [{ counter := 3, ident := 6, firstAt := some 8, attempts := n, outcome := out }],
                                 nbrs := List.replicate 8 ({ rx := rx, rxMsg := some [] } : NbrState) } }

/-- The module whose course 0 is linked to that neighbour. -/
def linkedUp (rx : Nat) : State :=
  { withHandoff 1 rx none with cfg := { up.cfg with loaded := { wRig with courses := some {
      neighbours := [{ segId := 7 }], courses := [{ valid := true, enable := true, linkLo := { valid := true }, classMask := 7 }] } } } }

/-- A datagram of the neighbour. -/
def fromNbr (typ counter : Nat) (body : List Byte) : List Byte :=
  sealHandoff {} (leBytes 4 0x464F4856 ++ leBytes 1 1 ++ leBytes 1 typ ++ leBytes 2 0 ++ leBytes 4 7 ++ leBytes 8 counter) body

/-- An ack of handoff 3 with a result; a handoff of corridor 9 that arrives at second 1. -/
def ackBody (result : Nat) : List Byte := leBytes 4 6 ++ leBytes 8 3 ++ leBytes 4 result
def hoBody : List Byte := [0, 0, 200, 0] ++ leBytes 4 9 ++ leBytes 4 0 ++ leBytes 6 1 ++ leBytes 6 0

/-- A datagram from its parts: the header up to COUNTER, COUNTER, the body of an ack, the tag. -/
def inParts (d : List Byte) : List Byte := d.take 12 ++ (d.drop 12).take 8 ++ (d.drop 20).take 16 ++ d.drop 36

theorem witness_HandoffsAreCarriedThrough :
    (∃ h, ((withHandoff 1 5 none).crs.handoffs.find? fun h => h.nbr = 0 && h.counter = 3) = some h ∧ h.firstAt = some 8 ∧ h.outcome = none ∧
      h.attempts ≤ (cGuar (withHandoff 1 5 none)).rS ∧ isRunning (withHandoff 1 5 none) .crs = true) ∧
    (∃ h, ((withHandoff 2 5 none).crs.handoffs.find? fun h => h.nbr = 0 && h.counter = 3) = some h ∧ (cGuar (withHandoff 2 5 none)).rS < h.attempts) ∧
    (handoffOpened (withHandoff 1 5 none) 2 16 (inParts (fromNbr 2 4 (ackBody 1))) = some (0, ackBody 1) ∧ argAt (ackBody 1) 4 8 = 3 ∧ argAt (ackBody 1) 0 4 = 6 ∧
      argAt (ackBody 1) 12 1 = 1 ∧ handoffOpened (withHandoff 1 5 none) 2 16 (inParts (fromNbr 2 4 (ackBody 2))) = some (0, ackBody 2)) ∧
    (handoffOpened (linkedUp 5) 1 24 (fromNbr 1 6 hoBody) = some (0, hoBody) ∧ (handoffMsg (fromNbr 1 6 hoBody) hoBody).counter = 6 ∧
      handoffResult (linkedUp 5) 0 (handoffMsg (fromNbr 1 6 hoBody) hoBody) = 0 ∧ handoffOpened (withHandoff 1 5 none) 1 24 (fromNbr 1 6 hoBody) = some (0, hoBody) ∧
      handoffResult (withHandoff 1 5 none) 0 (handoffMsg (fromNbr 1 6 hoBody) hoBody) = 2 ∧
      (∃ x, (linkedUp 6).crs.nbrs[0]? = some x ∧ x.rx = 6 ∧ x.rxMsg = some [] ∧ [] ≠ fromNbr 1 6 hoBody) ∧
      handoffOpened (linkedUp 6) 1 24 (fromNbr 1 6 hoBody) = some (0, hoBody) ∧
      handoffOpened (linkedUp 7) 1 24 (fromNbr 1 6 hoBody) = some (0, hoBody) ∧ (∃ x, (linkedUp 7).crs.nbrs[0]? = some x ∧ x.rx = 7)) ∧
    handoffOpened (withHandoff 1 5 none) 1 24 [] = none :=
  ⟨⟨_, rfl, rfl, rfl, by decide, by decide⟩, ⟨_, rfl, by decide⟩, by decide +kernel,
    ⟨by decide +kernel, by decide +kernel, by decide +kernel, by decide +kernel, by decide +kernel, ⟨_, rfl, rfl, rfl, by decide +kernel⟩,
      by decide +kernel, by decide +kernel, _, rfl, rfl⟩,
    by decide +kernel⟩
/-- A port that runs and awaits the ack of a unicast to a node. -/
def waiting (u : Unicast) : RadPort := { state := .run, asn := some 7, uni := [u] }

/-- The module with a sensor node in place of that lantern, adrift or not. -/
def withSensor (adrift : Bool) : State :=
  { air 0 { state := .run } with
    rad := { (air 0 { state := .run }).rad with nat := [(4095, { short := 5, upSlot := 2, role := 4, adrift := adrift })] } }

theorem witness_RadioPortsFollowTheirStates :
    (let x : RadPort := { state := .run }
     hasSlots (air giga x) 0 = true ∧ (air giga x).rad.ports[0]? = some x ∧ radServes (air giga x) = true ∧
       portsBefore (air giga x) 0 (slotStart (radCfg (air giga x) 0) (nextAsn (air giga x) 0)) = [] ∧
       (cellAt (radCfg (air giga x) 0) (slotOf (radCfg (air giga x) 0) (nextAsn (air giga x) 0)) 0).kind = 1 ∧
       txBeacon x = true ∧ x.maxAsn < nextAsn (air giga x) 0 ∧ (sharedKey (air giga x) (air giga x).sec.beaconGen).isSome = true ∧
       txBeacon { x with state := .rxOnly } = false ∧ nextAsn (air giga { x with maxAsn := 200 }) 0 ≤ 200) ∧
    (let x : RadPort := { state := .run }
     (air 0 x).rad.ports[0]? = some x ∧ x.state ≠ .off ∧ x.state ≠ .reset ∧ x.state ≠ .fault ∧ x.state ≠ .init) ∧
    (let x : RadPort := { state := .init, initFails := 2 }
     (air 0 x).rad.ports[0]? = some x ∧ x.state = .init ∧ 3 ≤ satAdd 8 x.initFails 1 ∧ ¬ 3 ≤ satAdd 8 1 1) ∧
    ((air 0 { state := .fault }).rad.ports[0]? = some { state := .fault }) ∧
    (∃ e, natEnt (air 0 {}) 4095 = some e ∧ radServes (air 0 {}) = true ∧ isSensor e = false) ∧
    (∃ e, natEnt (withSensor false) 4095 = some e ∧ radServes (withSensor false) = true ∧ isSensor e = true ∧
      sensorServed (withSensor false) e.port ((radPort (withSensor false) e.port).asn.getD 0) 4095 e = true) ∧
    (∃ e, natEnt (withSensor true) 4095 = some e ∧ isSensor e = true ∧
      sensorServed (withSensor true) e.port ((radPort (withSensor true) e.port).asn.getD 0) 4095 e = false) := by
  refine ⟨by decide +kernel, by decide +kernel, by decide +kernel, by decide +kernel, ⟨_, rfl, by decide +kernel⟩, ⟨_, rfl, by decide +kernel⟩, _, rfl, by decide +kernel⟩

/-- The unicast to node 4095 that the port awaits. -/
def uSent : Unicast := { node := 4095, sent := some (7, 1), call := some 7 }

/-- The module with it, its CALL running. -/
def acking : State := { air 36000000 (waiting uSent) with calls := List.replicate 7 ({} : CallRec) ++ [{ state := .running, station := 4, op := 3 }] }

/-- An acknowledgement whose SFD comes so many ns after its time. -/
def fAck (late : Nat) : RxFrame :=
  { edge := uniEnd acking 0 + 400000 + octNs (radCfg acking 0) (shrOct (radCfg acking 0)) + 10000 + late, fcf := 0x200A, psdu := 24, src := 5, counter := 1 }

theorem witness_AcksAreSentAndTaken :
    (let x : RadPort := { state := .run, ack := some ({ counter := 2 }, 9) }
     (air 0 x).rad.ports[0]? = some x ∧ x.ack = some ({ counter := 2 }, 9) ∧ rxOpen x = true ∧ radServes (air 0 x) = true ∧ awaited (air 0 x) 0 = none) ∧
    (acking.rad.ports[0]? = some (waiting uSent) ∧ rxOpen (waiting uSent) = true ∧ radServes acking = true ∧ awaited acking 0 = some uSent) ∧
    (ackOutside acking (fAck 20000) = true ∧ ackOutside acking (fAck 19999) = false) ∧
    (ackHeaderOk acking { fAck 0 with destPan := 1 } = false ∧ ackHeaderOk acking (fAck 0) = true ∧ ackHeaderOk acking { fAck 0 with psdu := 25 } = false) ∧
    (rxSource acking { fAck 0 with src := 6 } = none ∧ rxSource acking (fAck 0) = some uSent.node ∧ (fAck 0).fcsOk = true ∧ (fAck 0).micOk = true ∧
      ackEchoOk acking (fAck 0) uSent = true ∧ ackEchoOk acking { fAck 0 with counter := 2 } uSent = false) ∧
    (∃ e, natEnt acking uSent.node = some e) ∧
    (let s := { acking with rad := { acking.rad with nat := [(7, { short := 6 }), (4095, { short := 5, upSlot := 2 })] } }
     rxSource s { fAck 0 with src := 6 } = some 7 ∧ 7 ≠ uSent.node ∧ ackOutside s (fAck 0) = false ∧ ackHeaderOk s { fAck 0 with src := 6 } = true ∧
       ∃ e, natEnt s 7 = some e) := by
  refine ⟨by decide +kernel, by decide +kernel, by decide +kernel, by decide +kernel, by decide +kernel, ⟨_, rfl⟩, by decide +kernel, by decide, by decide +kernel,
    by decide +kernel, _, rfl⟩

theorem witness_UnicastsAndScansEnd :
    (let u : Unicast := { node := 4095, kind := .downlink, urgent := true, call := some 7 }
     let x : RadPort := { state := .run, uni := [{}, u] }
     (∃ e, natEnt (air 0 x) 4095 = some e ∧ (air 0 x).rad.ports[e.port]? = some x) ∧
       (x.uni.find? fun u => u.node = 4095 && u.kind = .downlink && u.urgent) = some u ∧
       ((List.range 4).findSome? fun p => ((radPort (air 0 x) p).uni.find? fun u => u.call = some 7).map fun u => (p, u)) = some (0, u)) ∧
    (let s := { acking with rad := { acking.rad with scan := some { call := 7, endNs := 3 } } }
     s.rad.scan = some { call := 7, endNs := 3 } ∧ callLive (call s 7) = true ∧ moduleUp s = true ∧ Stn.rad ∉ s.ledBad) :=
  ⟨⟨⟨_, rfl, rfl⟩, by decide +kernel, by decide +kernel⟩, by decide +kernel⟩

/-- A node whose frame is heard. -/
theorem hears {s : State} {f : RxFrame} {i : Nat} {e : NatEnt} {typed : Bool} (o : rxOpen (radPort s f.port) = true ∧ radServes s = true)
    (h : headIs s f (.ok (some i)) = true) (n : natEnt s i = some e)
    (k : f.fcsOk = true ∧ linkKeyOk s i f = true ∧ f.micOk = true ∧ linkJudge s i e f typed = .deliver) : Heard s f i e typed :=
  ⟨o.1, o.2, headIs_eq h, n, k.1, k.2.1, k.2.2.1, k.2.2.2⟩

theorem witness_ReceivedFramesAreJudged :
    ((heard {} false).rad.ports[0]? = some { state := .run } ∧ rxOpen { state := .run } = true ∧ radServes (heard {} false) = true) ∧
    (rxHeader (heard {} false) { fUp 1 false with edge := 10476666 } = .error .win ∧
      rxHeader (heard {} false) { fUp 1 false with edge := 10476665 } = .ok (some 4095)) ∧
    rxHeader (heard {} false) { fUp 1 false with destPan := 1 } = .error .filt ∧ rxHeader (heard {} false) { fUp 1 false with src := 6 } = .error .unknown ∧
    (∃ e, natEnt twoNodes 7 = some e ∧ rxHeader twoNodes { fUp 1 false with src := 6 } = .error (.barred 7)) ∧
    (({ fUp 1 false with fcsOk := false }).fcsOk = false ∧ rxHeader (heard {} false) { fUp 1 false with fcsOk := false } = .ok (some 4095)) ∧
    (∃ e, Heard (heard {} false) (fUp 1 false) 4095 e false) :=
  ⟨by decide +kernel, ⟨headIs_eq (by decide +kernel), headIs_eq (by decide +kernel)⟩, headIs_eq (by decide +kernel), headIs_eq (by decide +kernel),
    ⟨_, rfl, headIs_eq (by decide +kernel)⟩, ⟨rfl, headIs_eq (by decide +kernel)⟩, _, hears (by decide +kernel) (by decide +kernel) rfl (by decide +kernel)⟩

/-- The parts of a record of zeros that ends with a CRC. -/
def zeroParts (c : Nat) : NodeDyn :=
  { recParts := ((List.range 4).map fun j => (j, List.replicate 32 0)) ++ [(4, List.replicate 16 0 ++ leBytes 4 c)] }

theorem wordsOf_zeros (n m : Nat) (l : List Byte) : wordsOf (n + m) (List.replicate (4 * n) 0 ++ l) = List.replicate n 0 ++ wordsOf m l := by
  induction n with
  | zero => simp
  | succ n ih =>
    have h : List.replicate (4 * (n + 1)) (0 : Byte) ++ l = 0 :: 0 :: 0 :: 0 :: (List.replicate (4 * n) 0 ++ l) := by
      rw [show 4 * (n + 1) = 4 * n + 1 + 1 + 1 + 1 by omega]; simp [List.replicate_succ]
    rw [h, show n + 1 + m = (n + m) + 1 by omega, List.replicate_succ, List.cons_append, ← ih]
    rfl

theorem bytesOf_zeros (n : Nat) : bytesOf (List.replicate n 0) = List.replicate (4 * n) 0 := by
  induction n with
  | zero => rfl
  | succ n ih =>
    rw [show 4 * (n + 1) = 4 * n + 1 + 1 + 1 + 1 by omega]
    simp only [List.replicate_succ, ← ih]
    rfl

theorem zeroParts_words (c : Nat) : (partsRecord (zeroParts c)).words = List.replicate 36 0 ++ [w32 (ofLe (leBytes 4 c))] := by
  have h : ((List.range 5).flatMap fun j => tgetD (zeroParts c).recParts j []) = List.replicate (4 * 36) 0 ++ leBytes 4 c := by
    have : ∀ a b d e f : List Byte, ((List.range 5).flatMap fun j => tgetD [(0, a), (1, b), (2, d), (3, e), (4, f)] j []) = a ++ (b ++ (d ++ (e ++ f))) := by
      intros; simp [tgetD, tget, List.range, List.range.loop]
    refine (this _ _ _ _ _).trans ?_
    simp
  unfold partsRecord BinRecord.ofBytes
  rw [h, wordsOf_zeros 36 1]
  simp [wordsOf, leBytes]

theorem crc32c_lt (l : List Byte) : crc32c l < 2 ^ 32 := BitVec.isLt _

theorem zeroParts_crc (c : Nat) : (partsRecord (zeroParts c)).crcOk = decide (crc32c (List.replicate 144 0) = c % 2 ^ 32) := by
  have e : (w32 (ofLe (leBytes 4 c))).toNat = c % 2 ^ 32 := by
    simp [w32, ofLe, leBytes, BitVec.toNat_ofNat]; omega
  have b : bytesOf ((List.replicate 36 (0 : Word) ++ [w32 (ofLe (leBytes 4 c))]).take 36) = List.replicate (4 * 36) 0 := by
    rw [List.take_left' (by simp)]; exact bytesOf_zeros 36
  have r : (partsRecord (zeroParts c)).crc = c % 2 ^ 32 := by
    unfold BinRecord.crc BinRecord.word; rw [zeroParts_words]; exact e
  unfold BinRecord.crcOk
  rw [r, zeroParts_words, b]
  simp
/-- What was kept of the first four parts of a record. -/
def four : NodeDyn := { recParts := [(0, []), (1, []), (2, []), (3, [])] }

theorem witness_MessagesAreDelivered :
    (∃ e, Heard (heard {} false) (fUp 4096 false) 4095 e false ∧ isRunning (heard {} false) .crs = true) ∧
    (∃ e, Heard (heard {} true) (fUp 1 true) 4095 e true ∧ (nodeDyn (heard {} true) 4095).test = false) ∧
    (∃ e, Heard (heard { newEpoch := some 0xF000 } true) (fUp 1 true) 4095 e true) ∧
    (∃ e, Heard (heard { recParts := [(0, []), (1, []), (2, [])] } false) (fUp 1 false) 4095 e true ∧
      (tput [(0, []), (1, []), (2, [])] 4 (([] : List Byte).take (partOctets 4))).length < 5) ∧
    (∃ e, Heard (heard four false) (fUp 1 false) 4095 e true) ∧
    (5 ≤ (zeroParts 0).recParts.length ∧ (∃ c, (partsRecord (zeroParts c)).crcOk = true) ∧ ∃ c, (partsRecord (zeroParts c)).crcOk = false) :=
  ⟨⟨_, hears (by decide +kernel) (by decide +kernel) rfl (by decide +kernel), by decide +kernel⟩,
    ⟨_, hears (by decide +kernel) (by decide +kernel) rfl (by decide +kernel), by decide +kernel⟩,
    ⟨_, hears (by decide +kernel) (by decide +kernel) rfl (by decide +kernel)⟩,
    ⟨_, hears (by decide +kernel) (by decide +kernel) rfl (by decide +kernel), by decide +kernel⟩,
    ⟨_, hears (by decide +kernel) (by decide +kernel) rfl (by decide +kernel)⟩, by decide,
    ⟨crc32c (List.replicate 144 0), by rw [zeroParts_crc]; exact decide_eq_true (Nat.mod_eq_of_lt (crc32c_lt _)).symm⟩,
    crc32c (List.replicate 144 0) + 1, by
      rw [zeroParts_crc]; have := crc32c_lt (List.replicate 144 0); exact decide_eq_false (by omega)⟩

theorem witness_NodesAreEnrolledAgain :
    ((heard {} false).rad.ports[0]? = some { state := .run } ∧ radServes (heard {} false) = true ∧ rxHeader (heard {} false) fOpen = .ok none ∧
      fOpen.fcsOk = true) ∧
    (let f := { fUp 1 false with keyIndex := 0x30 }
     rxHeader (heard {} false) f = .ok (some 4095) ∧ f.keyIndex = 0x30 ∧ (tget (heard {} false).keys.device 4095).isSome = true ∧ f.micOk = true ∧
       (nodeDyn (heard {} false) 4095).devRx < f.counter) ∧
    ((nodeDyn (heard { recParts := [(0, [])], recTries := 2 } false) 4095).recParts ≠ [] ∧
      (nodeDyn (heard { recParts := [(0, [])], recTries := 2 } false) 4095).recTries < 3 ∧
      3 ≤ (nodeDyn (heard { recParts := [(4, [])], recTries := 3 } false) 4095).recTries) := by
  exact ⟨⟨by decide +kernel, by decide +kernel, headIs_eq (by decide +kernel), rfl⟩, ⟨headIs_eq (by decide +kernel), by decide +kernel⟩, by decide +kernel⟩

theorem witness_KeysAreRenewedAndErased :
    (∃ e, moduleUp (heard {} false) = true ∧ natEnt (heard {} false) 4095 = some e ∧ linkKey (heard {} false) 4095 (genOf e) = some {} ∧ genOf e < 2 ∧
      (nodeDyn (heard {} false) 4095).rekeying = false) ∧
    (sharedKey (heard {} false) (heard {} false).sec.beaconGen = some {} ∧ (heard {} false).sec.beaconGen < 2 ∧
      ∀ x ∈ (heard {} false).rad.switches, ¬(x.1 < 2 ∧ x.2.2 = 0)) ∧
    (let s := { up with rad := { up.rad with switches := [(1, 60, 1), (9, 60, 0)] } }
     moduleUp s = true ∧ (s.rad.switches.find? fun x => x.1 = 9 && x.2.2 = 0) = some (9, 60, 0) ∧ (s.rad.switches.find? fun x => x.1 = 1 && x.2.2 = 1) = some (1, 60, 1)) :=
  ⟨⟨_, by decide, rfl, rfl, by decide, by decide +kernel⟩, by decide +kernel, by decide⟩

theorem witness_TransfersAdvanceAndExpire :
    (moduleUp withXfer = true ∧ withXfer.upd.xfer.state = .open_) ∧
    (let s := { up with upd := { up.upd with xfer := { state := .open_, kind := 2, length := 4096, busy := true } } }
     moduleUp s = true ∧ s.upd.xfer.busy = true ∧ Stn.upd ∉ s.flashBad ∧ Stn.upd ∉ s.ledBad ∧ s.upd.xfer.next + 1 = xferBlocks s.upd.xfer) ∧
    (let s := { up with upd := { up.upd with xfer := { state := .open_, length := 8192, busy := true } }, flashBad := [.upd] }
     moduleUp s = true ∧ s.upd.xfer.busy = true ∧ Stn.upd ∈ s.flashBad ∧ s.upd.xfer.next + 1 ≠ xferBlocks s.upd.xfer) := by decide +kernel

/-- The module with an image CALL at work in record 7. -/
def building (o : ImageOp) : State :=
  { withCall { state := .running, station := 11, op := 1 } with upd := { up.upd with work := some (7, .image o) }, cfg := { up.cfg with imageSlot := 0 } }

theorem witness_UpdateOperationsGoOn :
    (moduleUp (building {}) = true ∧ (building {}).upd.work = some (7, .image {}) ∧ (building {}).cfg.imageSlot < 2 ∧
      imageCheck (building {}) {} ≠ .ok ∧ callLive (call (building {}) 7) = true) ∧
    (let o : ImageOp := { started := true, series := [11, 12], left := 0 }
     moduleUp (building o) = true ∧ (building o).upd.work = some (7, .image o) ∧ o.started = true ∧ o.series = 11 :: 12 :: [] ∧ o.left = 0 ∧
       callLive (call (building o) 7) = true ∧ Stn.ofIdx 12 = some .evq ∧ stationsUp (building o) = true ∧ inReset (building o) .evq = false) ∧
    (let o : ImageOp := { started := true, series := [12], left := 0 }
     (building o).upd.work = some (7, .image o) ∧ o.series = 12 :: [] ∧ Stn.cfg ∉ (building o).flashBad) ∧
    (let s := { up with upd := { up.upd with gatherAt := some 3 } }
     moduleUp s = true ∧ s.upd.work = none ∧ s.upd.gatherAt = some 3) ∧
    (let g : DistTarget := { nat := 4095, activated := true, apply_ := 6 }
     let s := { up with upd := { up.upd with work := some (7, .dist {}), dist := { up.upd.dist with targets := [{}, g] } } }
     distCall s = some 7 ∧ (s.upd.dist.targets.find? fun t => t.nat = 4095 && t.outcome = 0 && t.activated) = some g) := by
  refine ⟨by decide +kernel, by decide +kernel, by decide +kernel, by decide +kernel, by decide +kernel⟩

/-- A signed image whose thirteen sections are empty. -/
def emptyImage : Image :=
  { data := [0x56, 0x49, 0x4D, 0x47, 0, 1, 13, 0] ++ leBytes 4 1 ++ leBytes 4 784 ++ [0, 0, 0xFF, 0xFF] ++ List.replicate 12 0 ++
      ((List.range 13).flatMap fun n => leBytes 4 (sectionType n) ++ leBytes 8 784 ++ sha256 [] ++ List.replicate 4 0) ++ List.replicate 128 0,
    siravoBy := some Config.siravoKey }

theorem witness_ImageIsSound : imageCheck (building { target := emptyImage }) emptyImage = .ok := by
  have h : rigInSlot (building { target := emptyImage }) (hdrNow (building { target := emptyImage })).rig = none := by decide +kernel
  have f : imgFormatOk { data := emptyImage.data } = true := by decide +kernel
  have g : imgHashesOk { data := emptyImage.data } = true := by decide +kernel
  have f' : imgFormatOk emptyImage = true := f
  have g' : imgHashesOk emptyImage = true := g
  unfold imageCheck
  rw [h, f', g']
  simp [imageSigned, emptyImage, building, withCall, up]
/-! ## Figures of the spec's examples -/

/-- A port of 300 kbit/s with 5 ms slots; the same with 100 kbit/s and 10 ms slots. -/
def p300 : PortCfg := { profile := trxRecord {} }
def p100 : PortCfg := { p300 with slot10 := true, profile := trxRecord { rate := 100 } }

/-- The bounds of R47 and of the example under R48. -/
theorem test_bounds : [tlNs {} p300, thMinNs {} p300, tsNs {}, ttNs {}, tlNs {} p100] = [400000000, 512000000, 19597152, 47000000, 520000000] := by
  decide +kernel

/-- The table under R204. -/
theorem test_slot_limits : [tOfsUs p300, limLight p300, tOfsUs p100, limLight p100] = [1200, 182, 1540, 123] := by decide +kernel

/-- The OPEN cells of RAD0 (R231). -/
theorem test_open_slots : ([0, 1, 2, 3, 4, 5].map (openSlot p300 0 6), [0, 1].map (openSlot p300 1 2)) = ([3, 33, 63, 99, 129, 159], [5, 101]) := by
  decide +kernel

/-- A guard of 545 µs takes two copies (R252, the example under R254). -/
theorem test_train : trainCopies p300 545 = 2 := by decide +kernel

/-- A beacon of 48 octets is charged 2 ms and a light frame of 182 octets 5 ms (the example under R265). -/
theorem test_charges : [chargeMs p300 48, chargeMs p300 182] = [2, 5] := by decide +kernel

/-- 2031-11-08 10:00:00 UTC is TIME_SEC 0x7457_9B45 with TAI − UTC 37 s. -/
theorem test_time_sec : calSec { year := 2031, month := 11, day := 8, hour := 10 } + 37 = 0x74579B45 := by decide +kernel

/-- String 0 of the worked lantern; the class of a string. -/
def wString (x y z ceil : Nat) : BinString := { x := x, y := y, z := z, ceilCode := ceil, iLsb := 250 }
def wClass (rel : Nat) (d : Int × Int) (dr : List (Nat × Nat)) (m : Nat × Nat) : ColourClass :=
  { relf := [0, 0, 0, 32768, rel, 0, 0, 0, 0], drift := [(0, 0), (0, 0), (0, 0), (0, 0), d, (0, 0), (0, 0), (0, 0), (0, 0)], droop := dr,
    maint := [(0, 32768), (1000, m.1), (2000, m.2)], tFold := 95 * 256, tMax := 120 * 256, foldMin := 3277, staleT := 50 * 256 }
def white : List (Nat × Nat) := [(0, 0), (1600, 4997), (3200, 9748), (4800, 14172), (5600, 16384), (7200, 20480)]

/-- The worked lantern: 9,000 lm at 3,000 K, 50 °C and 18,000 h. -/
def lantern190 : List StringCtx :=
  [⟨wClass 31130 (-33, -20) white (32113, 31457), wString 853840 786432 232185 2800, 50 * fxOne, 1800000⟩,
   ⟨wClass 31457 (-26, -16) white (32113, 31457), wString 851138 884736 503964 2800, 50 * fxOne, 1800000⟩,
   ⟨wClass 26214 (98, -66) [(0, 0), (1600, 5243)] (31130, 30147), wString 527372 393216 4626 2000, 50 * fxOne, 1800000⟩,
   ⟨wClass 28508 (33, -33) [(0, 0), (1600, 4915), (3200, 9667)] (31949, 31293), wString 370655 163840 2686 2000, 50 * fxOne, 1800000⟩]

/-- Its currents in 1/16 mA and its codes. -/
theorem test_worked_lantern : ((solve lantern190 300 18000 (cctXy 3000)).cur, (solve lantern190 300 18000 (cctXy 3000)).codes) =
    ([0x19BF, 0x1310, 0x59D, 0x7C1], [0x670, 0x4C4, 0x167, 0x1F0]) := by decide +kernel

/-- The detector payload of the example of R181. -/
theorem test_payload : payloadOf [1, 2, 0xDC, 5, 0x96, 2] = (1, false, true, 0, 1500, 662) := by decide +kernel

/-! ## Single steps -/

/-- 2000 and 2400 are leap years of the calendar's rule, 2100 is not (R352). -/
theorem test_february : [monthLen 2000 2, monthLen 2100 2, monthLen 2024 2, monthLen 2023 2] = [29, 28, 29, 28] := by decide +kernel

/-- The last second of 2399 is followed by the first of 2000 and sets EPOCH_WRAP (R353). -/
theorem test_epoch_wrap :
    (match exec .secondEnd { up with rtc := { up.rtc with cal := ⟨59, 59, 23, 31, 12, 2399, 5⟩ } } with
     | .next t => decide (t.rtc.cal = ⟨0, 0, 0, 1, 1, 2000, 6⟩) && t.rtc.epochWrap
     | _ => false) = true := by decide +kernel

/-- The front command runs before the one behind it. -/
theorem test_queue_order :
    (match step { up with pending := [.oscillatorStop, .secondEnd] } with
     | .next t => decide (t.pending = [.secondEnd]) && t.rtc.osf
     | _ => false) = true := by decide +kernel

/-- Writing a light command's words with STATE 1 makes the slot PENDING (R139). -/
theorem test_lgt_cmd_issue :
    (match exec (.lgtCmdIssue {} 31 1 (wLgt.drop 1)) locked with
     | .next t => decide ((lgtCmd t 31).state = .pending)
     | _ => false) = true := by decide +kernel

/-- A write of a register that its pair does not confirm is refused and leaves the slot (R68). -/
theorem test_lgt_bad_pair :
    (match exec (.lgtCmdIssue {} 31 1 (100 :: 100 :: wLgt.drop 3)) locked with
     | .next t => decide (t.lgt = locked.lgt)
     | _ => false) = true := by decide +kernel

/-- A failed transceiver comes up again in RUN once its reset is done (R239). -/
theorem test_port_up :
    (match exec (.transceiverResetDone 3) { up with rad := { up.rad with ports := [{}, {}, {}, { state := .init }] } } with
     | .next t => decide ((radPort t 3).state = .run)
     | _ => false) = true := by decide +kernel

end Sys2Proof.Tests
end

section
/-! The end of a step of a stroke program (R21, R23): when a done signal counts, and what the stroke program reads after it. -/
namespace Sys2Proof.Machine

/-- The state as a step `k` leaves it that signals done in SYS cycle `cyc`: its results have taken effect and `rest` is what remains of the
program. The next step has not started yet. -/
def afterStep (s : State) (n : Stn) (k : StkStep) (rest : List StkStep) (cyc : Nat) : State :=
  setStn (stepResults (advanceTo s (s.cox.start + cdiv (cyc * 5) 2)) n k cyc) n fun r => { r with prog := rest, started := false }

/-- A signal in the cycle of Finish or later is late (R23). -/
theorem stepDone_late {s : State} {n : Stn} {cyc : Nat} (h : finishCyc ≤ cycNow s cyc) : stepDone s n cyc = s := by
  simp [stepDone, h]

/-- A signal before Finish ends the running step; in Drive the step behind it starts at once (R21). -/
theorem stepDone_intime {s : State} {n : Stn} {cyc : Nat} {k : StkStep} {rest : List StkStep} (hrun : s.modp = .running)
    (hphase : s.cox.phase = .catch_ ∨ s.cox.phase = .drive) (hstarted : (stn s n).started = true) (hprog : (stn s n).prog = k :: rest)
    (hcyc : cycNow s cyc < finishCyc) :
    stepDone s n cyc =
      if rest ≠ [] && (afterStep s n k rest (cycNow s cyc)).cox.phase = .drive then driveStart (afterStep s n k rest (cycNow s cyc)) n
      else afterStep s n k rest (cycNow s cyc) := by
  unfold stepDone
  dsimp only
  rw [if_neg, hprog]
  · rfl
  · rcases hphase with hphase | hphase <;> simp [hrun, hphase, hstarted, hcyc]

/-- A change that keeps the stroke program of every record keeps it in the state, also where the list holds no record. -/
theorem stn_setStn_prog (s : State) (n : Stn) (f : StnRec → StnRec) (hf : ∀ r, (f r).prog = r.prog) :
    (stn (setStn s n f) n).prog = (stn s n).prog := by
  by_cases hl : n.idx < s.stns.length
  · rw [stn_setStn_same s n f hl, hf]
  · simp [stn, nth, upd, List.getD, hl]

/-- Starting a Drive step takes nothing from the stroke program. -/
theorem driveStart_prog (s : State) (n : Stn) : (stn (driveStart s n) n).prog = (stn s n).prog := by
  have hstns : (driveStart s n).stns = (setStn s n fun r => { r with started := true }).stns := by
    unfold driveStart
    split
    · exact stns_of_keeps (lgtDrive_keeps offStns rfl _)
    · rfl
    · rfl
  rw [stn_of_stns hstns]
  exact stn_setStn_prog s n _ fun _ => rfl

/-- A step that has started stands in the list of records, where its end is written. -/
theorem afterStep_prog {s : State} {n : Stn} (hstarted : (stn s n).started = true) (k : StkStep) (rest : List StkStep) (cyc : Nat) :
    (stn (afterStep s n k rest cyc) n).prog = rest := by
  have hidx : n.idx < s.stns.length := idx_lt_of_stn s n fun h => by simp [h] at hstarted
  have hstns : (stepResults (advanceTo s (s.cox.start + cdiv (cyc * 5) 2)) n k cyc).stns = s.stns := stns_of_keeps (by simp)
  exact congrArg StnRec.prog (stn_setStn_same _ n _ (hstns ▸ hidx))

/-- A step that ends in time leaves the rest of the stroke program. -/
theorem stepDone_prog {s : State} {n : Stn} {cyc : Nat} {k : StkStep} {rest : List StkStep} (hrun : s.modp = .running)
    (hphase : s.cox.phase = .catch_ ∨ s.cox.phase = .drive) (hstarted : (stn s n).started = true) (hprog : (stn s n).prog = k :: rest)
    (hcyc : cycNow s cyc < finishCyc) : (stn (stepDone s n cyc) n).prog = rest := by
  rw [stepDone_intime hrun hphase hstarted hprog hcyc]
  split
  · rw [driveStart_prog, afterStep_prog hstarted]
  · exact afterStep_prog hstarted k rest _

/-- Every part but the Cox, the pins and the memory. -/
abbrev offCoxPinsMem : Parts := { Parts.all with cox := false, pins := false, mem := false, pending := true }

theorem stepDone_keepsCoxPinsMem (s : State) (n : Stn) (cyc : Nat) : KeepsAllBut offCoxPinsMem s (stepDone s n cyc) :=
  stepDone_keeps offCoxPinsMem rfl rfl rfl rfl rfl rfl rfl rfl rfl s n cyc

/-- Settles O10: an early signal leaves the rest of the stroke program and touches neither Cox, pins nor memory; a late one falls to the guard on Finish. -/
theorem stepsAreDoneBeforeFinish : Obligations.StepsAreDoneBeforeFinish := by
  refine ⟨fun s n cyc k rest hrun hphase hstarted hprog hcyc => done_ran rfl ?_, fun s n cyc hlate => done_ran rfl ?_⟩
  · have hkeeps := stepDone_keepsCoxPinsMem s n cyc
    exact ⟨stepDone_prog hrun hphase hstarted hprog hcyc, hkeeps.cox rfl, hkeeps.pins rfl, hkeeps.mem rfl⟩
  · rw [stepDone_late hlate]

end Sys2Proof.Machine
end

section
/-! Sessions and the service port (R91, R454 to R456): what closing or opening a session leaves alone, and how SRV_EN opens and closes session 3. -/
namespace Sys2Proof.Machine

/-- What a change of session `i` leaves alone: the other sessions, the rate of the service port, the pins and TIM. -/
structure OnlySession (i : Nat) (s t : State) : Prop where
  others : ∀ j, j ≠ i → t.vtp.sessions[j]? = s.vtp.sessions[j]?
  baud : t.vtp.baud = s.vtp.baud
  baudAt : t.vtp.baudAt = s.vtp.baudAt
  pins : t.pins = s.pins
  tim : t.tim = s.tim

theorem OnlySession.refl (i : Nat) (s : State) : OnlySession i s s := ⟨fun _ _ => rfl, rfl, rfl, rfl, rfl⟩

theorem OnlySession.trans {i : Nat} {s t u : State} (h : OnlySession i s t) (k : OnlySession i t u) : OnlySession i s u :=
  ⟨fun j hj => (k.others j hj).trans (h.others j hj), k.baud.trans h.baud, k.baudAt.trans h.baudAt, k.pins.trans h.pins, k.tim.trans h.tim⟩

theorem setSess_only (s : State) (i : Nat) (f : Session → Session) : OnlySession i s (setSess s i f) :=
  ⟨fun j hj => upd_get_other _ i j f hj, rfl, rfl, rfl, rfl⟩

theorem discardReplies_only (s : State) (i : Nat) : OnlySession i s (discardReplies s i) := ⟨fun _ _ => rfl, rfl, rfl, rfl, rfl⟩

theorem replyLeft_only (s : State) (i tid : Nat) : OnlySession i s (replyLeft s i tid) :=
  ⟨fun j hj => upd_get_other _ i j _ hj, rfl, rfl, rfl, rfl⟩

/-- Whether a module reset's reply is the one lost with the session (R468), only that session changes. -/
theorem resetReplyLost_only (s : State) (i : Nat) :
    OnlySession i s (match s.vtp.resetReply with | some (j, tid) => if j = i then replyLeft s j tid else s | none => s) := by
  split
  · split
    · next h => subst h; exact replyLeft_only s _ _
    · exact .refl i s
  · exact .refl i s

/-- The end of a session's reports (R406) is no change of a session. -/
theorem reportsEnd_only (s : State) (i : Nat) :
    OnlySession i s (if s.evq.enable && s.evq.session = i then { s with evq := { s.evq with enable := false } } else s) := by
  split
  · exact ⟨fun _ _ => rfl, rfl, rfl, rfl, rfl⟩
  · exact .refl i s

theorem closeSession_only (s : State) (i : Nat) : OnlySession i s (closeSession s i) :=
  (discardReplies_only s i).trans ((resetReplyLost_only _ i).trans ((setSess_only _ i _).trans (reportsEnd_only _ i)))

theorem openSession_only (s : State) (i port peer : Nat) (ipv6 : Bool) : OnlySession i s (openSession s i port peer ipv6) := setSess_only s i _

/-- A changed session that stands in the list is the change of some session. -/
theorem setSess_get {s : State} {i : Nat} {f : Session → Session} {x : Session} (h : (setSess s i f).vtp.sessions[i]? = some x) :
    ∃ y, f y = x := by
  have hmap : s.vtp.sessions[i]?.map f = some x := (upd_get_same _ i f).symm.trans h
  obtain ⟨y, -, hy⟩ := Option.map_eq_some_iff.mp hmap
  exact ⟨y, hy⟩

/-- A closed session is closed (R454). -/
theorem closeSession_closed {s : State} {i : Nat} {x : Session} (h : (closeSession s i).vtp.sessions[i]? = some x) : x.state = .closed := by
  unfold closeSession at h
  extract_lets discarded lost closed at h
  have hclosed : closed.vtp.sessions[i]? = some x := by
    split at h <;> exact h
  obtain ⟨y, rfl⟩ := setSess_get hclosed
  rfl

/-- The state with SRV_EN high: the port is back at 115,200 baud, and SRV_TXD is driven once the module is up (R91, R455). -/
def srvEnHigh (s : State) : State :=
  { s with pins := { s.pins with srvEn := true, srvTxd := if moduleUp s then .high else s.pins.srvTxd },
           vtp := { s.vtp with baud := 0, baudAt := none } }

/-- The state with SRV_EN low and SRV_TXD floating (R91). -/
def srvEnLow (s : State) : State := { s with pins := { s.pins with srvEn := false, srvTxd := .zPu } }

/-- Session 3 is given up to the service session (R456). -/
def sessionFreed (s : State) : State := if (sess s 3).state = .open_ then closeSession s 3 else s

theorem sessionFreed_only (s : State) : OnlySession 3 s (sessionFreed s) := by
  unfold sessionFreed
  split
  · exact closeSession_only s 3
  · exact .refl 3 s

/-- SRV_EN opens the service session only while the module is up. -/
theorem srvEnRise_eq (s : State) :
    srvEnRise s = if !moduleUp s then srvEnHigh s else openSession (sessionFreed (srvEnHigh s)) 3 2 0 false := rfl

theorem srvEnRise_down {s : State} (h : moduleUp s = false) : srvEnRise s = srvEnHigh s := by
  rw [srvEnRise_eq, h]; rfl

theorem srvEnRise_up {s : State} (h : moduleUp s = true) : srvEnRise s = openSession (sessionFreed (srvEnHigh s)) 3 2 0 false := by
  rw [srvEnRise_eq, h]; rfl

theorem srvEnRise_only (s : State) : OnlySession 3 (srvEnHigh s) (srvEnRise s) := by
  cases h : moduleUp s with
  | false => rw [srvEnRise_down h]; exact .refl 3 _
  | true => rw [srvEnRise_up h]; exact (sessionFreed_only _).trans (openSession_only _ 3 2 0 false)

/-- The service session opens empty (R456). -/
theorem srvEnRise_session {s : State} {x : Session} (h : moduleUp s = true) (hx : (srvEnRise s).vtp.sessions[3]? = some x) :
    x.state = .open_ ∧ x.port = 2 ∧ x.kept = [] ∧ x.outstanding = [] ∧ x.opened = s.tim.cyc := by
  rw [srvEnRise_up h] at hx
  obtain ⟨y, rfl⟩ := setSess_get hx
  exact ⟨rfl, rfl, rfl, rfl, congrArg TimState.cyc (sessionFreed_only (srvEnHigh s)).tim⟩

/-- SRV_EN low closes session 3 only if the service session is open in it (R91). -/
theorem srvEnFall_eq (s : State) :
    srvEnFall s = if (sess s 3).state = .open_ && (sess s 3).port = 2 then closeSession (srvEnLow s) 3 else srvEnLow s := rfl

theorem srvEnFall_only (s : State) : OnlySession 3 (srvEnLow s) (srvEnFall s) := by
  rw [srvEnFall_eq]
  split
  · exact closeSession_only _ 3
  · exact .refl 3 _

/-- No service session outlives SRV_EN: an open one is closed, and any other open session 3 is a DTLS session (R91). -/
theorem srvEnFall_session {s : State} {x : Session} (hx : (srvEnFall s).vtp.sessions[3]? = some x) (hopen : x.state = .open_) : x.port ≠ 2 := by
  rw [srvEnFall_eq] at hx
  split at hx
  · rw [closeSession_closed hx] at hopen; cases hopen
  · next hno =>
    have hget : s.vtp.sessions[3]? = some x := hx
    have hsess : sess s 3 = x := by simp [sess, nth, List.getD, hget]
    simpa [hsess, hopen] using hno

/-- Time waited for has been reached. -/
theorem advanceCyc_reaches (s : State) (cyc : Nat) : cyc ≤ (advanceCyc s cyc).tim.cyc := by
  unfold advanceCyc
  split
  · rw [passCycles_tim]; dsimp only; omega
  · omega

theorem advanceCyc_vtp (s : State) (cyc : Nat) : (advanceCyc s cyc).vtp = s.vtp :=
  KeepsAllBut.vtp (m := offTim) (advanceCyc_keeps offTim rfl s cyc) rfl

/-- The service port back at its first rate (R455). -/
def baudStart (s : State) : State := { s with vtp := { s.vtp with baud := 0, baudAt := none } }

theorem baudStart_vtp (s : State) : (baudStart s).vtp = { s.vtp with baud := 0, baudAt := none } := rfl

theorem baudStart_tim (s : State) : (baudStart s).tim = s.tim := rfl

theorem baudRevert_pending {s : State} {at_ : Nat} (h : s.vtp.baudAt = some at_) :
    baudRevert s = baudStart (advanceCyc s (at_ + secCyc 2)) := by
  simp only [baudRevert, h, baudStart]

theorem baudRevert_vtp {s : State} {at_ : Nat} (h : s.vtp.baudAt = some at_) :
    (baudRevert s).vtp = { s.vtp with baud := 0, baudAt := none } := by
  rw [baudRevert_pending h, baudStart_vtp, advanceCyc_vtp]

theorem baudRevert_waits {s : State} {at_ : Nat} (h : s.vtp.baudAt = some at_) : at_ + secCyc 2 ≤ (baudRevert s).tim.cyc := by
  rw [baudRevert_pending h, baudStart_tim]
  exact advanceCyc_reaches s _

theorem serviceDropped_down {s : State} (h : s.pins.srvEn = false) : serviceDropped s = s := by
  simp [serviceDropped, h]

theorem serviceDropped_up {s : State} (hen : s.pins.srvEn = true) (hup : moduleUp s = true) :
    serviceDropped s = { s with vtp := { s.vtp with srvDropped := satAdd 16 s.vtp.srvDropped 1 } } := by
  simp [serviceDropped, hen, hup]

/-- Settles O47: an edge of SRV_EN changes no session but session 3, which a rise opens anew and a fall closes; the rate returns once its 2 s have
passed; a dropped frame counts only while the port is enabled. -/
theorem theServicePortFollowsItsPin : Obligations.TheServicePortFollowsItsPin := by
  refine ⟨fun s => done_ran rfl ?rise, fun s => done_ran rfl ?fall, fun s at_ hat => done_ran rfl ?revert,
    fun s hen => done_ran rfl ?ignored, fun s hen hup => done_ran rfl ?counted⟩
  case rise =>
    have honly := srvEnRise_only s
    refine ⟨congrArg Pins.srvEn honly.pins, honly.baud, honly.baudAt, fun hup => ⟨?_, honly.others, fun x => srvEnRise_session hup⟩⟩
    exact (congrArg (·.srvTxd) honly.pins).trans (if_pos hup)
  case fall =>
    have honly := srvEnFall_only s
    exact ⟨congrArg Pins.srvEn honly.pins, congrArg (·.srvTxd) honly.pins, honly.others, fun x => srvEnFall_session⟩
  case revert => exact ⟨baudRevert_vtp hat, baudRevert_waits hat⟩
  case ignored => rw [serviceDropped_down hen]
  case counted => rw [serviceDropped_up hen hup]

end Sys2Proof.Machine
end

section
/-! The calendar's registers (R356 to R358): what a capture, a staging write and a commit leave in RTC, by WRITE and by READ. -/
namespace Sys2Proof.Machine

/-! A request changes RTC only where it is served. -/

theorem meets_rtc (s : State) (q : VtpReq) : (meets s q).rtc = s.rtc := (meets_keeps s q).rtc rfl

theorem meets_tim (s : State) (q : VtpReq) : (meets s q).tim = s.tim := (meets_keeps s q).tim rfl

theorem answer_rtc (s : State) (q : VtpReq) (r : VtpReply) : (answer s q r).rtc = s.rtc :=
  KeepsAllBut.rtc (m := offReply) (answer_keeps offReply rfl rfl s q r) rfl

/-- A READ or WRITE that is admitted has its length in range (R459). -/
theorem Passes.lenOk {s : State} {q : VtpReq} {lenOk : Bool} {octets : Nat} (h : Passes s q lenOk octets) : lenOk = true := by
  have hadmit := h.admitted
  unfold admitErr at hadmit
  split at hadmit
  · cases hadmit
  · split at hadmit
    · cases hadmit
    · cases lenOk
      · simp at hadmit
      · rfl

theorem WriteOk.words_ne_nil {s : State} {m : VtpMeta} {n : Stn} {offset phy : Nat} {ws : List Word} (h : WriteOk s m n offset ws phy) :
    ws ≠ [] := by
  rintro rfl
  exact absurd h.1.lenOk (by simp)

/-- The registers a WRITE of some words takes, each with its word. -/
def wordsFrom (offset : Nat) (ws : List Word) : Words := (offsOf offset ws.length).zip ws

theorem wordsFrom_one (offset : Nat) (w : Word) : wordsFrom offset [w] = [(offset, w)] := rfl

theorem offsOf_succ (offset n : Nat) : offsOf offset (n + 1) = offset :: offsOf (offset + 4) n := by
  simp only [offsOf, List.range_succ_eq_map, List.map_cons, List.map_map, Nat.mul_zero, Nat.add_zero]
  congr 1
  refine List.map_congr_left fun i _ => ?_
  simp only [Function.comp_apply]
  omega

theorem wordsFrom_cons (offset : Nat) (w : Word) (ws : List Word) :
    wordsFrom offset (w :: ws) = (offset, w) :: wordsFrom (offset + 4) ws := by
  simp [wordsFrom, offsOf_succ]

/-- What a WRITE to RTC that is served whole leaves in RTC. -/
theorem vtpWrite_rtc {s : State} {m : VtpMeta} {offset phy : Nat} {ws : List Word} (h : WriteOk s m .rtc offset ws phy) :
    (vtpWrite s m Stn.rtc.idx offset ws phy).rtc =
      ((wordsFrom offset ws).foldl (actReg .rtc phy)
        ((wordsFrom offset ws).foldl (putReg .rtc m.session) (meets s (writeReq m .rtc offset ws)))).rtc := by
  rw [vtpWrite_ok h, answer_rtc, wordsFrom]

/-! Captures (R356). -/

theorem rtcCapture_rtc_congr {s t : State} (hrtc : t.rtc = s.rtc) (htim : t.tim = s.tim) : (rtcCapture t).rtc = (rtcCapture s).rtc := by
  simp only [rtcCapture, prescaler, hrtc, htim]

/-- What RTC holds after a capture (R356, R357). -/
theorem captured {s t : State} (h : t.rtc = (rtcCapture s).rtc) :
    t.rtc.snap = calRegs s.rtc.cal ∧ t.rtc.subsec = prescaler s ∧ t.rtc.snapValid = true ∧ t.rtc.cal = s.rtc.cal ∧
      t.rtc.stg = if s.rtc.stgDirty then s.rtc.stg else calRegs s.rtc.cal := by
  rw [h]
  exact ⟨rfl, rfl, rfl, rfl, rfl⟩

theorem vtpWrite_snap_rtc {s : State} {m : VtpMeta} {value : Word} {phy : Nat} (h : WriteOk s m .rtc 0xC [value] phy) :
    (vtpWrite s m Stn.rtc.idx 0xC [value] phy).rtc = (rtcCapture s).rtc := by
  rw [vtpWrite_rtc h, wordsFrom_one]
  exact rtcCapture_rtc_congr (meets_rtc s _) (meets_tim s _)

/-! Registers read one after the other (R460). -/

theorem readOne_rtc_other (n : Stn) (a : State × List Word) {off : Nat} (h : off ≠ 0x20) : (readOne n a off).1.rtc = a.1.rtc := by
  simp [readOne, h]

theorem foldl_readOne_rtc_other (n : Stn) {offs : List Nat} (h : ∀ off ∈ offs, off ≠ 0x20) (a : State × List Word) :
    (offs.foldl (readOne n) a).1.rtc = a.1.rtc := by
  induction offs generalizing a with
  | nil => rfl
  | cons off offs ih =>
    obtain ⟨hoff, hoffs⟩ := List.forall_mem_cons.mp h
    rw [List.foldl_cons, ih hoffs, readOne_rtc_other n a hoff]

theorem readOne_words (n : Stn) (a : State × List Word) (off : Nat) : ∃ w, (readOne n a off).2 = a.2 ++ [w] := ⟨_, rfl⟩

/-- Each register read adds its word behind those read before. -/
theorem foldl_readOne_words (n : Stn) (offs : List Nat) (a : State × List Word) :
    ∃ d, d.length = offs.length ∧ (offs.foldl (readOne n) a).2 = a.2 ++ d := by
  induction offs generalizing a with
  | nil => exact ⟨[], rfl, (List.append_nil _).symm⟩
  | cons off offs ih =>
    obtain ⟨d, hlen, hd⟩ := ih (readOne n a off)
    obtain ⟨w, hw⟩ := readOne_words n a off
    exact ⟨w :: d, congrArg (· + 1) hlen, by rw [List.foldl_cons, hd, hw, List.append_assoc]; rfl⟩

theorem regShown_rtcSec (s : State) : regShown s .rtc 0x20 = w32 (bcd s.rtc.cal.sec) := rfl

/-- A read of RTC_SEC captures, and shows the seconds it captures (R356). -/
theorem readOne_rtcSec_rtc (a : State × List Word) : (readOne .rtc a 0x20).1.rtc = (rtcCapture a.1).rtc := rfl

theorem readOne_rtcSec_word {s : State} (h : tget s.latch (latchKey .rtc 0x20) = none) (l : List Word) :
    (readOne .rtc (s, l) 0x20).2 = l ++ [w32 (bcd s.rtc.cal.sec)] := by
  have hlatch : tget (rtcCapture s).latch (latchKey .rtc 0x20) = none := h
  show l ++ [(tget (rtcCapture s).latch (latchKey .rtc 0x20)).getD (regShown (rtcCapture s) .rtc 0x20)] = _
  rw [hlatch, regShown_rtcSec]
  rfl

/-- The events of pairs that do not match leave RTC as the registers' reads leave it (R69). -/
theorem readRegs_rtc (s : State) (n : Stn) (offs : List Nat) : (readRegs s n offs).1.rtc = (offs.foldl (readOne n) (s, [])).1.rtc :=
  KeepsAllBut.rtc (m := { evq := true }) (foldl_keeps _ _ _ _ fun s _ => pairEvent_keeps _ rfl s _ _) rfl

theorem offsOf_above {offset words off : Nat} (h : off ∈ offsOf offset words) : offset ≤ off := by
  obtain ⟨i, -, rfl⟩ := List.mem_map.mp h
  exact Nat.le_add_right _ _

/-- Reads from RTC_SEC on capture once, at RTC_SEC (R356). -/
theorem readRegs_rtcSec_rtc (s : State) (words : Nat) : (readRegs s .rtc (offsOf 0x20 (words + 1))).1.rtc = (rtcCapture s).rtc := by
  rw [readRegs_rtc, offsOf_succ, List.foldl_cons, foldl_readOne_rtc_other, readOne_rtcSec_rtc]
  intro off hoff
  have := offsOf_above hoff
  omega

theorem readRegs_rtcSec_words {s : State} (h : tget s.latch (latchKey .rtc 0x20) = none) (words : Nat) :
    ∃ d, d.length = words ∧ (readRegs s .rtc (offsOf 0x20 (words + 1))).2 = w32 (bcd s.rtc.cal.sec) :: d := by
  obtain ⟨d, hlen, hd⟩ := foldl_readOne_words .rtc (offsOf 0x24 words) (readOne .rtc (s, []) 0x20)
  refine ⟨d, by simpa [offsOf] using hlen, ?_⟩
  rw [offsOf_succ]
  exact hd.trans (congrArg (· ++ d) (readOne_rtcSec_word h []))

/-! A READ that is served (R458, R460). -/

/-- The state in which a READ finds the registers. -/
def readsIn (s : State) (q : VtpReq) : State := whileServed q (meets s q)

theorem readsIn_keeps (s : State) (q : VtpReq) : KeepsAllBut offMeets s (readsIn s q) :=
  (whileServed_keeps offMeets rfl q _).trans (meets_keeps s q)

theorem readsIn_length (s : State) (q : VtpReq) : (readsIn s q).vtp.sessions.length = (meets s q).vtp.sessions.length := setSess_length _ _ _

/-- The request of a READ row. -/
def readReq (m : VtpMeta) (n : Stn) (offset words : Nat) : VtpReq := plainReq m 1 n.idx offset (4 * words) []

/-- How a READ is served while the module runs firmware. -/
theorem readServe_ok {s : State} (m : VtpMeta) (n : Stn) (offset words : Nat) (hmod : s.modp ≠ .recovery) :
    readServe (readReq m n offset words) s =
      (servedIn s (readReq m n offset words) (readRegs (whileServed (readReq m n offset words) s) n (offsOf offset words)).1,
        replyOf (readReq m n offset words) .ok (readRegs (whileServed (readReq m n offset words) s) n (offsOf offset words)).2) := by
  have hstn : Stn.ofIdx (readReq m n offset words).station = some n := ofIdx_idx n
  have hwords : (readReq m n offset words).length / 4 = words := Nat.mul_div_cancel_left words (by decide)
  unfold readServe
  rw [hstn, hwords]
  exact if_neg (by simp [hmod])

/-- The registers that a READ finds, read in ascending offset. -/
def readsOf (s : State) (m : VtpMeta) (n : Stn) (offset words : Nat) : State × List Word :=
  readRegs (readsIn s (readReq m n offset words)) n (offsOf offset words)

/-- What a READ that is served leaves. -/
theorem vtpRead_ok {s : State} {m : VtpMeta} {n : Stn} {offset words : Nat} (hpos : 1 ≤ words) (hmax : words ≤ 348) (hmod : s.modp ≠ .recovery)
    (h : Passes s (readReq m n offset words) true (4 * words)) :
    vtpRead s m n.idx offset (4 * words) =
      answer (servedIn (meets s (readReq m n offset words)) (readReq m n offset words) (readsOf s m n offset words).1)
        (readReq m n offset words) (replyOf (readReq m n offset words) .ok (readsOf s m n offset words).2) := by
  have hlen : (4 ≤ 4 * words && 4 * words ≤ 1392 && 4 * words % 4 = 0 : Bool) = true := by
    simp only [Bool.and_eq_true, decide_eq_true_eq]; omega
  have hrun : (meets s (readReq m n offset words)).modp ≠ .recovery := by rw [(meets_keeps s _).modp rfl]; exact hmod
  unfold vtpRead
  rw [← readReq, hlen, vtpServe_passes h, readServe_ok m n offset words hrun]
  rfl

theorem vtpRead_rtc {s : State} {m : VtpMeta} {n : Stn} {offset words : Nat} (hpos : 1 ≤ words) (hmax : words ≤ 348) (hmod : s.modp ≠ .recovery)
    (h : Passes s (readReq m n offset words) true (4 * words)) :
    (vtpRead s m n.idx offset (4 * words)).rtc = (readsOf s m n offset words).1.rtc := by
  rw [vtpRead_ok hpos hmax hmod h, answer_rtc]
  rfl

/-- Every part that the reads of a READ's registers may change. -/
abbrev offReads : Parts := { rtc := true, evq := true, latch := true }

theorem readsOf_vtp (s : State) (m : VtpMeta) (n : Stn) (offset words : Nat) :
    (readsOf s m n offset words).1.vtp = (readsIn s (readReq m n offset words)).vtp :=
  KeepsAllBut.vtp (m := offReads) (readRegs_keeps offReads n (fun _ => rfl) rfl rfl _ _) rfl

theorem vtpRead_replied {s : State} {m : VtpMeta} {n : Stn} {offset words : Nat} (hpos : 1 ≤ words) (hmax : words ≤ 348)
    (hmod : s.modp ≠ .recovery) (h : Passes s (readReq m n offset words) true (4 * words)) :
    Replied (vtpRead s m n.idx offset (4 * words)) (readReq m n offset words)
      (replyOf (readReq m n offset words) .ok (readsOf s m n offset words).2) := by
  rw [vtpRead_ok hpos hmax hmod h]
  refine replied_answer _ _ _ ?_
  have hlen : (servedIn (meets s (readReq m n offset words)) (readReq m n offset words) (readsOf s m n offset words).1).vtp.sessions.length =
      (meets s (readReq m n offset words)).vtp.sessions.length :=
    (setSess_length _ _ _).trans ((congrArg (·.sessions.length) (readsOf_vtp s m n offset words)).trans (readsIn_length s _))
  exact hlen ▸ meets_length s _ h.opened

theorem readsOf_rtcSec_rtc (s : State) (m : VtpMeta) {words : Nat} (hpos : 1 ≤ words) :
    (readsOf s m .rtc 0x20 words).1.rtc = (rtcCapture s).rtc := by
  obtain ⟨k, rfl⟩ := Nat.exists_eq_add_of_le' hpos
  have hkeeps := readsIn_keeps s (readReq m .rtc 0x20 (k + 1))
  exact (readRegs_rtcSec_rtc _ k).trans (rtcCapture_rtc_congr (hkeeps.rtc rfl) (hkeeps.tim rfl))

theorem readsOf_rtcSec_words {s : State} (m : VtpMeta) {words : Nat} (hpos : 1 ≤ words) (hlatch : tget s.latch (latchKey .rtc 0x20) = none) :
    ∃ d, d.length + 1 = words ∧ (readsOf s m .rtc 0x20 words).2 = w32 (bcd s.rtc.cal.sec) :: d := by
  obtain ⟨k, rfl⟩ := Nat.exists_eq_add_of_le' hpos
  have hkeeps := readsIn_keeps s (readReq m .rtc 0x20 (k + 1))
  obtain ⟨d, hlen, hd⟩ := readRegs_rtcSec_words (s := readsIn s (readReq m .rtc 0x20 (k + 1))) (by rw [hkeeps.latch rfl]; exact hlatch) k
  exact ⟨d, congrArg (· + 1) hlen, by rw [← hkeeps.rtc rfl]; exact hd⟩

/-! Staging writes (R357). -/

/-- No read shows a staging register. -/
theorem regShown_rtc_stg (s : State) (stg : List Nat) (offset : Nat) :
    regShown { s with rtc := { s.rtc with stg := stg } } .rtc offset = regShown s .rtc offset := rfl

/-- What staging register `field` takes of a word. -/
def stagedField (field : Nat) (w : Word) : Nat := if field = 7 then w.field 2 0 else w.field 7 0

/-- The staging registers from `field` on take words in turn. -/
def stageFrom (s : State) (field : Nat) : List Word → State
  | [] => s
  | w :: ws => stageFrom (stagingWrite s field (stagedField field w)) (field + 1) ws

theorem rtcPut_staging {off : Nat} (hlo : 0x20 ≤ off) (hhi : off < 0x40) (s : State) (w : Word) :
    rtcPut s off w = stagingWrite s ((off - 0x20) / 4) (if off = 0x3C then w.field 2 0 else w.field 7 0) := by
  unfold rtcPut
  rw [if_neg (by omega), if_neg (by omega), if_neg (by omega), if_pos (by simp [hlo, hhi])]

/-- The offsets from RTC_SEC to RTC_WDAY are those of the staging registers. -/
theorem putReg_staging {field : Nat} (h : field < 8) (session : Nat) (s : State) (w : Word) :
    putReg .rtc session s (0x20 + 4 * field, w) = stagingWrite s field (stagedField field w) := by
  have hindex : (0x20 + 4 * field - 0x20) / 4 = field := by omega
  have hweekday : 0x20 + 4 * field = 0x3C ↔ field = 7 := by omega
  refine (rtcPut_staging (by omega) (by omega) s w).trans ?_
  simp only [hindex, hweekday, stagedField]

theorem foldl_putReg_staging (session : Nat) (ws : List Word) (s : State) (field : Nat) (h : field + ws.length ≤ 8) :
    (wordsFrom (0x20 + 4 * field) ws).foldl (putReg .rtc session) s = stageFrom s field ws := by
  induction ws generalizing s field with
  | nil => rfl
  | cons w ws ih =>
    rw [List.length_cons] at h
    rw [wordsFrom_cons, List.foldl_cons, putReg_staging (by omega)]
    exact ih _ (field + 1) (by omega)

theorem actReg_rtc_other {off : Nat} (h : off ≠ 0x10) (phy : Nat) (s : State) (w : Word) : actReg .rtc phy s (off, w) = s := by
  simp [actReg, rtcAct, h]

/-- Words written behind RTC_COMMIT act on nothing. -/
theorem foldl_actReg_staging (phy : Nat) (ws : List Word) (s : State) {offset : Nat} (h : 0x10 < offset) :
    (wordsFrom offset ws).foldl (actReg .rtc phy) s = s := by
  induction ws generalizing offset with
  | nil => rfl
  | cons w ws ih => rw [wordsFrom_cons, List.foldl_cons, actReg_rtc_other (by omega), ih (by omega)]

theorem stageFrom_cal (s : State) (field : Nat) (ws : List Word) : (stageFrom s field ws).rtc.cal = s.rtc.cal := by
  induction ws generalizing s field with
  | nil => rfl
  | cons w ws ih => exact ih _ _

theorem stageFrom_length (s : State) (field : Nat) (ws : List Word) : (stageFrom s field ws).rtc.stg.length = s.rtc.stg.length := by
  induction ws generalizing s field with
  | nil => rfl
  | cons w ws ih => exact (ih _ _).trans (upd_length _ _ _)

theorem stageFrom_stays_dirty {s : State} (h : s.rtc.stgDirty = true) (field : Nat) (ws : List Word) :
    (stageFrom s field ws).rtc.stgDirty = true := by
  induction ws generalizing s field with
  | nil => exact h
  | cons w ws ih => exact ih rfl _

theorem stageFrom_dirty (s : State) (field : Nat) {ws : List Word} (h : ws ≠ []) : (stageFrom s field ws).rtc.stgDirty = true := by
  cases ws with
  | nil => exact absurd rfl h
  | cons w ws => exact stageFrom_stays_dirty rfl _ ws

theorem stageFrom_other (s : State) (field : Nat) (ws : List Word) {i : Nat} (h : i < field ∨ field + ws.length ≤ i) :
    (stageFrom s field ws).rtc.stg[i]? = s.rtc.stg[i]? := by
  induction ws generalizing s field with
  | nil => rfl
  | cons w ws ih =>
    rw [List.length_cons] at h
    exact (ih _ _ (by omega)).trans (upd_get_other _ _ _ _ (by omega))

theorem stageFrom_same {s : State} {field : Nat} {ws : List Word} {i : Nat} {w : Word} (hw : ws[i]? = some w) (hlen : field + i < s.rtc.stg.length) :
    (stageFrom s field ws).rtc.stg[field + i]? = some (stagedField (field + i) w) := by
  induction ws generalizing s field i with
  | nil => simp at hw
  | cons v ws ih =>
    cases i with
    | zero =>
      obtain rfl : v = w := by simpa using hw
      refine (stageFrom_other _ _ _ (Or.inl (Nat.lt_succ_self field))).trans ((upd_get_same _ _ _).trans ?_)
      exact congrArg _ (List.getElem?_eq_getElem hlen)
    | succ i =>
      have hlen' : field + 1 + i < (stagingWrite s field (stagedField field v)).rtc.stg.length := by
        simp only [stagingWrite, upd_length]; omega
      have hi : field + (i + 1) = field + 1 + i := by omega
      rw [hi]
      exact ih (by simpa using hw) hlen'

theorem vtpWrite_staging_rtc {s : State} {m : VtpMeta} {field phy : Nat} {ws : List Word} (hfield : field + ws.length ≤ 8)
    (h : WriteOk s m .rtc (0x20 + 4 * field) ws phy) :
    (vtpWrite s m Stn.rtc.idx (0x20 + 4 * field) ws phy).rtc = (stageFrom (meets s (writeReq m .rtc (0x20 + 4 * field) ws)) field ws).rtc := by
  rw [vtpWrite_rtc h, foldl_actReg_staging _ _ _ (by omega), foldl_putReg_staging _ _ _ _ hfield]

/-! Commits (R358). -/

theorem rtcCommitWord_bits (onSecond : Bool) : (rtcCommitWord onSecond).bit 0 = true ∧ (rtcCommitWord onSecond).bit 1 = onSecond := by
  cases onSecond <;> decide

theorem putReg_commit (session : Nat) (s : State) (w : Word) : putReg .rtc session s (0x10, w) = s := rfl

theorem actReg_commit (phy : Nat) (s : State) (onSecond : Bool) : actReg .rtc phy s (0x10, rtcCommitWord onSecond) = commitGo s onSecond := by
  obtain ⟨hgo, hsec⟩ := rtcCommitWord_bits onSecond
  simp [actReg, rtcAct, hgo, hsec]

theorem commitGo_rtc_congr {s t : State} (hrtc : t.rtc = s.rtc) (htim : t.tim = s.tim) (onSecond : Bool) :
    (commitGo t onSecond).rtc = (commitGo s onSecond).rtc := by
  simp only [commitGo, nowSec, nowNs, hrtc, htim]

theorem vtpWrite_commit_rtc {s : State} {m : VtpMeta} {onSecond : Bool} {phy : Nat} (h : WriteOk s m .rtc 0x10 [rtcCommitWord onSecond] phy) :
    (vtpWrite s m Stn.rtc.idx 0x10 [rtcCommitWord onSecond] phy).rtc = (commitGo s onSecond).rtc := by
  rw [vtpWrite_rtc h, wordsFrom_one, List.foldl_cons, List.foldl_nil, List.foldl_cons, List.foldl_nil, putReg_commit, actReg_commit]
  exact commitGo_rtc_congr (meets_rtc s _) (meets_tim s _) onSecond

/-- Settles O19: a snapshot and a read of RTC_SEC leave in RTC what one capture leaves, a staging write only its staged fields, and a commit only the
pending copy. -/
theorem calendarCommandsCaptureStageAndCommit : Obligations.CalendarCommandsCaptureStageAndCommit := by
  refine ⟨fun s m value h => done_ran rfl ?snap, fun s m words hpos hmax hmod hlatch h => done_ran rfl ?read, regShown_rtc_stg,
    fun s m field ws hfield h => done_ran rfl ?staging, fun s m onSecond h => done_ran rfl (vtpWrite_commit_rtc h)⟩
  case snap => exact captured (vtpWrite_snap_rtc h)
  case read =>
    obtain ⟨hsnap, hsubsec, hvalid, hcal, hstg⟩ := captured ((vtpRead_rtc hpos hmax hmod h).trans (readsOf_rtcSec_rtc s m hpos))
    obtain ⟨d, hlen, hd⟩ := readsOf_rtcSec_words m hpos hlatch
    exact ⟨hsnap, hsubsec, hvalid, hcal, hstg, d, hlen, hd ▸ vtpRead_replied hpos hmax hmod h⟩
  case staging =>
    have hmeets := meets_rtc s (writeReq m .rtc (0x20 + 4 * field) ws)
    dsimp only
    rw [vtpWrite_staging_rtc hfield h, ← hmeets]
    exact ⟨stageFrom_dirty _ _ h.words_ne_nil, stageFrom_cal _ _ _, stageFrom_length _ _ _,
      fun _ => stageFrom_other _ _ _, fun _ _ => stageFrom_same⟩

end Sys2Proof.Machine
end

section
/-! The machine as a whole (R20, R64, R101, R314): every command runs to a next state, touches only its parts and keeps the canonical form of main SRAM. -/
namespace Sys2Proof.Machine

/-! Every command runs. -/

theorem exec_ran (c : Instr) (s : State) : ∃ u, exec c s = ran s u := by
  cases c <;> exact ⟨_, rfl⟩

theorem step_empty {s : State} (h : s.pending = []) : step s = .next (idle s) := by
  simp [step, h]

theorem step_front {s : State} {c : Instr} {rest : List Instr} (h : s.pending = c :: rest) : step s = exec c { s with pending := rest } := by
  simp [step, h]

theorem idle_eq (s : State) : idle s = { s with tim := { s.tim with sub := s.tim.sub + addend s, cyc := s.tim.cyc + 1 } } := by
  rw [idle, passCycles, Nat.one_mul]

/-- Settles O1: the reading of `step` on a queue that has a front command. -/
theorem stepRunsTheFrontCommand : Obligations.StepRunsTheFrontCommand := fun _ _ _ => step_front

/-- Settles O2: with an empty queue `step` idles, and idling is one cycle passed. -/
theorem emptyQueuePassesOneCycle : Obligations.EmptyQueuePassesOneCycle := fun s hqueue =>
  (step_empty hqueue).trans (congrArg _ (idle_eq s))

/-- Settles O3: every arm of `exec` is a run. -/
theorem everyCommandAnswersANextState : Obligations.EveryCommandAnswersANextState := by
  intro c s
  obtain ⟨u, hu⟩ := exec_ran c s
  exact ⟨_, hu⟩

/-! Resets of the module: what they keep, and that they clear main SRAM (R101). -/

theorem masked_all_iff {s t : State} : masked Parts.all t = masked Parts.all s ↔ t.ahead = s.ahead ∧ t.pending = s.pending := by
  simp [masked]

theorem masked_allAhead_iff {s t : State} :
    masked { Parts.all with ahead := true } t = masked { Parts.all with ahead := true } s ↔ t.pending = s.pending := by
  simp [masked]

theorem afterReset_all (s : State) (wake : Bool) : masked Parts.all (afterReset s wake) = masked Parts.all s :=
  masked_all_iff.mpr ⟨rfl, rfl⟩

@[simp] theorem startModule_all (s : State) (cause detail : Nat) (wake : Bool) :
    masked Parts.all (startModule s cause detail wake) = masked Parts.all s := by
  unfold startModule
  simp [afterReset_all]

@[simp] theorem bootRetry_all (s : State) : masked Parts.all (bootRetry s) = masked Parts.all s := by
  unfold bootRetry
  split <;> simp

/-- The module held in reset by a bank that is not valid (R77). -/
def heldReset (s : State) : State :=
  { afterReset s false with modp := .held, sys := {}, pwr := { (afterReset s false).pwr with state := .off } }

@[simp] theorem heldReset_all (s : State) : masked Parts.all (heldReset s) = masked Parts.all s := masked_all_iff.mpr ⟨rfl, rfl⟩

/-- The banks as the PMU measures them at its own reset (R76). -/
def banksMeasured (s : State) : State := { s with bankA := bankLevel s.ahead.bankA, bankB := bankLevel s.ahead.bankB }

theorem pmuReset_eq (s : State) (cause : Nat) :
    pmuReset s cause =
      if bankLevel s.ahead.bankA = .notValid || bankLevel s.ahead.bankB = .notValid then heldReset (easyTimed (banksMeasured s))
      else startModule (banksMeasured s) cause 0 false := rfl

theorem bankNotValid_eq {s : State} {bankB : Bool} {a b : Nat} (lost : Bool) (h : bankLevel (if bankB then b else a) = .notValid) :
    bankNotValid s bankB a b lost = heldReset (supplied s a b lost) := if_neg (not_not_intro h)

theorem bankNotValid_ignored {s : State} {bankB : Bool} {a b : Nat} (lost : Bool) (h : bankLevel (if bankB then b else a) ≠ .notValid) :
    bankNotValid s bankB a b lost = s := if_pos h

@[simp] theorem pmuReset_all (s : State) (cause : Nat) : masked Parts.all (pmuReset s cause) = masked Parts.all s := by
  rw [pmuReset_eq]
  split <;> simp [banksMeasured]

@[simp] theorem guardReset_all (s : State) : masked Parts.all (guardReset s) = masked Parts.all s := startModule_all _ _ _ _

@[simp] theorem powerOnReset_all (s : State) (a b : Nat) (lost : Bool) : masked Parts.all (powerOnReset s a b lost) = masked Parts.all s := by
  unfold powerOnReset
  split
  · rfl
  · simp

theorem bankNotValid_all (s : State) (bankB : Bool) (a b : Nat) (lost : Bool) :
    masked Parts.all (bankNotValid s bankB a b lost) = masked Parts.all s := by
  by_cases h : bankLevel (if bankB then b else a) = .notValid
  · rw [bankNotValid_eq lost h]; simp
  · rw [bankNotValid_ignored lost h]

theorem bankFault_all (s : State) (bankB : Bool) : masked Parts.all (bankFault s bankB) = masked Parts.all s := by
  unfold bankFault
  split <;> simp

theorem resetN_all (s : State) : masked Parts.all (resetN s) = masked Parts.all s := by
  unfold resetN
  split <;> simp

theorem tcxoFailure_all (s : State) : masked Parts.all (tcxoFailure s) = masked Parts.all s := by
  unfold tcxoFailure
  split <;> simp

theorem watchdog_all (s : State) : masked Parts.all (watchdog s) = masked Parts.all s := by
  unfold watchdog
  split <;> simp

theorem steadyTmo_all (s : State) : masked Parts.all (steadyTmo s) = masked Parts.all s := by
  unfold steadyTmo
  split <;> simp

theorem moduleReset_all (s : State) : masked Parts.all (moduleReset s) = masked Parts.all s := by
  unfold moduleReset
  split <;> simp

theorem wakeStepReady_all (s : State) (us : Nat) : masked Parts.all (wakeStepReady s us) = masked Parts.all s := by
  unfold wakeStepReady
  dsimp only
  (repeat' split) <;> simp

theorem wakeStepTimeout_all (s : State) : masked Parts.all (wakeStepTimeout s) = masked Parts.all s := by
  unfold wakeStepTimeout
  dsimp only
  (repeat' split) <;> simp

theorem brownout_all (s : State) : masked Parts.all (brownout s) = masked Parts.all s := by
  unfold brownout
  (repeat' split) <;> simp

/-! The stroke's own rows, which may reset the module too. -/

theorem guardUe_all (s : State) (src : Nat) (bad : List Nat) (owner : Option Stn) (w : Nat) :
    masked Parts.all (guardUe s src bad owner w) = masked Parts.all s := by
  unfold guardUe
  dsimp only
  (repeat' split) <;> simp

@[simp] theorem guardRead_all (s : State) (src : Nat) (bad : List Nat) (owner : Option Stn) (w : Nat) :
    masked Parts.all (guardRead s src bad owner w) = masked Parts.all s := by
  unfold guardRead
  dsimp only
  (repeat' split) <;> simp [guardUe_all]

@[simp] theorem scrub_all (s : State) (bad : List Nat) (owner : Option Stn) : masked Parts.all (scrub s bad owner) = masked Parts.all s := by
  unfold scrub
  split <;> simp

@[simp] theorem guardHits_all (s : State) (l : List GuardHit) : masked Parts.all (guardHits s l) = masked Parts.all s := by
  unfold guardHits
  refine foldl_keeps _ _ _ _ fun s h => ?_
  split
  · rfl
  · rw [guardRead_all]; split <;> simp

@[simp] theorem recoveryWork_all (s : State) (hits : List GuardHit) (bad : List Nat) (owner : Option Stn) (temps : List (Option Int)) :
    masked Parts.all (recoveryWork s hits bad owner temps) = masked Parts.all s := by
  unfold recoveryWork
  extract_lets floors nbrs sensors reports rings dist
  rw [scrub_all, guardHits_all]
  simp [dist, rings, reports, sensors, nbrs, floors, apply_ite (masked Parts.all)]

theorem finishNow_all (s : State) (hits : List GuardHit) (bad : List Nat) (owner : Option Stn) (temps : List (Option Int)) :
    masked Parts.all (finishNow s hits bad owner temps) = masked Parts.all s := by
  unfold finishNow
  extract_lets done lgt published counted
  rw [recoveryWork_all, setPhase_keeps _ rfl]
  simp [counted, published, apply_ite (masked Parts.all)]

theorem finish_all (s : State) (hits : List GuardHit) (bad : List Nat) (owner : Option Stn) (temps : List (Option Int)) :
    masked Parts.all (finish s hits bad owner temps) = masked Parts.all s := by
  unfold finish
  split
  · exact (finishNow_all _ _ _ _ _).trans (advanceTo_keeps _ rfl _ _)
  · rfl

theorem imageReset_some {s t : State} (h : imageReset s = some t) :
    ∃ u, masked Parts.all u = masked Parts.all s ∧ t = startModule u 0x09 0 false := by
  unfold imageReset at h
  split at h
  · split at h
    · cases h
    · extract_lets r at h
      split at h
      · exact ⟨r.1, by simp [r, apply_ite (masked Parts.all)], (Option.some.inj h).symm⟩
      · cases h
  · cases h

theorem imageReset_all {s t : State} (h : imageReset s = some t) : masked Parts.all t = masked Parts.all s := by
  obtain ⟨u, hu, ht⟩ := imageReset_some h
  rw [ht, startModule_all, hu]

theorem strokeBoundary_all (s : State) (x : List (List (Int × Int))) (j : Int) :
    masked Parts.all (strokeBoundary s x j) = masked Parts.all s := by
  unfold strokeBoundary boundaryAt resetOrBegin
  split
  · split
    · next h => rw [imageReset_all h]; simp
    · simp
  · rfl

/-! The frame of every command. -/

theorem ran_keeps {m : Parts} {s u t : State} (hp : m.pending = false) (hk : masked m u = masked m s) (h : ran s u = .next t) :
    KeepsAllBut m s t := by
  have hpend : u.pending = s.pending := KeepsAllBut.pending (m := m) hk hp
  rw [ran_eq h, ← hpend]
  exact hk

theorem finishRow_keeps (s : State) (hits : List GuardHit) (word : Scrubbed) (temps : List (Option Int)) (ahead : Ahead) :
    masked { Parts.all with ahead := true } (bootRetry (finish { s with ahead := ahead } hits word.bad word.owner temps)) =
      masked { Parts.all with ahead := true } s :=
  masked_allAhead_iff.mpr (masked_all_iff.mp ((bootRetry_all _).trans (finish_all { s with ahead := ahead } _ _ _ _))).2

theorem powerOnRow_keeps (s : State) (a b : Nat) (lost : Bool) (ahead : Ahead) :
    masked { Parts.all with ahead := true } (bootRetry (powerOnReset { s with ahead := ahead } a b lost)) =
      masked { Parts.all with ahead := true } s :=
  masked_allAhead_iff.mpr (masked_all_iff.mp ((bootRetry_all _).trans (powerOnReset_all { s with ahead := ahead } _ _ _))).2

theorem vtpRead_touches (s : State) (m : VtpMeta) (station offset length : Nat) :
    masked (touches (.read m station offset length)) (vtpRead s m station offset length) = masked (touches (.read m station offset length)) s :=
  vtpRead_keeps _ rfl rfl rfl rfl _ (fun _ => rfl) (fun _ => rfl) (fun _ => rfl) (fun _ => rfl) s m offset length

theorem vtpWrite_touches (s : State) (m : VtpMeta) (station offset : Nat) (ws : List Word) (phy : Nat) :
    masked (touches (.write m station offset ws phy)) (vtpWrite s m station offset ws phy) =
      masked (touches (.write m station offset ws phy)) s := by
  refine vtpWrite_keeps_any _ rfl rfl rfl rfl rfl _ ?_ ?_ ?_ _ _ _ _ _ <;> intros <;> simp [touches]

/-- Settles O4: every arm of `exec` runs an operation whose own frame lies within the parts that `touches` lists. -/
theorem commandsTouchOnlyTheirParts : Obligations.CommandsTouchOnlyTheirParts := by
  intro c s t h
  cases c
  case strokeBoundary => exact ran_keeps rfl ((bootRetry_all _).trans (strokeBoundary_all _ _ _)) h
  case finish => exact ran_keeps rfl (finishRow_keeps _ _ _ _ _) h
  case powerOnReset => exact ran_keeps rfl (powerOnRow_keeps _ _ _ _ _) h
  case tcxoFailure => exact ran_keeps rfl ((bootRetry_all _).trans (tcxoFailure_all _)) h
  case bankNotValid => exact ran_keeps rfl (bankNotValid_all _ _ _ _ _) h
  case bankFault => exact ran_keeps rfl ((bootRetry_all _).trans (bankFault_all _ _)) h
  case resetN => exact ran_keeps rfl ((bootRetry_all _).trans (resetN_all _)) h
  case brownout => exact ran_keeps rfl ((bootRetry_all _).trans (brownout_all _)) h
  case watchdog => exact ran_keeps rfl ((bootRetry_all _).trans (watchdog_all _)) h
  case steadyTmo => exact ran_keeps rfl ((bootRetry_all _).trans (steadyTmo_all _)) h
  case wakeStepReady => exact ran_keeps rfl ((bootRetry_all _).trans (wakeStepReady_all _ _)) h
  case wakeStepTimeout => exact ran_keeps rfl ((bootRetry_all _).trans (wakeStepTimeout_all _)) h
  case moduleReset => exact ran_keeps rfl ((bootRetry_all _).trans (moduleReset_all _)) h
  case read => exact ran_keeps rfl (vtpRead_touches _ _ _ _ _) h
  case write => exact ran_keeps rfl (vtpWrite_touches _ _ _ _ _ _) h
  all_goals
    refine ran_keeps rfl ?_ h
    simp [touches]

/-! Main SRAM keeps its canonical form: what writes runs of octets keeps it, a module reset clears it, and everything else leaves main SRAM alone. -/

/-- Every part but main SRAM. -/
abbrev offMem : Parts := { Parts.all with mem := false, ahead := true, pending := true }

theorem mem_of_keeps {s t : State} (h : masked offMem t = masked offMem s) : t.mem = s.mem := KeepsAllBut.mem (m := offMem) h rfl

theorem memCanonical.of_mem {s t : State} (hs : memCanonical s) (h : t.mem = s.mem) : memCanonical t := by
  unfold memCanonical
  rw [h]
  exact hs

theorem memCanonical.of_keeps {s t : State} (hs : memCanonical s) (h : masked offMem t = masked offMem s) : memCanonical t :=
  hs.of_mem (mem_of_keeps h)

theorem memCanonical_of_clear {s : State} (h : s.mem = []) : memCanonical s := by
  unfold memCanonical
  rw [h]
  rfl

theorem memCanonical_foldl {α : Type} {f : State → α → State} (hf : ∀ s a, memCanonical s → memCanonical (f s a)) {s : State}
    (hs : memCanonical s) (l : List α) : memCanonical (l.foldl f s) := by
  induction l generalizing s with
  | nil => exact hs
  | cons a l ih => exact ih (hf s a hs)

/-- Settles O6: main SRAM is empty at reset. -/
theorem sramIsCanonicalAtReset : Obligations.SramIsCanonicalAtReset := memCanonical_of_clear rfl

theorem putBits_canonical {s : State} (hs : memCanonical s) (w : Nat) (d : BitVec 256) : memCanonical (putBits s w d) :=
  memWf_memWriteAll _ _ _ hs

theorem putFree_canonical {s : State} (hs : memCanonical s) (w : Nat) : memCanonical (putFree s w) :=
  putBits_canonical (s := { s with free := s.free + 32 }) hs w _

/-! Resets of the module (R101). -/

theorem startModule_mem (s : State) (cause detail : Nat) (wake : Bool) : (startModule s cause detail wake).mem = [] := by
  refine (mem_of_keeps (s := afterReset (easyTimed s) wake) ?_).trans rfl
  unfold startModule
  simp

theorem startModule_canonical (s : State) (cause detail : Nat) (wake : Bool) : memCanonical (startModule s cause detail wake) :=
  memCanonical_of_clear (startModule_mem s cause detail wake)

theorem heldReset_canonical (s : State) : memCanonical (heldReset s) := memCanonical_of_clear rfl

theorem bootRetry_canonical {s : State} (hs : memCanonical s) : memCanonical (bootRetry s) := by
  unfold bootRetry
  split
  · exact startModule_canonical _ _ _ _
  · exact hs

theorem pmuReset_canonical (s : State) (cause : Nat) : memCanonical (pmuReset s cause) := by
  rw [pmuReset_eq]
  split
  · exact heldReset_canonical _
  · exact startModule_canonical _ _ _ _

theorem powerOnReset_canonical {s : State} (hs : memCanonical s) (a b : Nat) (lost : Bool) : memCanonical (powerOnReset s a b lost) := by
  unfold powerOnReset
  split
  · exact hs
  · exact startModule_canonical _ _ _ _

theorem bankNotValid_canonical {s : State} (hs : memCanonical s) (bankB : Bool) (a b : Nat) (lost : Bool) :
    memCanonical (bankNotValid s bankB a b lost) := by
  by_cases h : bankLevel (if bankB then b else a) = .notValid
  · rw [bankNotValid_eq lost h]; exact heldReset_canonical _
  · rw [bankNotValid_ignored lost h]; exact hs

theorem bankFault_canonical {s : State} (hs : memCanonical s) (bankB : Bool) : memCanonical (bankFault s bankB) := by
  unfold bankFault
  split
  · exact startModule_canonical _ _ _ _
  · exact hs

theorem resetN_canonical {s : State} (hs : memCanonical s) : memCanonical (resetN s) := by
  unfold resetN
  split
  · exact hs
  · exact startModule_canonical _ _ _ _

theorem tcxoFailure_canonical {s : State} (hs : memCanonical s) : memCanonical (tcxoFailure s) := by
  unfold tcxoFailure
  split
  · exact startModule_canonical _ _ _ _
  · exact hs

theorem watchdog_canonical {s : State} (hs : memCanonical s) : memCanonical (watchdog s) := by
  unfold watchdog
  split
  · exact startModule_canonical _ _ _ _
  · exact hs

theorem steadyTmo_canonical {s : State} (hs : memCanonical s) : memCanonical (steadyTmo s) := by
  unfold steadyTmo
  split
  · exact startModule_canonical _ _ _ _
  · exact hs

theorem moduleReset_canonical {s : State} (hs : memCanonical s) : memCanonical (moduleReset s) := by
  unfold moduleReset
  split
  · exact startModule_canonical _ _ _ _
  · exact hs

theorem brownout_canonical {s : State} (hs : memCanonical s) : memCanonical (brownout s) := by
  unfold brownout
  split
  · exact startModule_canonical _ _ _ _
  · split
    · split <;> exact pmuReset_canonical _ _
    · exact hs

theorem wakeStepReady_canonical {s : State} (hs : memCanonical s) (us : Nat) : memCanonical (wakeStepReady s us) := by
  unfold wakeStepReady
  split
  · split
    · exact hs
    · extract_lets waited stepped noted
      split
      · exact hs.of_keeps (by simp [stepped, waited])
      · exact startModule_canonical _ _ _ _
  · exact hs

theorem wakeStepTimeout_canonical {s : State} (hs : memCanonical s) : memCanonical (wakeStepTimeout s) := by
  unfold wakeStepTimeout
  split
  · split
    · exact hs
    · extract_lets +onlyGivenNames t waited stepped
      split
      · exact pmuReset_canonical _ _
      · exact hs.of_keeps (by simp [stepped, waited])
  · exact hs

/-! Guard-code errors of main SRAM (R63 to R65). -/

theorem guardReset_canonical (s : State) : memCanonical (guardReset s) := startModule_canonical _ _ _ _

theorem guardEvent_canonical {s : State} (hs : memCanonical s) (g : GuardLast) : memCanonical (guardEvent s g) := hs.of_keeps (by simp)

theorem guardUe_canonical {s : State} (hs : memCanonical s) (src : Nat) (bad : List Nat) (owner : Option Stn) (w : Nat) :
    memCanonical (guardUe s src bad owner w) := by
  unfold guardUe
  split
  · split
    · exact hs.of_keeps (by simp)
    · split
      · exact guardReset_canonical s
      · exact (putBits_canonical hs w (damaged (wordBits s.mem w) bad)).of_keeps (by simp)
  · split
    · exact hs
    · exact putBits_canonical hs w 0

theorem guardRead_canonical {s : State} (hs : memCanonical s) (src : Nat) (bad : List Nat) (owner : Option Stn) (w : Nat) :
    memCanonical (guardRead s src bad owner w) := by
  unfold guardRead
  dsimp only
  split
  · split
    · exact guardEvent_canonical hs _
    · split
      · exact guardUe_canonical (guardEvent_canonical hs _) _ _ _ _
      · have hdrawn : memCanonical (drawn s) := hs
        have hcorrected (g : GuardLast) : memCanonical (guardEvent (drawn (drawn s)) g) := guardEvent_canonical (by exact hs) g
        split
        · split
          · exact hdrawn
          · exact putBits_canonical hdrawn w _
        · split
          · split
            · exact hcorrected _
            · exact putFree_canonical (hcorrected _) w
          · exact guardUe_canonical (guardEvent_canonical hdrawn _) _ _ _ _
  · exact hs

theorem scrub_canonical {s : State} (hs : memCanonical s) (bad : List Nat) (owner : Option Stn) : memCanonical (scrub s bad owner) := by
  unfold scrub
  split
  · exact hs
  · exact guardRead_canonical (by exact hs) _ _ _ _

theorem guardHits_canonical {s : State} (hs : memCanonical s) (l : List GuardHit) : memCanonical (guardHits s l) := by
  unfold guardHits
  refine memCanonical_foldl (fun s h hs => ?_) hs l
  split
  · exact hs
  · refine guardRead_canonical ?_ _ _ _ _
    split
    · exact hs.of_keeps (by simp)
    · exact hs

theorem recoveryWork_canonical {s : State} (hs : memCanonical s) (hits : List GuardHit) (bad : List Nat) (owner : Option Stn)
    (temps : List (Option Int)) : memCanonical (recoveryWork s hits bad owner temps) := by
  unfold recoveryWork
  extract_lets floors nbrs sensors reports rings dist
  refine scrub_canonical (guardHits_canonical (hs.of_keeps ?_) hits) bad owner
  simp [dist, rings, reports, sensors, nbrs, floors, apply_ite (masked offMem)]

theorem finish_canonical {s : State} (hs : memCanonical s) (hits : List GuardHit) (bad : List Nat) (owner : Option Stn)
    (temps : List (Option Int)) : memCanonical (finish s hits bad owner temps) := by
  unfold finish finishNow
  split
  · extract_lets done lgt published counted
    refine recoveryWork_canonical (hs.of_keeps ?_) _ _ _ _
    rw [setPhase_keeps _ rfl]
    simp [counted, published, apply_ite (masked offMem)]
  · exact hs

theorem imageReset_canonical {s t : State} (h : imageReset s = some t) : memCanonical t := by
  obtain ⟨u, -, ht⟩ := imageReset_some h
  rw [ht]
  exact startModule_canonical _ _ _ _

theorem strokeBoundary_canonical {s : State} (hs : memCanonical s) (x : List (List (Int × Int))) (j : Int) :
    memCanonical (strokeBoundary s x j) := by
  unfold strokeBoundary boundaryAt resetOrBegin
  split
  · split
    · next h => exact imageReset_canonical h
    · exact hs.of_keeps (by simp)
  · exact hs

/-! Resets of stations (R64). -/

theorem putFrees_canonical {s : State} (hs : memCanonical s) (l : List (Stn × Nat)) :
    memCanonical (l.foldl (fun s x => putFree s x.2) s) := by
  have hput (s : State) (x : Stn × Nat) (h : memCanonical s) : memCanonical (putFree s x.2) := putFree_canonical h x.2
  exact memCanonical_foldl hput hs l

theorem rewriteWords_canonical {s : State} (hs : memCanonical s) (n : Stn) : memCanonical (rewriteWords s n) := by
  unfold rewriteWords
  have hwritten := putFrees_canonical hs (s.sys.badWords.filter fun x => x.1 = n)
  generalize (s.sys.badWords.filter fun x => x.1 = n).foldl (fun s x => putFree s x.2) s = written at hwritten
  exact hwritten.of_mem rfl

/-- What a station's reset does after it has rewritten the damaged words leaves main SRAM alone. -/
theorem resetStation_canonical {s : State} (hs : memCanonical s) (n : Stn) (c : StnCause) : memCanonical (resetStation s n c) := by
  unfold resetStation
  extract_lets +onlyGivenNames lost rewritten
  have hrewritten : memCanonical rewritten := rewriteWords_canonical (hs.of_keeps (by simp [lost])) n
  clear_value rewritten
  refine hrewritten.of_keeps ?_
  cases n <;> simp [apply_ite (masked offMem)]

theorem stationResetStart_canonical {s : State} (hs : memCanonical s) : memCanonical (stationResetStart s) := by
  unfold stationResetStart
  split
  · extract_lets +onlyGivenNames _ taken running reset loading
    have hreset : memCanonical reset := resetStation_canonical (hs.of_keeps (by simp [running, taken])) _ _
    exact hreset.of_keeps (by simp [loading, apply_ite (masked offMem)])
  · exact hs

theorem pllLost_canonical {s : State} (hs : memCanonical s) (c : ClockSrc) : memCanonical (pllLost s c) := by
  unfold pllLost
  split
  · exact hs
  · refine memCanonical_foldl (fun s n hs => ?_) (by exact hs) _
    split
    · exact hs
    · extract_lets +onlyGivenNames fresh left reset held marked
      have hleft : memCanonical left := hs.of_keeps (by simp [left])
      have hreset : memCanonical reset := by
        simp only [reset]
        split
        · exact resetStation_canonical (hleft.of_keeps (by simp)) _ _
        · exact hleft
      exact hreset.of_keeps (by simp [marked, held, apply_ite (masked offMem)])

theorem pllLoss_canonical {s : State} (hs : memCanonical s) (c : ClockSrc) : memCanonical (pllLoss s c) := by
  unfold pllLoss
  split
  · exact hs
  · exact (pllLost_canonical hs c).of_keeps (by simp)

/-! Descriptors and buffers of Ethernet frames (R314, R315). -/

theorem writeTxDescs_canonical {s : State} (hs : memCanonical s) (p tq : Nat) (f : TxFrame) : memCanonical (writeTxDescs s p tq f) :=
  memCanonical_foldl (f := fun s k => writeTxDesc s p tq f k) (fun _ _ h => memWf_memWriteAll _ _ _ h) hs _

theorem startFrame_canonical {s : State} (hs : memCanonical s) (p tq : Nat) (f : TxFrame) (at_ : Nat) :
    memCanonical (startFrame s p tq f at_) := by
  unfold startFrame
  extract_lets waited size mp r left
  have hdescs : memCanonical (writeTxDescs waited p tq f) := writeTxDescs_canonical (hs.of_keeps (by simp [waited])) _ _ _
  exact hdescs.of_keeps (by simp [left, r])

theorem startNext_canonical {s : State} (hs : memCanonical s) (p at_ : Nat) : memCanonical (startNext s p at_) := by
  unfold startNext
  extract_lets waited e
  have hwaited : memCanonical waited := hs.of_keeps (by simp [waited])
  split
  · exact startFrame_canonical hwaited _ _ _ _
  · split
    · exact hwaited.of_mem rfl
    · split
      · exact startFrame_canonical hwaited _ _ _ _
      · exact hwaited

theorem preempt_canonical {s : State} (hs : memCanonical s) (p : Nat) (x : Sending) (at_ : Nat) (f : TxFrame) :
    memCanonical (preempt s p x at_ f) := startFrame_canonical (hs.of_keeps (by simp)) _ _ _ _

theorem ethTransmit_canonical {s : State} (hs : memCanonical s) (p : Nat) : memCanonical (ethTransmit s p) := by
  unfold ethTransmit
  extract_lets e
  split
  · exact hs
  · split
    · exact startNext_canonical hs _ _
    · split
      · exact preempt_canonical hs _ _ _ _
      · exact startNext_canonical (hs.of_keeps (by simp)) _ _

theorem creditAboveZero_canonical {s : State} (hs : memCanonical s) (p : Nat) : memCanonical (creditAboveZero s p) := by
  unfold creditAboveZero
  extract_lets e need waited
  have hwaited : memCanonical waited := hs.of_keeps (by simp [waited])
  split
  · exact hwaited
  · exact ethTransmit_canonical hwaited p

theorem commitFrame_canonical {s : State} (hs : memCanonical s) (p q rule : Nat) (o : List Byte) (pre fwd : Bool) :
    memCanonical (commitFrame s p q rule o pre fwd) := by
  unfold commitFrame
  extract_lets +onlyGivenNames size ring n written
  have hwritten : memCanonical written :=
    memCanonical_foldl (f := fun s k => writeBuffer s p q size ring.head n rule o pre fwd k)
      (fun _ _ h => memWf_memWriteAll _ _ _ (memWf_memWriteAll _ _ _ h)) hs _
  exact hwritten.of_keeps (by simp)

theorem receiveTo_canonical {s : State} (hs : memCanonical s) (p : Nat) (r : Option (Nat × EthRule)) (o : List Byte) (fcsOk pre fwd : Bool) :
    memCanonical (receiveTo s p r o fcsOk pre fwd) := by
  unfold receiveTo
  extract_lets q size ring len pol
  have hpol : memCanonical pol.1 := hs.of_keeps (by simp [pol])
  split
  · exact hs.of_keeps (by simp)
  · split
    · exact hs.of_keeps (by simp)
    · split
      · exact hs.of_keeps (by simp)
      · split
        · exact hs.of_keeps (by simp)
        · split
          · exact hpol
          · exact (commitFrame_canonical hpol p q _ o pre fwd).of_keeps (stackIn_keeps offMem rfl rfl _ p o)

theorem frameIn_canonical {s : State} (hs : memCanonical s) (p : Nat) (o : List Byte) (fcsOk pre : Bool) :
    memCanonical (frameIn s p o fcsOk pre) := by
  unfold frameIn
  split
  · exact hs.of_keeps (by simp)
  · split
    · exact hs.of_keeps (by simp)
    · extract_lets tc forwarded r act fwd own src hit good sent judged
      have hforwarded : memCanonical forwarded := by
        have hmatch : ∀ x : Option Nat, memCanonical (match x with | some t => tcForward s p o t | none => s) := fun
          | some t => hs.of_keeps (by simp)
          | none => hs
        exact hmatch tc
      have hhit : memCanonical hit := by
        have hmatch : ∀ x : Option (Nat × EthRule), memCanonical (match x with
            | some (i, _) => { forwarded with eth := { forwarded.eth with hits := bump forwarded.eth.hits i } }
            | none => forwarded) := fun
          | some _ => hforwarded
          | none => hforwarded
        exact hmatch r
      have hjudged : memCanonical judged := by
        simp only [judged, sent]
        split
        · exact hhit.of_keeps (by simp)
        · exact hhit
      split
      · split
        · exact hforwarded
        · exact hforwarded.of_keeps (by simp)
      · split
        · exact hjudged.of_keeps (by simp)
        · split
          · exact hjudged
          · split
            · split
              · exact hjudged
              · exact hjudged.of_keeps (by simp)
            · exact receiveTo_canonical hjudged _ _ _ _ _ _

theorem assyTake_canonical {s : State} (hs : memCanonical s) (p smd frag : Nat) (o : List Byte) (last crcOk : Bool) :
    memCanonical (assyTake s p smd frag o last crcOk) := by
  unfold assyTake
  split
  · exact hs.of_keeps (by simp)
  · split
    · exact frameIn_canonical (hs.of_keeps (setPort_keeps offMem rfl _ _ _)) _ _ _ _
    · exact hs.of_mem rfl

theorem ethReceive_canonical {s : State} (hs : memCanonical s) (p : Nat) (x : EthRx) : memCanonical (ethReceive s p x) := by
  unfold ethReceive
  split
  · exact hs
  · cases x with
    | badSmd => exact hs.of_keeps (by simp)
    | verify => exact hs.of_mem rfl
    | respond => exact hs.of_mem rfl
    | frame o f => exact frameIn_canonical hs _ _ _ _
    | mStart smd o last crcOk =>
      refine assyTake_canonical ?_ _ _ _ _ _ _
      split
      · exact hs.of_keeps (by simp)
      · exact hs
    | mCont smd frag o last crcOk =>
      show memCanonical (mPacketCont _ _ _ _ _ _ _)
      unfold mPacketCont
      split
      · exact hs.of_keeps (by simp)
      · split
        · exact assyTake_canonical hs _ _ _ _ _ _
        · exact hs.of_keeps (by simp)

/-! Every command and every step. -/

theorem memCanonical_ran {s u t : State} (hu : memCanonical u) (h : ran s u = .next t) : memCanonical t := by
  rw [ran_eq h]
  exact hu

theorem exec_canonical {c : Instr} {s t : State} (hs : memCanonical s) (h : exec c s = .next t) : memCanonical t := by
  by_cases hmem : (touches c).mem = false
  · exact hs.of_mem ((commandsTouchOnlyTheirParts c s t h).mem hmem)
  · cases c
    case strokeBoundary => exact memCanonical_ran (bootRetry_canonical (strokeBoundary_canonical hs _ _)) h
    case finish => exact memCanonical_ran (bootRetry_canonical (finish_canonical (by exact hs) _ _ _ _)) h
    case powerOnReset => exact memCanonical_ran (bootRetry_canonical (powerOnReset_canonical (by exact hs) _ _ _)) h
    case tcxoFailure => exact memCanonical_ran (bootRetry_canonical (tcxoFailure_canonical hs)) h
    case bankNotValid => exact memCanonical_ran (bankNotValid_canonical hs _ _ _ _) h
    case bankFault => exact memCanonical_ran (bootRetry_canonical (bankFault_canonical hs _)) h
    case resetN => exact memCanonical_ran (bootRetry_canonical (resetN_canonical hs)) h
    case brownout => exact memCanonical_ran (bootRetry_canonical (brownout_canonical hs)) h
    case watchdog => exact memCanonical_ran (bootRetry_canonical (watchdog_canonical hs)) h
    case steadyTmo => exact memCanonical_ran (bootRetry_canonical (steadyTmo_canonical hs)) h
    case wakeStepReady => exact memCanonical_ran (bootRetry_canonical (wakeStepReady_canonical hs _)) h
    case wakeStepTimeout => exact memCanonical_ran (bootRetry_canonical (wakeStepTimeout_canonical hs)) h
    case moduleReset => exact memCanonical_ran (bootRetry_canonical (moduleReset_canonical hs)) h
    case stationResetStart => exact memCanonical_ran (stationResetStart_canonical hs) h
    case pllLockLoss => exact memCanonical_ran (pllLoss_canonical hs _) h
    case ethFrameReceive => exact memCanonical_ran (ethReceive_canonical hs _ _) h
    case ethTransmit => exact memCanonical_ran (ethTransmit_canonical hs _) h
    case expressCreditAboveZero => exact memCanonical_ran (creditAboveZero_canonical hs _) h
    all_goals exact absurd rfl hmem

/-- Settles O5: an idle step leaves main SRAM alone, and of the commands each that may change it writes runs of octets or clears it. -/
theorem sramStaysCanonical : Obligations.SramStaysCanonical := by
  intro s t hs h
  cases hqueue : s.pending with
  | nil =>
    rw [step_empty hqueue] at h
    obtain rfl : idle s = t := by simpa using h
    exact hs.of_mem rfl
  | cons c rest =>
    rw [step_front hqueue] at h
    exact exec_canonical (by exact hs) h

end Sys2Proof.Machine
end

section
/-! The calendar (R351 to R365): its seconds, commits, compensation and checks. -/
namespace Sys2Proof.Machine

/-! What leaves RTC alone. -/

/-- Every part but RTC. -/
abbrev offRtc : Parts := { Parts.all with rtc := false, ahead := true, pending := true }

theorem rtc_of_keeps {s t : State} (h : masked offRtc t = masked offRtc s) : t.rtc = s.rtc := KeepsAllBut.rtc (m := offRtc) h rfl

/-- What a second edge sets: the reading, the wrap after 2399, the repeated second and the announced leap second (R352 to R355). -/
def reading (s : State) : Cal × Bool × Bool × Nat := (s.rtc.cal, s.rtc.epochWrap, s.rtc.rep, s.rtc.leap)

/-- The alarms set nothing but their flags (R365). -/
theorem alarmCheck_rtc (s : State) :
    (alarmCheck s).rtc = { s.rtc with alm0 := s.rtc.alm0 || alarmMatches s.rtc.alarm0 s.rtc.cal,
                                      alm1 := s.rtc.alm1 || alarmMatches s.rtc.alarm1 s.rtc.cal } := by
  unfold alarmCheck
  extract_lets m0 m1 _ marked first
  have hkeeps : (if m1 then alarmEvent first 1 else first).rtc = marked.rtc :=
    rtc_of_keeps (by simp [first, apply_ite (masked offRtc)])
  exact hkeeps

theorem alarmCheck_reading (s : State) : reading (alarmCheck s) = reading s := by
  simp only [reading, alarmCheck_rtc]

/-- A stamp sets nothing of the reading (R363). -/
theorem stampPhase_reading (s : State) (skip : Bool) : reading (stampPhase s skip) = reading s := by
  unfold stampPhase
  split
  · rfl
  · split <;> rfl

theorem secondEnds_rtc (s : State) : (secondEnds s).rtc = (secondEnd s).rtc := by
  unfold secondEnds
  extract_lets ended wakes
  split
  · exact rtc_of_keeps (startWake_keeps offRtc rfl rfl ended 2 0)
  · rfl

theorem secondEnd_commit {s : State} {c : Commit} (h : commitHere s = some c) : secondEnd s = commitSets s c := by
  simp only [secondEnd, h]

theorem secondEnd_rollover {s : State} (h : commitHere s = none) : secondEnd s = rollover s := by
  simp only [secondEnd, h]

/-! The second's end (R352 to R355). -/

/-- An inserted leap second shows the last second of the month again (R355). -/
def leapHolds (r : RtcState) : Bool := r.leap = 1 && lastMinute r.cal && r.cal.sec = 59 && !r.rep

/-- A deleted leap second leaves out the last second of the month (R355). -/
def leapSkips (r : RtcState) : Bool := r.leap = 2 && lastMinute r.cal && r.cal.sec = 58

/-- The announced leap second is over with this edge (R355). -/
def leapOver (r : RtcState) : Bool := leapSkips r || (r.leap = 1 && lastMinute r.cal && r.cal.sec = 59)

/-- The reading a second edge leads to, and whether it wraps. -/
def rolled (r : RtcState) : Cal × Bool :=
  if leapHolds r then (r.cal, false) else if leapSkips r then nextDay r.cal else nextSecond r.cal

theorem rollover_reading (s : State) :
    reading (rollover s) =
      ((rolled s.rtc).1, s.rtc.epochWrap || (rolled s.rtc).2, leapHolds s.rtc,
        if leapOver s.rtc && !leapHolds s.rtc then 0 else s.rtc.leap) := by
  unfold rollover
  extract_lets r hold skip ends next j edge stamped
  have hstamped : reading stamped = reading edge := stampPhase_reading edge _
  split
  · exact hstamped
  · exact (alarmCheck_reading stamped).trans hstamped

theorem rolled_plain {r : RtcState} (h : r.leap = 0) : rolled r = nextSecond r.cal := by
  simp [rolled, leapHolds, leapSkips, h]

/-- In the last minute of a month the second after 59 begins the next day. -/
theorem nextSecond_of_lastMinute {c : Cal} (hlast : lastMinute c = true) (hsec : c.sec = 59) : nextSecond c = nextDay c := by
  simp only [lastMinute, Bool.and_eq_true, decide_eq_true_eq] at hlast
  obtain ⟨⟨-, hhour⟩, hmin⟩ := hlast
  simp [nextSecond, hsec, hmin, hhour]

theorem monthLen_pos (y m : Nat) : 1 ≤ monthLen y m := by
  unfold monthLen
  split
  · split <;> omega
  · omega
  · omega
  · omega
  · omega
  · omega

theorem nextDay_legal {c : Cal} (h : calLegal c) : calLegal (nextDay c).1 := by
  obtain ⟨-, -, -, hday, hlen, hmonth, hmonth', hyear, hyear', -⟩ := h
  have hw : (c.wday + 1) % 7 < 7 := Nat.mod_lt _ (by omega)
  unfold nextDay
  split
  · exact ⟨by simp, by simp, by simp, by simp, by dsimp; omega, hmonth, hmonth', hyear, hyear', hw⟩
  split
  · exact ⟨by simp, by simp, by simp, by simp, monthLen_pos _ _, by simp, by dsimp; omega, hyear, hyear', hw⟩
  split
  · exact ⟨by simp, by simp, by simp, by simp, monthLen_pos _ _, by simp, by simp, by dsimp; omega, by dsimp; omega, hw⟩
  · exact ⟨by simp, by simp, by simp, by simp, monthLen_pos _ _, by simp, by simp, by simp, by simp, hw⟩

theorem nextSecond_legal {c : Cal} (h : calLegal c) : calLegal (nextSecond c).1 := by
  have hday := nextDay_legal h
  obtain ⟨hsec, hmin, hhour, hdate⟩ := h
  unfold nextSecond
  split
  · exact ⟨by dsimp; omega, hmin, hhour, hdate⟩
  split
  · exact ⟨by simp, by dsimp; omega, hhour, hdate⟩
  split
  · exact ⟨by simp, by simp, by dsimp; omega, hdate⟩
  · exact hday

theorem rolled_legal {r : RtcState} (h : calLegal r.cal) : calLegal (rolled r).1 := by
  unfold rolled
  split
  · exact h
  split
  · exact nextDay_legal h
  · exact nextSecond_legal h

/-- The last second of R351's range is followed by its first (R354). -/
theorem nextSecond_wrap {c : Cal}
    (h : c.year = 2399 ∧ c.month = 12 ∧ c.day = 31 ∧ c.hour = 23 ∧ c.min = 59 ∧ c.sec = 59) :
    nextSecond c = ({ sec := 0, min := 0, hour := 0, day := 1, month := 1, year := 2000, wday := (c.wday + 1) % 7 }, true) := by
  obtain ⟨hyear, hmonth, hday, hhour, hmin, hsec⟩ := h
  simp [nextSecond, nextDay, monthLen, hyear, hmonth, hday, hhour, hmin, hsec]

/-- Settles O33: without a commit the edge rolls the reading over, and `rolled` has the leap seconds; R353's wrap is a computation. -/
theorem calendarCountsSeconds : Obligations.CalendarCountsSeconds := by
  refine ⟨fun s hlegal hno => done_ran rfl ?_, fun c _ hlast => by rw [nextSecond_wrap hlast]; exact ⟨rfl, rfl⟩⟩
  have hread := (congrArg (fun r => (r.cal, r.epochWrap, r.rep, r.leap)) (secondEnds_rtc s)).trans
    ((congrArg reading (secondEnd_rollover hno)).trans (rollover_reading s))
  simp only [Prod.mk.injEq] at hread
  obtain ⟨hcal, hwrap, hrep, hleap⟩ := hread
  rw [hcal, hwrap, hrep, hleap]
  refine ⟨rolled_legal hlegal, fun h0 => ?plain, fun h1 hlast hsec => ⟨fun hrep => ?held, fun hrep => ?repeated⟩, fun h2 hlast hsec => ?skipped⟩
  case plain => rw [rolled_plain h0]; exact ⟨rfl, rfl⟩
  case held => simp [rolled, leapHolds, h1, hlast, hsec, hrep]
  case repeated => simp [rolled, leapHolds, leapSkips, leapOver, h1, hlast, hsec, hrep, nextSecond_of_lastMinute hlast hsec]
  case skipped => simp [rolled, leapHolds, leapSkips, leapOver, h2, hlast, hsec]

/-! Commits and oscillator stops (R358 to R360). -/

theorem commitSets_rtc (s : State) (c : Commit) :
    (commitSets s c).rtc.cal = c.cal ∧ (commitSets s c).rtc.osf = false ∧ (commitSets s c).rtc.commit = none ∧
      (commitSets s c).rtc.stg = s.rtc.stg := by
  unfold commitSets
  rw [alarmCheck_rtc]
  exact ⟨rfl, rfl, rfl, rfl⟩

theorem commitApply_eq {s : State} {c : Commit} (h : s.rtc.commit = some c) :
    commitApply s = commitSets (if c.onSecond then advanceTo s c.at_ else s) c := by
  simp only [commitApply, h]

/-- The calendar's reading, and whether its time is lost (R360). -/
def calendar (s : State) : Cal × Bool := (s.rtc.cal, s.rtc.osf)

theorem calendar_of_keeps {s t : State} (h : masked offRtc t = masked offRtc s) : calendar t = calendar s := by
  rw [calendar, rtc_of_keeps h, calendar]

/-- Firmware takes the ageing offset from its stores and leaves the calendar (R363). -/
theorem firmwareUp_calendar (s : State) (active : Nat) : calendar (firmwareUp s active) = calendar s := by
  unfold firmwareUp
  extract_lets loading counted aged rig loaded held
  have hcounted : calendar counted = calendar loading := calendar_of_keeps (by simp [counted])
  have hheld : calendar held = calendar aged := calendar_of_keeps (by simp [held, loaded, rig, apply_ite (masked offRtc)])
  have haged : calendar aged = calendar counted := rfl
  exact (calendar_of_keeps (wakeEvents_keeps offRtc rfl rfl held)).trans (hheld.trans (haged.trans hcounted))

theorem bootOn_calendar (s : State) (c : BootChoice) (rig : Nat) : calendar (bootOn s c rig) = calendar s := by
  unfold bootOn
  split
  · exact calendar_of_keeps (serviceOpen_keeps offRtc rfl rfl _)
  · exact (calendar_of_keeps (serviceOpen_keeps offRtc rfl rfl _)).trans (firmwareUp_calendar s rig)

theorem afterReset_calendar (s : State) (wake : Bool) : calendar (afterReset s wake) = calendar s := rfl

/-- A start leaves the calendar and OSF (R36, R497). -/
theorem startModule_calendar (s : State) (cause detail : Nat) (wake : Bool) : calendar (startModule s cause detail wake) = calendar s := by
  unfold startModule
  extract_lets b c
  have hreset : calendar b = calendar (afterReset (easyTimed s) wake) := calendar_of_keeps (flashReset_keeps offRtc rfl rfl rfl _)
  have htimed : calendar (easyTimed s) = calendar s := calendar_of_keeps (easyTimed_keeps offRtc rfl rfl s)
  have hbooted : calendar (bootRecord (writeCount b c.count true) b c cause detail) = calendar b := calendar_of_keeps (by simp)
  rw [bootOn_calendar, hbooted, hreset, afterReset_calendar, htimed]

theorem bootRetry_calendar (s : State) : calendar (bootRetry s) = calendar s := by
  unfold bootRetry
  split
  · exact startModule_calendar s _ _ _
  · rfl

/-- The reading at which a calendar starts, with OSF set (R360). -/
abbrev calendarNew : Cal × Bool := ({ sec := 0, min := 0, hour := 0, day := 1, month := 1, year := 2000, wday := 0 }, true)

theorem supplied_calendar {s : State} (a b : Nat) (lost : Bool) (hvbat : s.pins.vbat = false) : calendar (supplied s a b lost) = calendarNew := by
  unfold supplied vaonUp
  rw [if_neg (by simp [hvbat])]
  rfl

theorem powerOnReset_valid {s : State} {a b : Nat} (lost : Bool) (ha : bankLevel a ≠ .notValid) (hb : bankLevel b ≠ .notValid) :
    powerOnReset s a b lost = startModule (supplied s a b lost) (porCause s).1 (porCause s).2 false := if_neg (by simp [ha, hb])

theorem powerOnReset_calendar {s : State} {a b : Nat} (lost : Bool) (hvbat : s.pins.vbat = false) (ha : bankLevel a ≠ .notValid)
    (hb : bankLevel b ≠ .notValid) : calendar (bootRetry (powerOnReset s a b lost)) = calendarNew := by
  rw [bootRetry_calendar, powerOnReset_valid lost ha hb, startModule_calendar, supplied_calendar a b lost hvbat]

/-- Settles O34: a commit sets what it carries, by itself or at the second's edge; what starts the calendar or sets OSF says so itself, and the start
that follows a power-up leaves it. -/
theorem commitsAndStopsSetTheCalendar : Obligations.CommitsAndStopsSetTheCalendar := by
  refine ⟨fun s c hc => done_ran rfl ?applied, fun s c hc => done_ran rfl ?edge, fun s => done_ran rfl ⟨rfl, rfl, rfl⟩,
    fun s a b lost ahead hvbat ha hb => done_ran rfl ?powered, fun s => done_ran rfl rfl, fun s hoff => done_ran rfl ?low⟩
  case applied =>
    rw [commitApply_eq hc]
    obtain ⟨hcal, hosf, hcommit, hstg⟩ := commitSets_rtc (if c.onSecond then advanceTo s c.at_ else s) c
    refine ⟨hcal, hosf, hcommit, hstg.trans ?_⟩
    split
    · exact congrArg RtcState.stg (rtc_of_keeps (by simp))
    · rfl
  case edge =>
    rw [secondEnds_rtc, secondEnd_commit hc]
    exact commitSets_rtc s c
  case powered => exact Prod.mk.inj (powerOnReset_calendar (s := { s with ahead := ahead }) lost hvbat ha hb)
  case low => rw [vbatLow, if_pos hoff]; rfl

end Sys2Proof.Machine
end

section
/-! Network time (R327 to R350, R361 to R364): compensation, ageing, saves, the start of time, the selection of a master, compare and capture units. -/
namespace Sys2Proof.Machine

/-- A command that keeps the queue completes in the very state its operation leaves. -/
theorem done_of {c : Instr} {s u : State} {P : State → Prop} (h : exec c s = ran s u) (hpending : u.pending = s.pending) (hP : P u) : Done c s P :=
  done_ran h (by rw [← hpending]; exact hP)

/-! Compensation, ageing and saves (R340, R361, R363, R364). -/

theorem le_clampI (lo hi v : Int) : lo ≤ clampI lo hi v := Int.le_max_left _ _

theorem clampI_le {lo hi : Int} (h : lo ≤ hi) (v : Int) : clampI lo hi v ≤ hi := Int.max_le.mpr ⟨h, Int.min_le_right _ _⟩

/-- A write to the ledger that does not fail is made (R58). -/
theorem ledgerWrite_ok {s : State} {w : Stn} (h : w ∉ s.ledBad) (f : State → State) : ledgerWrite s w f = (f s, true) :=
  if_neg (by simpa using h)

theorem compWindow_bounds (s : State) (temp : Int) : -480 ≤ (compWindow s temp).rtc.n ∧ (compWindow s temp).rtc.n ≤ 480 :=
  ⟨le_clampI _ _ _, clampI_le (by decide) _⟩

/-- The ageing offset at the end of a window (R363). -/
def agingNext (g a b : Int) (n : Nat) : Int := clampI (-255) 255 (g + clampI (-5) 5 (rdiv ((b - a) * 10) (2 * (n + 1))))

theorem agingNext_bounds (g a b : Int) (n : Nat) : -255 ≤ agingNext g a b n ∧ agingNext g a b n ≤ 255 :=
  ⟨le_clampI _ _ _, clampI_le (by decide) _⟩

/-- Within its range the offset moves by at most 0.5 ppm. -/
theorem agingNext_step {g : Int} (hlo : -255 ≤ g) (hhi : g ≤ 255) (a b : Int) (n : Nat) :
    g - 5 ≤ agingNext g a b n ∧ agingNext g a b n ≤ g + 5 := by
  have hge := le_clampI (-5) 5 (rdiv ((b - a) * 10) (2 * (n + 1)))
  have hle := clampI_le (lo := -5) (hi := 5) (by decide) (rdiv ((b - a) * 10) (2 * (n + 1)))
  unfold agingNext
  rw [clampI]
  omega

theorem agingUpdate_eq {s : State} {a b : Int} {n : Nat} (h : s.rtc.phases = some (a, b, n + 1)) :
    agingUpdate s = agingSave { s with rtc := { s.rtc with phases := none } } (agingNext s.rtc.aging a b n) := by
  simp only [agingUpdate, h, agingNext]

/-- What an ageing save leaves in RTC and the AON store, whether its ledger write fails or not. -/
theorem agingSave_sets (s : State) (g : Int) :
    (agingSave s g).rtc.aging = g ∧ (agingSave s g).aon.aging = some g ∧ (agingSave s g).rtc.phases = s.rtc.phases := by
  unfold agingSave ledgerWrite
  split <;> exact ⟨rfl, rfl, rfl⟩

theorem calendarCheck_commits {s : State} (hlearn : learnCond s = true) (hopen : checkBarred s = false)
    (hosf : s.rtc.osf = true) :
    calendarCheck s = commitUtc { s with rtc := { s.rtc with checkOwed := false } } := by
  simp [calendarCheck, hlearn, hopen, hosf]

theorem commitUtc_rtc {s : State} (hnone : s.rtc.commit = none) :
    (commitUtc s).rtc.commit = some { cal := calOf (utcSec s + 1), onSecond := true, at_ := (nowSec s + 1) * giga } ∧
      (commitUtc s).rtc.cal = s.rtc.cal := by
  simp [commitUtc, hnone]

/-- Time waited for takes nothing from TIM but its counts. -/
theorem advanceCyc_tim (s : State) (cyc : Nat) :
    ∃ sub cyc', (advanceCyc s cyc).tim = { s.tim with sub := sub, cyc := cyc' } := by
  unfold advanceCyc
  split
  · exact ⟨_, _, rfl⟩
  · exact ⟨s.tim.sub, s.tim.cyc, rfl⟩

theorem advanceCyc_ledBad (s : State) (cyc : Nat) : (advanceCyc s cyc).ledBad = s.ledBad :=
  KeepsAllBut.ledBad (m := offTim) (advanceCyc_keeps offTim rfl s cyc) rfl

theorem timSaved_ok {s : State} (h : .tim ∉ s.ledBad) : timSaved s = timSave s := congrArg Prod.fst (ledgerWrite_ok h timSave)

theorem timSave_savedAt (s : State) (at_ : Nat) : timSave { s with tim := { s.tim with savedAt := at_ } } = timSave s := rfl

theorem timSaved_after {s : State} (hgood : .tim ∉ s.ledBad) (cyc : Nat) :
    timSaved { advanceCyc s cyc with tim := { (advanceCyc s cyc).tim with savedAt := (advanceCyc s cyc).tim.cyc } } = timSave (advanceCyc s cyc) := by
  have hbad : (advanceCyc s cyc).ledBad = s.ledBad := advanceCyc_ledBad s _
  generalize advanceCyc s cyc = u at hbad ⊢
  rw [timSaved_ok (hbad.symm ▸ hgood), timSave_savedAt]

/-- TIM saves 60 s after its last save (R340). -/
theorem timeSave_eq {s : State} (hset : s.tim.set = true) (hrun : isRunning s .tim = true) (hgood : .tim ∉ s.ledBad) :
    timeSave s = timSave (advanceCyc s (s.tim.savedAt + secCyc 60)) :=
  (if_neg (by simp [hset, hrun])).trans (timSaved_after hgood _)

theorem timSave_sets (s : State) :
    (timSave s).led.tim = some ⟨nowSec (timSave s), s.tim.freq, s.tim.taiUtc⟩ ∧ (timSave s).tim.savedAt = s.tim.cyc ∧
      (timSave s).tim.cyc = s.tim.cyc := ⟨rfl, rfl, rfl⟩

theorem timSave_after {s u : State} (hreach : s.tim.savedAt + secCyc 60 ≤ u.tim.cyc)
    (htim : ∃ sub cyc, u.tim = { s.tim with sub := sub, cyc := cyc }) :
    (timSave u).led.tim = some ⟨nowSec (timSave u), s.tim.freq, s.tim.taiUtc⟩ ∧ s.tim.savedAt + secCyc 60 ≤ (timSave u).tim.savedAt ∧
      (timSave u).tim.savedAt = (timSave u).tim.cyc := by
  obtain ⟨sub, cyc, htim⟩ := htim
  obtain ⟨hled, hat, hcyc⟩ := timSave_sets u
  rw [hled, hat, hcyc, htim]
  exact ⟨rfl, Nat.le_trans hreach (Nat.le_of_eq (congrArg TimState.cyc htim)), rfl⟩

theorem timeSave_saves {s : State} (hset : s.tim.set = true) (hrun : isRunning s .tim = true) (hgood : .tim ∉ s.ledBad) :
    (timeSave s).led.tim = some ⟨nowSec (timeSave s), s.tim.freq, s.tim.taiUtc⟩ ∧ s.tim.savedAt + secCyc 60 ≤ (timeSave s).tim.savedAt ∧
      (timeSave s).tim.savedAt = (timeSave s).tim.cyc := by
  rw [timeSave_eq hset hrun hgood]
  exact timSave_after (advanceCyc_reaches s _) (advanceCyc_tim s _)

theorem timeSave_pending (s : State) : (timeSave s).pending = s.pending :=
  KeepsAllBut.pending (m := touches .timeSave) (timeSave_keeps _ rfl rfl rfl s) rfl

/-- Settles O35: the bounds are those of the clamps; the check's commit and TIM's save are what each writes. -/
theorem compensationStaysWithinItsBounds : Obligations.CompensationStaysWithinItsBounds := by
  refine ⟨fun s temp => done_ran rfl ⟨rfl, (compWindow_bounds s temp).1, (compWindow_bounds s temp).2, rfl, rfl⟩,
    fun s a b n hphases hlo hhi => done_ran rfl ?aged, fun s hlearn hopen hnone hosf => done_ran rfl ?checked,
    fun s hset hrun hgood => done_of rfl (timeSave_pending s) (timeSave_saves hset hrun hgood)⟩
  case aged =>
    rw [agingUpdate_eq hphases]
    obtain ⟨haging, haon, hwindow⟩ := agingSave_sets { s with rtc := { s.rtc with phases := none } } (agingNext s.rtc.aging a b n)
    rw [haging, haon, hwindow]
    obtain ⟨hmin, hmax⟩ := agingNext_bounds s.rtc.aging a b n
    obtain ⟨hdown, hup⟩ := agingNext_step hlo hhi a b n
    exact ⟨hmin, hmax, hdown, hup, rfl, rfl⟩
  case checked =>
    rw [calendarCheck_commits hlearn hopen hosf]
    exact commitUtc_rtc (s := { s with rtc := { s.rtc with checkOwed := false } }) hnone

/-! The start of network time (R340). -/

theorem timeInit_starts {s : State} (hset : s.tim.set = false) (hup : (stn s .tim).state = .ready ∨ (stn s .tim).state = .running) :
    (timeInit s).tim.sub = (startSec s).1 * giga * frac ∧ (timeInit s).tim.set = true ∧ (timeInit s).tim.qual = (startSec s).2 ∧
      (timeInit s).tim.leap = 0 := by
  unfold timeInit
  extract_lets st r f
  rw [if_neg (by rcases hup with h | h <;> simp [hset, st, h])]
  exact ⟨rfl, rfl, rfl, rfl⟩

theorem startSec_calendar {s : State} (h : s.rtc.osf = false) :
    startSec s = (((calSec s.rtc.cal : Int) + startTaiUtc s).toNat, .calendar) := by simp [startSec, h]

theorem startSec_qual (s : State) : (startSec s).2 = if s.rtc.osf then .invalid else .calendar := by
  unfold startSec
  cases hosf : s.rtc.osf with
  | false => rfl
  | true => cases s.led.tim <;> rfl

theorem startSec_ledger {s : State} {x : TimSave} (h : s.rtc.osf = true) (hx : s.led.tim = some x) : (startSec s).1 = x.sec + 1 := by
  simp [startSec, h, hx]

/-- A count that stands at a whole second is that second. -/
theorem nowSec_whole {s : State} {n : Nat} (h : s.tim.sub = n * giga * frac) : nowSec s = n := by
  rw [nowSec, nowNs, h, Nat.mul_div_cancel _ (by decide), Nat.mul_div_cancel _ (by decide)]

/-- Settles O36: the count stands at the whole second that `startSec` gives. -/
theorem timeStartsFromTheCalendar : Obligations.TimeStartsFromTheCalendar := by
  refine fun s hset hup => done_of rfl (KeepsAllBut.pending (timeInit_keeps offTim rfl s) rfl) ?_
  obtain ⟨hsub, hon, hqual, hleap⟩ := timeInit_starts hset hup
  have hnow : nowSec (timeInit s) = (startSec s).1 := nowSec_whole hsub
  rw [hon, hqual, hleap, hnow]
  refine ⟨rfl, by rw [hsub, Nat.mul_assoc]; exact Nat.mul_mod_left _ _, startSec_qual s, rfl, fun hosf => ?_, fun x hosf hx => startSec_ledger hosf hx⟩
  rw [startSec_calendar hosf]
  omega

/-! The selection of a master (R332). -/

/-- Every part but TIM. -/
abbrev offTimOnly : Parts := { Parts.all with tim := false, ahead := true, pending := true }

theorem tim_of_keeps {s t : State} (h : masked offTimOnly t = masked offTimOnly s) : t.tim = s.tim := KeepsAllBut.tim (m := offTimOnly) h rfl

/-- TIM and EVQ. -/
abbrev offTimEvq : Parts := { tim := true, evq := true }

/-- The selection's own part of TIM: the masters heard, the one selected, and the count. -/
def masters (s : State) : List Foreign × Option AnnounceMsg × Nat := (s.tim.foreign, s.tim.master, s.tim.sub)

theorem setQuality_masters (s : State) (q : Quality) (acq : Bool) : masters (setQuality s q acq) = masters s := by
  unfold setQuality
  extract_lets old new entry _ entered held changed
  split
  · rfl
  · rw [masters, tim_of_keeps (event_keeps offTimOnly rfl changed _ _ _ _ _)]
    simp only [changed, held]
    split <;> rfl

theorem takeUtc_masters (s : State) (m : AnnounceMsg) : masters (takeUtc s m) = masters s := by
  unfold takeUtc
  dsimp only
  split <;> rfl

theorem selectMaster_masters (s : State) : masters (selectMaster s) = (s.tim.foreign, bestMaster s.tim.foreign, s.tim.sub) := by
  unfold selectMaster
  extract_lets best changed _ selected
  have hutc : masters (match best with | some m => takeUtc selected m | none => selected) = masters selected := by
    cases best with
    | some m => exact takeUtc_masters selected m
    | none => rfl
  split
  · exact (setQuality_masters _ _ _).trans hutc
  · exact hutc

theorem announceReceive_taken {s : State} {m : AnnounceMsg} (h : ptpTaken s m.domain) :
    announceReceive s m =
      selectMaster { s with tim := { s.tim with foreign := (s.tim.foreign.filter fun f => !sameMaster f.msg m) ++ [⟨m, s.tim.cyc⟩] } } :=
  if_neg (by simp [h.1, h.2])

theorem announceTimeout_some {s : State} {m : AnnounceMsg} (h : s.tim.master = some m) :
    announceTimeout s = selectMaster { s with tim := { s.tim with foreign := s.tim.foreign.filter fun f => !sameMaster f.msg m } } := by
  simp only [announceTimeout, h]

theorem keyLt_cons_true (i j : Nat) (x b : List Nat) : keyLt (i :: x) (j :: b) = true ↔ i < j ∨ (i = j ∧ keyLt x b = true) := by
  rw [keyLt]
  split
  case isTrue h => exact iff_of_true rfl (.inl h)
  case isFalse h =>
    split
    case isTrue hgt => exact iff_of_false Bool.false_ne_true (by omega)
    case isFalse hle => rw [or_iff_right h, and_iff_right (by omega)]

theorem keyLt_cons_false (i j : Nat) (x b : List Nat) : keyLt (i :: x) (j :: b) = false ↔ j < i ∨ (i = j ∧ keyLt x b = false) := by
  rw [keyLt]
  split
  case isTrue h => exact iff_of_false (Ne.symm Bool.false_ne_true) (by omega)
  case isFalse h =>
    split
    case isTrue hgt => exact iff_of_true rfl (.inl hgt)
    case isFalse hle => rw [or_iff_right hle, and_iff_right (by omega)]

/-- The order of keys of one length: what does not come before `b` does not come before anything that comes before `b`. -/
theorem keyLt_false_of_lt {x b c : List Nat} (hlen : x.length = c.length) (hb : keyLt x b = false) (hc : keyLt c b = true) :
    keyLt x c = false := by
  induction x generalizing b c with
  | nil => cases c <;> rfl
  | cons i x ih =>
    cases c with
    | nil => rfl
    | cons k c =>
      cases b with
      | nil => simp [keyLt] at hc
      | cons j b =>
        rw [keyLt_cons_false] at hb ⊢
        rw [keyLt_cons_true] at hc
        rcases hb with hji | ⟨hij, hb⟩
        · exact .inl (by omega)
        · rcases hc with hkj | ⟨hkj, hc⟩
          · exact .inl (by omega)
          · exact .inr ⟨by omega, ih (Nat.succ.inj hlen) hb hc⟩

theorem keyLt_irrefl (x : List Nat) : keyLt x x = false := by
  induction x with
  | nil => rfl
  | cons i x ih => simp [keyLt, ih]

/-- The better of the best so far and another master heard. -/
def betterMaster (b : Option AnnounceMsg) (f : Foreign) : Option AnnounceMsg :=
  match b with
  | none => some f.msg
  | some m => if keyLt (masterKey f.msg) (masterKey m) then some f.msg else some m

/-- None of `l` is better than the one that `b` holds. -/
def noneBetter (l : List Foreign) (b : Option AnnounceMsg) : Prop :=
  ∀ f ∈ l, ∃ m, b = some m ∧ keyLt (masterKey f.msg) (masterKey m) = false

theorem noneBetter_append {l : List Foreign} {b : Option AnnounceMsg} (h : noneBetter l b) (f : Foreign) :
    noneBetter (l ++ [f]) (betterMaster b f) := by
  intro g hg
  cases b with
  | none =>
    rcases List.mem_append.mp hg with hl | hf
    · obtain ⟨m, hm, -⟩ := h g hl
      cases hm
    · rw [List.mem_singleton.mp hf]
      exact ⟨f.msg, rfl, keyLt_irrefl _⟩
  | some m =>
    simp only [betterMaster]
    split
    · next hlt =>
      refine ⟨f.msg, rfl, ?_⟩
      rcases List.mem_append.mp hg with hl | hf
      · obtain ⟨m', hm, hge⟩ := h g hl
        exact keyLt_false_of_lt rfl hge (Option.some.inj hm ▸ hlt)
      · rw [List.mem_singleton.mp hf]
        exact keyLt_irrefl _
    · next hge =>
      refine ⟨m, rfl, ?_⟩
      rcases List.mem_append.mp hg with hl | hf
      · obtain ⟨m', hm, hge'⟩ := h g hl
        exact Option.some.inj hm ▸ hge'
      · rw [List.mem_singleton.mp hf]
        exact Bool.eq_false_iff.mpr hge

theorem foldl_betterMaster {heard : List Foreign} {b : Option AnnounceMsg} (h : noneBetter heard b) (l : List Foreign) :
    noneBetter (heard ++ l) (l.foldl betterMaster b) := by
  induction l generalizing heard b with
  | nil => rwa [List.append_nil]
  | cons f l ih =>
    rw [List.append_cons]
    exact ih (noneBetter_append h f)

theorem bestMaster_noneBetter (l : List Foreign) : noneBetter l (bestMaster l) :=
  foldl_betterMaster (heard := []) (fun _ hf => absurd hf List.not_mem_nil) l

theorem announceReceive_masters {s : State} {m : AnnounceMsg} (h : ptpTaken s m.domain) :
    masters (announceReceive s m) =
      ((s.tim.foreign.filter fun f => !sameMaster f.msg m) ++ [⟨m, s.tim.cyc⟩],
        bestMaster ((s.tim.foreign.filter fun f => !sameMaster f.msg m) ++ [⟨m, s.tim.cyc⟩]), s.tim.sub) := by
  rw [announceReceive_taken h, selectMaster_masters]

theorem announceTimeout_masters {s : State} {m : AnnounceMsg} (h : s.tim.master = some m) :
    masters (announceTimeout s) =
      (s.tim.foreign.filter fun f => !sameMaster f.msg m, bestMaster (s.tim.foreign.filter fun f => !sameMaster f.msg m), s.tim.sub) := by
  rw [announceTimeout_some h, selectMaster_masters]

theorem announceReceive_done (s : State) (m : AnnounceMsg) (htaken : ptpTaken s m.domain) :
    Done (.announceReceive m) s fun t =>
      t.tim.foreign = (s.tim.foreign.filter fun f => !sameMaster f.msg m) ++ [⟨m, s.tim.cyc⟩] ∧ t.tim.master = bestMaster t.tim.foreign ∧
      t.tim.sub = s.tim.sub := by
  refine done_of (u := announceReceive s m) rfl (KeepsAllBut.pending (announceReceive_keeps offTimEvq rfl rfl s m) rfl) ?_
  have hsel := announceReceive_masters htaken
  simp only [masters, Prod.mk.injEq] at hsel
  obtain ⟨hforeign, hmaster, hsub⟩ := hsel
  rw [hforeign, hmaster, hsub]
  exact ⟨rfl, rfl, rfl⟩

theorem announceTimeout_done (s : State) (m : AnnounceMsg) (hm : s.tim.master = some m) :
    Done .announceReceiptTimeout s fun t =>
      t.tim.foreign = s.tim.foreign.filter (fun f => !sameMaster f.msg m) ∧ t.tim.master = bestMaster t.tim.foreign := by
  refine done_of (u := announceTimeout s) rfl (KeepsAllBut.pending (announceTimeout_keeps offTimEvq rfl rfl s) rfl) ?_
  have hsel := announceTimeout_masters hm
  simp only [masters, Prod.mk.injEq] at hsel
  obtain ⟨hforeign, hmaster, -⟩ := hsel
  rw [hforeign, hmaster]
  exact ⟨rfl, rfl⟩

/-- Settles O37: each row changes the masters heard and selects anew, and the selection is a fold that keeps the least key. -/
theorem theBestMasterIsSelected : Obligations.TheBestMasterIsSelected :=
  ⟨announceReceive_done, announceTimeout_done, fun l f hf => bestMaster_noneBetter l f hf⟩

/-! Compare and capture units (R342, R346, R347). -/

theorem setCmp_same (s : State) (n : Nat) (f : CmpUnit → CmpUnit) : (setCmp s n f).tim.cmps[n]? = s.tim.cmps[n]?.map f := upd_get_same _ _ _

theorem setCmp_other (s : State) (n : Nat) (f : CmpUnit → CmpUnit) {j : Nat} (h : j ≠ n) : (setCmp s n f).tim.cmps[j]? = s.tim.cmps[j]? :=
  upd_get_other _ _ _ _ h

theorem cmpReport_cmps (s : State) (n : Nat) : (cmpReport s n).tim.cmps = s.tim.cmps :=
  congrArg TimState.cmps (tim_of_keeps (cmpReport_keeps offTimOnly rfl s n))

theorem advanceTo_cmps (s : State) (ns : Nat) : (advanceTo s ns).tim.cmps = s.tim.cmps := by
  unfold advanceTo advanceSub
  split
  · rw [passCycles_tim]
  · rfl

/-- An element of a list by `nth`. -/
theorem nth_of_get {α : Type} {l : List α} {i : Nat} {x : α} (h : l[i]? = some x) (d : α) : nth l i d = x := by
  simp [nth, List.getD, h]

/-- Between two states unit `n` alone changes, and takes the count, the place in its series and the level that `P` tells. -/
structure CmpEdge (n : Nat) (s t : State) : Prop where
  unit_ : t.tim.cmps[n]?.map (fun u => (u.edges, u.k, u.pin)) = s.tim.cmps[n]?.map fun u => (u.edges + 1, u.k, edgePin u)
  others : ∀ j, j ≠ n → t.tim.cmps[j]? = s.tim.cmps[j]?

theorem issueEdge_edge (s : State) (n e : Nat) : CmpEdge n s (issueEdge s n e) := by
  unfold issueEdge
  extract_lets first issued reported
  have hissued : CmpEdge n s issued := ⟨by simp [issued, setCmp_same, Function.comp_def], fun j hj => setCmp_other s n _ hj⟩
  have hreported : reported.tim.cmps = issued.tim.cmps := by
    simp only [reported]
    split
    · exact cmpReport_cmps issued n
    · rfl
  have hedge : CmpEdge n s reported := ⟨hreported ▸ hissued.unit_, hreported ▸ hissued.others⟩
  split
  · refine ⟨?_, fun j hj => ?_⟩
    · rw [cmpReport_cmps, setCmp_same, ← hedge.unit_, Option.map_map]; rfl
    · rw [cmpReport_cmps, setCmp_other _ _ _ hj, hedge.others j hj]
  · exact hedge

/-- The unit's next instant is taken up and its edge issued (R343). -/
theorem compareEdge_edge {s : State} {n : Nat} {u : CmpUnit} (hu : s.tim.cmps[n]? = some u) (harmed : u.state = .armed ∨ u.state = .running) :
    CmpEdge n (setCmp s n fun x => { x with k := x.k + 1 }) (compareEdge s n) := by
  unfold compareEdge
  extract_lets x e waited at_
  have hx : x = u := nth_of_get hu {}
  rw [if_neg (by rcases harmed with h | h <;> simp [hx, h])]
  have hwaited : waited.tim.cmps = s.tim.cmps := by
    simp only [waited]
    split
    · rfl
    · exact advanceTo_cmps s _
  have hcmps : ∀ f, (setCmp waited n f).tim.cmps = (setCmp s n f).tim.cmps := fun f => congrArg (upd · n f) hwaited
  have hedge := issueEdge_edge (setCmp waited n fun x => { x with k := x.k + 1 }) n at_
  exact ⟨hcmps _ ▸ hedge.unit_, hcmps _ ▸ hedge.others⟩

theorem pulseEnd_low {s : State} {n e : Nat} {u : CmpUnit} (hu : s.tim.cmps[n]? = some u) (hlow : u.lowAt = some e) :
    pulseEnd s n = setCmp (advanceTo s (e / 2 / 4 * 4)) n fun u => { u with pin := false, lowAt := none } := by
  simp only [pulseEnd, nth_of_get hu, hlow]

/-- The state with capture unit `n` changed. -/
def setCap (s : State) (n : Nat) (f : CapUnit → CapUnit) : State := { s with tim := { s.tim with caps := upd s.tim.caps n f } }

theorem setCap_get {s : State} {n : Nat} {c : CapUnit} (h : s.tim.caps[n]? = some c) (f : CapUnit → CapUnit) :
    (setCap s n f).tim.caps[n]? = some (f c) := by
  rw [setCap, upd_get_same, h, Option.map_some]

/-- An edge that the unit selects is stamped and judged: too narrow, held off, without room, or entered (R346, R347). -/
def capEdge (s : State) (n : Nat) (rising wide : Bool) (stamp : Nat) (c : CapUnit) (held : Bool) : State :=
  if !wide then setCap s n fun c => { c with glitch := inc32 c.glitch, glitchSince := c.glitchSince + 1 }
  else if held then setCap s n fun c => { c with suppr := inc32 c.suppr, supprSince := c.supprSince + 1 }
  else if c.fifo.length ≥ 8 then setCap s n fun c => { c with lost := inc32 c.lost, lostSince := c.lostSince + 1 }
  else
    setCap s n fun d =>
      { d with
        fifo := d.fifo ++ [{ unit_ := n, rising := rising, quality := s.tim.qual, lostBefore := c.lostSince, glitchBefore := c.glitchSince ≠ 0,
                             supprBefore := c.supprSince, stepSeq := s.tim.stepSeq, stamp := stamp, errEst := errEst s, seq := c.seq,
                             stroke := s.cox.count }]
        last := some stamp, lastTs := ts32 (stamp / 2), lostSince := 0, glitchSince := 0, supprSince := 0, seq := d.seq + 1 }

/-- A unit that has taken no edge yet holds none off. -/
theorem captureEdge_selected {s : State} {n : Nat} {rising : Bool} (wide : Bool) (taps : Nat) (hsel : capSelects s n rising = true) :
    ∃ stamp held, captureEdge s n rising wide taps = capEdge s n rising wide stamp (nth s.tim.caps n {}) held ∧
      ((nth s.tim.caps n {}).last = none → held = false) := by
  unfold captureEdge
  extract_lets cfg sel _ set c half stamp held
  refine ⟨stamp, held, if_neg ?_, fun hlast => ?_⟩
  · simp only [capSelects, Bool.and_eq_true] at hsel
    obtain ⟨⟨henabled, hedge⟩, hup⟩ := hsel
    simp only [Bool.not_eq_true'] at hup
    simp [cfg, sel, henabled, hedge, hup]
  · simp [held, c, hlast]

theorem captureEdge_narrow {s : State} {n : Nat} {rising : Bool} (taps : Nat) (hsel : capSelects s n rising = true) :
    captureEdge s n rising false taps = setCap s n fun c => { c with glitch := inc32 c.glitch, glitchSince := c.glitchSince + 1 } := by
  obtain ⟨stamp, held, heq, -⟩ := captureEdge_selected false taps hsel
  exact heq

theorem captureEdge_lost {s : State} {n : Nat} {rising : Bool} (taps : Nat) (hsel : capSelects s n rising = true)
    (hlast : (nth s.tim.caps n {}).last = none) (hfull : 8 ≤ (nth s.tim.caps n {}).fifo.length) :
    captureEdge s n rising true taps = setCap s n fun c => { c with lost := inc32 c.lost, lostSince := c.lostSince + 1 } := by
  obtain ⟨stamp, held, heq, hheld⟩ := captureEdge_selected true taps hsel
  rw [heq, hheld hlast]
  exact if_pos hfull

theorem captureEdge_entered {s : State} {n : Nat} {rising : Bool} {c : CapUnit} (taps : Nat) (hsel : capSelects s n rising = true)
    (hc : s.tim.caps[n]? = some c) (hlast : c.last = none) (hroom : c.fifo.length < 8) :
    ∃ x y, (captureEdge s n rising true taps).tim.caps[n]? = some y ∧ y.fifo = c.fifo ++ [x] ∧ x.rising = rising ∧ x.unit_ = n ∧
      x.seq = c.seq ∧ x.lostBefore = c.lostSince ∧ y.seq = c.seq + 1 ∧ y.lostSince = 0 ∧ y.last = some x.stamp := by
  obtain ⟨stamp, held, heq, hheld⟩ := captureEdge_selected true taps hsel
  rw [nth_of_get hc] at heq hheld
  rw [heq, hheld hlast, capEdge, if_neg (by decide), if_neg (by decide), if_neg (Nat.not_le.mpr hroom), setCap_get hc]
  exact ⟨_, _, rfl, rfl, rfl, rfl, rfl, rfl, rfl, rfl, rfl⟩

/-- Settles O39: an edge is one change of its unit, a pulse's low edge another, and a capture edge one of the four outcomes of `capEdge`. -/
theorem edgesAreIssuedAndCaptured : Obligations.EdgesAreIssuedAndCaptured := by
  refine ⟨fun s n u hu harmed => done_ran rfl ?edge, fun s n e u hu hlow => done_ran rfl ?low, fun s n taps rising c hc hsel =>
    ⟨done_ran rfl ?narrow, fun hlast hroom => done_ran rfl ?entered, fun hlast hfull => done_ran rfl ?lost⟩⟩
  case edge =>
    obtain ⟨hunit, hothers⟩ := compareEdge_edge hu harmed
    refine ⟨fun x hx => ?_, fun j hj => (hothers j hj).trans (setCmp_other _ _ _ hj)⟩
    rw [hx, setCmp_same, hu] at hunit
    simp only [Option.map_some, Option.some.injEq, Prod.mk.injEq] at hunit
    exact hunit
  case low =>
    rw [pulseEnd_low hu hlow]
    refine ⟨?_, fun j hj => (setCmp_other _ _ _ hj).trans (by rw [advanceTo_cmps])⟩
    rw [setCmp_same, advanceTo_cmps, hu, Option.map_some]
  case narrow => rw [captureEdge_narrow taps hsel]; exact setCap_get hc _
  case entered => exact captureEdge_entered taps hsel hc hlast hroom
  case lost =>
    have hnth := nth_of_get hc {}
    rw [captureEdge_lost taps hsel (hnth.symm ▸ hlast) (hnth.symm ▸ hfull)]
    exact setCap_get hc _

end Sys2Proof.Machine
end

section
/-! WRITEs that are served whole (R461): what they leave, and the slots and registers that wait for a boundary (R139, R155, R170, R174, R241). -/
namespace Sys2Proof.Machine

/-! What a WRITE leaves. -/

/-- The registers of a WRITE taken, its action fields after the others (R461). -/
def written (n : Stn) (session phy : Nat) (ws : Words) (s : State) : State := ws.foldl (actReg n phy) (ws.foldl (putReg n session) s)

theorem vtpWrite_written {s : State} {m : VtpMeta} {n : Stn} {offset phy : Nat} {ws : List Word} (h : WriteOk s m n offset ws phy) :
    vtpWrite s m n.idx offset ws phy =
      answer (written n m.session phy (wordsFrom offset ws) (meets s (writeReq m n offset ws))) (writeReq m n offset ws)
        (replyOf (writeReq m n offset ws) .ok []) := vtpWrite_ok h

theorem sysPut_sessions (s : State) (off : Nat) (w : Word) : (sysPut s off w).vtp.sessions = s.vtp.sessions := by
  unfold sysPut
  split
  · exact congrArg VtpState.sessions (KeepsAllBut.vtp (m := offVtp) (writeCount_keeps offVtp rfl rfl rfl s _ _) rfl)
  · split
    · rfl
    · split <;> rfl

/-- No register's word opens or closes a session. -/
theorem putReg_sessions (n : Stn) (session : Nat) (s : State) (w : Nat × Word) : (putReg n session s w).vtp.sessions = s.vtp.sessions := by
  cases n
  case sys => exact sysPut_sessions s w.1 w.2
  all_goals exact congrArg VtpState.sessions (KeepsAllBut.vtp (m := offVtp) (by unfold KeepsAllBut; simp [putReg]) rfl)

theorem actReg_vtp (n : Stn) (phy : Nat) (s : State) (w : Nat × Word) : (actReg n phy s w).vtp = s.vtp :=
  KeepsAllBut.vtp (m := offVtp) (by unfold KeepsAllBut; simp) rfl

theorem written_sessions (n : Stn) (session phy : Nat) (ws : Words) (s : State) :
    (written n session phy ws s).vtp.sessions = s.vtp.sessions := by
  unfold written
  refine List.foldlRecOn (motive := fun t : State => t.vtp.sessions = s.vtp.sessions) ws _ ?_ fun t ht w _ => (by rw [actReg_vtp, ht])
  exact List.foldlRecOn (motive := fun t : State => t.vtp.sessions = s.vtp.sessions) ws _ rfl fun t ht w _ => (putReg_sessions _ _ _ _).trans ht

theorem vtpWrite_replied {s : State} {m : VtpMeta} {n : Stn} {offset phy : Nat} {ws : List Word} (h : WriteOk s m n offset ws phy) :
    Replied (vtpWrite s m n.idx offset ws phy) (writeReq m n offset ws) (replyOf (writeReq m n offset ws) .ok []) := by
  rw [vtpWrite_written h]
  exact replied_answer _ _ _ (by rw [written_sessions]; exact meets_length s _ h.1.opened)

/-- Settles O13: a WRITE that is served whole leaves what `written` leaves, and its answer only sessions and Ethernet. -/
theorem acceptedWritesTakeEveryRegister : Obligations.AcceptedWritesTakeEveryRegister := by
  refine fun s m n offset phy ws h => done_ran rfl ⟨?_, vtpWrite_replied h⟩
  have hanswer : KeepsAllBut { vtp := true, eth := true, pending := true } (written n m.session phy (wordsFrom offset ws) (meets s (writeReq m n offset ws)))
      (vtpWrite s m n.idx offset ws phy) := by
    rw [vtpWrite_written h]
    exact answer_keeps _ rfl rfl _ _ _
  exact hanswer

/-! A WRITE met by any station but UPD finds the state as it is, but for the sessions. -/

/-- States that differ in the sessions only. -/
theorem eq_of_keeps_vtp {s t : State} (h : masked { vtp := true } t = masked { vtp := true } s) : t = { s with vtp := t.vtp } := by
  have hk : KeepsAllBut { vtp := true } s t := h
  cases t
  cases s
  simp only [State.mk.injEq]
  exact ⟨hk.modp rfl, hk.bankA rfl, hk.bankB rfl, hk.sys rfl, trivial, hk.calls rfl, hk.cox rfl, hk.stns rfl, hk.cfg rfl, hk.tim rfl, hk.rtc rfl,
    hk.eth rfl, hk.evq rfl, hk.lgt rfl, hk.crs rfl, hk.rad rfl, hk.sec rfl, hk.keys rfl, hk.mtr rfl, hk.ledr rfl, hk.ledm rfl, hk.ledBad rfl,
    hk.flashBad rfl, hk.pwr rfl, hk.upd rfl, hk.pins rfl, hk.flash rfl, hk.led rfl, hk.aon rfl, hk.mem rfl, hk.latch rfl, hk.free rfl, hk.ahead rfl,
    hk.pending rfl⟩

theorem meets_eq {s : State} {q : VtpReq} (h : q.station ≠ 11) : meets s q = { s with vtp := (meets s q).vtp } :=
  eq_of_keeps_vtp ((atServe_keeps _ rfl _ q (fun e => absurd e h) (fun e => absurd e h) (fun e => absurd e h)).trans (received_keeps _ rfl s q))

/-- What a WRITE leaves outside sessions and Ethernet is what its registers leave, taken in the state as it is. -/
theorem vtpWrite_keeps_written {s : State} {m : VtpMeta} {n : Stn} {offset phy : Nat} {ws : List Word} (hn : n ≠ .upd)
    (h : WriteOk s m n offset ws phy) :
    ∃ v, KeepsAllBut offReply (written n m.session phy (wordsFrom offset ws) { s with vtp := v }) (vtpWrite s m n.idx offset ws phy) := by
  have hstation : (writeReq m n offset ws).station ≠ 11 := fun e => hn (by cases n <;> first | rfl | cases e)
  refine ⟨(meets s (writeReq m n offset ws)).vtp, ?_⟩
  rw [vtpWrite_written h, ← meets_eq hstation]
  exact answer_keeps offReply rfl rfl _ _ _

theorem written_one (n : Stn) (session phy offset : Nat) (w : Word) (s : State) :
    written n session phy (wordsFrom offset [w]) s = actReg n phy (putReg n session s (offset, w)) (offset, w) := rfl

/-- Where the words of a WRITE go. -/
theorem mem_wordsFrom {offset : Nat} {ws : List Word} {x : Nat × Word} (h : x ∈ wordsFrom offset ws) : ∃ i < ws.length, x.1 = offset + 4 * i := by
  obtain ⟨i, hi, hx⟩ := List.mem_map.mp (List.of_mem_zip h).1
  exact ⟨i, List.mem_range.mp hi, hx.symm⟩

/-- Words that act on nothing leave the state. -/
theorem foldl_actReg_idle {n : Stn} {phy : Nat} {ws : Words} (h : ∀ x ∈ ws, ∀ s, actReg n phy s x = s) (s : State) :
    ws.foldl (actReg n phy) s = s :=
  List.foldlRecOn (motive := fun t => t = s) ws _ rfl fun t ht x hx => (h x hx t).trans ht

/-- An offset within slot `k` of a bank. -/
theorem bankAt_slot (base : Nat) {stride count k o : Nat} (hk : k < count) (ho : o < stride) :
    bankAt base stride count (base + stride * k + o) = some (k, o) := by
  have hlt : stride * k + o < stride * count :=
    calc stride * k + o < stride * k + stride := by omega
      _ = stride * (k + 1) := (Nat.mul_succ stride k).symm
      _ ≤ stride * count := Nat.mul_le_mul_left _ hk
  have hdiv : (stride * k + o) / stride = k := by
    rw [Nat.mul_add_div (by omega), Nat.div_eq_of_lt ho, Nat.add_zero]
  have hmod : (stride * k + o) % stride = o := by
    rw [Nat.mul_add_mod, Nat.mod_eq_of_lt ho]
  have hoff : base + stride * k + o - base = stride * k + o := by omega
  rw [bankAt, if_pos (by simp; omega), hoff, hdiv, hmod]

/-! Light commands (R139). -/

/-- Between two states the states of light commands and their serial number are the same. -/
structure CmdFields (s t : State) : Prop where
  states : t.lgt.cmds.map LgtCmd.state = s.lgt.cmds.map LgtCmd.state
  serial : t.lgt.serial = s.lgt.serial

theorem cmdCtrl_state (c : LgtCmd) (w : Word) : (cmdCtrl c w).state = c.state := rfl

theorem cmdField_state (c : LgtCmd) (o : Nat) (w : Word) : (cmdField c o w).state = c.state := by
  unfold cmdField
  split <;> first | rfl | (split <;> rfl)

theorem setLgtCmd_fields {f : LgtCmd → LgtCmd} (hf : ∀ c, (f c).state = c.state) (s : State) (k : Nat) : CmdFields s (setLgtCmd s k f) :=
  ⟨(upd_map LgtCmd.state s.lgt.cmds k f (fun x => x) hf).trans (upd_id _ _), rfl⟩

theorem putReg_cmd {k o : Nat} (hk : k < 32) (ho : o < 0x40) (session : Nat) (s : State) (w : Word) :
    putReg .lgt session s (0x1000 + 0x40 * k + o, w) = setLgtCmd s k fun c => cmdField c o w := by
  simp only [putReg, lgtPut, bankAt_slot 0x1000 hk ho]
  rw [if_neg (by omega), if_neg (by omega)]

theorem actReg_cmd {k o : Nat} (hk : k < 32) (ho : o < 0x40) (hpos : o ≠ 0) (phy : Nat) (s : State) (w : Word) :
    actReg .lgt phy s (0x1000 + 0x40 * k + o, w) = s := by
  simp only [actReg, lgtAct, bankAt_slot 0x1000 hk ho]
  split
  · next h => simp at h; omega
  · rfl

theorem actReg_cmdState {k : Nat} (hk : k < 32) (phy : Nat) (s : State) (w : Word) :
    actReg .lgt phy s (0x1000 + 0x40 * k, w) =
      if w.field 31 28 = 1 then cmdPending (setLgtCmd s k fun c => cmdCtrl c w) k else cmdCancel s k := by
  have hslot := bankAt_slot 0x1000 (o := 0) hk (show 0 < 0x40 by decide)
  rw [Nat.add_zero] at hslot
  simp only [actReg, lgtAct, hslot]

theorem withState_state (ctrl : Word) {st : Nat} (h : st < 16) : (withState ctrl st).field 31 28 = st :=
  (pack_two st (ctrl.field 27 0) h (Nat.mod_lt _ (by decide))).1

/-- Outcome records leave LGT (R139). -/
theorem outcomeRecords_lgt (k : Nat) (node : State → Nat → Nat) (l : List Nat) (s : State) :
    (l.foldl (fun s ch => outcomeRecord s .lgt k 0 (node s ch) 3) s).lgt = s.lgt :=
  KeepsAllBut.lgt (m := { evq := true }) (foldl_keeps _ _ _ _ fun s _ => outcomeRecord_keeps _ rfl s _ _ _ _ _) rfl

theorem cmdPending_lgt (s : State) (k : Nat) :
    (cmdPending s k).lgt.cmds.map LgtCmd.state = upd (s.lgt.cmds.map LgtCmd.state) k (fun _ => .pending) ∧
      (cmdPending s k).lgt.serial = s.lgt.serial + 1 := by
  unfold cmdPending
  extract_lets c l out pending
  rw [outcomeRecords_lgt]
  exact ⟨upd_map LgtCmd.state s.lgt.cmds k _ (fun _ => .pending) fun _ => rfl, rfl⟩

/-- A slot's words, STATE 1 in the first: the slot becomes PENDING. -/
theorem written_cmdIssue {k : Nat} {ctrl : Word} {rest : List Word} (hk : k < 32) (hlen : rest.length ≤ 15) (session : Nat) (s : State) :
    (written .lgt session 0 (wordsFrom (0x1000 + 0x40 * k) (withState ctrl 1 :: rest)) s).lgt.cmds.map LgtCmd.state =
        upd (s.lgt.cmds.map LgtCmd.state) k (fun _ => .pending) ∧
      (written .lgt session 0 (wordsFrom (0x1000 + 0x40 * k) (withState ctrl 1 :: rest)) s).lgt.serial = s.lgt.serial + 1 := by
  have hput : CmdFields s ((wordsFrom (0x1000 + 0x40 * k) (withState ctrl 1 :: rest)).foldl (putReg .lgt session) s) := by
    refine List.foldlRecOn _ _ ⟨rfl, rfl⟩ fun t ht x hx => ?_
    obtain ⟨i, hi, hoff⟩ := mem_wordsFrom hx
    rw [List.length_cons] at hi
    obtain ⟨off, w⟩ := x
    obtain rfl : off = 0x1000 + 0x40 * k + 4 * i := hoff
    rw [putReg_cmd hk (by omega)]
    obtain ⟨hstates, hserial⟩ := setLgtCmd_fields (fun c => cmdField_state c (4 * i) w) t k
    exact ⟨hstates.trans ht.states, hserial.trans ht.serial⟩
  have hidle : ∀ x ∈ wordsFrom (0x1000 + 0x40 * k + 4) rest, ∀ s, actReg .lgt 0 s x = s := by
    intro x hx t
    obtain ⟨i, hi, hoff⟩ := mem_wordsFrom hx
    obtain ⟨off, w⟩ := x
    obtain rfl : off = 0x1000 + 0x40 * k + (4 + 4 * i) := by simpa [Nat.add_assoc] using hoff
    exact actReg_cmd hk (by omega) (by omega) 0 t w
  unfold written
  generalize (wordsFrom (0x1000 + 0x40 * k) (withState ctrl 1 :: rest)).foldl (putReg .lgt session) s = u at hput ⊢
  rw [wordsFrom_cons, List.foldl_cons, foldl_actReg_idle hidle, actReg_cmdState hk, if_pos (withState_state ctrl (by decide))]
  obtain ⟨hstates, hserial⟩ := cmdPending_lgt (setLgtCmd u k fun c => cmdCtrl c (withState ctrl 1)) k
  obtain ⟨hctrl, hctrl'⟩ := setLgtCmd_fields (fun c => cmdCtrl_state c (withState ctrl 1)) u k
  rw [hstates, hserial, hctrl, hctrl', hput.states, hput.serial]
  exact ⟨rfl, rfl⟩

theorem setLgtCmd_other (s : State) (k : Nat) (f : LgtCmd → LgtCmd) {j : Nat} (h : j ≠ k) : (setLgtCmd s k f).lgt.cmds[j]? = s.lgt.cmds[j]? :=
  upd_get_other _ _ _ _ h

theorem setLgtCmd_same {s : State} {k : Nat} {c : LgtCmd} (h : s.lgt.cmds[k]? = some c) (f : LgtCmd → LgtCmd) :
    (setLgtCmd s k f).lgt.cmds[k]? = some (f c) := (upd_get_same _ _ _).trans (by rw [h]; rfl)

/-- The words of a slot that is not FREE change nothing beside what STATE asks for. -/
theorem cmdField_busy {c : LgtCmd} (h : c.state ≠ .free) (w : Word) : cmdField c 0 w = c := if_neg h

/-- STATE 0 written to a slot: a cancel at the boundary, or the slot freed. -/
theorem written_cmdCancel {k : Nat} (hk : k < 32) (session : Nat) (s : State) :
    (∀ j, j ≠ k → (written .lgt session 0 (wordsFrom (0x1000 + 0x40 * k) [0]) s).lgt.cmds[j]? = s.lgt.cmds[j]?) ∧
      ∀ c, s.lgt.cmds[k]? = some c →
        (c.state = .ended → (written .lgt session 0 (wordsFrom (0x1000 + 0x40 * k) [0]) s).lgt.cmds[k]? = some {}) ∧
        ((c.state = .pending ∨ c.state = .active) → c.cancelAt = none →
          (written .lgt session 0 (wordsFrom (0x1000 + 0x40 * k) [0]) s).lgt.cmds[k]? = some { c with cancelAt := some (dueBoundary s) }) := by
  have hput := putReg_cmd (o := 0) hk (by decide) session s 0
  rw [Nat.add_zero] at hput
  rw [written_one, hput, actReg_cmdState hk, if_neg (by decide), cmdCancel]
  refine ⟨fun j hj => (setLgtCmd_other _ _ _ hj).trans (setLgtCmd_other _ _ _ hj), fun c hc => ⟨fun hend => ?_, fun hlive hnone => ?_⟩⟩
  · rw [setLgtCmd_same (setLgtCmd_same hc _), cmdField_busy (by simp [hend]), hend]
  · rw [setLgtCmd_same (setLgtCmd_same hc _), cmdField_busy (by rcases hlive with h | h <;> simp [h])]
    rcases hlive with h | h <;> rw [h] <;> exact congrArg some (if_pos hnone)

/-! Mode requests (R174). -/

theorem setMreq_same {s : State} {k : Nat} {r : MReq} (h : s.crs.mreqs[k]? = some r) (f : MReq → MReq) :
    (setMreq s k f).crs.mreqs[k]? = some (f r) := (upd_get_same _ _ _).trans (by rw [h]; rfl)

theorem setMreq_other (s : State) (k : Nat) (f : MReq → MReq) {j : Nat} (h : j ≠ k) : (setMreq s k f).crs.mreqs[j]? = s.crs.mreqs[j]? :=
  upd_get_other _ _ _ _ h

theorem putReg_mreq {k o : Nat} (hk : k < 8) (ho : o < 0x20) (session : Nat) (s : State) (w : Word) :
    putReg .crs session s (0x100 + 0x20 * k + o, w) = setMreq s k fun r => mreqField r o w := by
  simp only [putReg, crsPut, bankAt_slot 0x100 hk ho]
  rw [if_neg (by omega)]

theorem actReg_mreq {k o : Nat} (hk : k < 8) (ho : o < 0x20) (hpos : o ≠ 0) (phy : Nat) (s : State) (w : Word) :
    actReg .crs phy s (0x100 + 0x20 * k + o, w) = s := by
  simp only [actReg, crsAct, bankAt_slot 0x100 hk ho]
  split
  · next h => simp at h; omega
  · rfl

theorem actReg_mreqState {k : Nat} (hk : k < 8) (phy : Nat) (s : State) (w : Word) :
    actReg .crs phy s (0x100 + 0x20 * k, w) =
      if w.field 31 28 = 1 then mreqPending (setMreq s k fun r => { r with mode := w.field 2 0 }) k else mreqCancel s k := by
  have hslot := bankAt_slot 0x100 (o := 0) hk (show 0 < 0x20 by decide)
  rw [Nat.add_zero] at hslot
  simp only [actReg, crsAct, hslot]

theorem mreqField_state (r : MReq) (o : Nat) (w : Word) : (mreqField r o w).state = r.state := by
  unfold mreqField
  split <;> first | rfl | (split <;> rfl)

/-- Between two states the slots keep their states, and all but slot `k` their modes. -/
structure MreqFields (k : Nat) (s t : State) : Prop where
  states : t.crs.mreqs.map MReq.state = s.crs.mreqs.map MReq.state
  modes : ∀ m, upd (t.crs.mreqs.map MReq.mode) k (fun _ => m) = upd (s.crs.mreqs.map MReq.mode) k fun _ => m

/-- What stood at a place does not matter once it is overwritten. -/
theorem upd_map_over {α β : Type} (g : α → β) (l : List α) (k : Nat) (f : α → α) (b : β) :
    upd ((upd l k f).map g) k (fun _ => b) = upd (l.map g) k fun _ => b := by
  induction l generalizing k with
  | nil => simp [upd]
  | cons a l ih =>
    cases k with
    | zero => simp [upd]
    | succ k => simpa [upd] using ih k

theorem setMreq_fields {f : MReq → MReq} (hf : ∀ r, (f r).state = r.state) (s : State) (k : Nat) : MreqFields k s (setMreq s k f) :=
  ⟨(upd_map MReq.state s.crs.mreqs k f (fun x => x) hf).trans (upd_id _ _), upd_map_over _ _ _ _⟩

theorem mreqPending_mreqs (s : State) (k : Nat) :
    (mreqPending s k).crs.mreqs.map MReq.state = upd (s.crs.mreqs.map MReq.state) k (fun _ => .pending) ∧
      (mreqPending s k).crs.mreqs.map MReq.mode = s.crs.mreqs.map MReq.mode :=
  ⟨upd_map MReq.state s.crs.mreqs k _ (fun _ => .pending) fun _ => rfl,
    (show (mreqPending s k).crs.mreqs.map MReq.mode = _ from upd_map MReq.mode s.crs.mreqs k _ (fun x => x) fun _ => rfl).trans (upd_id _ _)⟩

/-- A slot's words, STATE 1 in the first: the slot becomes PENDING with its mode. -/
theorem written_mreqIssue {k mode : Nat} {rest : List Word} (hk : k < 8) (hmode : mode < 8) (hlen : rest.length ≤ 7) (session : Nat) (s : State) :
    (written .crs session 0 (wordsFrom (0x100 + 0x20 * k) (pack [(28, 1), (0, mode % 8)] :: rest)) s).crs.mreqs.map MReq.state =
        upd (s.crs.mreqs.map MReq.state) k (fun _ => .pending) ∧
      (written .crs session 0 (wordsFrom (0x100 + 0x20 * k) (pack [(28, 1), (0, mode % 8)] :: rest)) s).crs.mreqs.map MReq.mode =
        upd (s.crs.mreqs.map MReq.mode) k (fun _ => mode) := by
  have hput : MreqFields k s ((wordsFrom (0x100 + 0x20 * k) (pack [(28, 1), (0, mode % 8)] :: rest)).foldl (putReg .crs session) s) := by
    refine List.foldlRecOn _ _ ⟨rfl, fun _ => rfl⟩ fun t ht x hx => ?_
    obtain ⟨i, hi, hoff⟩ := mem_wordsFrom hx
    rw [List.length_cons] at hi
    obtain ⟨off, w⟩ := x
    obtain rfl : off = 0x100 + 0x20 * k + 4 * i := hoff
    rw [putReg_mreq hk (by omega)]
    obtain ⟨hstates, hmodes⟩ := setMreq_fields (fun r => mreqField_state r (4 * i) w) t k
    exact ⟨hstates.trans ht.states, fun m => (hmodes m).trans (ht.modes m)⟩
  have hidle : ∀ x ∈ wordsFrom (0x100 + 0x20 * k + 4) rest, ∀ s, actReg .crs 0 s x = s := by
    intro x hx t
    obtain ⟨i, hi, hoff⟩ := mem_wordsFrom hx
    obtain ⟨off, w⟩ := x
    obtain rfl : off = 0x100 + 0x20 * k + (4 + 4 * i) := by simpa [Nat.add_assoc] using hoff
    exact actReg_mreq hk (by omega) (by omega) 0 t w
  have hstate : (pack [(28, 1), (0, mode % 8)]).field 31 28 = 1 := (pack_two 1 (mode % 8) (by decide) (by omega)).1
  have hword : (pack [(28, 1), (0, mode % 8)]).field 2 0 = mode := by
    rw [pack_low 1 (mode % 8) 2 (by decide) (by omega) (by decide)]; omega
  unfold written
  generalize (wordsFrom (0x100 + 0x20 * k) (pack [(28, 1), (0, mode % 8)] :: rest)).foldl (putReg .crs session) s = u at hput ⊢
  rw [wordsFrom_cons, List.foldl_cons, foldl_actReg_idle hidle, actReg_mreqState hk, if_pos hstate, hword]
  obtain ⟨hstates, hmodes⟩ := mreqPending_mreqs (setMreq u k fun r => { r with mode := mode }) k
  have hset := setMreq_fields (f := fun r => { r with mode := mode }) (fun _ => rfl) u k
  have hmode : (setMreq u k fun r => { r with mode := mode }).crs.mreqs.map MReq.mode = upd (u.crs.mreqs.map MReq.mode) k fun _ => mode :=
    upd_map MReq.mode u.crs.mreqs k _ _ fun _ => rfl
  rw [hstates, hmodes, hset.states, hput.states, hmode]
  exact ⟨rfl, hput.modes mode⟩

theorem mreqField_busy {r : MReq} (h : r.state ≠ .free) (w : Word) : mreqField r 0 w = r := if_neg h

/-- STATE 0 written to a slot: a cancel at the boundary, or the slot freed. -/
theorem written_mreqCancel {k : Nat} (hk : k < 8) (session : Nat) (s : State) :
    (∀ j, j ≠ k → (written .crs session 0 (wordsFrom (0x100 + 0x20 * k) [0]) s).crs.mreqs[j]? = s.crs.mreqs[j]?) ∧
      ∀ r, s.crs.mreqs[k]? = some r →
        (r.state = .ended → (written .crs session 0 (wordsFrom (0x100 + 0x20 * k) [0]) s).crs.mreqs[k]? = some {}) ∧
        ((r.state = .pending ∨ r.state = .active) → r.cancelAt = none →
          (written .crs session 0 (wordsFrom (0x100 + 0x20 * k) [0]) s).crs.mreqs[k]? = some { r with cancelAt := some (dueBoundary s) }) := by
  have hput := putReg_mreq (o := 0) hk (by decide) session s 0
  rw [Nat.add_zero] at hput
  rw [written_one, hput, actReg_mreqState hk, if_neg (by decide), mreqCancel]
  refine ⟨fun j hj => (setMreq_other _ _ _ hj).trans (setMreq_other _ _ _ hj), fun r hr => ⟨fun hend => ?_, fun hlive hnone => ?_⟩⟩
  · rw [setMreq_same (setMreq_same hr _), mreqField_busy (by simp [hend]), hend]
  · rw [setMreq_same (setMreq_same hr _), mreqField_busy (by rcases hlive with h | h <;> simp [h])]
    rcases hlive with h | h <;> rw [h] <;> exact congrArg some (if_pos hnone)

theorem written_lgt_keeps (session phy : Nat) (ws : Words) (s : State) : KeepsAllBut { evq := true, lgt := true } s (written .lgt session phy ws s) := by
  refine (foldl_keeps _ _ _ _ fun s x => ?_).trans (foldl_keeps _ _ _ _ fun s x => ?_)
  · exact lgtAct_keeps _ rfl rfl s x.1 x.2
  · exact lgtPut_keeps _ rfl s x.1 x.2

theorem written_crs_keeps (session phy : Nat) (ws : Words) (s : State) : KeepsAllBut { crs := true } s (written .crs session phy ws s) := by
  refine (foldl_keeps _ _ _ _ fun s x => ?_).trans (foldl_keeps _ _ _ _ fun s x => ?_)
  · exact crsAct_keeps _ rfl s x.1 x.2
  · exact crsPut_keeps _ rfl s x.1 x.2

/-- Settles O15: STATE is an action field, so it acts on the slot as the slot's other words leave it. -/
theorem slotsArePendingOrCancelled : Obligations.SlotsArePendingOrCancelled := by
  refine ⟨fun s m k ctrl rest hk hlen h => done_ran rfl ?_, fun s m k hk h => done_ran rfl ?_,
    fun s m k mode rest hk hmode hlen h => done_ran rfl ?_, fun s m k hk h => done_ran rfl ?_⟩
  · obtain ⟨v, hkeeps⟩ := vtpWrite_keeps_written (by decide) h
    have hlgt := written_lgt_keeps m.session 0 (wordsFrom (0x1000 + 0x40 * k) (withState ctrl 1 :: rest)) { s with vtp := v }
    obtain ⟨hstates, hserial⟩ := written_cmdIssue (ctrl := ctrl) hk hlen m.session { s with vtp := v }
    refine ⟨?_, ?_, (hkeeps.crs rfl).trans (hlgt.crs rfl), (hkeeps.pins rfl).trans (hlgt.pins rfl)⟩
    · exact (congrArg (fun l : LgtState => l.cmds.map LgtCmd.state) (hkeeps.lgt rfl)).trans hstates
    · exact (congrArg LgtState.serial (hkeeps.lgt rfl)).trans hserial
  · obtain ⟨v, hkeeps⟩ := vtpWrite_keeps_written (by decide) h
    have hcmds := written_cmdCancel hk m.session { s with vtp := v }
    rw [← hkeeps.lgt rfl] at hcmds
    exact hcmds
  · obtain ⟨v, hkeeps⟩ := vtpWrite_keeps_written (by decide) h
    have hcrs := written_crs_keeps m.session 0 (wordsFrom (0x100 + 0x20 * k) (pack [(28, 1), (0, mode % 8)] :: rest)) { s with vtp := v }
    have hmreqs := written_mreqIssue (rest := rest) hk hmode hlen m.session { s with vtp := v }
    rw [← hkeeps.crs rfl] at hmreqs
    exact ⟨hmreqs.1, hmreqs.2, (hkeeps.lgt rfl).trans (hcrs.lgt rfl), (hkeeps.pins rfl).trans (hcrs.pins rfl)⟩
  · obtain ⟨v, hkeeps⟩ := vtpWrite_keeps_written (by decide) h
    have hmreqs := written_mreqCancel hk m.session { s with vtp := v }
    rw [← hkeeps.crs rfl] at hmreqs
    exact hmreqs

/-! Registers that wait for the boundary (R155, R170, R241). -/

theorem written_force (session : Nat) (value : Word) (s : State) :
    (written .lgt session 0 (wordsFrom 0x18 [value]) s).lgt =
      { s.lgt with forceNext := s.lgt.forceNext ++ (forced s value).map fun c => (c, dueBoundary s) } := rfl

/-- What waits of schedule steps, behind those that waited before. -/
def StepsQueued (s t : State) : Prop := ∃ l, t.crs.stepsNext = s.crs.stepsNext ++ l ∧ t.crs.progs = s.crs.progs

theorem StepsQueued.trans {s t u : State} (h : StepsQueued s t) (k : StepsQueued t u) : StepsQueued s u := by
  obtain ⟨l, hl, hp⟩ := h
  obtain ⟨l', hl', hp'⟩ := k
  exact ⟨l ++ l', by rw [hl', hl, List.append_assoc], hp'.trans hp⟩

theorem crsPut_steps (s : State) {off : Nat} (h : 0x1000 ≤ off) (w : Word) : StepsQueued s (crsPut s off w) := by
  have hmreq : bankAt 0x100 0x20 8 off = none := if_neg (by simp; omega)
  unfold crsPut
  rw [if_neg (by omega), hmreq]
  dsimp only
  split
  · split
    · exact ⟨_, rfl, rfl⟩
    · exact ⟨[], (List.append_nil _).symm, rfl⟩
  · exact ⟨[], (List.append_nil _).symm, rfl⟩

/-- A part of a step is queued for its boundary (R170). -/
theorem crsPut_step {p i part : Nat} (hp : p < 32) (hi : i < 24) (hpart : part < 3) (s : State) (w : Word) :
    crsPut s (0x1000 + 0x400 * p + 0x20 * i + 8 * part) w =
      setCrs s fun c => { c with stepsNext := c.stepsNext ++ [(p, i, part, w, dueBoundary s)] } := by
  have hmreq : bankAt 0x100 0x20 8 (0x1000 + 0x400 * p + 0x20 * i + 8 * part) = none := if_neg (by simp; omega)
  have hslot := bankAt_slot 0x1000 (o := 0x20 * i + 8 * part) hp (show 0x20 * i + 8 * part < 0x400 by omega)
  rw [← Nat.add_assoc] at hslot
  have hstep : (0x20 * i + 8 * part) / 0x20 = i := by omega
  have hpart' : (0x20 * i + 8 * part) % 0x20 / 8 = part := by omega
  unfold crsPut
  rw [if_neg (by omega), hmreq, hslot]
  dsimp only
  rw [if_pos (by omega), hstep, hpart']

theorem actReg_step {off : Nat} (h : 0x1000 ≤ off) (phy : Nat) (s : State) (w : Word) : actReg .crs phy s (off, w) = s := by
  have hmreq : bankAt 0x100 0x20 8 off = none := if_neg (by simp; omega)
  simp only [actReg, crsAct, hmreq]

theorem written_step {p i part : Nat} (hp : p < 32) (hi : i < 24) (hpart : part < 3) (session : Nat) (s : State) (w : Word) (rest : List Word) :
    ∃ l, (written .crs session 0 (wordsFrom (0x1000 + 0x400 * p + 0x20 * i + 8 * part) (w :: rest)) s).crs.stepsNext =
        s.crs.stepsNext ++ (p, i, part, w, dueBoundary s) :: l ∧
      (written .crs session 0 (wordsFrom (0x1000 + 0x400 * p + 0x20 * i + 8 * part) (w :: rest)) s).crs.progs = s.crs.progs := by
  have habove : ∀ {off : Nat} {ws : List Word}, 0x1000 ≤ off → ∀ x ∈ wordsFrom off ws, 0x1000 ≤ x.1 := by
    intro off ws hoff x hx
    obtain ⟨j, -, hj⟩ := mem_wordsFrom hx
    omega
  have hidle : ∀ x ∈ wordsFrom (0x1000 + 0x400 * p + 0x20 * i + 8 * part) (w :: rest), ∀ s, actReg .crs 0 s x = s :=
    fun x hx t => actReg_step (habove (by omega) x hx) 0 t x.2
  unfold written
  rw [foldl_actReg_idle hidle, wordsFrom_cons, List.foldl_cons]
  have hfirst : putReg .crs session s (0x1000 + 0x400 * p + 0x20 * i + 8 * part, w) = _ := crsPut_step hp hi hpart s w
  rw [hfirst]
  have hrest : StepsQueued (setCrs s fun c => { c with stepsNext := c.stepsNext ++ [(p, i, part, w, dueBoundary s)] })
      ((wordsFrom (0x1000 + 0x400 * p + 0x20 * i + 8 * part + 4) rest).foldl (putReg .crs session)
        (setCrs s fun c => { c with stepsNext := c.stepsNext ++ [(p, i, part, w, dueBoundary s)] })) :=
    List.foldlRecOn _ _ ⟨[], (List.append_nil _).symm, rfl⟩ fun t ht x hx => ht.trans (crsPut_steps t (habove (by omega) x hx) x.2)
  obtain ⟨l, hl, hprogs⟩ := hrest
  exact ⟨l, hl.trans (by simp), hprogs⟩

/-- The target of a command word (R241, R302). -/
theorem pack_target {op i : Nat} (hop : op < 16) (hi : i < 4096) : (pack [(28, op), (0, i)]).field 11 0 = i := by
  have hlow := pack_low op i 11 hop (by omega) (by decide)
  rw [hlow, Nat.mod_eq_of_lt (by omega)]

theorem written_natCmdWord (session : Nat) (w : Word) (s : State) :
    written .rad session 0 (wordsFrom 0x30 [w]) s = natCmd s (w.field 31 28) (w.field 11 0) := by
  simp only [written_one, actReg, putReg, radPut, radAct, if_true]

theorem written_natCmd (session op i : Nat) (hop : op < 16) (hi : i < 4096) (s : State) :
    written .rad session 0 (wordsFrom 0x30 [pack [(28, op), (0, i)]]) s = natCmd s op i := by
  rw [written_natCmdWord, pack_target hop hi, (pack_two op i hop (by omega)).1]

theorem natCmd_clear {s : State} {i : Nat} {e : NatEnt} (he : natEnt s i = some e) :
    natEnt (natCmd s 1 i) i = some { e with rxOk := 0, rxDrop := 0, txUnconf := 0 } ∧
      (natCmd s 1 i).rad.cmdStat = (if s.rad.evictAt.isSome then 1 else 2) ∧ (natCmd s 1 i).rad.cmdErr = .ok := by
  have hset : natCmd s 1 i = setRad (natClear s i) fun r => { r with cmdStat := if r.evictAt.isSome then 1 else 2, cmdErr := .ok } := if_pos rfl
  have hevict : (natClear s i).rad.evictAt = s.rad.evictAt := by
    unfold natClear setNat
    rw [he]
  have hent : natEnt (natClear s i) i = some { e with rxOk := 0, rxDrop := 0, txUnconf := 0 } := by
    rw [natClear, natEnt_setNat_same, he]; rfl
  rw [hset]
  exact ⟨hent, congrArg (fun o : Option (Nat × Nat) => if o.isSome then 1 else 2) hevict, rfl⟩

theorem natCmd_keys (s : State) (op i : Nat) : (natCmd s op i).keys = s.keys := KeepsAllBut.keys (m := { rad := true }) (natCmd_keeps _ rfl s op i) rfl

/-- Settles O16: each row writes one register, which queues its change for the boundary or, for a clear, makes it. -/
theorem committedChangesWaitForTheirBoundary : Obligations.CommittedChangesWaitForTheirBoundary := by
  refine ⟨fun s m value h => done_ran rfl ?_, fun s m p i part w rest hp hi hpart h => done_ran rfl ?_, fun s m i hi h => done_ran rfl ?_,
    fun s m i e hi he h => done_ran rfl ?_⟩
  · obtain ⟨v, hkeeps⟩ := vtpWrite_keeps_written (by decide) h
    exact (hkeeps.lgt rfl).trans (written_force m.session value { s with vtp := v })
  · obtain ⟨v, hkeeps⟩ := vtpWrite_keeps_written (by decide) h
    have hsteps := written_step hp hi hpart m.session { s with vtp := v } w rest
    rw [← hkeeps.crs rfl] at hsteps
    exact hsteps
  · obtain ⟨v, hkeeps⟩ := vtpWrite_keeps_written (by decide) h
    refine (hkeeps.rad rfl).trans ?_
    rw [written_natCmd _ _ _ (by decide) hi]
    rfl
  · obtain ⟨v, hkeeps⟩ := vtpWrite_keeps_written (by decide) h
    rw [written_natCmd _ _ _ (by decide) hi] at hkeeps
    have hrad := hkeeps.rad rfl
    obtain ⟨hent, hstat, herr⟩ := natCmd_clear (s := { s with vtp := v }) he
    refine ⟨?_, ?_, ?_, (hkeeps.keys rfl).trans (natCmd_keys _ _ _)⟩
    · exact (congrArg (fun r : RadState => tget r.nat i) hrad).trans hent
    · exact (congrArg RadState.cmdStat hrad).trans hstat
    · exact (congrArg RadState.cmdErr hrad).trans herr

end Sys2Proof.Machine
end

section
/-! Key commands (R302) by WRITE. -/
namespace Sys2Proof.Machine

/-! No register of a WRITE that is served whole is refused (R461). -/

theorem firstErr_ok {l : List Err} (h : firstErr l = .ok) {e : Err} (he : e ∈ l) : e = .ok := by
  induction l with
  | nil => cases he
  | cons a l ih =>
    cases a <;> first | cases h | skip
    rcases List.mem_cons.mp he with rfl | hl
    · rfl
    · exact ih h hl

theorem writeRegs_regErr {s : State} {n : Stn} {session phy : Nat} {ws : Words} (h : (writeRegs s n session phy ws).2 = .ok) {x : Nat × Word}
    (hx : x ∈ ws) : regErr n session s (ws.foldl (putReg n session) s) ws x = .ok := by
  unfold writeRegs at h
  split at h
  · split at h
    · dsimp only at h
      split at h
      · next hok => exact firstErr_ok hok (List.mem_map_of_mem hx)
      · next hbad => exact absurd h hbad
    · next hbad => exact absurd h hbad
  · next hbad => exact absurd h hbad

/-! Key commands (R302). -/

theorem linkKey_putLink_same (s : State) (i gen : Nat) (k : Key) : linkKey (putLink s i gen k) i gen = some k := by
  unfold linkKey putLink
  by_cases h : gen = 0 <;> simp [h, setKeys]

/-- The two generations of a link are kept apart. -/
theorem linkKey_putLink_other (s : State) (i : Nat) (k : Key) (gen : Nat) : linkKey (putLink s i (1 - gen) k) i gen = linkKey s i gen := by
  unfold linkKey putLink
  by_cases h : gen = 0
  · simp [h, setKeys]
  · have h' : 1 - gen = 0 := by omega
    simp [h, h', setKeys]

theorem startRekey_some {s : State} {i : Nat} {e : NatEnt} (h : natEnt s i = some e) :
    startRekey s i = setDyn (queueRekey (putLink (newKey s).1 i (1 - genOf e) (newKey s).2) i) i fun d => { d with rekeying := true } := by
  simp only [startRekey, h]

theorem startRekey_sec (s : State) (i : Nat) : (startRekey s i).sec = s.sec :=
  KeepsAllBut.sec (m := { rad := true, keys := true, free := true }) (startRekey_keeps _ rfl rfl rfl s i) rfl

/-- A rekey puts a new key where the link's key in use is not, and marks the node (R283). -/
theorem startRekey_keys {s : State} {i : Nat} {e : NatEnt} (h : natEnt s i = some e) :
    (nodeDyn (startRekey s i) i).rekeying = true ∧ (linkKey (startRekey s i) i (1 - genOf e)).isSome = true ∧
      linkKey (startRekey s i) i (genOf e) = linkKey s i (genOf e) := by
  have hkeys : (startRekey s i).keys = (putLink (newKey s).1 i (1 - genOf e) (newKey s).2).keys := by
    rw [startRekey_some h]
    exact KeepsAllBut.keys (m := { rad := true }) ((setDyn_keeps _ rfl _ _ _).trans (queueRekey_keeps _ rfl _ _)) rfl
  have hlink : ∀ gen, linkKey (startRekey s i) i gen = linkKey (putLink (newKey s).1 i (1 - genOf e) (newKey s).2) i gen := by
    intro gen
    simp only [linkKey, hkeys]
  refine ⟨?_, by rw [hlink, linkKey_putLink_same]; rfl, by rw [hlink, linkKey_putLink_other]; rfl⟩
  rw [startRekey_some h, nodeDyn_setDyn_same]

theorem queueUni_switches (s : State) (u : Unicast) : (queueUni s u).rad.switches = s.rad.switches := by
  unfold queueUni
  split <;> rfl

theorem queueCommand_switches (s : State) (i cmd : Nat) (data : List Byte) : (queueCommand s i cmd data).rad.switches = s.rad.switches := by
  unfold queueCommand
  split
  · rfl
  · exact queueUni_switches _ _

theorem queueKey_switches (s : State) (i slot at_ : Nat) : (queueKey s i slot at_).rad.switches = s.rad.switches := by
  unfold queueKey
  split
  · split
    · rfl
    · exact queueCommand_switches _ _ _ _
  · rfl

/-- A renewal puts a new key in its slot, with SWITCH 600 s ahead (R284; log entry 29). -/
theorem renewShared_renews (s : State) (slot : Nat) :
    (tget (renewShared s slot).keys.shared slot).isSome = true ∧ (renewShared s slot).rad.switches = s.rad.switches ++ [(slot, nowSec s + 600, 0)] := by
  unfold renewShared
  extract_lets k at_ put switched
  have hkeys : ((keyNodes switched slot).foldl (fun s i => queueKey s i slot at_) switched).keys = switched.keys :=
    KeepsAllBut.keys (m := { rad := true }) (foldl_keeps _ _ _ _ fun s i => queueKey_keeps _ rfl s i slot at_) rfl
  have hswitches : ((keyNodes switched slot).foldl (fun s i => queueKey s i slot at_) switched).rad.switches = switched.rad.switches :=
    List.foldlRecOn (motive := fun t : State => t.rad.switches = switched.rad.switches) _ _ rfl fun t ht i _ => (queueKey_switches t i slot at_).trans ht
  rw [hkeys, hswitches]
  exact ⟨by simp [switched, put, putShared], rfl⟩

theorem written_keyCmdWord (session : Nat) (w : Word) (s : State) : written .sec session 0 (wordsFrom 0x40 [w]) s = secAct s 0x40 w := rfl

theorem keyCmd_fields {op target : Nat} (hop : op < 16) : (keyCmd op target).field 31 28 = op ∧ (keyCmd op target).field 11 0 = target % 4096 :=
  ⟨(pack_two op (target % 4096) hop (by omega)).1, pack_target hop (Nat.mod_lt _ (by decide))⟩

theorem secAct_rekey {i : Nat} (hi : i < 4096) (s : State) : secAct s 0x40 (keyCmd 1 i) = rekeyLink s i := by
  obtain ⟨hop, htarget⟩ := keyCmd_fields (op := 1) (target := i) (by decide)
  simp [secAct, hop, htarget, Nat.mod_eq_of_lt hi]

theorem secAct_renewGroup {p : Nat} (hp : p < 4) (s : State) : secAct s 0x40 (keyCmd 2 p) = renewGroup s p := by
  obtain ⟨hop, htarget⟩ := keyCmd_fields (op := 2) (target := p) (by decide)
  have hport : p % 4096 % 4 = p := by omega
  simp [secAct, hop, htarget, hport]

theorem secAct_renewBeacon (s : State) : secAct s 0x40 (keyCmd 3 0) = renewBeacon s := by
  obtain ⟨hop, -⟩ := keyCmd_fields (op := 3) (target := 0) (by decide)
  simp [secAct, hop]

theorem secAct_forget {i : Nat} (hi : i < 4096) (s : State) : secAct s 0x40 (keyCmd 4 i) = forgetLink s i := by
  obtain ⟨hop, htarget⟩ := keyCmd_fields (op := 4) (target := i) (by decide)
  simp [secAct, hop, htarget, Nat.mod_eq_of_lt hi]

theorem secAct_erase {i : Nat} (hi : i < 4096) (s : State) : secAct s 0x40 (keyCmd 5 i) = eraseDevice s i := by
  obtain ⟨hop, htarget⟩ := keyCmd_fields (op := 5) (target := i) (by decide)
  simp [secAct, hop, htarget, Nat.mod_eq_of_lt hi]

/-- REKEY_LINK is refused for a node that is not in the NAT (R302). -/
theorem rekey_known {s : State} {m : VtpMeta} {i : Nat} (hi : i < 4096) (h : WriteOk s m .sec 0x40 [keyCmd 1 i] 0) : ∃ e, natEnt s i = some e := by
  have herr := writeRegs_regErr h.2 (x := (0x40, keyCmd 1 i)) (List.mem_singleton.mpr rfl)
  obtain ⟨hop, htarget⟩ := keyCmd_fields (op := 1) (target := i) (by decide)
  have hnat : natEnt (meets s (writeReq m .sec 0x40 [keyCmd 1 i])) i = natEnt s i := congrArg (fun r : RadState => tget r.nat i) ((meets_keeps s _).rad rfl)
  cases hent : natEnt s i with
  | some e => exact ⟨e, rfl⟩
  | none =>
    rw [hent] at hnat
    simp [regErr, secErr, hop, htarget, Nat.mod_eq_of_lt hi, keyCmdErr, hnat] at herr

theorem forgetLink_forgets {s : State} {i : Nat} {e : NatEnt} (h : natEnt s i = some e) :
    tget (forgetLink s i).keys.link0 i = none ∧ tget (forgetLink s i).keys.link1 i = none ∧
      natEnt (forgetLink s i) i = some { e with enrolled := false } ∧ (forgetLink s i).keys.device = s.keys.device := by
  have hkeys : (forgetLink s i).keys = (dropLink (dropLink s i 0) i 1).keys :=
    KeepsAllBut.keys (m := { rad := true, sec := true }) ((setSec_keeps _ rfl _ _).trans (setNat_keeps _ rfl _ _ _)) rfl
  have hent : natEnt (forgetLink s i) i = (natEnt s i).map fun e => { e with enrolled := false } :=
    natEnt_setNat_same (dropLink (dropLink s i 0) i 1) i _
  rw [hkeys, hent, h]
  exact ⟨by simp [dropLink, setKeys], by simp [dropLink, setKeys], rfl, rfl⟩

/-- Settles O17: each row writes SEC_KEYCMD, whose operation acts on its keys and nothing after it does. -/
theorem keyCommandsActOnTheirKeys : Obligations.KeyCommandsActOnTheirKeys := by
  refine ⟨fun s m i hi h => done_ran rfl ?rekey, fun s m p hp h => done_ran rfl ?group, fun s m h => done_ran rfl ?beacon,
    fun s m i e hi he h => done_ran rfl ?forget, fun s m i hi h => done_ran rfl ?erase⟩
  case rekey =>
    obtain ⟨v, hkeeps⟩ := vtpWrite_keeps_written (by decide) h
    rw [written_keyCmdWord, secAct_rekey hi] at hkeeps
    obtain ⟨e, he⟩ := rekey_known hi h
    obtain ⟨hmark, hnew, hold⟩ := startRekey_keys (s := setSec { s with vtp := v } fun x => { x with cmdStat := 1, cmdErr := .ok }) he
    have hsec := startRekey_sec (setSec { s with vtp := v } fun x => { x with cmdStat := 1, cmdErr := .ok }) i
    have hlink : ∀ gen, linkKey (vtpWrite s m Stn.sec.idx 0x40 [keyCmd 1 i] 0) i gen = linkKey (rekeyLink { s with vtp := v } i) i gen := by
      intro gen
      simp only [linkKey, hkeeps.keys rfl]
    refine ⟨?_, ?_, fun e' he' => ?_⟩
    · exact (congrArg (fun r : RadState => (tgetD r.dyn i {}).rekeying) (hkeeps.rad rfl)).trans hmark
    · exact congrArg SecState.cmdErr ((hkeeps.sec rfl).trans hsec)
    · obtain rfl : e = e' := Option.some.inj (he.symm.trans he')
      exact ⟨(congrArg Option.isSome (hlink _)).trans hnew, (hlink _).trans hold⟩
  case group =>
    obtain ⟨v, hkeeps⟩ := vtpWrite_keeps_written (by decide) h
    rw [written_keyCmdWord, secAct_renewGroup hp] at hkeeps
    obtain ⟨hkey, hswitch⟩ := renewShared_renews (setSec { s with vtp := v } fun x => { x with cmdStat := 1, cmdErr := .ok }) (idleGroup s p)
    refine ⟨(congrArg (fun k : KeyStore => (tget k.shared (idleGroup s p)).isSome) (hkeeps.keys rfl)).trans hkey, ?_⟩
    have hrad := (congrArg RadState.switches (hkeeps.rad rfl)).trans hswitch
    exact hrad ▸ List.mem_append_right _ (List.mem_singleton.mpr rfl)
  case beacon =>
    obtain ⟨v, hkeeps⟩ := vtpWrite_keeps_written (by decide) h
    rw [written_keyCmdWord, secAct_renewBeacon] at hkeeps
    obtain ⟨hkey, hswitch⟩ := renewShared_renews (setSec { s with vtp := v } fun x => { x with cmdStat := 1, cmdErr := .ok }) (idleBeacon s)
    refine ⟨(congrArg (fun k : KeyStore => (tget k.shared (idleBeacon s)).isSome) (hkeeps.keys rfl)).trans hkey, ?_⟩
    have hrad := (congrArg RadState.switches (hkeeps.rad rfl)).trans hswitch
    exact hrad ▸ List.mem_append_right _ (List.mem_singleton.mpr rfl)
  case forget =>
    obtain ⟨v, hkeeps⟩ := vtpWrite_keeps_written (by decide) h
    rw [written_keyCmdWord, secAct_forget hi] at hkeeps
    obtain ⟨hlink0, hlink1, hent, hdevice⟩ := forgetLink_forgets (s := { s with vtp := v }) he
    have hkeys := hkeeps.keys rfl
    exact ⟨(congrArg (fun k : KeyStore => tget k.link0 i) hkeys).trans hlink0, (congrArg (fun k : KeyStore => tget k.link1 i) hkeys).trans hlink1,
      (congrArg (fun r : RadState => tget r.nat i) (hkeeps.rad rfl)).trans hent, (congrArg KeyStore.device hkeys).trans hdevice⟩
  case erase =>
    obtain ⟨v, hkeeps⟩ := vtpWrite_keeps_written (by decide) h
    rw [written_keyCmdWord, secAct_erase hi] at hkeeps
    exact ⟨hkeeps.keys rfl, congrArg SecState.cmdStat (hkeeps.sec rfl), hkeeps.rad rfl⟩

end Sys2Proof.Machine
end

section
/-! Compare units and the head-end step (R337, R342), reports (R406), the other supply's value (R390) and PWR's requests (R412, R421) by WRITE. -/
namespace Sys2Proof.Machine

/-! Compare units (R342). -/

/-- Between two states compare unit `n` alone may change, and network time stands. -/
structure CmpOnly (n : Nat) (s t : State) : Prop where
  others : ∀ j, j ≠ n → t.tim.cmps[j]? = s.tim.cmps[j]?
  length : t.tim.cmps.length = s.tim.cmps.length
  sub : t.tim.sub = s.tim.sub

theorem CmpOnly.refl (n : Nat) (s : State) : CmpOnly n s s := ⟨fun _ _ => rfl, rfl, rfl⟩

theorem CmpOnly.trans {n : Nat} {s t u : State} (h : CmpOnly n s t) (k : CmpOnly n t u) : CmpOnly n s u :=
  ⟨fun j hj => (k.others j hj).trans (h.others j hj), k.length.trans h.length, k.sub.trans h.sub⟩

theorem CmpOnly.of_tim {n : Nat} {s t : State} (h : t.tim = s.tim) : CmpOnly n s t := ⟨fun _ _ => by rw [h], by rw [h], by rw [h]⟩

theorem setCmp_only (s : State) (n : Nat) (f : CmpUnit → CmpUnit) : CmpOnly n s (setCmp s n f) :=
  ⟨fun _ hj => setCmp_other s n f hj, upd_length _ _ _, rfl⟩

theorem cmpReport_only (s : State) (n : Nat) : CmpOnly n s (cmpReport s n) := .of_tim (tim_of_keeps (cmpReport_keeps offTimOnly rfl s n))

theorem issueEdge_only (s : State) (n e : Nat) : CmpOnly n s (issueEdge s n e) := by
  unfold issueEdge
  extract_lets first issued reported
  have hissued : CmpOnly n s issued := setCmp_only s n _
  have hreported : CmpOnly n s reported := by
    simp only [reported]
    split
    · exact hissued.trans (cmpReport_only issued n)
    · exact hissued
  split
  · exact hreported.trans ((setCmp_only reported n _).trans (cmpReport_only _ n))
  · exact hreported

/-- An edge that is issued at once takes no time (R344). -/
theorem compareEdge_only {s : State} {n : Nat} (h : (nth s.tim.cmps n {}).state = .idle ∨ (nth s.tim.cmps n {}).immediate = true) :
    CmpOnly n s (compareEdge s n) := by
  unfold compareEdge
  extract_lets u e waited at_
  split
  · exact .refl n s
  · next hbusy =>
    have himm : u.immediate = true := by
      rcases h with hidle | himm
      · exact absurd (show (decide (u.state ≠ .armed) && decide (u.state ≠ .running)) = true by simp [u, hidle]) hbusy
      · exact himm
    have hwaited : waited = s := if_pos himm
    rw [hwaited]
    exact (setCmp_only s n _).trans (issueEdge_only _ n at_)

theorem setCmp_late (s : State) (n : Nat) (f : CmpUnit → CmpUnit) (hf : ∀ u, (f u).late = u.late) :
    (setCmp s n f).tim.cmps.map CmpUnit.late = s.tim.cmps.map CmpUnit.late :=
  (upd_map CmpUnit.late s.tim.cmps n f (fun x => x) hf).trans (upd_id _ _)

/-- Neither an edge nor its report touches LATE (R344). -/
theorem issueEdge_late (s : State) (n e : Nat) : (issueEdge s n e).tim.cmps.map CmpUnit.late = s.tim.cmps.map CmpUnit.late := by
  unfold issueEdge
  extract_lets first issued reported
  have hissued : issued.tim.cmps.map CmpUnit.late = s.tim.cmps.map CmpUnit.late := setCmp_late s n _ fun _ => rfl
  have hreported : reported.tim.cmps.map CmpUnit.late = s.tim.cmps.map CmpUnit.late := by
    simp only [reported]
    split
    · rw [cmpReport_cmps, hissued]
    · exact hissued
  split
  · rw [cmpReport_cmps, setCmp_late, hreported]
    exact fun _ => rfl
  · exact hreported

theorem compareEdge_late (s : State) (n : Nat) : (compareEdge s n).tim.cmps.map CmpUnit.late = s.tim.cmps.map CmpUnit.late := by
  unfold compareEdge
  extract_lets u e waited at_
  split
  · rfl
  · have hwaited : waited.tim.cmps = s.tim.cmps := by
      simp only [waited]
      split
      · rfl
      · exact advanceTo_cmps s _
    rw [issueEdge_late, setCmp_late, hwaited]
    exact fun _ => rfl

/-- An armed unit, its series not begun (R342). -/
def cmpFresh (u : CmpUnit) : Prop := u.state = .armed ∧ u.edges = 0 ∧ u.missed = 0 ∧ u.stepped = false ∧ u.lowAt = none

/-- A unit as `cmpArm` arms it. -/
def cmpArmed (u : CmpUnit) : CmpUnit :=
  { u with state := .armed, late := false, stepped := false, missed := 0, edges := 0, k := 0, lowAt := none, immediate := false,
           pin := if u.mode = 4 then u.pin else false }

/-- A unit whose first edge is due is late, and its edge goes at once (R344). -/
def cmpLate (u : CmpUnit) : CmpUnit := { u with late := true, immediate := true }

theorem cmpArm_eq (s : State) (n : Nat) :
    cmpArm s n = setCmp s n cmpArmed ∨ cmpArm s n = compareEdge (setCmp (setCmp s n cmpArmed) n cmpLate) n := by
  unfold cmpArm
  extract_lets armed u
  split
  · exact .inr rfl
  · exact .inl rfl

theorem setCmp_nth (s : State) (n : Nat) (f : CmpUnit → CmpUnit) :
    nth (setCmp s n f).tim.cmps n {} = f (nth s.tim.cmps n {}) ∨ nth (setCmp s n f).tim.cmps n {} = {} := by
  cases h : s.tim.cmps[n]? with
  | some u => exact .inl (by rw [nth_of_get ((setCmp_same s n f).trans (by rw [h]; rfl)), nth_of_get h])
  | none => exact .inr (by simp [nth, List.getD, setCmp_same, h])

theorem cmpArm_only (s : State) (n : Nat) : CmpOnly n s (cmpArm s n) := by
  rcases cmpArm_eq s n with h | h <;> rw [h]
  · exact setCmp_only s n _
  · refine (setCmp_only s n _).trans ((setCmp_only _ n _).trans (compareEdge_only ?_))
    rcases setCmp_nth (setCmp s n cmpArmed) n cmpLate with hnth | hnth
    · exact .inr (by rw [hnth]; rfl)
    · exact .inl (by rw [hnth])

/-- A unit armed is fresh, or late (R342, R344). -/
theorem cmpArm_unit {s : State} {n : Nat} {u : CmpUnit} (hu : (cmpArm s n).tim.cmps[n]? = some u) (hlate : u.late = false) : cmpFresh u := by
  rcases cmpArm_eq s n with h | h <;> rw [h] at hu
  · rw [setCmp_same] at hu
    obtain ⟨x, -, rfl⟩ := Option.map_eq_some_iff.mp hu
    exact ⟨rfl, rfl, rfl, rfl, rfl⟩
  · have hmap := congrArg (·[n]?) (compareEdge_late (setCmp (setCmp s n cmpArmed) n cmpLate) n)
    simp only [List.getElem?_map, hu, setCmp_same, Option.map_map, Option.map_some] at hmap
    obtain ⟨x, -, hx⟩ := Option.map_eq_some_iff.mp hmap.symm
    exact absurd (hx.trans hlate) (by simp [cmpLate])

theorem cmpDisarm_unit {s : State} {n : Nat} {u : CmpUnit} (hu : (cmpDisarm s n).tim.cmps[n]? = some u) :
    u.state = .idle ∧ u.lowAt = none ∧ u.immediate = false := by
  rw [cmpDisarm, setCmp_same] at hu
  obtain ⟨x, -, rfl⟩ := Option.map_eq_some_iff.mp hu
  exact ⟨rfl, rfl, rfl⟩

theorem putReg_cmp {k o : Nat} (hk : k < 8) (ho : o < 0x40) (session : Nat) (s : State) (w : Word) :
    putReg .tim session s (0x1000 + 0x40 * k + o, w) = setCmp s k fun u => cmpField u o w := by
  simp only [putReg, timPut, bankAt_slot 0x1000 hk ho]

theorem actReg_cmp {k o : Nat} (hk : k < 8) (ho : o < 0x40) (hpos : o ≠ 0) (phy : Nat) (s : State) (w : Word) :
    actReg .tim phy s (0x1000 + 0x40 * k + o, w) = s := by
  simp only [actReg, timAct, bankAt_slot 0x1000 hk ho]
  split
  · next h => simp at h; omega
  · rfl
  · next h => cases h

theorem actReg_cmpState {k : Nat} (hk : k < 8) (phy : Nat) (s : State) (w : Word) :
    actReg .tim phy s (0x1000 + 0x40 * k, w) = if w.field 31 28 = 1 then cmpArm s k else cmpDisarm s k := by
  have hslot := bankAt_slot 0x1000 (o := 0) hk (show 0 < 0x40 by decide)
  rw [Nat.add_zero] at hslot
  simp only [actReg, timAct, hslot]

/-- A unit's words change that unit alone, and then STATE acts on it. -/
theorem written_cmp {k : Nat} (hk : k < 8) (w : Word) {rest : List Word} (hlen : rest.length ≤ 15) (session : Nat) (s : State) :
    ∃ u, CmpOnly k s u ∧
      written .tim session 0 (wordsFrom (0x1000 + 0x40 * k) (w :: rest)) s = if w.field 31 28 = 1 then cmpArm u k else cmpDisarm u k := by
  have hput : CmpOnly k s ((wordsFrom (0x1000 + 0x40 * k) (w :: rest)).foldl (putReg .tim session) s) := by
    refine List.foldlRecOn _ _ (.refl k s) fun t ht x hx => ?_
    obtain ⟨i, hi, hoff⟩ := mem_wordsFrom hx
    rw [List.length_cons] at hi
    obtain ⟨off, v⟩ := x
    obtain rfl : off = 0x1000 + 0x40 * k + 4 * i := hoff
    rw [putReg_cmp hk (by omega)]
    exact ht.trans (setCmp_only t k _)
  have hidle : ∀ x ∈ wordsFrom (0x1000 + 0x40 * k + 4) rest, ∀ s, actReg .tim 0 s x = s := by
    intro x hx t
    obtain ⟨i, hi, hoff⟩ := mem_wordsFrom hx
    obtain ⟨off, v⟩ := x
    obtain rfl : off = 0x1000 + 0x40 * k + (4 + 4 * i) := by simpa [Nat.add_assoc] using hoff
    exact actReg_cmp hk (by omega) (by omega) 0 t v
  refine ⟨_, hput, ?_⟩
  unfold written
  generalize (wordsFrom (0x1000 + 0x40 * k) (w :: rest)).foldl (putReg .tim session) s = u
  rw [wordsFrom_cons, List.foldl_cons, foldl_actReg_idle hidle, actReg_cmpState hk]

/-! The head-end step (R337). -/

/-- The state with other registers of the head-end step. -/
def withHead (s : State) (h : HeadStep) : State := { s with tim := { s.tim with head := h } }

theorem putReg_head {off : Nat} (h : off < 0x1000) (session : Nat) (s : State) (w : Word) :
    putReg .tim session s (off, w) = withHead s (headField s.tim.head off w) := by
  have hbank : bankAt 0x1000 0x40 8 off = none := if_neg (by simp; omega)
  simp only [putReg, timPut, hbank, withHead]

theorem actReg_head {off : Nat} (h : off < 0x1000) (phy : Nat) (s : State) (w : Word) :
    actReg .tim phy s (off, w) = if off = 0x50 then headRequest s else s := by
  have hbank : bankAt 0x1000 0x40 8 off = none := if_neg (by simp; omega)
  simp only [actReg, timAct, hbank]

theorem headField_absolute {off : Nat} (h : off ≠ 0x50) (x : HeadStep) (w : Word) : (headField x off w).absolute = x.absolute := by
  unfold headField
  split <;> first | rfl | exact absurd rfl h

/-- The other registers of the step leave ABSOLUTE. -/
theorem foldl_putReg_head {off : Nat} {ws : List Word} (h : 0x50 < off) (hmax : off + 4 * ws.length < 0x1000) (session : Nat) (s : State) :
    ∃ h, (wordsFrom off ws).foldl (putReg .tim session) s = withHead s h ∧ h.absolute = s.tim.head.absolute := by
  refine List.foldlRecOn (motive := fun t => ∃ h, t = withHead s h ∧ h.absolute = s.tim.head.absolute) _ _ ⟨s.tim.head, rfl, rfl⟩ ?_
  rintro t ⟨g, rfl, hg⟩ x hx
  obtain ⟨i, hi, hoff⟩ := mem_wordsFrom hx
  exact ⟨headField g x.1 x.2, putReg_head (by omega) session _ x.2, (headField_absolute (by omega) g x.2).trans hg⟩

/-- The step's words: ABSOLUTE is that of its control word, and the request acts on what they leave. -/
theorem written_head {w : Word} {rest : List Word} (hlen : rest.length ≤ 5) (session : Nat) (s : State) :
    ∃ h, h.absolute = w.bit 24 ∧ written .tim session 0 (wordsFrom 0x50 (w :: rest)) s = headRequest (withHead s h) := by
  have hidle : ∀ x ∈ wordsFrom (0x50 + 4) rest, ∀ s, actReg .tim 0 s x = s := by
    intro x hx t
    obtain ⟨i, hi, hoff⟩ := mem_wordsFrom hx
    obtain ⟨off, v⟩ := x
    exact (actReg_head (by simp only at hoff; omega) 0 t v).trans (if_neg (by simp only at hoff; omega))
  obtain ⟨h, hput, habs⟩ := foldl_putReg_head (off := 0x50 + 4) (ws := rest) (by decide) (by omega) session
    (withHead s (headField s.tim.head 0x50 w))
  refine ⟨h, habs, ?_⟩
  unfold written
  rw [wordsFrom_cons, List.foldl_cons, List.foldl_cons, foldl_actReg_idle hidle, actReg_head (by decide), if_pos rfl, putReg_head (by decide), hput]
  rfl

theorem pack_absolute (absolute : Bool) : (pack [(28, 1), (24, b2n absolute)]).bit 24 = absolute := by
  cases absolute <;> decide

/-- Settles O18: the unit's or the step's other words come first, then its STATE arms, disarms or requests. -/
theorem compareUnitsAreArmedAndDisarmed : Obligations.CompareUnitsAreArmedAndDisarmed := by
  refine ⟨fun s m k ctrl rest hk hlen h => done_ran rfl ?arm, fun s m k ctrl hk h => done_ran rfl ?disarm,
    fun s m absolute rest hlen h => done_ran rfl ?head⟩
  case arm =>
    obtain ⟨v, hkeeps⟩ := vtpWrite_keeps_written (by decide) h
    obtain ⟨u, honly, hu⟩ := written_cmp hk (withState ctrl 1) hlen m.session { s with vtp := v }
    rw [hu, if_pos (withState_state ctrl (by decide))] at hkeeps
    obtain ⟨hothers, hlength, hsub⟩ := honly.trans (cmpArm_only u k)
    have hunit : ∀ x, (cmpArm u k).tim.cmps[k]? = some x → x.late = false → cmpFresh x := fun x => cmpArm_unit
    rw [← hkeeps.tim rfl] at hothers hlength hsub hunit
    exact ⟨hunit, hothers, hlength, hsub⟩
  case disarm =>
    obtain ⟨v, hkeeps⟩ := vtpWrite_keeps_written (by decide) h
    obtain ⟨u, honly, hu⟩ := written_cmp hk (withState ctrl 0) (rest := []) (by decide) m.session { s with vtp := v }
    rw [hu, if_neg (by rw [withState_state ctrl (by decide)]; decide)] at hkeeps
    obtain ⟨hothers, hlength, -⟩ := honly.trans (setCmp_only u k _)
    have hunit : ∀ x, (cmpDisarm u k).tim.cmps[k]? = some x → x.state = .idle ∧ x.lowAt = none ∧ x.immediate = false := fun x => cmpDisarm_unit
    rw [← hkeeps.tim rfl] at hunit
    have htim := hkeeps.tim rfl
    exact ⟨hunit, fun j hj => (congrArg (·.cmps[j]?) htim).trans (hothers j hj), (congrArg (·.cmps.length) htim).trans hlength⟩
  case head =>
    obtain ⟨v, hkeeps⟩ := vtpWrite_keeps_written (by decide) h
    obtain ⟨x, habs, hx⟩ := written_head (w := pack [(28, 1), (24, b2n absolute)]) hlen m.session { s with vtp := v }
    rw [hx] at hkeeps
    have htim := hkeeps.tim rfl
    dsimp only
    rw [htim]
    exact ⟨rfl, habs.trans (pack_absolute absolute), rfl, rfl, rfl⟩

end Sys2Proof.Machine
end

section
/-! Reports (R406), the other supply's value (R390) and PWR's requests (R412, R421) by WRITE. -/
namespace Sys2Proof.Machine

/-! Reports (R406). -/

theorem pack_enable {a : Nat} (h : a < 65536) :
    (pack [(31, 1), (0, a)]).bit 31 = true ∧ (pack [(31, 1), (0, a)]).field 15 0 = a := by
  have hvalue : (pack [(31, 1), (0, a)]).toNat = 2 ^ 31 + a := by
    simp [pack, w32]
    omega
  constructor
  · have hbit : (pack [(31, 1), (0, a)]).bit 31 = (pack [(31, 1), (0, a)]).toNat.testBit 31 := rfl
    rw [hbit, hvalue, Nat.testBit_eq_decide_div_mod_eq, decide_eq_true_eq]
    omega
  · unfold Word.field
    rw [hvalue]
    omega

theorem written_reportEnable {resend : Nat} (h : resend < 65536) (session : Nat) (s : State) :
    (written .evq session 0 (wordsFrom 0x4 [pack [(31, 1), (0, resend % 65536)]]) s).evq =
      { s.evq with enable := true, session := session, resend := resend } := by
  obtain ⟨hbit, hresend⟩ := pack_enable (a := resend % 65536) (Nat.mod_lt _ (by decide))
  rw [Nat.mod_eq_of_lt h] at hbit hresend ⊢
  simp only [written_one, actReg, putReg, evqPut, hbit, hresend, if_true]

theorem written_reportAck {q ack : Nat} (hack : ack < 2 ^ 32) (session : Nat) (s : State) :
    written .evq session 0 (wordsFrom (0x114 + 0x20 * q) [w32 ack]) s = setQueue s q fun e => ackQueue e ack := by
  have hqueue : ackOf (0x114 + 0x20 * q) = q := by unfold ackOf; omega
  have hword : (w32 ack).toNat = ack := by simp only [w32, BitVec.toNat_ofNat]; omega
  simp only [written_one, actReg, putReg, evqPut, hqueue, hword]
  exact if_neg (by omega)

theorem setQueue_other (s : State) (q : Nat) (f : EvqQueue → EvqQueue) {j : Nat} (h : j ≠ q) :
    (setQueue s q f).evq.queues[j]? = s.evq.queues[j]? := upd_get_other _ _ _ _ h

/-! The other supply's value (R390). -/

theorem setFeeder_same {s : State} {f : Nat} {x : FeederSt} (h : s.mtr.feeders[f]? = some x) (g : FeederSt → FeederSt) :
    (setFeeder s f g).mtr.feeders[f]? = some (g x) := (upd_get_same _ _ _).trans (by rw [h]; rfl)

theorem setFeeder_other (s : State) (f : Nat) (g : FeederSt → FeederSt) {j : Nat} (h : j ≠ f) :
    (setFeeder s f g).mtr.feeders[j]? = s.mtr.feeders[j]? := upd_get_other _ _ _ _ h

/-- What a word does at START, V or N of the other supply's value. -/
def otherField (o : Nat) (w : Word) (x : FeederSt) : FeederSt :=
  if o = 0x10 then { x with otherStart := w.toNat, otherGiven := false }
  else if o = 0x14 then { x with other := { x.other with v := w } }
  else { x with other := { x.other with n := w }, otherGiven := true }

theorem putReg_other {f o : Nat} (hf : f < 8) (ho : o < 0x200) (session : Nat) (s : State) (w : Word) :
    putReg .mtr session s (0x2000 + 0x200 * f + o, w) = setFeeder s f (otherField o w) := by
  simp only [putReg, mtrPut, bankAt_slot 0x2000 hf ho]
  rfl

theorem written_otherStart {f : Nat} (hf : f < 8) (session : Nat) (s : State) (a : Word) :
    written .mtr session 0 (wordsFrom (0x2010 + 0x200 * f) [a]) s = setFeeder s f (otherField 0x10 a) := by
  have hoff : 0x2010 + 0x200 * f = 0x2000 + 0x200 * f + 0x10 := by omega
  rw [written_one, hoff, putReg_other hf (by decide)]
  rfl

theorem written_otherValue {f : Nat} (hf : f < 8) (session : Nat) (s : State) (a v n : Word) :
    written .mtr session 0 (wordsFrom (0x2010 + 0x200 * f) [a, v, n]) s =
      setFeeder (setFeeder (setFeeder s f (otherField 0x10 a)) f (otherField 0x14 v)) f (otherField 0x18 n) := by
  have hstart : 0x2010 + 0x200 * f = 0x2000 + 0x200 * f + 0x10 := by omega
  have hv : 0x2010 + 0x200 * f + 4 = 0x2000 + 0x200 * f + 0x14 := by omega
  have hn : 0x2010 + 0x200 * f + 4 + 4 = 0x2000 + 0x200 * f + 0x18 := by omega
  have hput : written .mtr session 0 (wordsFrom (0x2010 + 0x200 * f) [a, v, n]) s =
      putReg .mtr session (putReg .mtr session (putReg .mtr session s (0x2010 + 0x200 * f, a)) (0x2010 + 0x200 * f + 4, v))
        (0x2010 + 0x200 * f + 4 + 4, n) := by
    rw [written, wordsFrom_cons, wordsFrom_cons, wordsFrom_one]
    rfl
  rw [hput, hn, hv, hstart, putReg_other hf (by decide), putReg_other hf (by decide), putReg_other hf (by decide)]

/-- Settles O20: a report row changes its one register, and START takes back what V and N then give. -/
theorem reportsAreEnabledAndAcknowledged : Obligations.ReportsAreEnabledAndAcknowledged := by
  refine ⟨fun s m resend hresend h => done_ran rfl ?enable, fun s m q ack hq hack h => done_ran rfl ?ack, fun s m f a hf h => done_ran rfl ?start,
    fun s m f a v n hf h => done_ran rfl ?value⟩
  case enable =>
    obtain ⟨v, hkeeps⟩ := vtpWrite_keeps_written (by decide) h
    exact (hkeeps.evq rfl).trans (written_reportEnable hresend m.session { s with vtp := v })
  case ack =>
    obtain ⟨v, hkeeps⟩ := vtpWrite_keeps_written (by decide) h
    rw [written_reportAck hack] at hkeeps
    have hevq := congrArg EvqState.queues (hkeeps.evq rfl)
    exact ⟨fun j hj => (congrArg (·[j]?) hevq).trans (setQueue_other _ q _ hj),
      fun e he => (congrArg (·[q]?) hevq).trans (setQueue_get _ q _ e he)⟩
  case start =>
    obtain ⟨v, hkeeps⟩ := vtpWrite_keeps_written (by decide) h
    rw [written_otherStart hf] at hkeeps
    have hmtr := congrArg MtrState.feeders (hkeeps.mtr rfl)
    exact ⟨fun j hj => (congrArg (·[j]?) hmtr).trans (setFeeder_other _ f _ hj),
      fun x hx => (congrArg (·[f]?) hmtr).trans (setFeeder_same hx _)⟩
  case value =>
    obtain ⟨u, hkeeps⟩ := vtpWrite_keeps_written (by decide) h
    rw [written_otherValue hf] at hkeeps
    have hmtr := congrArg MtrState.feeders (hkeeps.mtr rfl)
    refine ⟨fun j hj => (congrArg (·[j]?) hmtr).trans ?_, fun x hx => (congrArg (·[f]?) hmtr).trans ?_⟩
    · rw [setFeeder_other _ f _ hj, setFeeder_other _ f _ hj, setFeeder_other _ f _ hj]
    · exact setFeeder_same (setFeeder_same (setFeeder_same hx _) _) _

/-! PWR's requests (R412, R421). -/

/-- The words of a sleep request leave PWR as it is but for the planned wake. -/
theorem written_sleep {wake : List Word} (hlen : wake.length ≤ 2) (session : Nat) (s : State) :
    ∃ lo hi, written .pwr session 0 (wordsFrom 0xC (pack [(28, 1)] :: wake)) s = sleepRequest (setPwr s fun x => { x with sleepLo := lo, sleepHi := hi }) := by
  match wake, hlen with
  | [], _ => exact ⟨s.pwr.sleepLo, s.pwr.sleepHi, rfl⟩
  | [a], _ => exact ⟨a.toNat, s.pwr.sleepHi, rfl⟩
  | [a, b], _ => exact ⟨a.toNat, b.field 15 0, rfl⟩

/-- What a sleep request asks for (R412). -/
theorem sleepRequest_asks (s : State) :
    (sleepRequest s).pwr.entry = some { trigger := 2, wakePlan := sleepWake (sleepRequest s), from_ := s.pwr.state } ∧
      (sleepRequest s).pwr.sleepState = 1 ∧ (sleepRequest s).rtc.alarm0.armed = true ∧ (sleepRequest s).rtc.alarm0.wake = true :=
  ⟨rfl, rfl, rfl, rfl⟩

theorem easyUnlock_unlocks (s : State) :
    (easyUnlock s).aon.easyLock = false ∧ (easyUnlock s).aon.failedWakes = 0 ∧
      (easyUnlock s).led.easyLock = (s.led.easyLock && s.ledBad.contains .pwr) ∧ (easyUnlock s).pwr.featherNext = s.pwr.featherNext := by
  by_cases hbad : s.ledBad.contains .pwr = true <;>
    · simp only [easyUnlock, ledgerWrite, hbad, if_true]
      split <;> simp [oweEvent]

theorem actReg_pwr_other {off : Nat} (h : off ≠ 0xC) (phy : Nat) (s : State) (w : Word) : actReg .pwr phy s (off, w) = s := by
  simp [actReg, pwrAct, h]

theorem putReg_pwrCtrl (session : Nat) (s : State) (w : Word) :
    putReg .pwr session s (0x8, w) =
      if w.bit 0 then easyUnlock (setPwr s fun x => { x with featherNext := some (w.bit 31, dueBoundary s) })
      else setPwr s fun x => { x with featherNext := some (w.bit 31, dueBoundary s) } := rfl

theorem easyUnlockWord_bits (feather : Bool) : (easyUnlockWord feather).bit 31 = feather ∧ (easyUnlockWord feather).bit 0 = true := by
  cases feather <;> decide

theorem written_easyUnlock (session : Nat) (feather : Bool) (s : State) :
    written .pwr session 0 (wordsFrom 0x8 [easyUnlockWord feather]) s = easyUnlock (setPwr s fun x => { x with featherNext := some (feather, dueBoundary s) }) := by
  obtain ⟨hfeather, hunlock⟩ := easyUnlockWord_bits feather
  rw [written_one, actReg_pwr_other (by decide), putReg_pwrCtrl, if_pos hunlock, hfeather]

/-- Settles O21: SLEEP_REQUEST acts on the planned wake its words leave; EASY_UNLOCK writes FEATHER_EN and unlocks in one word. -/
theorem sleepIsRequestedAndUnlocked : Obligations.SleepIsRequestedAndUnlocked := by
  refine ⟨fun s m wake hlen h => done_ran rfl ?sleep, fun s m feather h => done_ran rfl ?unlock⟩
  case sleep =>
    obtain ⟨v, hkeeps⟩ := vtpWrite_keeps_written (by decide) h
    obtain ⟨lo, hi, hw⟩ := written_sleep hlen m.session { s with vtp := v }
    rw [hw] at hkeeps
    obtain ⟨hentry, hstate, harmed, hwake⟩ := sleepRequest_asks (setPwr { s with vtp := v } fun x => { x with sleepLo := lo, sleepHi := hi })
    have hpwr := hkeeps.pwr rfl
    have hrtc := congrArg RtcState.alarm0 (hkeeps.rtc rfl)
    refine ⟨?_, (congrArg PwrState.sleepState hpwr).trans hstate, (congrArg Alarm.armed hrtc).trans harmed, (congrArg Alarm.wake hrtc).trans hwake,
      hkeeps.modp rfl⟩
    dsimp only [sleepWake]
    rw [hpwr]
    exact hentry
  case unlock =>
    obtain ⟨v, hkeeps⟩ := vtpWrite_keeps_written (by decide) h
    rw [written_easyUnlock] at hkeeps
    obtain ⟨hlock, hfailed, hled, hfeather⟩ := easyUnlock_unlocks (setPwr { s with vtp := v } fun x => { x with featherNext := some (feather, dueBoundary s) })
    have haon := hkeeps.aon rfl
    exact ⟨(congrArg Aon.easyLock haon).trans hlock, (congrArg Aon.failedWakes haon).trans hfailed,
      (congrArg LedgerSys.easyLock (hkeeps.led rfl)).trans hled, (congrArg PwrState.featherNext (hkeeps.pwr rfl)).trans hfeather⟩

end Sys2Proof.Machine
end

section
/-! Transfers (R428, R429), MDIO (R305), CALL records (R465, R467, R473) and the service rate (R455) by their requests. -/
namespace Sys2Proof.Machine

/-! What an answer leaves of Ethernet and of the sessions' part. -/

theorem ethQueue_eth (s : State) (p tq : Nat) (f : TxFrame) : ∃ ports, (ethQueue s p tq f).1.eth = { s.eth with ports := ports } := by
  unfold ethQueue
  dsimp only
  split
  · exact ⟨_, rfl⟩
  · split <;> exact ⟨_, rfl⟩

/-- What a reply leaves of Ethernet but the ports' queues, and of the service port's rate. -/
structure OffReply (s t : State) : Prop where
  mdioCmd : t.eth.mdioCmd = s.eth.mdioCmd
  mdioErr : t.eth.mdioErr = s.eth.mdioErr
  mdioData : t.eth.mdioData = s.eth.mdioData
  baud : t.vtp.baud = s.vtp.baud
  baudAt : t.vtp.baudAt = s.vtp.baudAt

theorem ethQueue_offReply (s : State) (p tq : Nat) (f : TxFrame) : OffReply s (ethQueue s p tq f).1 := by
  obtain ⟨ports, heth⟩ := ethQueue_eth s p tq f
  have hvtp : (ethQueue s p tq f).1.vtp = s.vtp := KeepsAllBut.vtp (m := { eth := true }) (ethQueue_keeps _ rfl s p tq f) rfl
  exact ⟨by rw [heth], by rw [heth], by rw [heth], by rw [hvtp], by rw [hvtp]⟩

theorem sendReply_offReply (s : State) (i : Nat) (r : VtpReply) (counts : Bool) : OffReply s (sendReply s i r counts) := by
  unfold sendReply
  extract_lets x _ q
  split
  · split <;> exact ⟨rfl, rfl, rfl, rfl, rfl⟩
  · have hq : OffReply s q.1 := ethQueue_offReply s _ _ _
    split
    · exact hq
    · split
      · exact ⟨hq.mdioCmd, hq.mdioErr, hq.mdioData, hq.baud, hq.baudAt⟩
      · exact ⟨hq.mdioCmd, hq.mdioErr, hq.mdioData, hq.baud, hq.baudAt⟩

theorem answer_offReply (s : State) (q : VtpReq) (r : VtpReply) : OffReply s (answer s q r) := by
  have hsend := sendReply_offReply
    (setSess (limitCount s q.session r.err) q.session fun x => { x with kept := lastN 32 (x.kept ++ [(q, r)]) }) q.session r true
  have hlimit : OffReply s (limitCount s q.session r.err) := by
    unfold limitCount
    split <;> exact ⟨rfl, rfl, rfl, rfl, rfl⟩
  exact ⟨hsend.mdioCmd.trans hlimit.mdioCmd, hsend.mdioErr.trans hlimit.mdioErr, hsend.mdioData.trans hlimit.mdioData,
    hsend.baud.trans hlimit.baud, hsend.baudAt.trans hlimit.baudAt⟩

/-! Transfers (R428, R429). -/

/-- A power-up leaves UPD_LENGTH (R36, R411). -/
theorem meets_lenReg (s : State) (q : VtpReq) : (meets s q).upd.lenReg = s.upd.lenReg := by
  have hreceived : (received s q).upd = s.upd := KeepsAllBut.upd (m := { vtp := true }) (received_keeps _ rfl s q) rfl
  have hpowered : ∀ u : State, (updPowered u).upd.lenReg = u.upd.lenReg := by
    intro u
    unfold updPowered
    split <;> rfl
  unfold meets atServe
  split
  · exact (hpowered _).trans (congrArg UpdState.lenReg hreceived)
  · exact congrArg UpdState.lenReg hreceived

/-- What a WRITE to UPD leaves outside sessions and Ethernet. -/
theorem vtpWrite_keeps_upd {s : State} {m : VtpMeta} {offset phy : Nat} {ws : List Word} (h : WriteOk s m .upd offset ws phy) :
    KeepsAllBut offReply (written .upd m.session phy (wordsFrom offset ws) (meets s (writeReq m .upd offset ws)))
      (vtpWrite s m Stn.upd.idx offset ws phy) := by
  rw [vtpWrite_written h]
  exact answer_keeps offReply rfl rfl _ _ _

theorem xferOpenWord_fields {kind slot : Nat} (hkind : kind < 8) (hslot : slot < 2) :
    (xferOpenWord kind slot).field 31 28 = 1 ∧ (xferOpenWord kind slot).field 26 24 = kind ∧ (xferOpenWord kind slot).field 16 16 = slot := by
  have hvalue : (xferOpenWord kind slot).toNat = 2 ^ 28 + kind * 2 ^ 24 + slot * 2 ^ 16 := by
    rw [xferOpenWord, Nat.mod_eq_of_lt hkind, Nat.mod_eq_of_lt hslot]
    simp [pack, w32]
    omega
  unfold Word.field
  rw [hvalue]
  omega

theorem written_xferCtrl (session : Nat) (s : State) (w : Word) :
    written .upd session 0 (wordsFrom 0x20 [w]) s = if w.field 31 28 = 1 then xferOpen s w else xferAbort s := rfl

theorem written_xferCtrlLen (session : Nat) (s : State) (w a : Word) :
    written .upd session 0 (wordsFrom 0x20 [w, a]) s =
      if w.field 31 28 = 1 then xferOpen (setUpd s fun u => { u with lenReg := a.toNat }) w
      else xferAbort (setUpd s fun u => { u with lenReg := a.toNat }) := rfl

/-- The transfer that XFER_OPEN opens, of the LENGTH its WRITE leaves. -/
theorem written_xferOpen {kind slot : Nat} (hkind : kind < 8) (hslot : slot < 2) {rest : List Word} (hlen : rest.length ≤ 1) (session : Nat) (s : State) :
    ∃ len, (written .upd session 0 (wordsFrom 0x20 (xferOpenWord kind slot :: rest)) s).upd =
        { s.upd with lenReg := len, xfer := { state := .open_, kind := kind, slot := slot, length := len, lastAt := s.tim.cyc } } ∧
      (rest = [] → len = s.upd.lenReg) ∧ ∀ w, rest = [w] → len = w.toNat := by
  obtain ⟨hstate, hk, hs⟩ := xferOpenWord_fields hkind hslot
  match rest, hlen with
  | [], _ =>
    refine ⟨s.upd.lenReg, ?_, fun _ => rfl, fun w hw => (nomatch hw)⟩
    rw [written_xferCtrl, if_pos hstate, xferOpen, hk, hs]
    rfl
  | [a], _ =>
    refine ⟨a.toNat, ?_, fun h => (nomatch h), fun w hw => by rw [List.singleton_inj.mp hw]⟩
    rw [written_xferCtrlLen, if_pos hstate, xferOpen, hk, hs]
    rfl

theorem xferAbort_aborts (s : State) :
    (xferAbort s).upd = { s.upd with xfer := {} } ∧
      (xferAbort s).led = { s.led with xfer := if s.ledBad.contains .upd then s.led.xfer else none } := by
  by_cases hbad : s.ledBad.contains .upd = true <;>
    · simp only [xferAbort, ledgerWrite, hbad, if_true]
      exact ⟨rfl, rfl⟩

theorem written_xferAbort (session : Nat) (s : State) : written .upd session 0 (wordsFrom 0x20 [0]) s = xferAbort s := rfl

theorem blockWord_go (index : Nat) : (blockWord index).bit 31 = true := by
  have hvalue : (blockWord index).toNat = 2 ^ 31 + index % 4096 := by
    simp [blockWord, pack, w32]
    omega
  have hbit : (blockWord index).bit 31 = (blockWord index).toNat.testBit 31 := rfl
  rw [hbit, hvalue, Nat.testBit_eq_decide_div_mod_eq, decide_eq_true_eq]
  omega

theorem written_blockCommit (session index : Nat) (s : State) : written .upd session 0 (wordsFrom 0x30 [blockWord index]) s = blockCommit s := by
  have hw : written .upd session 0 (wordsFrom 0x30 [blockWord index]) s = updAct s 0x30 (blockWord index) := rfl
  rw [hw, updAct]
  simp [blockWord_go]

/-! MDIO (R305). -/

/-- Bits that a mask leaves out do not matter to what it selects. -/
theorem or_and_disjoint {n : Nat} (x c m : BitVec n) (h : c &&& m = 0) : (x ||| c) &&& m = x &&& m := by
  refine BitVec.eq_of_getLsbD_eq fun i hi => ?_
  have hbit : (c.getLsbD i && m.getLsbD i) = false := by
    rw [← BitVec.getLsbD_and, h]; exact BitVec.getLsbD_zero
  rw [BitVec.getLsbD_and, BitVec.getLsbD_or, BitVec.getLsbD_and, Bool.and_or_distrib_right, hbit, Bool.or_false]

theorem mdioFields_go (value : Word) : mdioFields (value ||| 0x80000000) = mdioFields value :=
  congrArg BitVec.toNat (or_and_disjoint value 0x80000000 0x43FFFFFF (by decide))

theorem mdio_bits (value : Word) : (value ||| 0x80000000).bit 31 = true ∧ (value ||| 0x80000000).bit 30 = value.bit 30 := by
  simp [Word.bit]

theorem written_mdio (session : Nat) (value : Word) (data : Nat) (s : State) :
    (written .eth session data (wordsFrom 0x8 [value ||| 0x80000000]) s).eth =
      { s.eth with mdioCmd := mdioFields value, mdioErr := false, mdioData := if value.bit 30 then s.eth.mdioData else data % 65536 } := by
  obtain ⟨hgo, hop⟩ := mdio_bits value
  have hw : written .eth session data (wordsFrom 0x8 [value ||| 0x80000000]) s = ethAct s data (value ||| 0x80000000) := rfl
  rw [hw, ethAct, if_pos hgo, mdioGo, hop, mdioFields_go]

/-- Settles O22: the words of each row come to one act of UPD or ETH in the state in which the request finds its station. -/
theorem transfersOpenAndAbort : Obligations.TransfersOpenAndAbort := by
  refine ⟨fun s m kind slot rest hkind hslot hlen h => done_ran rfl ?opened, fun s m h => done_ran rfl ?aborted,
    fun s m index _ h => done_ran rfl ?block, fun s m value data h => done_ran rfl ?mdio⟩
  case opened =>
    obtain ⟨len, hupd, hsame, hnew⟩ := written_xferOpen hkind hslot hlen m.session (meets s (writeReq m .upd 0x20 (xferOpenWord kind slot :: rest)))
    rw [← (vtpWrite_keeps_upd h).upd rfl] at hupd
    dsimp only
    rw [hupd]
    exact ⟨by rw [meets_tim], fun hr => (hsame hr).trans (meets_lenReg s _), hnew⟩
  case aborted =>
    have hkeeps := vtpWrite_keeps_upd h
    rw [written_xferAbort] at hkeeps
    obtain ⟨hupd, hled⟩ := xferAbort_aborts (meets s (writeReq m .upd 0x20 [0]))
    refine ⟨(hkeeps.upd rfl).trans hupd, (hkeeps.led rfl).trans (hled.trans ?_)⟩
    rw [(meets_keeps s _).led rfl, (meets_keeps s _).ledBad rfl]
  case block =>
    have hkeeps := vtpWrite_keeps_upd h
    rw [written_blockCommit] at hkeeps
    exact ⟨hkeeps.upd rfl, (hkeeps.flash rfl).trans ((meets_keeps s _).flash rfl)⟩
  case mdio =>
    have heth := written_mdio m.session value data (meets s (writeReq m .eth 0x8 [value ||| 0x80000000]))
    have hoff := answer_offReply (written .eth m.session data (wordsFrom 0x8 [value ||| 0x80000000]) (meets s (writeReq m .eth 0x8 [value ||| 0x80000000])))
      (writeReq m .eth 0x8 [value ||| 0x80000000]) (replyOf (writeReq m .eth 0x8 [value ||| 0x80000000]) .ok [])
    rw [← vtpWrite_written h] at hoff
    refine ⟨hoff.mdioCmd.trans (by rw [heth]), hoff.mdioErr.trans (by rw [heth]), hoff.mdioData.trans ?_⟩
    rw [heth, (meets_keeps s _).eth rfl]

/-! POLL and CANCEL (R465, R473). -/

theorem handleReq_meets (s : State) (m : VtpMeta) (typ handle : Nat) :
    meets s (handleReq m typ handle) = { s with vtp := (meets s (handleReq m typ handle)).vtp } :=
  meets_eq (show (0 : Nat) ≠ 11 by decide)

theorem setCall_same {s : State} {h : Nat} {c : CallRec} (hc : s.calls[h]? = some c) (f : CallRec → CallRec) :
    (setCall s h f).calls[h]? = some (f c) := (upd_get_same _ _ _).trans (by rw [hc]; rfl)

theorem call_of_get {s : State} {h : Nat} {c : CallRec} (hc : s.calls[h]? = some c) : call s h = c := nth_of_get hc {}

/-- What a change of a CALL record leaves of every other function of it. -/
theorem call_setCall {α : Type} (g : CallRec → α) (s : State) (h : Nat) (f : CallRec → CallRec) (hf : ∀ c, g (f c) = g c) :
    g (call (setCall s h f) h) = g (call s h) := by
  cases hc : s.calls[h]? with
  | some c => rw [call_of_get (setCall_same hc f), call_of_get hc, hf]
  | none =>
    have hnone : (setCall s h f).calls[h]? = none := (upd_get_same _ _ _).trans (by rw [hc]; rfl)
    simp [call, nth, List.getD, hc, hnone]

/-- A request for a handle is served in the state as it is, but for the sessions (R113). -/
theorem handleReq_served {s : State} {m : VtpMeta} {typ handle : Nat} (hrom : s.modp ≠ .recovery) (hpass : Passes s (handleReq m typ handle) true 0)
    (f : State → State × VtpReply) :
    ∃ v, (handleReq m typ handle).session < v.sessions.length ∧
      vtpServe s (handleReq m typ handle) true 0 (notInRom (handleReq m typ handle) f) =
        answer (f { s with vtp := v }).1 (handleReq m typ handle) (f { s with vtp := v }).2 := by
  have hlen := meets_length s (handleReq m typ handle) hpass.opened
  have hserve := vtpServe_passes hpass (notInRom (handleReq m typ handle) f)
  rw [handleReq_meets] at hserve
  refine ⟨(meets s (handleReq m typ handle)).vtp, hlen, ?_⟩
  generalize (meets s (handleReq m typ handle)).vtp = v at hserve
  have hrun : notInRom (handleReq m typ handle) f { s with vtp := v } = f { s with vtp := v } := if_neg hrom
  rw [hrun] at hserve
  exact hserve

/-- The record after a POLL that sees a final state for the first time (R465). -/
def pollSeen (s : State) (h : Nat) : State :=
  if callFinal (call s h) && (call s h).polledAt = none then setCall s h fun c => { c with polledAt := some s.tim.cyc } else s

theorem pollServe_known {s : State} {handle h : Nat} (hh : handleRec s handle = some h) (q : VtpReq) :
    pollServe q handle s = (pollSeen s h, replyOf q .ok [callStatus (call s h), w32 (call s h).results, w32 (call s h).taken]) := by
  simp only [pollServe, hh, pollSeen]

theorem pollSeen_vtp (s : State) (h : Nat) : (pollSeen s h).vtp = s.vtp := by
  unfold pollSeen
  split <;> rfl

theorem pollSeen_open {s : State} {h : Nat} (hopen : callFinal (call s h) = false) : (pollSeen s h).calls = s.calls :=
  congrArg State.calls (if_neg (by simp [hopen]))

theorem pollSeen_final {s : State} {h : Nat} (hfinal : callFinal (call s h) = true) (hfirst : (call s h).polledAt = none) :
    (pollSeen s h).calls = (setCall s h fun c => { c with polledAt := some s.tim.cyc }).calls :=
  congrArg State.calls (if_pos (by simp [hfinal, hfirst]))

/-- A CALL under way is asked to end at the boundary (R473). -/
def cancelAsked (s : State) (h : Nat) : State :=
  if callLive (call s h) then setCall s h fun c => { c with cancelAt := some (dueBoundary s) } else s

theorem cancelServe_known {s : State} {handle h : Nat} (hh : handleRec s handle = some h) (hok : cancelErr s h = .ok) (q : VtpReq) :
    cancelServe q handle s = (cancelAsked s h, replyOf q .ok [callStatus (call s h)]) := by
  have hstatus : callStatus (call (cancelAsked s h) h) = callStatus (call s h) := by
    unfold cancelAsked
    split
    · exact call_setCall callStatus s h _ fun _ => rfl
    · rfl
  simp only [cancelServe, hh, hok]
  exact congrArg (fun w => (cancelAsked s h, replyOf q .ok [w])) hstatus

theorem cancelAsked_ended {s : State} {h : Nat} (hend : callLive (call s h) = false) : (cancelAsked s h).calls = s.calls :=
  congrArg State.calls (if_neg (by simp [hend]))

theorem cancelAsked_live {s : State} {h : Nat} (hlive : callLive (call s h) = true) :
    (cancelAsked s h).calls = (setCall s h fun c => { c with cancelAt := some (dueBoundary s) }).calls := congrArg State.calls (if_pos hlive)

theorem cancelAsked_vtp (s : State) (h : Nat) : (cancelAsked s h).vtp = s.vtp := by
  unfold cancelAsked
  split <;> rfl

theorem answer_calls (s : State) (q : VtpReq) (r : VtpReply) : (answer s q r).calls = s.calls :=
  KeepsAllBut.calls (m := offReply) (answer_keeps offReply rfl rfl s q r) rfl

theorem poll_done {s : State} {m : VtpMeta} {handle h : Nat} (hrom : s.modp ≠ .recovery) (hh : handleRec s (handle % 65536) = some h)
    (hpass : Passes s (handleReq m 4 handle) true 0) :
    Done (.poll m handle) s fun t =>
      Replied t (handleReq m 4 handle)
        (replyOf (handleReq m 4 handle) .ok [callStatus (call s h), w32 (call s h).results, w32 (call s h).taken]) ∧
      (callFinal (call s h) = false → t.calls = s.calls) ∧
      (callFinal (call s h) = true → (call s h).polledAt = none →
        ∀ c, s.calls[h]? = some c → t.calls[h]? = some { c with polledAt := some s.tim.cyc }) := by
  obtain ⟨v, hlen, hserve⟩ := handleReq_served hrom hpass (pollServe (handleReq m 4 handle) (handle % 65536))
  rw [pollServe_known (s := { s with vtp := v }) hh] at hserve
  have heq : vtpPoll s m handle = _ := hserve
  refine done_ran rfl ?_
  rw [heq]
  refine ⟨replied_answer _ _ _ (by rw [pollSeen_vtp]; exact hlen), fun hopen => ?_, fun hfinal hfirst c hc => ?_⟩
  · exact (answer_calls _ _ _).trans (pollSeen_open (s := { s with vtp := v }) hopen)
  · have hcalls := pollSeen_final (s := { s with vtp := v }) hfinal hfirst
    exact (congrArg (·[h]?) ((answer_calls _ _ _).trans hcalls)).trans (setCall_same (s := { s with vtp := v }) hc _)

theorem cancel_done {s : State} {m : VtpMeta} {handle h : Nat} (hrom : s.modp ≠ .recovery) (hh : handleRec s (handle % 65536) = some h)
    (hok : cancelErr s h = .ok) (hpass : Passes s (handleReq m 5 handle) true 0) :
    Done (.cancel m handle) s fun t =>
      Replied t (handleReq m 5 handle) (replyOf (handleReq m 5 handle) .ok [callStatus (call s h)]) ∧
      (callLive (call s h) = false → t.calls = s.calls) ∧
      (callLive (call s h) = true → ∀ c, s.calls[h]? = some c → t.calls[h]? = some { c with cancelAt := some (dueBoundary s) }) := by
  obtain ⟨v, hlen, hserve⟩ := handleReq_served hrom hpass (cancelServe (handleReq m 5 handle) (handle % 65536))
  rw [cancelServe_known (s := { s with vtp := v }) hh hok] at hserve
  have heq : vtpCancel s m handle = _ := hserve
  refine done_ran rfl ?_
  rw [heq]
  refine ⟨replied_answer _ _ _ (by rw [cancelAsked_vtp]; exact hlen), fun hend => ?_, fun hlive c hc => ?_⟩
  · exact (answer_calls _ _ _).trans (cancelAsked_ended (s := { s with vtp := v }) hend)
  · have hcalls := cancelAsked_live (s := { s with vtp := v }) hlive
    exact (congrArg (·[h]?) ((answer_calls _ _ _).trans hcalls)).trans (setCall_same (s := { s with vtp := v }) hc _)

/-! TAKEN and the rate (R455, R467). -/

/-- Between two states the entries taken of every CALL are the same. -/
def SameTaken (s t : State) : Prop := t.calls.map CallRec.taken = s.calls.map CallRec.taken

theorem setCall_taken (s : State) (h : Nat) (f : CallRec → CallRec) (hf : ∀ c, (f c).taken = c.taken) : SameTaken s (setCall s h f) :=
  (upd_map CallRec.taken s.calls h f (fun x => x) hf).trans (upd_id _ _)

theorem callEvent_calls (s : State) (h : Nat) : (callEvent s h).calls = s.calls :=
  KeepsAllBut.calls (m := { evq := true }) (callEvent_keeps _ rfl s h) rfl

theorem callState_taken (s : State) (h : Nat) (f : CallRec → CallRec) (hf : ∀ c, (f c).taken = c.taken) : SameTaken s (callState s h f) := by
  unfold callState
  extract_lets old changed
  have hset : SameTaken s changed := setCall_taken s h f hf
  split
  · exact hset
  · exact (congrArg (List.map CallRec.taken) (callEvent_calls changed h)).trans hset

theorem endCall_taken (s : State) (h : Nat) (st : CallSt) (e : Err) : SameTaken s (endCall s h st e) := by
  unfold endCall
  split
  · rfl
  · exact callState_taken s h _ fun _ => rfl

theorem callEntry_taken (s : State) (h : Nat) (b : List Byte) : SameTaken s (callEntry s h b) := by
  unfold callEntry
  extract_lets c
  split
  · rfl
  · split
    · exact endCall_taken s h _ _
    · exact callState_taken s h _ fun _ => rfl

/-- A run of records that goes on takes no entry (R467). -/
theorem exportRun_taken (s : State) (h n : Nat) : SameTaken s (exportRun s h n) := by
  induction n generalizing s with
  | zero => rfl
  | succ n ih =>
    unfold exportRun
    extract_lets c
    split
    · exact endCall_taken s h _ _
    · next b r _ =>
      split
      · rfl
      · exact (ih _).trans (Eq.trans (setCall_taken (callEntry s h b) h _ fun _ => rfl) (callEntry_taken s h b))

theorem sysAct_taken (s : State) (off : Nat) : SameTaken s (sysAct s off) := by
  unfold sysAct
  split
  · split
    · rfl
    · exact exportRun_taken s _ _
  · rfl

theorem written_taken {h : Nat} (hh : h < 8) (session : Nat) (w : Word) (s : State) :
    written .sys session 0 (wordsFrom (0x100C + 0x40 * h) [w]) s = sysAct (setCall s h fun c => { c with taken := w.toNat }) (0x100C + 0x40 * h) := by
  have hoff : 0x100C + 0x40 * h = 0x1000 + 0x40 * h + 0xC := by omega
  have hput : sysPut s (0x100C + 0x40 * h) w = setCall s h fun c => { c with taken := w.toNat } := by
    unfold sysPut
    rw [if_neg (by omega), if_neg (by omega), hoff, bankAt_slot 0x1000 hh (by decide)]
  exact congrArg (fun s => sysAct s (0x100C + 0x40 * h)) hput

theorem written_baud (session : Nat) (w : Word) (s : State) :
    written .sys session 0 (wordsFrom 0x300 [w]) s = { s with vtp := { s.vtp with baud := w.field 2 0, baudAt := some s.tim.cyc } } := by
  have hbank : bankAt 0x1000 0x40 8 0x300 = none := if_neg (by decide)
  have hput : sysPut s 0x300 w = { s with vtp := { s.vtp with baud := w.field 2 0, baudAt := some s.tim.cyc } } := if_neg (by decide)
  rw [written_one, actReg, putReg, hput, sysAct, hbank]

theorem vtpWrite_calls {s : State} {m : VtpMeta} {n : Stn} {offset phy : Nat} {ws : List Word} (h : WriteOk s m n offset ws phy) :
    (vtpWrite s m n.idx offset ws phy).calls = (written n m.session phy (wordsFrom offset ws) (meets s (writeReq m n offset ws))).calls := by
  rw [vtpWrite_written h, answer_calls]

theorem setCall_taken_get {s t : State} {h taken : Nat} {c : CallRec} (hsame : SameTaken (setCall s h fun c => { c with taken := taken }) t)
    (hc : t.calls[h]? = some c) : c.taken = taken := by
  have hget := congrArg (·[h]?) hsame
  simp only [List.getElem?_map, hc, Option.map_some] at hget
  obtain ⟨x, hx, hcx⟩ := Option.map_eq_some_iff.mp hget.symm
  obtain ⟨y, -, rfl⟩ := Option.map_eq_some_iff.mp ((upd_get_same _ _ _).symm.trans hx)
  exact hcx.symm

theorem callTaken_done {s : State} {m : VtpMeta} {h taken : Nat} (hh : h < 8) (htaken : taken < 2 ^ 32)
    (hw : WriteOk s m .sys (0x100C + 0x40 * h) [w32 taken] 0) : Done (.callTaken m h taken) s fun t => ∀ c, t.calls[h]? = some c → c.taken = taken := by
  have hword : (w32 taken).toNat = taken := by
    simp only [w32, BitVec.toNat_ofNat]
    omega
  have hcalls := vtpWrite_calls hw
  rw [written_taken hh, hword] at hcalls
  exact done_ran rfl fun c hc => setCall_taken_get (sysAct_taken _ _) (hcalls ▸ hc)

theorem w32_rate {rate : Nat} (h : rate < 8) : (w32 rate).field 2 0 = rate := by
  simp only [Word.field, w32, BitVec.toNat_ofNat]
  omega

theorem srvBaud_done {s : State} {m : VtpMeta} {rate : Nat} (hrate : rate < 8) (hw : WriteOk s m .sys 0x300 [w32 rate] 0) :
    Done (.srvBaud m rate) s fun t => t.vtp.baud = rate ∧ t.vtp.baudAt = some s.tim.cyc := by
  have hoff := answer_offReply (written .sys m.session 0 (wordsFrom 0x300 [w32 rate]) (meets s (writeReq m .sys 0x300 [w32 rate])))
    (writeReq m .sys 0x300 [w32 rate]) (replyOf (writeReq m .sys 0x300 [w32 rate]) .ok [])
  rw [← vtpWrite_written hw, written_baud, w32_rate hrate, meets_tim] at hoff
  exact done_ran rfl ⟨hoff.baud, hoff.baudAt⟩

/-- Settles O23: POLL and CANCEL serve the record their handle names, TAKEN and the rate are registers of SYS. -/
theorem callRecordsArePolledAndCancelled : Obligations.CallRecordsArePolledAndCancelled :=
  ⟨fun _ _ _ _ hrom hh hpass => poll_done hrom hh hpass, fun _ _ _ _ hrom hh hok hpass => cancel_done hrom hh hok hpass,
    fun _ _ _ _ hh htaken hw => callTaken_done hh htaken hw, fun _ _ _ hrate hw => srvBaud_done hrate hw⟩

end Sys2Proof.Machine
end

section
/-! Starts whose Rig fails on a bank's level (R76, R114, R128, R129): the start record's DETAIL then names the bank, whatever the cause of the reset. -/
namespace Sys2Proof.Machine

/-- A signed image whose thirteen sections are empty (R431). -/
def bareImage : Image :=
  { data := [0x56, 0x49, 0x4D, 0x47, 0, 1, 13, 0] ++ leBytes 4 1 ++ leBytes 4 784 ++ [0, 0, 0xFF, 0xFF] ++ List.replicate 12 0 ++
      ((List.range 13).flatMap fun n => leBytes 4 (sectionType n) ++ leBytes 8 784 ++ sha256 [] ++ List.replicate 4 0) ++ List.replicate 128 0
    siravoBy := some Config.siravoKey }

/-- A signed Rig that asks for 1.8 V at VIOB. -/
def lowRig : Rig :=
  sealHeader { format := 0xFFFF, length := 64, dir := [{ typ := 1, offset := 64 }], identity := some { tz := [{}] }, backhaul := some {}
               guarantee := some {}, board := some { viob := .v18 }, time := some {}, power := some {} }

/-- A module whose flash holds that image and that Rig, and whose banks are both at 3.3 V. -/
def lowModule : State :=
  { State.reset with bankA := .v33, bankB := .v33, flash := { State.reset.flash with imageA := some bareImage, rigA := some lowRig } }

/-- That module in EASY, in the last step of a wake by its input (R420). -/
def lowWaking : State :=
  { lowModule with modp := .easy, aon := { lowModule.aon with save := some (SaveRec.of {}) }
                   pwr := { lowModule.pwr with state := .waking, wake := some { source := 1, step := 4 } } }

theorem powerOn_lowModule : (bootRetry (powerOnReset { lowModule with ahead := {} } 3300 3300 false)).sys.start.detail = 1 := by decide +kernel

theorem wakeStepReady_lowWaking : (bootRetry (wakeStepReady lowWaking 0)).sys.start.detail = 1 := by decide +kernel

/-- A command that leaves another DETAIL in the start record has not started the module with this one. -/
theorem not_started_of_detail {c : Instr} {s u : State} {cause detail : Nat} (h : exec c s = ran s u) (hdetail : u.sys.start.detail ≠ detail) :
    ¬ Done c s (Started · cause detail) := by
  rintro ⟨t, ht, -, -, hd, -⟩
  rw [ran_eq (h.symm.trans ht)] at hd
  exact hdetail hd

/-- Refutes O27: a power-on reset of a module at 3.3 V whose Rig asks for 1.8 V at VIOB has cause 0x01, but the finding of the Rig's check puts the
number of the bank into DETAIL (R76), which the statement says is 0. -/
theorem not_resetsStartTheModule : ¬ Obligations.ResetsStartTheModule := by
  rintro ⟨hpor, -⟩
  have hstart := (hpor lowModule 3300 3300 false {} (by decide) (by decide)).1 rfl (by decide)
  exact not_started_of_detail rfl (by rw [powerOn_lowModule]; decide) hstart

/-- Refutes O28: the wake of that module has the cause of its source, and the finding's DETAIL again. -/
theorem not_wakeStepsLeadToAStart : ¬ Obligations.WakeStepsLeadToAStart := by
  rintro ⟨-, -, hready, -⟩
  have hstart := (hready lowWaking 0 { source := 1, step := 4 } rfl rfl rfl rfl (by decide)).2 (by decide) (by decide +kernel)
  exact not_started_of_detail rfl (by rw [wakeStepReady_lowWaking]; decide) hstart

end Sys2Proof.Machine
end

section
/-! Station faults, station resets and lost clocks (R18, R33, R35, R36, R57, R58). -/
namespace Sys2Proof.Machine

/-! What a fault of a station leaves, of it and of the others (R35). -/

/-- Every part but the Cox, the station records and SYS's own. -/
abbrev offFault : Parts := { Parts.all with cox := false, stns := false, sys := false, pending := true }

theorem fault_of_keeps {s t : State} (h : masked offFault t = masked offFault s) : t.cox = s.cox ∧ t.stns = s.stns ∧ t.sys = s.sys :=
  ⟨KeepsAllBut.cox (m := offFault) h rfl, KeepsAllBut.stns (m := offFault) h rfl, KeepsAllBut.sys (m := offFault) h rfl⟩

/-- A station can fault: it is neither in reset nor off. -/
def Faultable (s : State) (n : Stn) : Prop := inReset s n = false ∧ (stn s n).state ≠ .off

theorem inReset_congr {s t : State} {n : Stn} (h : (stn t n).state = (stn s n).state) : inReset t n = inReset s n := by simp only [inReset, h]

theorem idx_lt_of_fresh {s : State} {n : Stn} (h : inReset s n = false) : n.idx < s.stns.length :=
  idx_lt_of_stn s n fun hdefault => by simp [inReset, hdefault] at h

/-- A station record as its fault leaves it. -/
def faultRec (r : StnRec) : StnRec := { r with prog := [], started := false, inStroke := false, state := .fault }

theorem stationFault_ignored {s : State} {n : Stn} (c : StnCause) (h : ¬ (stationsUp s = true ∧ Faultable s n)) : stationFault s n c = s := by
  unfold stationFault
  refine if_pos ?_
  unfold Faultable at h
  cases hup : stationsUp s <;> cases hin : inReset s n <;> simp_all

theorem stationFault_parts {s : State} {n : Stn} (c : StnCause) (hup : stationsUp s = true) (h : Faultable s n) :
    (stationFault s n c).cox = { s.cox with faults := s.cox.faults ++ [(n, c)] } ∧ (stationFault s n c).stns = upd s.stns n.idx faultRec ∧
      (stationFault s n c).sys = { s.sys with run := 0 } := by
  unfold stationFault
  rw [if_neg (by simp [hup, h.1, h.2])]
  extract_lets left followed
  have hleft : left.cox = s.cox ∧ left.stns = upd s.stns n.idx faultRec ∧ left.sys = s.sys := by
    obtain ⟨hcox, hstns, hsys⟩ := fault_of_keeps (discardWork_keeps offFault rfl s n)
    exact ⟨hcox, (upd_upd _ _ _ _).trans (congrArg (upd · n.idx faultRec) hstns), hsys⟩
  have hfollowed : followed.cox = left.cox ∧ followed.stns = left.stns ∧ followed.sys = left.sys :=
    fault_of_keeps (by simp only [followed]; split <;> simp)
  obtain ⟨hcox, hstns, hsys⟩ := fault_of_keeps (stnEvent_keeps offFault rfl _ n)
  exact ⟨hcox.trans (congrArg (fun x : Cox => { x with faults := x.faults ++ [(n, c)] }) (hfollowed.1.trans hleft.1)),
    hstns.trans (hfollowed.2.1.trans hleft.2.1), hsys.trans (congrArg (fun x : SysState => { x with run := 0 }) (hfollowed.2.2.trans hleft.2.2))⟩

theorem stn_upd_same {s t : State} {n : Stn} {f : StnRec → StnRec} (h : t.stns = upd s.stns n.idx f) (hn : n.idx < s.stns.length) :
    stn t n = f (stn s n) := (stn_of_stns (s := setStn s n f) h n).trans (stn_setStn_same s n f hn)

theorem stn_upd_other {s t : State} {n k : Stn} {f : StnRec → StnRec} (h : t.stns = upd s.stns n.idx f) (hk : k ≠ n) : stn t k = stn s k :=
  (stn_of_stns (s := setStn s n f) h k).trans (stn_setStn_other s n k f hk)

/-- A station is in FAULT with a cause, waits for its reset, and the run of steady strokes begins anew. -/
def Faulted (n : Stn) (c : StnCause) (s : State) : Prop := (stn s n).state = .fault ∧ (n, c) ∈ s.cox.faults ∧ s.sys.run = 0

theorem Faulted.of_parts {n : Stn} {c : StnCause} {s t : State} (h : Faulted n c s) (hparts : t.cox = s.cox ∧ t.stns = s.stns ∧ t.sys = s.sys) :
    Faulted n c t := by
  obtain ⟨hcox, hstns, hsys⟩ := hparts
  exact ⟨by rw [stn_of_stns hstns]; exact h.1, hcox ▸ h.2.1, hsys ▸ h.2.2⟩

theorem stationFault_faulted {s : State} {n : Stn} (c : StnCause) (hup : stationsUp s = true) (h : Faultable s n) :
    Faulted n c (stationFault s n c) := by
  obtain ⟨hcox, hstns, hsys⟩ := stationFault_parts c hup h
  refine ⟨?_, ?_, ?_⟩
  · rw [stn_upd_same hstns (idx_lt_of_fresh h.1)]
    rfl
  · rw [hcox]
    exact List.mem_append_right _ (List.mem_singleton_self _)
  · rw [hsys]

/-- A station in reset is none that another's fault changes. -/
theorem stationFault_stn_inReset {s : State} {n : Stn} (k : Stn) (c : StnCause) (h : inReset s n = true) : stn (stationFault s k c) n = stn s n := by
  by_cases hk : stationsUp s = true ∧ Faultable s k
  · have hne : n ≠ k := fun e => by simp [Faultable, ← e, h] at hk
    exact stn_upd_other (stationFault_parts c hk.1 hk.2).2.1 hne
  · rw [stationFault_ignored c hk]

theorem inReset_of_fault {s : State} {n : Stn} (h : (stn s n).state = .fault) : inReset s n = true := by simp [inReset, h]

theorem Faulted.stationFault {n : Stn} {c : StnCause} {s : State} (h : Faulted n c s) (k : Stn) (d : StnCause) : Faulted n c (stationFault s k d) := by
  by_cases hk : stationsUp s = true ∧ Faultable s k
  · obtain ⟨hcox, -, hsys⟩ := stationFault_parts d hk.1 hk.2
    refine ⟨?_, ?_, ?_⟩
    · rw [stationFault_stn_inReset k d (inReset_of_fault h.1)]
      exact h.1
    · rw [hcox]
      exact List.mem_append_left _ h.2.1
    · rw [hsys]
  · rw [stationFault_ignored d hk]
    exact h

/-- What a fault during a series does keeps what every single fault and reset request of the series keeps (R437). -/
theorem seriesFault_keeps_of {P : State → Prop} (hparts : ∀ {s t : State}, P s → t.cox = s.cox ∧ t.stns = s.stns ∧ t.sys = s.sys → P t)
    (hfault : ∀ s k, P s → P (stationFault s k .microcode))
    (hqueue : ∀ s x, P s → P { s with cox := { s.cox with faults := s.cox.faults ++ [x] } }) {s : State} (h : P s) (n : Stn) (c : StnCause) :
    P (seriesFault s n c) := by
  unfold seriesFault
  split
  · next o hwork =>
    split
    · extract_lets copied restarted
      have hcopied : P copied := hparts h (fault_of_keeps (foldl_keeps _ _ _ _ fun s x => putMicro_keeps offFault rfl s _ _))
      have hrestarted : P restarted := by
        refine List.foldlRecOn (motive := P) _ _ hcopied fun t ht x _ => ?_
        split
        · split
          · exact hqueue _ _ ht
          · exact hfault _ _ ht
        · exact ht
      exact hparts hrestarted (fault_of_keeps (updFail_keeps offFault rfl rfl rfl rfl rfl _ _ _ _))
    · exact h
  · exact h

theorem Faulted.seriesFault {n : Stn} {c : StnCause} {s : State} (h : Faulted n c s) (k : Stn) (d : StnCause) : Faulted n c (seriesFault s k d) :=
  seriesFault_keeps_of (P := Faulted n c) Faulted.of_parts (fun _ k h => h.stationFault k .microcode)
    (fun _ _ h => ⟨h.1, List.mem_append_left _ h.2.1, h.2.2⟩) h k d

theorem takeFault_faulted {s : State} {n : Stn} (c : StnCause) (hup : stationsUp s = true) (h : Faultable s n) : Faulted n c (takeFault s n c) := by
  unfold takeFault
  rw [if_neg (by simp [hup, h.1, h.2])]
  exact (stationFault_faulted c hup h).seriesFault n c

/-! A request that fails inside the module leaves its station able to fault: at most UPD is powered up for it (R411). -/

theorem stationsUp_of_modp {s t : State} (h : t.modp = s.modp) : stationsUp t = stationsUp s := by simp only [stationsUp, h]

theorem Faultable.of_stns {s t : State} {n : Stn} (h : Faultable s n) (hstns : t.stns = s.stns) : Faultable t n := by
  have hstn := stn_of_stns hstns n
  exact ⟨(inReset_congr (by rw [hstn])).trans h.1, by rw [hstn]; exact h.2⟩

theorem Faultable.of_keeps {s t : State} {n : Stn} (h : Faultable s n) (hkeeps : masked offStns t = masked offStns s) : Faultable t n :=
  h.of_stns (stns_of_keeps hkeeps)

theorem updUse_faultable {s : State} {n : Stn} (h : Faultable s n) : Faultable (updUse s) n := by
  unfold updUse updPowered
  split
  · extract_lets
    have hcleared : ∀ p, Faultable (updCleared { s with pwr := p }) n := fun p => h.of_keeps (updCleared_keeps offStns rfl _)
    by_cases hn : n = .upd
    · subst hn
      have hstate : ∀ t : State, Faultable t .upd → Faultable (setStn t .upd fun r => { r with state := .running }) .upd := fun t ht => by
        have hsame := stn_setStn_same t .upd (fun r => { r with state := .running }) (idx_lt_of_fresh ht.1)
        exact ⟨by simp [inReset, hsame], by simp [hsame]⟩
      exact hstate _ (hcleared _)
    · have hother : ∀ t : State, Faultable t n → Faultable (setStn t .upd fun r => { r with state := .running }) n := fun t ht => by
        have hsame := stn_setStn_other t .upd n (fun r => { r with state := .running }) hn
        exact ⟨(inReset_congr (by rw [hsame])).trans ht.1, by rw [hsame]; exact ht.2⟩
      exact hother _ (hcleared _)
  · exact h.of_stns rfl

theorem requestFails_faultable {s : State} {n : Stn} (req : Option VtpReq) (e : Err) (h : Faultable s n) : Faultable (requestFails s req e) n := by
  unfold requestFails
  split
  · next q =>
    have hserved : ∀ t : State, Faultable t n → Faultable (serveAdmitted t q true q.length fun s => (s, replyOf q e [])) n := fun t ht => by
      have hat : Faultable (atServe t q) n := by
        have htoken : Faultable (takeToken t q.session) n := ht.of_keeps (takeToken_keeps offStns rfl _ _)
        unfold atServe
        split
        · exact updUse_faultable htoken
        · exact htoken
      unfold serveAdmitted
      split <;> exact hat.of_keeps (answer_keeps offStns rfl rfl _ _ _)
    have hreceived : Faultable (received s q) n := h.of_keeps (received_keeps offStns rfl _ _)
    have hrefused : ∀ e, Faultable (refuse (received s q) q e) n := fun e => hreceived.of_keeps (refuse_keeps offStns rfl rfl _ _ _)
    unfold vtpServe
    split
    · exact h
    extract_lets r x
    split
    · exact hrefused _
    split
    · exact hrefused _
    split
    · exact hreceived
    split
    · split
      · exact hreceived.of_keeps ((sendReply_keeps offStns rfl rfl _ _ _ _).trans (setSess_keeps offStns rfl _ _ _))
      · exact hrefused _
    · split
      · exact hrefused _
      · exact hserved _ hreceived
  · exact h

theorem requestFails_modp (s : State) (req : Option VtpReq) (e : Err) : (requestFails s req e).modp = s.modp :=
  KeepsAllBut.modp (m := { Parts.all with modp := false }) (requestFails_keeps _ rfl rfl rfl rfl rfl s req e) rfl

/-! What a reset of a station leaves of the Cox and of the station records (R36). -/

/-- Every part but the Cox and the station records. -/
abbrev offCoxStns : Parts := { Parts.all with cox := false, stns := false, pending := true }

theorem coxStns_of_keeps {s t : State} (h : masked offCoxStns t = masked offCoxStns s) : t.cox = s.cox ∧ t.stns = s.stns :=
  ⟨KeepsAllBut.cox (m := offCoxStns) h rfl, KeepsAllBut.stns (m := offCoxStns) h rfl⟩

/-- A station record as a reset of SYS leaves it (R36, R38). -/
def sysResetRec (x : Stn × StnRec) : StnRec :=
  let r : StnRec := { x.2 with prog := [], started := false, inStroke := false, hist := [] }
  if finishDuty.contains x.1 && x.2.state = .running then { r with state := .held } else r

theorem resetStation_coxStns {s : State} {n : Stn} (c : StnCause) (hn : n ≠ .sys) :
    masked offCoxStns (resetStation s n c) = masked offCoxStns s := by
  cases n
  case sys => exact absurd rfl hn
  all_goals
    unfold resetStation
    simp [apply_ite (masked offCoxStns)]

theorem resetStation_sys (s : State) (c : StnCause) :
    ∃ u, masked offCoxStns u = masked offCoxStns s ∧ resetStation s .sys c = sysReset u :=
  ⟨_, by simp, rfl⟩

theorem stn_sysReset {s : State} {n : Stn} (hn : n.idx < s.stns.length) : stn (sysReset s) n = sysResetRec (n, stn s n) := by
  have hall : Stn.all[n.idx]? = some n := by cases n <;> rfl
  have hget : s.stns[n.idx]? = some (stn s n) := by simp [stn, nth, List.getD, hn]
  have hzip : (Stn.all.zip s.stns)[n.idx]? = some (n, stn s n) := List.getElem?_zip_eq_some.mpr ⟨hall, hget⟩
  simp only [stn, nth, List.getD, sysReset, List.getElem?_map, hzip]
  rfl

theorem stn_resetStation {s : State} {n k : Stn} (c : StnCause) (hk : k.idx < s.stns.length) :
    stn (resetStation s n c) k = if n = .sys then sysResetRec (k, stn s k) else stn s k := by
  by_cases hn : n = .sys
  · subst hn
    obtain ⟨u, hu, hreset⟩ := resetStation_sys s c
    obtain ⟨-, hstns⟩ := coxStns_of_keeps hu
    rw [if_pos rfl, hreset, stn_sysReset (by rw [hstns]; exact hk), stn_of_stns hstns]
  · rw [if_neg hn]
    exact stn_of_stns (coxStns_of_keeps (resetStation_coxStns c hn)).2 k

theorem resetStation_waits (s : State) (n : Stn) (c : StnCause) :
    (resetStation s n c).cox.faults = s.cox.faults ∧ (resetStation s n c).cox.resetting = s.cox.resetting ∧
      (resetStation s n c).cox.lostClocks = s.cox.lostClocks := by
  by_cases hn : n = .sys
  · subst hn
    obtain ⟨u, hu, hreset⟩ := resetStation_sys s c
    obtain ⟨hcox, -⟩ := coxStns_of_keeps hu
    rw [hreset]
    show u.cox.faults = _ ∧ u.cox.resetting = _ ∧ u.cox.lostClocks = _
    rw [hcox]
    exact ⟨rfl, rfl, rfl⟩
  · rw [(coxStns_of_keeps (resetStation_coxStns c hn)).1]
    exact ⟨rfl, rfl, rfl⟩

theorem idx_lt_resetStation {s : State} {n k : Stn} (c : StnCause) (hk : k.idx < s.stns.length) : k.idx < (resetStation s n c).stns.length := by
  by_cases hn : n = .sys
  · subst hn
    obtain ⟨u, hu, hreset⟩ := resetStation_sys s c
    obtain ⟨-, hstns⟩ := coxStns_of_keeps hu
    have hall : k.idx < Stn.all.length := by cases k <;> decide
    rw [hreset, sysReset, List.length_map, List.length_zip, hstns]
    exact Nat.lt_min.mpr ⟨hall, hk⟩
  · rw [(coxStns_of_keeps (resetStation_coxStns c hn)).2]
    exact hk

/-- A station record as the start of a reset leaves it (R33). -/
def loadingRec (c : StnCause) (r : StnRec) : StnRec := { r with state := .loading, cause := c, resets := min 255 (r.resets + 1), hist := [] }

theorem stationResetStart_resets {s : State} {n : Stn} {c : StnCause} {rest : List (Stn × StnCause)} (hnone : s.cox.resetting = none)
    (hfaults : s.cox.faults = (n, c) :: rest) (hfault : (stn s n).state = .fault) :
    (stationResetStart s).cox.resetting = some n ∧ (stationResetStart s).cox.faults = rest ∧ (stn (stationResetStart s) n).state = .loading ∧
      (stn (stationResetStart s) n).cause = c ∧ (stn (stationResetStart s) n).hist = [] ∧
      (stn (stationResetStart s) n).resets = min 255 ((stn s n).resets + 1) := by
  have hn : n.idx < s.stns.length := idx_lt_of_stn s n fun hdefault => by simp [hdefault] at hfault
  unfold stationResetStart
  rw [hnone, hfaults]
  dsimp -zeta only
  extract_lets _ taken called reset loading
  have hcalled : masked offCoxStns (resetPads called n) = masked offCoxStns taken :=
    (resetPads_keeps _ rfl _ _).trans (foldl_keeps _ _ _ _ fun s h => callState_keeps _ rfl rfl s h _)
  obtain ⟨hcox, hstns⟩ := coxStns_of_keeps hcalled
  obtain ⟨hwaits, hresetting, -⟩ := resetStation_waits (resetPads called n) n c
  have hlt : n.idx < (resetPads called n).stns.length := by rw [hstns]; exact hn
  have hresets : (stn reset n).resets = (stn s n).resets := by
    have hstn : stn (resetPads called n) n = stn s n := stn_of_stns hstns n
    simp only [reset, stn_resetStation c hlt, hstn]
    split
    · simp only [sysResetRec]
      split <;> rfl
    · rfl
  have hloading : stn loading n = loadingRec c (stn reset n) := stn_setStn_same reset n (loadingRec c) (idx_lt_resetStation c hlt)
  have hlast : masked offCoxStns (stnEvent (if n = .sys then portsFollow loading else loading) n) = masked offCoxStns loading := by
    rw [stnEvent_keeps _ rfl]
    split
    · exact portsFollow_keeps _ rfl rfl _
    · rfl
  obtain ⟨hlastCox, hlastStns⟩ := coxStns_of_keeps hlast
  rw [hlastCox, stn_of_stns hlastStns, hloading]
  refine ⟨hresetting.trans (congrArg Cox.resetting hcox), hwaits.trans (congrArg Cox.faults hcox), rfl, rfl, rfl, ?_⟩
  exact congrArg (fun k => min 255 (k + 1)) hresets

theorem stationReady_ready {s : State} {n : Stn} (hruns : s.cox.resetting = some n) (hloading : (stn s n).state = .loading) :
    (stationReady s n).cox.resetting = none ∧ (stationReady s n).cox.faults = s.cox.faults ∧
      (stn (stationReady s n) n).state = if s.sys.start.mode = .paddle ∧ n ∈ paddleHeld then .held else .ready := by
  have hn : n.idx < s.stns.length := idx_lt_of_stn s n fun hdefault => by simp [hdefault] at hloading
  unfold stationReady
  extract_lets runs held set _ freed brought padded
  have hr : runs := hruns
  have hheld : held = decide (s.sys.start.mode = .paddle ∧ n ∈ paddleHeld) := by simp [held, Bool.decide_and]
  rw [if_neg (by simp [hr])]
  have hlast : masked offCoxStns (holdRelease (if runs then (resetCalls padded n .running).foldl (fun s h => endCall s h .done .ok) padded
      else padded)) = masked offCoxStns freed := by
    have hbrought : masked offCoxStns brought = masked offCoxStns freed := by
      simp only [brought]
      split
      · exact portBringUp_keeps _ rfl rfl rfl _
      · rfl
    have hpadded : padded = brought := by simp [padded, hr]
    rw [holdRelease_keeps _ rfl rfl, if_pos hr, foldl_keeps _ _ _ _ fun s h => endCall_keeps _ rfl rfl s h _ _, hpadded, hbrought]
  obtain ⟨hcox, hstns⟩ := coxStns_of_keeps hlast
  have hfreed : freed = { set with cox := { set.cox with resetting := none } } := if_pos hr
  have hset : stn set n = { stn s n with state := if held then .held else .ready } := stn_setStn_same s n _ hn
  rw [hcox, stn_of_stns hstns, hfreed]
  refine ⟨rfl, rfl, (congrArg StnRec.state hset).trans ?_⟩
  simp only [hheld, decide_eq_true_eq]

theorem fabricTimeout_faulted {s : State} {n : Stn} (q : Option VtpReq) (hup : stationsUp s = true) (h : Faultable s n) :
    Faulted n .fabricTmo (fabricTimeout s n q) :=
  takeFault_faulted .fabricTmo ((stationsUp_of_modp (requestFails_modp s q .fabricTmo)).trans hup) (requestFails_faultable q .fabricTmo h)

/-! Units of work whose acquisition times out (R57, R58). -/

/-- The retries that a unit of work has behind it. -/
def retriesOf (s : State) (w : Work) : Nat := ((s.rad.waits.find? fun x => x.1 = w).map fun x => x.2).getD 0

/-- The other units of work that wait. -/
def otherWaits (s : State) (w : Work) : List (Work × Nat) := s.rad.waits.filter fun x => x.1 ≠ w

/-- The state once a unit of work has waited for a resource as long as it may. -/
def waitOver (s : State) (r : Resource) : State := advanceTo s (nowNs s + resourceWaitNs r)

theorem waitOver_keeps (s : State) (r : Resource) : KeepsAllBut offTim s (waitOver s r) := advanceTo_keeps _ rfl _ _

theorem waitTimesOut_few {s : State} {w : Work} (r : Resource) (h : retriesOf s w < 3) :
    waitTimesOut s w r = (setRad (waitOver s r) fun x => { x with waits := otherWaits s w ++ [(w, retriesOf s w + 1)] }, true) := by
  have hwaits : ∀ l, (if retriesOf s w < 3 then l else otherWaits s w) = l := fun _ => if_pos h
  exact Prod.ext (congrArg (fun l => setRad (waitOver s r) fun x => { x with waits := l }) (hwaits _)) (decide_eq_true h)

theorem waitTimesOut_last {s : State} {w : Work} (r : Resource) (h : 3 ≤ retriesOf s w) :
    waitTimesOut s w r = (setRad (waitOver s r) fun x => { x with waits := otherWaits s w }, false) := by
  have hwaits : ∀ l, (if retriesOf s w < 3 then l else otherWaits s w) = otherWaits s w := fun _ => if_neg (Nat.not_lt.mpr h)
  exact Prod.ext (congrArg (fun l => setRad (waitOver s r) fun x => { x with waits := l }) (hwaits _)) (decide_eq_false (Nat.not_lt.mpr h))

theorem resourceTmo_of_few {s u : State} {w : Work} {r : Resource} {k : Nat} (hneeds : needs s w r k = true)
    (h : waitTimesOut s w r = (u, true)) : resourceTmo s w r k = u := by
  unfold resourceTmo
  rw [if_neg (by simp [hneeds]), h]
  rfl

theorem resourceTmo_of_last {s u : State} {f : RxFrame} {r : Resource} {k : Nat} (hneeds : needs s (.frame f) r k = true)
    (h : waitTimesOut s (.frame f) r = (u, false)) : resourceTmo s (.frame f) r k = frameUnserved u f r := by
  unfold resourceTmo
  rw [if_neg (by simp [hneeds]), h]
  rfl

theorem resourceTmo_retried {s : State} {w : Work} {r : Resource} {k : Nat} (hneeds : needs s w r k = true) (hfew : retriesOf s w < 3) :
    resourceTmo s w r k = setRad (waitOver s r) fun x => { x with waits := otherWaits s w ++ [(w, retriesOf s w + 1)] } :=
  resourceTmo_of_few hneeds (waitTimesOut_few r hfew)

theorem retried_done {s u v : State} {w : Work} {r : Resource} {k : Nat} (hran : exec (.resourceTmo w r k) s = ran s v)
    (hv : v = setRad u fun x => { x with waits := otherWaits s w ++ [(w, retriesOf s w + 1)] }) (hkeeps : KeepsAllBut offTim s u) :
    Done (.resourceTmo w r k) s fun t =>
      t.evq = s.evq ∧ t.rad = { s.rad with waits := otherWaits s w ++ [(w, retriesOf s w + 1)] } := by
  subst hv
  refine done_ran hran ⟨hkeeps.evq rfl, ?_⟩
  show ({ u.rad with waits := otherWaits s w ++ [(w, retriesOf s w + 1)] } : RadState) = _
  rw [hkeeps.rad rfl]

theorem exec_resourceTmo (s : State) (w : Work) (r : Resource) (k : Nat) : exec (.resourceTmo w r k) s = ran s (resourceTmo s w r k) := rfl

theorem resourceTmo_retry_done {s : State} {w : Work} {r : Resource} {k : Nat} (hneeds : needs s w r k = true) (hfew : retriesOf s w < 3) :
    Done (.resourceTmo w r k) s fun t =>
      t.evq = s.evq ∧ t.rad = { s.rad with waits := otherWaits s w ++ [(w, retriesOf s w + 1)] } :=
  retried_done (exec_resourceTmo s w r k) (resourceTmo_retried hneeds hfew) (waitOver_keeps s r)

/-- What a frame's check up to its source rests on. -/
theorem rxHeader_setWaits {s u : State} (f : RxFrame) (l : List (Work × Nat)) (h : KeepsAllBut offTim s u) :
    rxHeader (setRad u fun x => { x with waits := l }) f = rxHeader s f :=
  rxHeader_congr f (h.cfg rfl) (h.sys rfl) (show u.rad.nat = _ by rw [h.rad rfl]) (show u.rad.dyn = _ by rw [h.rad rfl])

theorem rxSource_of_header {s : State} {f : RxFrame} {i : Nat} (h : rxHeader s f = .ok (some i)) : rxSource s f = some i := by
  unfold rxHeader at h
  split at h
  · cases h
  · split at h
    · cases h
    split at h
    · cases h
    split at h
    · split at h <;> cases h
    · next hsource =>
      split at h
      · cases h
      · split at h
        · cases h
          exact hsource
        · cases h

theorem setNat_waits (s : State) (i : Nat) (f : NatEnt → NatEnt) : (setNat s i f).rad.waits = s.rad.waits := by
  unfold setNat
  split <;> rfl

theorem dropped_drops {s u : State} {f : RxFrame} {i : Nat} {e : NatEnt} (hnat : u.rad.nat = s.rad.nat)
    (hwaits : u.rad.waits = otherWaits s (.frame f)) (hent : natEnt s i = some e) :
    natEnt (dropped u i) i = some { e with rxDrop := satAdd 16 e.rxDrop 1 } ∧ ∀ w ∈ (dropped u i).rad.waits, w.1 ≠ .frame f := by
  unfold dropped
  rw [natEnt_setNat_same, setNat_waits, hwaits, natEnt, hnat, ← natEnt, hent]
  exact ⟨rfl, fun w hw => of_decide_eq_true (List.mem_filter.mp hw).2⟩

theorem rearmed_nat (s : State) (f : RxFrame) :
    (trxRearm (rxEnds s f) f.port).rad.nat = s.rad.nat ∧ (trxRearm (rxEnds s f) f.port).rad.waits = otherWaits s (.frame f) := by
  obtain ⟨l, hl⟩ := trxRearm_rad (rxEnds s f) f.port
  rw [hl, rxEnds_rad]
  exact ⟨rfl, rfl⟩

theorem frameUnserved_natEntry (s : State) (f : RxFrame) :
    frameUnserved s f .natEntry = unservedHeaded (rxEnds s f) f .natEntry (rxHeader (rxEnds s f) f) := by rw [frameUnserved]; nofun

theorem unservedHeaded_natEntry (s : State) (f : RxFrame) (i : Nat) :
    unservedHeaded s f .natEntry (.ok (some i)) = dropped (trxRearm s f.port) i := rfl

/-- A frame that ended in the wait for its NAT entry leaves its source counting it, and waits no more. -/
theorem frameUnserved_drops {s : State} {f : RxFrame} {i : Nat} {e : NatEnt} (hheader : rxHeader s f = .ok (some i)) (hent : natEnt s i = some e) :
    natEnt (frameUnserved s f .natEntry) i = some { e with rxDrop := satAdd 16 e.rxDrop 1 } ∧
      ∀ w ∈ (frameUnserved s f .natEntry).rad.waits, w.1 ≠ .frame f := by
  obtain ⟨hnat, hwaits⟩ := rearmed_nat s f
  rw [frameUnserved_natEntry, rxHeader_rxEnds, hheader, unservedHeaded_natEntry]
  exact dropped_drops hnat hwaits hent

theorem frameUnserved_setWaits {s u : State} {f : RxFrame} {i : Nat} {e : NatEnt} (l : List (Work × Nat)) (hkeeps : KeepsAllBut offTim s u)
    (hheader : rxHeader s f = .ok (some i)) (hent : natEnt s i = some e) :
    natEnt (frameUnserved (setRad u fun x => { x with waits := l }) f .natEntry) i = some { e with rxDrop := satAdd 16 e.rxDrop 1 } ∧
      ∀ w ∈ (frameUnserved (setRad u fun x => { x with waits := l }) f .natEntry).rad.waits, w.1 ≠ .frame f := by
  refine frameUnserved_drops ((rxHeader_setWaits f l hkeeps).trans hheader) ?_
  show tget u.rad.nat i = _
  rw [hkeeps.rad rfl]
  exact hent

theorem needs_natEntry {s : State} {f : RxFrame} {i : Nat} (h : rxHeader s f = .ok (some i)) : needs s (.frame f) .natEntry i = true :=
  decide_eq_true (rxSource_of_header h)

theorem retriesOf_found {s : State} {w : Work} {n : Nat} (h : s.rad.waits.find? (fun x => x.1 = w) = some (w, n)) : retriesOf s w = n := by
  rw [retriesOf, h]
  rfl

theorem resourceTmo_last {s : State} {f : RxFrame} {r : Resource} {i : Nat} (hneeds : needs s (.frame f) r i = true)
    (hretries : 3 ≤ retriesOf s (.frame f)) :
    resourceTmo s (.frame f) r i = frameUnserved (setRad (waitOver s r) fun x => { x with waits := otherWaits s (.frame f) }) f r :=
  resourceTmo_of_last hneeds (waitTimesOut_last r hretries)

theorem dropped_done {s u : State} {f : RxFrame} {i : Nat} {e : NatEnt} (hran : exec (.resourceTmo (.frame f) .natEntry i) s = ran s u)
    (hdrops : natEnt u i = some { e with rxDrop := satAdd 16 e.rxDrop 1 } ∧ ∀ w ∈ u.rad.waits, w.1 ≠ .frame f) :
    Done (.resourceTmo (.frame f) .natEntry i) s fun t => natEnt t i = some { e with rxDrop := satAdd 16 e.rxDrop 1 } ∧
      ∀ w ∈ t.rad.waits, w.1 ≠ .frame f := done_ran hran hdrops

theorem resourceTmo_frame_done {s : State} {f : RxFrame} {i n : Nat} {e : NatEnt}
    (hfind : s.rad.waits.find? (fun x => x.1 = .frame f) = some (.frame f, n)) (hn : 3 ≤ n) (hheader : rxHeader s f = .ok (some i))
    (hent : natEnt s i = some e) :
    Done (.resourceTmo (.frame f) .natEntry i) s fun t => natEnt t i = some { e with rxDrop := satAdd 16 e.rxDrop 1 } ∧
      ∀ w ∈ t.rad.waits, w.1 ≠ .frame f := by
  have hlast := resourceTmo_last (needs_natEntry hheader) (Nat.le_trans hn (Nat.le_of_eq (retriesOf_found hfind).symm))
  exact dropped_done ((exec_resourceTmo s (.frame f) .natEntry i).trans (congrArg (ran s) hlast))
    (frameUnserved_setWaits (otherWaits s (.frame f)) (waitOver_keeps s .natEntry) hheader hent)

theorem ledgerFails_ledBad (s : State) (n : Stn) : (ledgerFails s n).ledBad = s.ledBad ++ [n] :=
  KeepsAllBut.ledBad (m := { evq := true }) (ledgerEvent_keeps _ rfl { s with ledBad := s.ledBad ++ [n] } n) rfl

/-- Settles O31: each row's own lemma, for the fault, the reset's start and end, the failed writes and the acquisitions. -/
theorem stationsFaultAndReset : Obligations.StationsFaultAndReset := by
  refine ⟨fun s n q hup hfresh hoff => ?_, fun s n c rest hnone hfaults hfault => ?_, fun s n hruns hloading => ?_, fun s n c hc => ?_,
    fun s w r k hneeds hfew => resourceTmo_retry_done hneeds hfew, fun s f i n e hfind hn hheader hent => resourceTmo_frame_done hfind hn hheader hent⟩
  · exact done_ran rfl (fabricTimeout_faulted q hup ⟨hfresh, hoff⟩)
  · exact done_ran rfl (stationResetStart_resets hnone hfaults hfault)
  · exact done_ran rfl (stationReady_ready hruns hloading)
  · obtain rfl | rfl := hc
    · exact done_ran rfl ⟨fun _ => ledgerFails_ledBad s n, nofun⟩
    · exact done_ran rfl ⟨nofun, fun _ => rfl⟩

/-! Lost clocks (R18). -/

/-- A station as the loss of its clock takes it into RESET. -/
def clockLost (s : State) (n : Stn) : State :=
  if (stn s n).state = .off then s
  else
    let fresh := !inReset s n
    let s := leaveStroke s n
    let s := if fresh then resetStation (resetPads s n) n .clock else s
    let s := { s with cox := { s.cox with faults := s.cox.faults.filter fun f => f.1 ≠ n,
                                          resetting := if s.cox.resetting = some n then none else s.cox.resetting },
                      sys := { s.sys with run := 0 } }
    let s := setStn s n fun r => { r with state := .reset, cause := .clock, hist := [] }
    stnEvent (if n = .lgt || n = .sys then portsFollow s else s) n

theorem pllLost_eq {s : State} {c : ClockSrc} (hc : c ∉ s.cox.lostClocks) (hup : stationsUp s = true) :
    pllLost s c = (clockedBy c).foldl clockLost { s with cox := { s.cox with lostClocks := s.cox.lostClocks ++ [c] } } := by
  unfold pllLost
  rw [if_neg (by simp [hup, hc])]
  rfl

/-- How the state of a station may follow another while clocks are lost: RESET and OFF stay, and nothing becomes OFF. -/
def StaysDown (a b : StnSt) : Prop := (a = .off ∨ a = .reset → b = a) ∧ (a ≠ .off → b ≠ .off)

theorem StaysDown.refl (a : StnSt) : StaysDown a a := ⟨fun _ => rfl, id⟩

theorem StaysDown.trans {a b c : StnSt} (h : StaysDown a b) (k : StaysDown b c) : StaysDown a c :=
  ⟨fun ha => by
    have hb := h.1 ha
    exact (k.1 (hb ▸ ha)).trans hb, fun ha => k.2 (h.2 ha)⟩

/-- What a station in RESET and OFF, and the list of lost clocks, keep. -/
structure KeepsDown (s t : State) : Prop where
  clocks : t.cox.lostClocks = s.cox.lostClocks
  states : ∀ n, StaysDown (stn s n).state (stn t n).state

theorem KeepsDown.trans {s t u : State} (h : KeepsDown s t) (k : KeepsDown t u) : KeepsDown s u :=
  ⟨k.clocks.trans h.clocks, fun n => (h.states n).trans (k.states n)⟩

theorem KeepsDown.of_coxStns {s t : State} (h : t.cox = s.cox ∧ t.stns = s.stns) : KeepsDown s t :=
  ⟨congrArg Cox.lostClocks h.1, fun n => by rw [stn_of_stns h.2]; exact .refl _⟩

theorem KeepsDown.refl (s : State) : KeepsDown s s := .of_coxStns ⟨rfl, rfl⟩

theorem stn_default {s : State} {n : Stn} (h : ¬ n.idx < s.stns.length) : stn s n = {} := by
  simp [stn, nth, List.getD, List.getElem?_eq_none (Nat.le_of_not_lt h)]

/-- A station's record changed: the states of the others stay, and its own is that of the changed record, or RESET where there is none. -/
theorem setStn_keepsDown {s : State} {n : Stn} {f : StnRec → StnRec} (hf : StaysDown (stn s n).state (f (stn s n)).state) :
    KeepsDown s (setStn s n f) := by
  refine ⟨rfl, fun k => ?_⟩
  by_cases hk : k = n
  · subst hk
    by_cases hlt : k.idx < s.stns.length
    · rw [stn_setStn_same _ _ _ hlt]
      exact hf
    · rw [stn_default hlt, stn_default (by rwa [setStn_length])]
      exact .refl _
  · rw [stn_setStn_other _ _ _ _ hk]
    exact .refl _

theorem sysResetRec_staysDown (x : Stn × StnRec) : StaysDown x.2.state (sysResetRec x).state := by
  unfold sysResetRec
  extract_lets r
  split
  · next h =>
    have hrunning : x.2.state = .running := of_decide_eq_true (Bool.and_eq_true_iff.mp h).2
    rw [hrunning]
    exact ⟨nofun, nofun⟩
  · exact .refl _

theorem resetStation_keepsDown (s : State) (n : Stn) (c : StnCause) : KeepsDown s (resetStation s n c) := by
  refine ⟨(resetStation_waits s n c).2.2, fun k => ?_⟩
  by_cases hk : k.idx < s.stns.length
  · rw [stn_resetStation c hk]
    split
    · exact sysResetRec_staysDown (k, stn s k)
    · exact .refl _
  · rw [stn_default hk]
    by_cases hn : n = .sys
    · obtain ⟨u, hu, hreset⟩ := resetStation_sys s c
      have hlen : ¬ k.idx < (sysReset u).stns.length := by
        rw [sysReset, List.length_map, List.length_zip, (coxStns_of_keeps hu).2]
        exact fun h => hk (Nat.lt_of_lt_of_le h (Nat.min_le_right _ _))
      rw [hn, hreset, stn_default hlen]
      exact .refl _
    · rw [stn_of_stns (coxStns_of_keeps (resetStation_coxStns c hn)).2, stn_default hk]
      exact .refl _

theorem stationFault_keepsDown (s : State) (n : Stn) (c : StnCause) : KeepsDown s (stationFault s n c) := by
  by_cases h : stationsUp s = true ∧ Faultable s n
  · obtain ⟨hcox, hstns, -⟩ := stationFault_parts c h.1 h.2
    have hset : KeepsDown s (setStn s n faultRec) := setStn_keepsDown
      ⟨fun hdown => hdown.elim (fun hoff => absurd hoff h.2.2) fun hreset => by simp [Faultable, inReset, hreset] at h, nofun⟩
    exact ⟨by rw [hcox], fun k => by rw [stn_of_stns (s := setStn s n faultRec) hstns]; exact hset.states k⟩
  · rw [stationFault_ignored c h]
    exact .refl _

theorem seriesFault_keepsDown (s : State) (n : Stn) (c : StnCause) : KeepsDown s (seriesFault s n c) :=
  seriesFault_keeps_of (P := KeepsDown s) (fun h hparts => h.trans (.of_coxStns ⟨hparts.1, hparts.2.1⟩))
    (fun t k h => h.trans (stationFault_keepsDown t k _)) (fun _ _ h => ⟨h.clocks, h.states⟩) (.refl s) n c

theorem leaveStroke_keepsDown (s : State) (n : Stn) : KeepsDown s (leaveStroke s n) :=
  (KeepsDown.of_coxStns (coxStns_of_keeps (discardWork_keeps _ rfl s n))).trans (setStn_keepsDown (.refl _))

/-- A station whose clock is lost is in RESET, and no other's state leaves RESET or OFF. -/
theorem clockLost_resets (s : State) (n : Stn) :
    KeepsDown s (clockLost s n) ∧ ((stn s n).state ≠ .off → (stn (clockLost s n) n).state = .reset) := by
  unfold clockLost
  by_cases hoff : (stn s n).state = .off
  · rw [if_pos hoff]
    exact ⟨.refl s, fun h => absurd hoff h⟩
  rw [if_neg hoff]
  extract_lets fresh left reset _ _ freed set
  have hreset : KeepsDown left reset := by
    simp only [reset]
    split
    · exact (KeepsDown.of_coxStns (coxStns_of_keeps (resetPads_keeps _ rfl _ n))).trans (resetStation_keepsDown _ n _)
    · exact .refl _
  have hfreed : KeepsDown s freed := (leaveStroke_keepsDown s n).trans ⟨hreset.clocks, hreset.states⟩
  have hnotOff : (stn freed n).state ≠ .off := (hfreed.states n).2 hoff
  have hset : KeepsDown freed set :=
    setStn_keepsDown ⟨fun hdown => hdown.elim (fun h => absurd h hnotOff) fun h => h.symm, fun _ => nofun⟩
  have hsetReset : (stn set n).state = .reset := by
    by_cases hlt : n.idx < freed.stns.length
    · exact congrArg StnRec.state (stn_setStn_same freed n _ hlt)
    · rw [stn_default (show ¬ n.idx < set.stns.length by rwa [setStn_length])]
  have hlast : masked offCoxStns (stnEvent (if n = .lgt || n = .sys then portsFollow set else set) n) = masked offCoxStns set := by
    rw [stnEvent_keeps _ rfl]
    split
    · exact portsFollow_keeps _ rfl rfl _
    · rfl
  have hcoxStns := coxStns_of_keeps hlast
  exact ⟨(hfreed.trans hset).trans (.of_coxStns hcoxStns), fun _ => by rw [stn_of_stns hcoxStns.2]; exact hsetReset⟩

theorem foldl_clockLost {s : State} (l : List Stn) :
    KeepsDown s (l.foldl clockLost s) ∧ ∀ n ∈ l, (stn s n).state ≠ .off → (stn (l.foldl clockLost s) n).state = .reset := by
  induction l generalizing s with
  | nil => exact ⟨.refl s, nofun⟩
  | cons k l ih =>
    obtain ⟨hkeeps, hreset⟩ := clockLost_resets s k
    obtain ⟨hrest, hresets⟩ := ih (s := clockLost s k)
    refine ⟨hkeeps.trans hrest, fun n hn hoff => ?_⟩
    rcases List.mem_cons.mp hn with rfl | hn
    · exact ((hrest.states n).1 (.inr (hreset hoff))).trans (hreset hoff)
    · exact hresets n hn ((hkeeps.states n).2 hoff)

theorem pllLoss_resets {s : State} {c : ClockSrc} (hup : stationsUp s = true) (hc : c ∉ s.cox.lostClocks) :
    (pllLoss s c).cox.lostClocks = s.cox.lostClocks ++ [c] ∧
      ∀ n ∈ clockedBy c, (stn s n).state ≠ .off → (stn (pllLoss s c) n).state = .reset := by
  unfold pllLoss
  extract_lets fresh
  rw [if_neg (by simpa using hc), pllLost_eq hc hup]
  obtain ⟨hkeeps, hreset⟩ := foldl_clockLost (s := { s with cox := { s.cox with lostClocks := s.cox.lostClocks ++ [c] } }) (clockedBy c)
  have hseries : ∀ u, KeepsDown u (fresh.foldl (fun s n => seriesFault s n .clock) u) := fun u =>
    List.foldlRecOn (motive := KeepsDown u) _ _ (.refl u) fun t ht n _ => ht.trans (seriesFault_keepsDown t n _)
  refine ⟨(hseries _).clocks.trans hkeeps.clocks, fun n hn hoff => ?_⟩
  exact (((hseries _).states n).1 (.inr (hreset n hn hoff))).trans (hreset n hn hoff)

theorem stn_of_get {s : State} {n : Stn} {r : StnRec} (h : s.stns[n.idx]? = some r) : stn s n = r := by simp [stn, nth, List.getD, h]

/-! Regained clocks (R18). -/

/-- Whether a station in RESET waits for no reset, and no clock of it is lost. -/
def clockBack (lost : List ClockSrc) (s : State) (n : Stn) : Bool :=
  (stn s n).state = .reset && !(s.cox.faults.any fun f => f.1 = n) && !(lost.any fun x => (clockedBy x).contains n)

/-- A station whose last lost clock is back has its reset queued. -/
def clockFound (lost : List ClockSrc) (s : State) (n : Stn) : State :=
  if clockBack lost s n then { s with cox := { s.cox with faults := s.cox.faults ++ [(n, .clock)] } } else s

theorem pllRegained_eq {s : State} {c : ClockSrc} (hc : c ∈ s.cox.lostClocks) :
    pllRegained s c = (clockedBy c).foldl (clockFound (s.cox.lostClocks.filter fun x => x ≠ c))
      { s with cox := { s.cox with lostClocks := s.cox.lostClocks.filter fun x => x ≠ c } } := by
  unfold pllRegained
  rw [if_neg (by simp [hc])]
  rfl

/-- What a clock's return leaves: the lost clocks and the records, and every reset that waits. -/
structure Queued (s t : State) : Prop where
  clocks : t.cox.lostClocks = s.cox.lostClocks
  stns : t.stns = s.stns
  waits : ∀ f ∈ s.cox.faults, f ∈ t.cox.faults

theorem Queued.refl (s : State) : Queued s s := ⟨rfl, rfl, fun _ => id⟩

theorem Queued.trans {s t u : State} (h : Queued s t) (k : Queued t u) : Queued s u :=
  ⟨k.clocks.trans h.clocks, k.stns.trans h.stns, fun f hf => k.waits f (h.waits f hf)⟩

theorem clockFound_queues (lost : List ClockSrc) (s : State) (n : Stn) :
    Queued s (clockFound lost s n) ∧
      ((stn s n).state = .reset → (∀ x ∈ lost, n ∉ clockedBy x) → ∃ k, (n, k) ∈ (clockFound lost s n).cox.faults) := by
  unfold clockFound
  split
  · exact ⟨⟨rfl, rfl, fun f hf => List.mem_append_left _ hf⟩, fun _ _ => ⟨.clock, List.mem_append_right _ (List.mem_singleton_self _)⟩⟩
  · next hback =>
    refine ⟨.refl s, fun hreset hclocks => ?_⟩
    have hnone : lost.any (fun x => (clockedBy x).contains n) = false := List.any_eq_false.mpr fun x hx => by simpa using hclocks x hx
    have hwaits : s.cox.faults.any (fun f => f.1 = n) = true := by
      refine Decidable.byContradiction fun hnot => hback ?_
      simp only [clockBack, hreset, hnone, Bool.eq_false_iff.mpr hnot, decide_true, Bool.not_false, Bool.and_self]
    obtain ⟨f, hf, hn⟩ := List.any_eq_true.mp hwaits
    exact ⟨f.2, by rw [← of_decide_eq_true hn]; exact hf⟩

theorem foldl_clockFound {s : State} (lost : List ClockSrc) (l : List Stn) :
    Queued s (l.foldl (clockFound lost) s) ∧
      ∀ n ∈ l, (stn s n).state = .reset → (∀ x ∈ lost, n ∉ clockedBy x) → ∃ k, (n, k) ∈ (l.foldl (clockFound lost) s).cox.faults := by
  induction l generalizing s with
  | nil => exact ⟨.refl s, nofun⟩
  | cons m l ih =>
    obtain ⟨hfirst, hqueued⟩ := clockFound_queues lost s m
    obtain ⟨hrest, hothers⟩ := ih (s := clockFound lost s m)
    refine ⟨hfirst.trans hrest, fun n hn hreset hclocks => ?_⟩
    rcases List.mem_cons.mp hn with rfl | hn
    · obtain ⟨k, hk⟩ := hqueued hreset hclocks
      exact ⟨k, hrest.waits _ hk⟩
    · exact hothers n hn (by rw [stn_of_stns hfirst.stns]; exact hreset) hclocks

theorem pllRegained_queues {s : State} {c : ClockSrc} (hc : c ∈ s.cox.lostClocks) :
    (∀ x, x ∈ (pllRegained s c).cox.lostClocks ↔ x ∈ s.cox.lostClocks ∧ x ≠ c) ∧ (pllRegained s c).stns = s.stns ∧
      ∀ n ∈ clockedBy c, (stn s n).state = .reset → (∀ x ∈ s.cox.lostClocks, x ≠ c → n ∉ clockedBy x) →
        ∃ k, (n, k) ∈ (pllRegained s c).cox.faults := by
  rw [pllRegained_eq hc]
  obtain ⟨hqueued, hresets⟩ := foldl_clockFound (s := { s with cox := { s.cox with lostClocks := s.cox.lostClocks.filter fun x => x ≠ c } })
    (s.cox.lostClocks.filter fun x => x ≠ c) (clockedBy c)
  refine ⟨fun x => ?_, hqueued.stns, fun n hn hreset hothers => hresets n hn hreset fun x hx => ?_⟩
  · rw [hqueued.clocks]
    simp
  · obtain ⟨hmem, hne⟩ := List.mem_filter.mp hx
    exact hothers x hmem (of_decide_eq_true hne)

/-- Settles O32: the stations of a lost clock are taken into RESET one by one, and those of a regained one queued one by one. -/
theorem lostClocksHoldTheirStations : Obligations.LostClocksHoldTheirStations := by
  refine ⟨fun s c hup hc => ?_, fun s c hc => done_ran rfl (pllRegained_queues hc)⟩
  obtain ⟨hclocks, hresets⟩ := pllLoss_resets hup hc
  exact done_ran rfl ⟨hclocks, fun n hn hoff r hr => by rw [← stn_of_get hr]; exact hresets n hn hoff⟩

/-! What a start ends with (R110, R121, R125, R127). -/

/-- Every part but SYS's own and the module's power state. -/
abbrev offSysModp : Parts := { Parts.all with sys := false, modp := false, pending := true }

theorem steady_marks {s : State} (hon : s.sys.timerOn = true) (hrun : s.modp = .running) (hlong : 1000 ≤ s.sys.run)
    (hall : allStations s .running = true) :
    (steady s).sys.timerOn = false ∧ (steady s).sys.start.steady = true ∧ (steady s).modp = .running := by
  unfold steady
  extract_lets r header counted _ marked
  rw [if_neg (by simp [hon, hrun, hall]; omega)]
  have hcounted : masked offSysModp counted = masked offSysModp s := by
    rw [writeCount_keeps _ rfl rfl rfl]
    simp only [header]
    split
    · exact rewriteHeader_keeps _ rfl rfl s _
    · rfl
  have hlast : masked offSysModp (startRecord (updSteady marked)) = masked offSysModp marked :=
    (startRecord_keeps _ rfl _).trans (updSteady_keeps _ rfl rfl _)
  have hsys : (startRecord (updSteady marked)).sys = marked.sys := KeepsAllBut.sys hlast rfl
  rw [hsys]
  exact ⟨rfl, rfl, (KeepsAllBut.modp hlast rfl).trans ((KeepsAllBut.modp hcounted rfl).trans hrun)⟩

theorem flashWrite_good {s : State} {n : Stn} (f : State → State) (h : n ∉ s.flashBad) : flashWrite s n f = (f s, true) := by
  unfold flashWrite
  rw [if_neg (by simpa using h)]

/-- The slots of the Rigs. -/
def rigSlots (s : State) : Option Rig × Option Rig := (s.flash.rigA, s.flash.rigB)

theorem rewriteHeader_slots (s : State) (f : BootHdr → BootHdr) : rigSlots (rewriteHeader s f).1 = rigSlots s := by
  unfold rewriteHeader flashWrite
  extract_lets k other gen new
  split
  · rfl
  · dsimp only
    split <;> rfl

theorem rigMigrationWrite_writes {s : State} {k : Nat} {r : Rig} (hmigrate : s.cfg.migrate = some (k, r)) (hrun : s.modp = .running)
    (hgood : .cfg ∉ s.flashBad) :
    (rigMigrationWrite s).cfg.migrate = none ∧
      rigSlots (rigMigrationWrite s) = if k = 0 then (some r, s.flash.rigB) else (s.flash.rigA, some r) := by
  unfold rigMigrationWrite
  rw [hmigrate]
  dsimp -zeta only
  rw [if_neg (by simp [hrun])]
  extract_lets _ taken w
  have hw : w = ({ taken with flash := if k = 0 then { s.flash with rigA := some r } else { s.flash with rigB := some r } }, true) :=
    flashWrite_good _ hgood
  rw [if_pos (by rw [hw]), rewriteHeader_slots, hw]
  refine ⟨congrArg CfgState.migrate (KeepsAllBut.cfg (m := { flash := true, flashBad := true }) (rewriteHeader_keeps _ rfl rfl _ _) rfl), ?_⟩
  by_cases hk : k = 0
  · simp only [rigSlots, hk, if_true]
  · simp only [rigSlots, hk, if_false]

theorem specialTrim_waits {s : State} {i : Nat} {f : List Finding} (hrun : s.modp = .running) (hfresh : inReset s .cfg = false) (hi : i < 16)
    (hok : specialErr s ((List.range 16).filter fun k => (specialsLast s).contains k || k = i) = (.ok, f)) :
    (specialTrim s i).cfg.specialsNext = some ((List.range 16).filter (fun k => (specialsLast s).contains k || k = i), dueBoundary s) ∧
      (specialTrim s i).cfg.specials = s.cfg.specials := by
  unfold specialTrim
  extract_lets l new
  rw [if_neg (by simp [hrun, hfresh]; omega), hok]
  exact ⟨rfl, rfl⟩

/-- Settles O30: the test, the migration and the special Trims, one lemma each. -/
theorem startsBecomeSteady : Obligations.StartsBecomeSteady := by
  refine ⟨fun s hon hrun hlong hall => done_ran rfl (steady_marks hon hrun hlong hall), fun s k r hmigrate hrun hgood => ?_,
    fun s i f hrun hfresh hi hok => done_ran rfl (specialTrim_waits hrun hfresh hi hok)⟩
  obtain ⟨hnone, hslots⟩ := rigMigrationWrite_writes hmigrate hrun hgood
  refine done_ran rfl ⟨hnone, fun hk => ?_, fun hk => ?_⟩
  · rw [if_pos hk] at hslots
    exact ⟨congrArg Prod.fst hslots, congrArg Prod.snd hslots⟩
  · rw [if_neg hk] at hslots
    exact ⟨congrArg Prod.snd hslots, congrArg Prod.fst hslots⟩

end Sys2Proof.Machine
end

section
/-! Entry into EASY, and UPD's power gate (R410 to R419). -/
namespace Sys2Proof.Machine

/-! The day schedule asks for an entry (R412, R413). -/

theorem dayTry_asks {s : State} (hswitched : (cPower s).switched = true) (hday : s.crs.mode = 0) (hrun : s.modp = .running)
    (hentry : s.pwr.entry = none) (hok : easyErr s (dayWake s) = .ok) :
    dayTry s = easyAsked (setPwr s fun x => { x with dayWait := false }) 1 (dayWake s) := by
  unfold dayTry
  rw [if_neg (by simp [hswitched, hday, hrun]), if_neg (by simp [hentry])]
  dsimp only
  rw [hok]

/-! The saves take the entry to step 2 (R415). -/

theorem mtrSave_ok {s : State} (kind snap : Nat) (h : .mtr ∉ s.ledBad) : (mtrSave s kind snap).2 = true ∧ (mtrSave s kind snap).1.ledBad = s.ledBad := by
  unfold mtrSave
  extract_lets n slot pw v r
  have hr : r = _ := ledgerWrite_ok h _
  rw [if_pos (by rw [hr])]
  refine ⟨rfl, ?_⟩
  show r.1.ledBad = _
  rw [hr]
  split <;> rfl

theorem stepSaves_ok {s : State} (kind : Nat) (h : s.ledBad = []) : (stepSaves s kind).2 = true := by
  unfold stepSaves
  extract_lets m t bad u duty w v
  have hm : m.2 = true ∧ m.1.ledBad = [] := by
    obtain ⟨hsaved, hbad⟩ := mtrSave_ok (s := s) kind (nowNs s) (by simp [h])
    exact ⟨hsaved, hbad.trans h⟩
  have ht : t = (timSave m.1, true) := ledgerWrite_ok (by rw [hm.2]; exact List.not_mem_nil) _
  have hbad : bad = false := by
    simp only [bad, ht]
    exact congrArg (fun l : List Stn => l.any fun w => w = .rad || w = .lgt || w = .sec) hm.2
  simp [hm.1, ht, hbad]

theorem easySaves_of {s : State} {e : Entry} {w : State × Bool} (hsaves : stepSaves s 3 = w) (hok : w.2 = true) (hentry : s.pwr.entry = some e)
    (hstep : e.step = 1) (htime : s.tim.cyc ≤ e.stepCyc + msCyc 200) :
    easySaves s = setPwr w.1 fun x => { x with entry := some { e with step := 2, stepCyc := w.1.tim.cyc } } := by
  unfold easySaves
  rw [hentry]
  dsimp -zeta only
  rw [if_neg (by simp [hstep]), if_neg (Nat.not_lt.mpr htime), hsaves]
  exact if_pos hok

theorem stepSaves_modp (s : State) (kind : Nat) : (stepSaves s kind).1.modp = s.modp :=
  KeepsAllBut.modp (m := { Parts.all with modp := false }) (stepSaves_keeps _ rfl rfl rfl rfl rfl rfl rfl rfl rfl s kind) rfl

theorem easySaves_saved {s : State} {e : Entry} (hentry : s.pwr.entry = some e) (hstep : e.step = 1) (hgood : s.ledBad = [])
    (htime : s.tim.cyc ≤ e.stepCyc + msCyc 200) :
    (∃ n, (easySaves s).pwr.entry = some { e with step := 2, stepCyc := n }) ∧ (easySaves s).modp = s.modp := by
  have hmodp := stepSaves_modp s 3
  have hok := stepSaves_ok 3 hgood
  obtain ⟨w, hsaves⟩ : ∃ w, stepSaves s 3 = w := ⟨_, rfl⟩
  rw [hsaves] at hmodp hok
  rw [easySaves_of hsaves hok hentry hstep htime]
  exact ⟨⟨w.1.tim.cyc, rfl⟩, hmodp⟩

/-! The grace's end (R415 to R418). -/

/-- The grace's time has passed, or nothing is left to be acknowledged. -/
def graceOver (s : State) (e : Entry) : State :=
  if s.evq.queues.all fun q => q.ring.isEmpty then s else advanceCyc s (e.stepCyc + secCyc (cPower s).grace)

/-- The unacknowledged packets are counted and lost. -/
def ringsLost (s : State) : State :=
  { s with evq := { s.evq with queues := s.evq.queues.map fun q => { q with rlost := satAdd 32 q.rlost q.ring.length, ring := [] } } }

/-- The save list is written, the banks are held and the sources armed. -/
def sourcesArmed (s : State) (e : Entry) : State :=
  let s := { s with aon := { s.aon with save := some (saveListOf s e), retryUsed := false, brownout := false } }
  setPwr s fun x =>
    { x with holdA := true, holdB := true, cmpArmed := (cPower s).switched, frameArmed := (cPower s).frameEn, frameMatched := false,
             entry := some { e with step := 6 } }

theorem sleepGrace_eq {s : State} {e : Entry} (hentry : s.pwr.entry = some e) (hstep : e.step = 2) :
    sleepGrace s = sourcesArmed (easyPads (ringsLost (graceOver s e))) e := by
  unfold sleepGrace
  rw [hentry]
  dsimp -zeta only
  rw [if_neg (by simp [hstep]), sourcesArmed, ringsLost, graceOver]

theorem graceOver_keeps (s : State) (e : Entry) : KeepsAllBut offTim s (graceOver s e) := by
  unfold graceOver
  split
  · rfl
  · exact advanceCyc_keeps _ rfl _ _

theorem ringsLost_ring {s : State} {q : EvqQueue} (h : q ∈ (ringsLost s).evq.queues) : q.ring = [] := by
  obtain ⟨x, -, rfl⟩ := List.mem_map.mp h
  rfl

theorem sourcesArmed_holds {s u : State} (e : Entry) (hcfg : u.cfg = s.cfg) (hrings : ∀ q ∈ u.evq.queues, q.ring = []) :
    (sourcesArmed u e).pwr.entry = some { e with step := 6 } ∧ (sourcesArmed u e).pwr.holdA = true ∧ (sourcesArmed u e).pwr.holdB = true ∧
      (sourcesArmed u e).pwr.cmpArmed = (cPower s).switched ∧ (sourcesArmed u e).pwr.frameArmed = (cPower s).frameEn ∧
      (sourcesArmed u e).aon.save.isSome = true ∧ ∀ q ∈ (sourcesArmed u e).evq.queues, q.ring = [] := by
  have hpower : cPower u = cPower s := by simp only [cPower, hcfg]
  exact ⟨rfl, rfl, rfl, congrArg PowerSec.switched hpower, congrArg PowerSec.frameEn hpower, rfl, hrings⟩

theorem sleepGrace_holds {s : State} {e : Entry} (hentry : s.pwr.entry = some e) (hstep : e.step = 2) :
    (sleepGrace s).pwr.entry = some { e with step := 6 } ∧ (sleepGrace s).pwr.holdA = true ∧ (sleepGrace s).pwr.holdB = true ∧
      (sleepGrace s).pwr.cmpArmed = (cPower s).switched ∧ (sleepGrace s).pwr.frameArmed = (cPower s).frameEn ∧
      (sleepGrace s).aon.save.isSome = true ∧ ∀ q ∈ (sleepGrace s).evq.queues, q.ring = [] := by
  rw [sleepGrace_eq hentry hstep]
  have hwaited := graceOver_keeps s e
  generalize graceOver s e = u at hwaited
  have hpadded : KeepsAllBut { tim := true, rad := true, pins := true, free := true } (ringsLost u) (easyPads (ringsLost u)) :=
    easyPads_keeps _ rfl rfl rfl rfl _
  generalize easyPads (ringsLost u) = v at hpadded
  exact sourcesArmed_holds e ((hpadded.cfg rfl).trans (hwaited.cfg rfl)) fun q hq => ringsLost_ring (s := u) (by rw [← hpadded.evq rfl]; exact hq)

/-! The final check (R419). -/

theorem setPower_state (s : State) (p : PwrSt) : (setPower s p).pwr.state = p := by
  unfold setPower
  split
  · next h => exact h
  · rfl

theorem domainsOff_easy (s : State) (e : Entry) :
    (domainsOff s e).modp = .easy ∧ (domainsOff s e).pwr.state = .easy ∧ (domainsOff s e).pwr.entry = none ∧
      (domainsOff s e).cox.phase = .none ∧ (∀ r ∈ (domainsOff s e).stns, r.state = .off) ∧
      ∀ x ∈ (domainsOff s e).vtp.sessions, x.state = .closed := by
  refine ⟨rfl, setPower_state s .easy, rfl, rfl, fun r hr => ?_, fun x hx => ?_⟩
  · obtain ⟨y, -, rfl⟩ := List.mem_map.mp hr
    rfl
  · rw [List.eq_of_mem_replicate (n := 4) (a := ({} : Session)) hx]

theorem easyAbandon_returns (s : State) (e : Entry) (err : Err) (pending : Nat) :
    (easyAbandon s e err pending).modp = s.modp ∧ (easyAbandon s e err pending).pwr.state = e.from_ ∧
      (easyAbandon s e err pending).pwr.entry = none ∧ (easyAbandon s e err pending).pwr.holdA = false ∧
      (easyAbandon s e err pending).pwr.holdB = false ∧ (easyAbandon s e err pending).stns = s.stns := by
  have hkeeps : KeepsAllBut { evq := true, rad := true, mtr := true, pwr := true, pins := true } s (easyAbandon s e err pending) :=
    easyAbandon_keeps _ rfl rfl rfl rfl rfl s e err pending
  refine ⟨hkeeps.modp rfl, ?_⟩
  rw [hkeeps.stns rfl]
  unfold easyAbandon
  extract_lets left driven settled
  have hpwr : settled.pwr = left.pwr := by
    have hsettled : masked { Parts.all with pwr := false } settled = masked { Parts.all with pwr := false } left := by
      simp only [settled, driven]
      (repeat' split) <;> simp
    exact KeepsAllBut.pwr hsettled rfl
  have hevent : ∀ t : State, (event t .pwr 0x0A01 0 err.code 0).pwr = t.pwr := fun t =>
    KeepsAllBut.pwr (m := { evq := true }) (event_keeps _ rfl t _ _ _ _ _) rfl
  rw [hevent]
  exact ⟨(congrArg PwrState.state hpwr).trans (setPower_state s e.from_), rfl, rfl, rfl, rfl⟩

theorem easyFinal_decides {s : State} {e : Entry} {q : Bool} (hentry : s.pwr.entry = some e) (hstep : e.step = 6) :
    easyFinal s q =
      if wakePending (setPwr s fun x => { x with cmpQualifying := q }) ≠ 0 then
        easyAbandon (setPwr s fun x => { x with cmpQualifying := q }) e .wakePending (wakePending (setPwr s fun x => { x with cmpQualifying := q }))
      else domainsOff (setPwr s fun x => { x with cmpQualifying := q }) e := by
  have hsame : (setPwr s fun x => { x with cmpQualifying := q }).pwr.entry = some e := hentry
  unfold easyFinal
  extract_lets u
  rw [show u.pwr.entry = some e from hsame]
  exact if_neg (by simp [hstep])

/-! UPD's power gate (R410). -/

/-- UPD off behind its gate. -/
def gated (s : State) : State := setStn (setPwr s fun x => { x with updGated := true }) .upd fun r => { r with state := .off }

theorem gated_off {s : State} (hlt : Stn.upd.idx < s.stns.length) : (stn (gated s) .upd).state = .off ∧ (gated s).pwr.updGated = true := by
  unfold gated
  rw [stn_setStn_same _ _ _ (by exact hlt)]
  exact ⟨rfl, rfl⟩

theorem updGate_eq {s : State} (h : (s.pwr.state = .feather && isRunning s .upd && !updCallLive s && s.upd.xfer.state ≠ .open_) = true) :
    updGate s = gated (advanceCyc s (s.pwr.updAt + secCyc 60)) := if_pos h

theorem advanceCyc_stns (s : State) (n : Nat) : (advanceCyc s n).stns = s.stns := KeepsAllBut.stns (m := offTim) (advanceCyc_keeps _ rfl s n) rfl

theorem updGate_gates {s : State} (hfeather : s.pwr.state = .feather) (hrun : isRunning s .upd = true) (hcall : updCallLive s = false)
    (hxfer : s.upd.xfer.state ≠ .open_) : (stn (updGate s) .upd).state = .off ∧ (updGate s).pwr.updGated = true := by
  have hrunning : (stn s .upd).state = .running := of_decide_eq_true hrun
  have hlt : Stn.upd.idx < s.stns.length := idx_lt_of_stn s .upd fun hdefault => by simp [hdefault] at hrunning
  rw [updGate_eq (by simp [hfeather, hrun, hcall, hxfer])]
  exact gated_off (by rw [advanceCyc_stns]; exact hlt)

/-- Settles O29: the day schedule's try, the two steps of the entry, the final check either way, and the gate. -/
theorem easyIsEntered : Obligations.EasyIsEntered := by
  refine ⟨fun s hswitched hday hentry hrun hok => ?_, fun s e hentry hstep hgood htime => done_ran rfl (easySaves_saved hentry hstep hgood htime),
    fun s e hentry hstep => done_ran rfl (sleepGrace_holds hentry hstep), fun s e q hentry hstep => ⟨fun hnone => ?_, fun hpending => ?_⟩,
    fun s hfeather hrun hcall hxfer => done_ran rfl (updGate_gates hfeather hrun hcall hxfer)⟩
  · have hasks := dayTry_asks (s := cmpFell s) hswitched hday hrun hentry hok
    have hran : exec .easyDayTrigger s = ran s (dayTry (cmpFell s)) := rfl
    rw [hasks] at hran
    exact done_ran hran ⟨rfl, rfl⟩
  · have hran : exec (.easyFinalCheck q) s = ran s (easyFinal s q) := rfl
    rw [easyFinal_decides hentry hstep, if_neg (not_not_intro hnone)] at hran
    exact done_ran hran (domainsOff_easy _ e)
  · have hran : exec (.easyFinalCheck q) s = ran s (easyFinal s q) := rfl
    rw [easyFinal_decides hentry hstep, if_pos hpending] at hran
    exact done_ran hran (easyAbandon_returns _ e _ _)

end Sys2Proof.Machine
end

section
/-! Event queues and report rings (R395 to R400, R405, R406). -/
namespace Sys2Proof.Machine

/-! Counts that saturate. -/

theorem satAdd_zero {n : Nat} (h : n < 2 ^ 32) : satAdd 32 n 0 = n := by
  unfold satAdd
  omega

theorem satAdd_satAdd (n a b : Nat) : satAdd 32 (satAdd 32 n a) b = satAdd 32 n (a + b) := by
  unfold satAdd
  omega

theorem satAdd_lt (n a : Nat) : satAdd 32 n a < 2 ^ 32 := by
  unfold satAdd
  omega

/-! Words that arrive (R396, R399). -/

theorem foldl_add (l : List Nat) (n : Nat) : l.foldl (· + ·) n = n + l.sum := by
  induction l generalizing n with
  | nil => rfl
  | cons a l ih => rw [List.foldl_cons, ih, List.sum_cons, Nat.add_assoc]

theorem occupied_eq (q : EvqQueue) (n : Nat) : occupied q n = n + (q.vis.map List.length).sum := foldl_add _ _

theorem occupied_add (q : EvqQueue) (n k : Nat) : occupied q (n + k) = occupied q n + k := by
  rw [occupied_eq, occupied_eq]
  omega

/-- The queue without its `k` oldest packets, counted. -/
def oldestLost (q : EvqQueue) (k : Nat) : EvqQueue := { q with vis := q.vis.drop k, lost := satAdd 32 q.lost k }

theorem oldestLost_zero {q : EvqQueue} (h : q.lost < 2 ^ 32) : oldestLost q 0 = q := by
  unfold oldestLost
  rw [satAdd_zero h, List.drop_zero]

theorem oldestLost_oldestLost (q : EvqQueue) (a b : Nat) : oldestLost (oldestLost q a) b = oldestLost q (a + b) := by
  unfold oldestLost
  rw [List.drop_drop, satAdd_satAdd]

/-- One word takes a free stage, or that of the oldest packet, which has a word to give. -/
theorem wordArrives_oldest {q : EvqQueue} {n : Nat} (hn : n < 64) (hfit : occupied q n ≤ 64) (hfull : ∀ p ∈ q.vis, p ≠ []) (hlost : q.lost < 2 ^ 32) :
    ∃ k, wordArrives q n = oldestLost q k ∧ occupied (oldestLost q k) (n + 1) ≤ 64 ∧ (occupied q n < 64 → k = 0) := by
  unfold wordArrives
  split
  · next h =>
    refine ⟨1, rfl, ?_, fun hfree => absurd h (Nat.not_le.mpr hfree)⟩
    cases hvis : q.vis with
    | nil =>
      rw [occupied_eq, hvis] at h
      simp at h
      omega
    | cons p l =>
      have hp : 1 ≤ p.length := List.length_pos_iff.mpr (hfull p (by simp [hvis]))
      rw [occupied_eq, hvis, List.map_cons, List.sum_cons] at hfit
      rw [occupied_eq]
      simp only [oldestLost, hvis, List.drop_one, List.tail_cons]
      omega
  · next h =>
    refine ⟨0, (oldestLost_zero hlost).symm, ?_, fun _ => rfl⟩
    rw [oldestLost_zero hlost, occupied_add]
    omega

theorem wordsArrive_oldest {q : EvqQueue} {m n : Nat} (hn : n + m < 64) (hfit : occupied q n ≤ 64) (hfull : ∀ p ∈ q.vis, p ≠ [])
    (hlost : q.lost < 2 ^ 32) :
    ∃ k, wordsArrive q m n = oldestLost q k ∧ occupied (oldestLost q k) (n + m) ≤ 64 ∧ (occupied q n + m ≤ 64 → k = 0) := by
  induction m generalizing q n with
  | zero => exact ⟨0, (oldestLost_zero hlost).symm, by rw [oldestLost_zero hlost]; exact hfit, fun _ => rfl⟩
  | succ m ih =>
    obtain ⟨a, hfirst, hfitFirst, hfree⟩ := wordArrives_oldest (by omega) hfit hfull hlost
    obtain ⟨b, hrest, hfitRest, hfreeRest⟩ := ih (q := oldestLost q a) (n := n + 1) (by omega) hfitFirst
      (fun p hp => hfull p (List.mem_of_mem_drop hp)) (satAdd_lt _ _)
    rw [oldestLost_oldestLost] at hrest hfitRest
    refine ⟨a + b, by rw [wordsArrive, hfirst, hrest], by rw [show n + (m + 1) = n + 1 + m by omega]; exact hfitRest, fun hroom => ?_⟩
    have ha : a = 0 := hfree (by omega)
    rw [ha, oldestLost_zero hlost, occupied_add] at hfreeRest
    rw [ha, hfreeRest (by omega)]

/-! Packets committed and rewound (R397, R398). -/

theorem commitPacket_eq {q : EvqQueue} {ws : List Word64} {k : Nat} (hws : ws ≠ []) (h : wordsArrive q ws.length 0 = oldestLost q k) :
    commitPacket q ws =
      { oldestLost q k with vis := q.vis.drop k ++ [withSeq q.seq (ws.headD 0) :: ws.drop 1], seq := (q.seq + 1) % 2 ^ 32 } := by
  obtain ⟨w, l, rfl⟩ := List.exists_cons_of_ne_nil hws
  unfold commitPacket
  rw [h]
  rfl

theorem queueLegal_oldestLost {q : EvqQueue} (hq : queueLegal q) {k : Nat} (hfit : occupied (oldestLost q k) 0 ≤ 64) : queueLegal (oldestLost q k) :=
  ⟨hfit, fun p hp => hq.2.1 p (List.mem_of_mem_drop hp), satAdd_lt _ _⟩

theorem commitPacket_takes {q : EvqQueue} {ws : List Word64} (hq : queueLegal q) (hws : ws ≠ []) (hlen : ws.length ≤ 16) :
    ∃ k, (commitPacket q ws).vis = q.vis.drop k ++ [withSeq q.seq (ws.headD 0) :: ws.drop 1] ∧ (commitPacket q ws).seq = (q.seq + 1) % 2 ^ 32 ∧
      (commitPacket q ws).lost = satAdd 32 q.lost k ∧ (commitPacket q ws).rewound = q.rewound ∧ (commitPacket q ws).ring = q.ring ∧
      queueLegal (commitPacket q ws) ∧ (occupied q 0 + ws.length ≤ 64 → k = 0) := by
  obtain ⟨hfits, hfull, hlost⟩ := hq
  obtain ⟨k, hk, hfit, hfree⟩ := wordsArrive_oldest (m := ws.length) (n := 0) (by omega) hfits hfull hlost
  rw [commitPacket_eq hws hk]
  refine ⟨k, rfl, rfl, rfl, rfl, rfl, ⟨?_, fun p hp => ?_, satAdd_lt _ _⟩, hfree⟩
  · obtain ⟨w, l, rfl⟩ := List.exists_cons_of_ne_nil hws
    rw [occupied_eq] at hfit ⊢
    simp only [oldestLost, List.length_cons, List.map_append, List.map_cons, List.map_nil, List.sum_append, List.sum_cons, List.sum_nil,
      List.drop_one, List.tail_cons] at hfit ⊢
    omega
  · rcases List.mem_append.mp hp with hp | hp
    · exact hfull p (List.mem_of_mem_drop hp)
    · rw [List.mem_singleton.mp hp]
      exact List.cons_ne_nil _ _

theorem rewindPacket_leaves {q : EvqQueue} {n : Nat} (hq : queueLegal q) (hn : n ≤ 16) :
    ∃ k, (rewindPacket q n).vis = q.vis.drop k ∧ (rewindPacket q n).seq = q.seq ∧ (rewindPacket q n).lost = satAdd 32 q.lost k ∧
      (rewindPacket q n).rewound = inc32 q.rewound ∧ (rewindPacket q n).ring = q.ring ∧ queueLegal (rewindPacket q n) ∧
      (occupied q 0 + n ≤ 64 → k = 0) := by
  obtain ⟨k, hk, hfit, hfree⟩ := wordsArrive_oldest (m := n) (n := 0) (by omega) hq.1 hq.2.1 hq.2.2
  have hsame : occupied (oldestLost q k) 0 ≤ 64 := by
    rw [occupied_add] at hfit
    omega
  obtain ⟨hfits, hfull, hlost⟩ := queueLegal_oldestLost hq hsame
  unfold rewindPacket
  rw [hk]
  exact ⟨k, rfl, rfl, rfl, rfl, rfl, ⟨hfits, hfull, hlost⟩, hfree⟩

theorem withSeq_fields (w : Word64) {n : Nat} (h : n < 2 ^ 32) :
    (withSeq n w).toNat % 2 ^ 32 = n ∧ (withSeq n w).toNat / 2 ^ 32 = w.toNat / 2 ^ 32 := by
  have hw : w.toNat < 2 ^ 64 := w.isLt
  simp only [withSeq, frac, BitVec.toNat_ofNat]
  omega

/-- Settles O43: the words of a packet arrive one by one, each at the oldest packet's cost where no stage is free. -/
theorem eventQueuesHoldSixtyFourWords : Obligations.EventQueuesHoldSixtyFourWords := by
  refine ⟨fun s q ws e he hup hlegal hws hlen => ?_, fun s q n e he hup hlegal hn => ?_, fun s q ws e he hdown => ⟨?_, ?_⟩,
    fun w n hn => withSeq_fields w hn⟩
  · have hput : putPacket s q ws = setQueue s q fun e => commitPacket e ws := if_neg (by simp [hup])
    have hran : exec (.evqCommit q ws) s = ran s (putPacket s q ws) := rfl
    rw [hput] at hran
    obtain ⟨k, hk⟩ := commitPacket_takes hlegal hws hlen
    exact done_ran hran ⟨fun j hj => setQueue_other s q _ hj, _, k, setQueue_get s q _ e he, hk⟩
  · have hput : rewound s q n = setQueue s q fun e => rewindPacket e n := if_neg (by simp [hup])
    have hran : exec (.evqRewind q n) s = ran s (rewound s q n) := rfl
    rw [hput] at hran
    obtain ⟨k, hk⟩ := rewindPacket_leaves hlegal hn
    exact done_ran hran ⟨fun j hj => setQueue_other s q _ hj, _, k, setQueue_get s q _ e he, hk⟩
  · have hput : putPacket s q ws = setQueue s q fun e => { e with lost := inc32 e.lost } := if_pos hdown
    have hran : exec (.evqCommit q ws) s = ran s (putPacket s q ws) := rfl
    rw [hput] at hran
    exact done_ran hran (setQueue_get s q _ e he)
  · have hput : rewound s q ws.length = setQueue s q fun e => { e with lost := inc32 e.lost } := if_pos hdown
    have hran : exec (.evqRewind q ws.length) s = ran s (rewound s q ws.length) := rfl
    rw [hput] at hran
    exact done_ran hran (setQueue_get s q _ e he)

/-! Report rings (R405, R406). -/

theorem lastN_lastN_append {α : Type} (n : Nat) (a b : List α) : lastN n (lastN n a ++ b) = lastN n (a ++ b) := by
  have hdrop : lastN n a ++ b = (a ++ b).drop (a.length - n) := (List.drop_append_of_le_length (Nat.sub_le _ _)).symm
  rw [hdrop, lastN, lastN, List.drop_drop, List.length_drop, List.length_append]
  congr 1
  omega

theorem lastN_length {α : Type} (n : Nat) (l : List α) : (lastN n l).length = min n l.length := by
  rw [lastN, List.length_drop]
  omega

theorem lastN_all {α : Type} {n : Nat} {l : List α} (h : l.length ≤ n) : lastN n l = l := by
  rw [lastN, Nat.sub_eq_zero_of_le h, List.drop_zero]

theorem drainOne_ring {q : EvqQueue} (ws : List Word64) (hring : q.ring.length ≤ 512) (hlost : q.rlost < 2 ^ 32) :
    (drainOne q ws).ring.map RingPkt.words = lastN 512 (q.ring.map RingPkt.words ++ [ws]) ∧
      (drainOne q ws).rlost = satAdd 32 q.rlost (q.ring.length + 1 - 512) := by
  unfold drainOne
  extract_lets seq p
  by_cases hfull : q.ring.length ≥ 512
  · have hp : p = { q with ring := q.ring.drop 1, rlost := inc32 q.rlost } := if_pos hfull
    have hlen : q.ring.length = 512 := Nat.le_antisymm hring hfull
    rw [hp, lastN]
    simp only [List.map_append, List.map_drop, List.map_cons, List.map_nil, List.length_append, List.length_map, List.length_singleton, hlen, inc32]
    exact ⟨(List.drop_append_of_le_length (by rw [List.length_map]; omega)).symm, trivial⟩
  · have hp : p = q := if_neg hfull
    rw [hp, lastN_all (by rw [List.length_append, List.length_map, List.length_singleton]; omega),
      show q.ring.length + 1 - 512 = 0 by omega, satAdd_zero hlost]
    exact ⟨List.map_append, rfl⟩

theorem foldl_drainOne {q : EvqQueue} (l : List (List Word64)) (hring : q.ring.length ≤ 512) (hlost : q.rlost < 2 ^ 32) :
    (l.foldl drainOne q).ring.map RingPkt.words = lastN 512 (q.ring.map RingPkt.words ++ l) ∧
      (l.foldl drainOne q).rlost = satAdd 32 q.rlost (q.ring.length + l.length - 512) := by
  induction l generalizing q with
  | nil =>
    rw [List.append_nil, lastN_all (by rwa [List.length_map]), List.length_nil, show q.ring.length + 0 - 512 = 0 by omega, satAdd_zero hlost]
    exact ⟨rfl, rfl⟩
  | cons ws l ih =>
    obtain ⟨hwords, hcount⟩ := drainOne_ring ws hring hlost
    have hlen : (drainOne q ws).ring.length = min 512 (q.ring.length + 1) := by
      rw [← List.length_map (f := RingPkt.words), hwords, lastN_length, List.length_append, List.length_map, List.length_singleton]
    obtain ⟨hrest, hrestCount⟩ := ih (q := drainOne q ws) (by omega) (by rw [hcount]; exact satAdd_lt _ _)
    rw [List.foldl_cons, hrest, hrestCount, hwords, hcount, lastN_lastN_append, satAdd_satAdd, List.append_assoc, hlen, List.length_cons]
    refine ⟨rfl, congrArg (satAdd 32 q.rlost) ?_⟩
    omega

theorem drainQueue_drains {q : EvqQueue} (hring : q.ring.length ≤ 512) (hlost : q.rlost < 2 ^ 32) :
    (drainQueue q).vis = [] ∧ (drainQueue q).ring.length ≤ 512 ∧
      (drainQueue q).rlost = satAdd 32 q.rlost (q.ring.length + q.vis.length - 512) ∧
      (drainQueue q).ring.map RingPkt.words = lastN 512 (q.ring.map RingPkt.words ++ q.vis) := by
  obtain ⟨hwords, hcount⟩ := foldl_drainOne q.vis hring hlost
  refine ⟨rfl, ?_, hcount, hwords⟩
  rw [← List.length_map (f := RingPkt.words)]
  exact Nat.le_trans (Nat.le_of_eq ((congrArg List.length hwords).trans (lastN_length _ _))) (Nat.min_le_left _ _)

/-- A packet's ring with one packet due again. -/
def dueAgain (seq : Nat) (p : RingPkt) : RingPkt := if p.seq = seq then { p with sentAt := none } else p

theorem reportResend_eq {s : State} {q seq at_ : Nat} {e : EvqQueue} {p : RingPkt} (he : s.evq.queues[q]? = some e)
    (hp : (e.ring.find? fun p => p.seq = seq) = some p) (hat : p.sentAt = some at_) :
    reportResend s q seq = setQueue (advanceCyc s (at_ + resendCyc s)) q fun y => { y with ring := y.ring.map (dueAgain seq) } := by
  have hnth : nth s.evq.queues q {} = e := nth_of_get he _
  unfold reportResend
  rw [hnth, hp]
  dsimp only
  rw [hat]
  rfl

theorem reportResend_due {s u : State} {q at_ seq : Nat} {e : EvqQueue} (hevq : u.evq = s.evq) (hlate : at_ + resendCyc s ≤ u.tim.cyc)
    (he : s.evq.queues[q]? = some e) :
    at_ + resendCyc s ≤ (setQueue u q fun y => { y with ring := y.ring.map (dueAgain seq) }).tim.cyc ∧
      ∃ x, (setQueue u q fun y => { y with ring := y.ring.map (dueAgain seq) }).evq.queues[q]? = some x ∧ x.ring = e.ring.map (dueAgain seq) :=
  ⟨hlate, _, setQueue_get u q _ e (by rw [hevq]; exact he), rfl⟩

/-- Settles O44: a ring takes the visible packets one by one, and the packet whose RESEND is over is due again. -/
theorem ringsAreDrainedAndResent : Obligations.RingsAreDrainedAndResent := by
  refine ⟨fun q hring hlost => drainQueue_drains hring hlost, fun s q seq at_ e p he hp hat => ?_⟩
  have hran : exec (.reportResend q seq) s = ran s (reportResend s q seq) := rfl
  rw [reportResend_eq he hp hat] at hran
  have hlate := advanceCyc_reaches s (at_ + resendCyc s)
  have hevq : (advanceCyc s (at_ + resendCyc s)).evq = s.evq := KeepsAllBut.evq (m := offTim) (advanceCyc_keeps _ rfl s _) rfl
  generalize advanceCyc s (at_ + resendCyc s) = u at hran hlate hevq
  exact done_ran hran (reportResend_due hevq hlate he)

end Sys2Proof.Machine
end

section
/-! Handshakes, sessions that end, and CALL records that are freed (R453, R454, R465, R477). -/
namespace Sys2Proof.Machine

/-! What a handshake message leaves (R306, R315). -/

/-- Sending changes Ethernet alone. -/
theorem dtlsSend_keeps_eth (s : State) (port kind peer : Nat) : KeepsAllBut { eth := true } s (dtlsSend s port kind peer) :=
  ethQueue_keeps _ rfl s port 1 _

theorem refuseHello_vtp (s : State) (port peer : Nat) : (refuseHello s port peer).vtp = { s.vtp with ip := bump s.vtp.ip 5 } :=
  (dtlsSend_keeps_eth (ipCount s 5) port 3 peer).vtp rfl

theorem eth_port_of_up {s : State} {p : Nat} (h : (ethPort s p).up = true) : s.eth.ports[p]? = some (ethPort s p) := by
  cases hget : s.eth.ports[p]? with
  | some e => simp [ethPort, nth, List.getD, hget]
  | none => simp [ethPort, nth, List.getD, hget] at h

theorem setPort_get {s : State} {p : Nat} {e : EthPort} (h : s.eth.ports[p]? = some e) (f : EthPort → EthPort) :
    (setPort s p f).eth.ports[p]? = some (f e) := by
  rw [setPort, upd_get_same, h]
  rfl

/-- A message to a port that is up joins the queue of control frames. -/
theorem dtlsSend_queued {s : State} {port kind peer : Nat} {e : EthPort} {q : TxQueue} (hup : (ethPort s port).up = true)
    (hrun : isRunning s .eth = true) (he : s.eth.ports[port]? = some e) (hq : e.tq[1]? = some q) :
    ∃ x, (dtlsSend s port kind peer).eth.ports[port]? = some x ∧ x.tq[1]? = some { q with frames := q.frames ++ [⟨.dtls kind peer, 128⟩] } := by
  unfold dtlsSend ethQueue
  extract_lets own queued
  rw [if_neg (by simp [own, hup, hrun]), if_neg (by simp)]
  refine ⟨_, setPort_get (setPort_get he _) _, ?_⟩
  exact (upd_get_same e.tq 1 _).trans (by rw [hq]; rfl)

/-! A ClientHello (R453, R454). -/

/-- The state with one ClientHello more counted. -/
def counted (s : State) (port : Nat) : State := (helloAccepted s port).1

/-- What the count of the ClientHellos leaves of the rest. -/
structure OffHello (s t : State) : Prop where
  hands : t.vtp.hands = s.vtp.hands
  sessions : t.vtp.sessions = s.vtp.sessions
  ip : t.vtp.ip = s.vtp.ip
  eth : t.eth = s.eth
  stns : t.stns = s.stns
  tim : t.tim = s.tim

theorem counted_off (s : State) (port : Nat) : OffHello s (counted s port) := ⟨rfl, rfl, rfl, rfl, rfl, rfl⟩

theorem freeNumbers_counted (s : State) (port : Nat) : freeNumbers (counted s port) = freeNumbers s := rfl

/-- A port of which a ClientHello is taken (R453). -/
structure TakesHello (s : State) (port : Nat) : Prop where
  eth : isRunning s .eth = true
  sys : isRunning s .sys = true
  up : (ethPort s port).up = true
  rig : s.sys.start.rig ≠ 0xF
  few : (helloAccepted s port).2 = true

theorem clientHello_taken {s : State} {port peer : Nat} {ipv6 cookie resume : Bool} (h : TakesHello s port) :
    clientHello s port peer ipv6 cookie resume =
      if freeNumbers (counted s port) = [] then refuseHello (counted s port) port peer
      else if !cookie then dtlsSend (counted s port) port 0 peer
      else if resume then refuseHello (counted s port) port peer
      else dtlsSend { counted s port with vtp := { (counted s port).vtp with
        hands := ((counted s port).vtp.hands.filter fun h => !(h.port = port && h.peer = peer)) ++ [⟨port, peer, ipv6, (counted s port).tim.cyc⟩] } }
        port 1 peer := by
  unfold clientHello
  rw [if_neg (by simp [h.eth, h.sys, h.up, h.rig])]
  extract_lets r u
  rw [if_neg (by simp [r, h.few])]
  rfl

theorem refused_off {s t : State} (h : OffHello s t) (port peer : Nat) :
    (refuseHello t port peer).vtp.hands = s.vtp.hands ∧ (refuseHello t port peer).vtp.sessions = s.vtp.sessions ∧
      (refuseHello t port peer).vtp.ip = bump s.vtp.ip 5 := by
  rw [refuseHello_vtp]
  exact ⟨h.hands, h.sessions, congrArg (bump · 5) h.ip⟩

theorem clientHello_full {s : State} {port peer : Nat} {ipv6 cookie resume : Bool} (h : TakesHello s port) (hfull : freeNumbers s = []) :
    let t := clientHello s port peer ipv6 cookie resume
    t.vtp.hands = s.vtp.hands ∧ t.vtp.sessions = s.vtp.sessions ∧ t.vtp.ip = bump s.vtp.ip 5 := by
  rw [clientHello_taken h, freeNumbers_counted, if_pos hfull]
  exact refused_off (counted_off s port) port peer

theorem clientHello_resumed {s : State} {port peer : Nat} {ipv6 : Bool} (h : TakesHello s port) (hfree : freeNumbers s ≠ []) :
    let t := clientHello s port peer ipv6 true true
    t.vtp.hands = s.vtp.hands ∧ t.vtp.sessions = s.vtp.sessions ∧ t.vtp.ip = bump s.vtp.ip 5 := by
  rw [clientHello_taken h, freeNumbers_counted, if_neg hfree]
  exact refused_off (counted_off s port) port peer

theorem clientHello_answered {s : State} {port peer : Nat} {ipv6 resume : Bool} (h : TakesHello s port) (hfree : freeNumbers s ≠ []) :
    let t := clientHello s port peer ipv6 false resume
    t.vtp.hands = s.vtp.hands ∧ t.vtp.sessions = s.vtp.sessions ∧ t.vtp.ip = s.vtp.ip ∧
      ∀ e q, s.eth.ports[port]? = some e → e.tq[1]? = some q → ∃ x, t.eth.ports[port]? = some x ∧
        x.tq[1]? = some { q with frames := q.frames ++ [⟨.dtls 0 peer, 128⟩] } := by
  rw [clientHello_taken h, freeNumbers_counted, if_neg hfree, if_pos (show (!false) = true from rfl)]
  have hvtp : (dtlsSend (counted s port) port 0 peer).vtp = (counted s port).vtp := (dtlsSend_keeps_eth _ port 0 peer).vtp rfl
  dsimp only
  rw [hvtp]
  exact ⟨rfl, rfl, rfl, fun e q he hq => dtlsSend_queued (s := counted s port) h.up h.eth he hq⟩

theorem clientHello_remembered {s : State} {port peer : Nat} {ipv6 : Bool} (h : TakesHello s port) (hfree : freeNumbers s ≠ []) :
    let t := clientHello s port peer ipv6 true false
    t.vtp.sessions = s.vtp.sessions ∧
      t.vtp.hands = (s.vtp.hands.filter fun h => !(h.port = port && h.peer = peer)) ++ [⟨port, peer, ipv6, s.tim.cyc⟩] ∧ t.vtp.ip = s.vtp.ip := by
  rw [clientHello_taken h, freeNumbers_counted, if_neg hfree, if_neg (by decide), if_neg (by decide)]
  dsimp only
  rw [(dtlsSend_keeps_eth _ port 1 peer).vtp rfl]
  exact ⟨rfl, rfl, rfl⟩

/-! The end of a handshake (R454, R477). -/

/-- The state without a handshake. -/
def handDone (s : State) (h : Hand) : State := { s with vtp := { s.vtp with hands := s.vtp.hands.erase h } }

theorem handshakeEnd_opens {s : State} {port peer : Nat} {k : KeyId} {p256 : Bool} {a b i : Nat} {h : Hand} {l : List Nat}
    (hfind : (s.vtp.hands.find? fun h => h.port = port && h.peer = peer) = some h) (hfree : freeNumbers s = i :: l)
    (hok : certOk s k p256 a b = true) :
    handshakeEnd s port peer k p256 a b = dtlsSend (openSession (handDone s h) i port peer h.ipv6) port 2 peer := by
  have hsame : freeNumbers (handDone s h) = i :: l := hfree
  have hcert : certOk (handDone s h) k p256 a b = true := hok
  unfold handDone at hsame hcert
  simp only [handshakeEnd, hfind, hsame, hcert, handDone]

theorem handshakeEnd_refuses {s : State} {port peer : Nat} {k : KeyId} {p256 : Bool} {a b : Nat} {h : Hand}
    (hfind : (s.vtp.hands.find? fun h => h.port = port && h.peer = peer) = some h) (hbad : certOk s k p256 a b = false) :
    handshakeEnd s port peer k p256 a b = refuseHello (handDone s h) port peer := by
  have hcert : certOk (handDone s h) k p256 a b = false := hbad
  unfold handDone at hcert
  simp only [handshakeEnd, hfind, hcert, handDone]
  generalize freeNumbers _ = l
  cases l <;> rfl

theorem handshakeEnd_ends {s : State} {port peer : Nat} {k : KeyId} {p256 : Bool} {a b i : Nat} {h : Hand} {l : List Nat} {x : Session}
    (hfind : (s.vtp.hands.find? fun h => h.port = port && h.peer = peer) = some h) (hfree : freeNumbers s = i :: l)
    (hx : s.vtp.sessions[i]? = some x) :
    let t := handshakeEnd s port peer k p256 a b
    t.vtp.hands = s.vtp.hands.erase h ∧ (∀ j, j ≠ i → t.vtp.sessions[j]? = s.vtp.sessions[j]?) ∧
      (certOk s k p256 a b = true → t.vtp.sessions[i]? =
        some { state := .open_, port := port, ipv6 := h.ipv6, peer := peer, creditAt := s.tim.cyc, opened := s.tim.cyc, lastRec := s.tim.cyc,
               req := x.req, limit := x.limit, dup := x.dup }) ∧
      (certOk s k p256 a b = false → t.vtp.sessions[i]? = some x ∧ t.vtp.ip = bump s.vtp.ip 5) := by
  cases hok : certOk s k p256 a b with
  | true =>
    rw [handshakeEnd_opens hfind hfree hok]
    dsimp only
    rw [(dtlsSend_keeps_eth _ port 2 peer).vtp rfl]
    refine ⟨rfl, (openSession_only (handDone s h) i port peer h.ipv6).others, fun _ => ?_, nofun⟩
    exact (upd_get_same _ _ _).trans (by rw [show (handDone s h).vtp.sessions = s.vtp.sessions from rfl, hx]; rfl)
  | false =>
    rw [handshakeEnd_refuses hfind hok]
    dsimp only
    rw [refuseHello_vtp]
    exact ⟨rfl, fun _ _ => rfl, nofun, fun _ => ⟨hx, rfl⟩⟩

theorem handshakeTimeout_drops {s : State} {port peer : Nat} {h : Hand}
    (hfind : (s.vtp.hands.find? fun h => h.port = port && h.peer = peer) = some h) :
    handshakeTimeout s port peer = handDone (advanceCyc s (h.start + secCyc 10)) h := by
  unfold handshakeTimeout
  rw [hfind, handDone]

/-- Every part but the sessions' and TIM. -/
abbrev offVtpTim : Parts := { vtp := true, tim := true }

theorem handDone_drops {s u : State} {h : Hand} {cyc : Nat} (hvtp : u.vtp = s.vtp) (hlate : cyc ≤ u.tim.cyc) :
    (handDone u h).vtp.hands = s.vtp.hands.erase h ∧ cyc ≤ (handDone u h).tim.cyc ∧ (handDone u h).vtp.sessions = s.vtp.sessions := by
  unfold handDone
  rw [hvtp]
  exact ⟨rfl, hlate, rfl⟩

theorem handshakeTimeout_ends {s : State} {port peer : Nat} {h : Hand}
    (hfind : (s.vtp.hands.find? fun h => h.port = port && h.peer = peer) = some h) :
    let t := handshakeTimeout s port peer
    t.vtp.hands = s.vtp.hands.erase h ∧ h.start + secCyc 10 ≤ t.tim.cyc ∧ t.vtp.sessions = s.vtp.sessions := by
  rw [handshakeTimeout_drops hfind]
  exact handDone_drops (advanceCyc_vtp s _) (advanceCyc_reaches s _)

/-- Settles O45: the cases of a ClientHello, of a handshake's end by its certificate, and the handshake's timeout. -/
theorem handshakesOpenSessions : Obligations.HandshakesOpenSessions := by
  refine ⟨fun s port peer ipv6 resume heth hsys hup hrig hfew => ?_, fun s port peer k p256 a b i h l x hfind hfree hx =>
    done_ran rfl (handshakeEnd_ends hfind hfree hx), fun s port peer h hfind => ?_⟩
  · have htakes : TakesHello s port := ⟨heth, hsys, hup, hrig, hfew⟩
    refine ⟨fun hfree => ⟨done_ran rfl (clientHello_answered htakes hfree), ?_⟩, fun hfull cookie => done_ran rfl (clientHello_full htakes hfull)⟩
    cases resume with
    | false =>
      obtain ⟨hsessions, hhands, hip⟩ := clientHello_remembered (peer := peer) (ipv6 := ipv6) htakes hfree
      exact done_ran rfl ⟨hsessions, fun _ => ⟨hhands, hip⟩, nofun⟩
    | true =>
      obtain ⟨hhands, hsessions, hip⟩ := clientHello_resumed (peer := peer) (ipv6 := ipv6) htakes hfree
      exact done_ran rfl ⟨hsessions, nofun, fun _ => ⟨hhands, hip⟩⟩
  · exact done_of (u := handshakeTimeout s port peer) rfl (KeepsAllBut.pending (handshakeTimeout_keeps offVtpTim rfl rfl s port peer) rfl)
      (handshakeTimeout_ends hfind)

/-! Sessions that end (R406, R454). -/

theorem resetReplyLost_sessions {s : State} {i : Nat} {x : Session} (hx : s.vtp.sessions[i]? = some x) :
    ∃ y, (match s.vtp.resetReply with | some (j, tid) => if j = i then replyLeft s j tid else s | none => s).vtp.sessions[i]? = some y ∧
      { y with state := .closed, kept := [], outstanding := [] } = { x with state := .closed, kept := [], outstanding := [] } := by
  split
  · split
    · next h =>
      subst h
      exact ⟨_, (upd_get_same _ _ _).trans (congrArg _ hx), rfl⟩
    · exact ⟨x, hx, rfl⟩
  · exact ⟨x, hx, rfl⟩

theorem resetReplyLost_evq (s : State) (i : Nat) :
    (match s.vtp.resetReply with | some (j, tid) => if j = i then replyLeft s j tid else s | none => s).evq = s.evq := by
  split
  · split <;> rfl
  · rfl

theorem reportsEnd_evq (s : State) (i : Nat) :
    (if s.evq.enable && s.evq.session = i then { s with evq := { s.evq with enable := false } } else s).evq =
      { s.evq with enable := s.evq.enable && s.evq.session ≠ i } := by
  split
  · next h =>
    obtain ⟨-, hi⟩ := Bool.and_eq_true_iff.mp h
    simp [of_decide_eq_true hi]
  · next h =>
    have hsame : (s.evq.enable && decide (s.evq.session ≠ i)) = s.evq.enable := by
      cases he : s.evq.enable with
      | false => rfl
      | true => simpa [he] using h
    rw [hsame]

theorem reportsEnd_vtp (s : State) (i : Nat) :
    (if s.evq.enable && s.evq.session = i then { s with evq := { s.evq with enable := false } } else s).vtp = s.vtp := by
  split <;> rfl

/-- What a session that closes leaves (R406, R454). -/
structure Closed (s t : State) (i : Nat) (x : Session) : Prop where
  own : t.vtp.sessions[i]? = some { x with state := .closed, kept := [], outstanding := [] }
  others : ∀ j, j ≠ i → t.vtp.sessions[j]? = s.vtp.sessions[j]?
  evq : t.evq = { s.evq with enable := s.evq.enable && s.evq.session ≠ i }

theorem closeSession_closes {s : State} {i : Nat} {x : Session} (hx : s.vtp.sessions[i]? = some x) : Closed s (closeSession s i) i x := by
  refine ⟨?_, (closeSession_only s i).others, ?_⟩
  · obtain ⟨y, hy, hsame⟩ := resetReplyLost_sessions (s := discardReplies s i) hx
    unfold closeSession
    extract_lets discarded lost closed
    rw [reportsEnd_vtp, ← hsame]
    exact (upd_get_same _ _ _).trans (congrArg _ hy)
  · unfold closeSession
    extract_lets discarded lost closed
    have hevq : closed.evq = s.evq := resetReplyLost_evq discarded i
    rw [reportsEnd_evq, hevq]

theorem Closed.of_same {s u t : State} {i : Nat} {x : Session} (h : Closed u t i x) (hvtp : u.vtp = s.vtp) (hevq : u.evq = s.evq) : Closed s t i x :=
  ⟨h.own, hvtp ▸ h.others, hevq ▸ h.evq⟩

theorem sess_of_get {s : State} {i : Nat} {x : Session} (h : s.vtp.sessions[i]? = some x) : sess s i = x := nth_of_get h _

theorem sessionClose_eq {s : State} {i : Nat} {x : Session} (hx : s.vtp.sessions[i]? = some x) (hopen : x.state = .open_) (hport : x.port ≠ 2) :
    sessionClose s i = closeSession s i := by
  unfold sessionClose
  rw [sess_of_get hx, if_pos (by simp [hopen, hport])]

theorem sessionIdle_eq {s : State} {i : Nat} {x : Session} (hx : s.vtp.sessions[i]? = some x) (hopen : x.state = .open_) (hport : x.port ≠ 2) :
    sessionIdle s i = closeSession (advanceCyc s (x.lastRec + secCyc (cBackhaul s).idle)) i := by
  unfold sessionIdle
  rw [sess_of_get hx]
  dsimp only
  rw [if_pos (by simp [hopen, hport])]

theorem advanceCyc_evq (s : State) (cyc : Nat) : (advanceCyc s cyc).evq = s.evq := KeepsAllBut.evq (m := offTim) (advanceCyc_keeps _ rfl s _) rfl

/-- Every part but the sessions', TIM, Ethernet and the event queues. -/
abbrev offService : Parts := { vtp := true, tim := true, eth := true, evq := true }

theorem sessionIdle_closes {s : State} (u : State) {i cyc : Nat} {x : Session} (hx : s.vtp.sessions[i]? = some x) (hvtp : u.vtp = s.vtp) (hevq : u.evq = s.evq)
    (hlate : cyc ≤ u.tim.cyc) : cyc ≤ (closeSession u i).tim.cyc ∧ Closed s (closeSession u i) i x :=
  ⟨by rw [(closeSession_only u i).tim]; exact hlate, (closeSession_closes (by rw [hvtp]; exact hx)).of_same hvtp hevq⟩

/-! CALL records that are freed (R465). -/

/-- When a CALL record is freed that has ended. -/
def freeDue (c : CallRec) (f : Nat) : Nat :=
  match c.polledAt with
  | some p => min (p + secCyc 60) (f + secCyc 3600)
  | none => f + secCyc 3600

theorem callFree_eq {s : State} {h f : Nat} {c : CallRec} (hc : s.calls[h]? = some c) (hf : c.finalAt = some f) :
    callFree s h = setCall (advanceCyc s (freeDue c f)) h fun c => { gen := c.gen } := by
  unfold callFree
  rw [call_of_get hc]
  dsimp only
  rw [hf]
  rfl

theorem callFreed {s u : State} {h : Nat} {c : CallRec} (hc : s.calls[h]? = some c) (hcalls : u.calls = s.calls) :
    (setCall u h fun c => { gen := c.gen }).calls[h]? = some { gen := c.gen } ∧
      ∀ j, j ≠ h → (setCall u h fun c => { gen := c.gen }).calls[j]? = s.calls[j]? := by
  refine ⟨(upd_get_same _ _ _).trans ?_, fun j hj => (upd_get_other _ _ _ _ hj).trans (by rw [hcalls])⟩
  rw [hcalls, hc]
  rfl

theorem freeDue_le {c : CallRec} {f cyc : Nat} (h : freeDue c f ≤ cyc) :
    (c.polledAt = none → f + secCyc 3600 ≤ cyc) ∧ ∀ p, c.polledAt = some p → min (p + secCyc 60) (f + secCyc 3600) ≤ cyc := by
  unfold freeDue at h
  exact ⟨fun hp => by rwa [hp] at h, fun p hp => by rwa [hp] at h⟩

/-- Every part but the CALL records and TIM. -/
abbrev offCallsTim : Parts := { calls := true, tim := true }

theorem callFree_frees {s : State} {h f : Nat} {c : CallRec} (hc : s.calls[h]? = some c) (hf : c.finalAt = some f) :
    let t := callFree s h
    t.calls[h]? = some { gen := c.gen } ∧ (∀ j, j ≠ h → t.calls[j]? = s.calls[j]?) ∧
      (c.polledAt = none → f + secCyc 3600 ≤ t.tim.cyc) ∧ ∀ p, c.polledAt = some p → min (p + secCyc 60) (f + secCyc 3600) ≤ t.tim.cyc := by
  rw [callFree_eq hc hf]
  have hlate := advanceCyc_reaches s (freeDue c f)
  have hcalls : (advanceCyc s (freeDue c f)).calls = s.calls := KeepsAllBut.calls (m := offTim) (advanceCyc_keeps _ rfl s _) rfl
  generalize advanceCyc s (freeDue c f) = u at hlate hcalls
  obtain ⟨hown, hothers⟩ := callFreed hc hcalls
  exact ⟨hown, hothers, freeDue_le hlate⟩

/-- Settles O46: both ends of a session close it, and the record's age frees it. -/
theorem sessionsAndRecordsEnd : Obligations.SessionsAndRecordsEnd := by
  refine ⟨fun s i x hx hopen hport => ⟨?_, ?_⟩, fun s h f c hc hf => ?_⟩
  · have hran : exec (.sessionClose i) s = ran s (sessionClose s i) := rfl
    rw [sessionClose_eq hx hopen hport] at hran
    obtain ⟨hown, hothers, hevq⟩ := closeSession_closes hx
    exact done_ran hran ⟨hown, hothers, hevq⟩
  · have hlate := sessionIdle_closes (advanceCyc s (x.lastRec + secCyc (cBackhaul s).idle)) hx (advanceCyc_vtp s _) (advanceCyc_evq s _)
      (advanceCyc_reaches s _)
    rw [← sessionIdle_eq hx hopen hport] at hlate
    obtain ⟨hcyc, hown, hothers, hends⟩ := hlate
    exact done_of (u := sessionIdle s i) rfl (KeepsAllBut.pending (sessionIdle_keeps offService rfl rfl rfl rfl s i) rfl) ⟨hcyc, hown, hothers, hends⟩
  · exact done_of (u := callFree s h) rfl (KeepsAllBut.pending (callFree_keeps offCallsTim rfl rfl s h) rfl) (callFree_frees hc hf)

end Sys2Proof.Machine
end

section
/-! Channel faults, RMS windows and power failures (R86, R370, R374, R378, R388). -/
namespace Sys2Proof.Machine

/-! Faults of channels (R370). -/

theorem feederCfg_congr {s t : State} (h : t.cfg = s.cfg) (f : Nat) : feederCfg t f = feederCfg s f := by simp only [feederCfg, cMeter, h]

theorem usedFeeders_congr {s t : State} (h : t.cfg = s.cfg) : usedFeeders t = usedFeeders s := by simp only [usedFeeders, feederCfg_congr h]

theorem feederChans_congr {s t : State} (h : t.cfg = s.cfg) (f : Nat) : feederChans t f = feederChans s f := by
  have hcarries : carries t f = carries s f := funext fun p => by rw [carries, carries, feederCfg_congr h]
  simp only [feederChans, hcarries]

/-- A feeder with its open interval INVALID. -/
def openInvalid (y : FeederSt) : FeederSt := { y with open_ := y.open_.map fun o => { o with flags := o.flags ||| fInvalid } }

/-- A used feeder's open interval is invalidated where the feeder uses a channel. -/
def invalidatesOne (c : Nat) (s : State) (f : Nat) : State := if (feederChans s f).contains c then setFeeder s f openInvalid else s

theorem invalidates_eq (s : State) (c : Nat) : invalidates s c = (usedFeeders s).foldl (invalidatesOne c) s := rfl

/-- What an invalidated interval leaves alone: the configuration, the channels and the sensors. -/
structure OffFeeders (s t : State) : Prop where
  cfg : t.cfg = s.cfg
  chans : t.mtr.chans = s.mtr.chans

theorem invalidatesOne_off (c : Nat) (s : State) (f : Nat) : OffFeeders s (invalidatesOne c s f) := by
  unfold invalidatesOne
  split <;> exact ⟨rfl, rfl⟩

theorem OffFeeders.trans {s t u : State} (h : OffFeeders s t) (k : OffFeeders t u) : OffFeeders s u := ⟨k.cfg.trans h.cfg, k.chans.trans h.chans⟩

theorem foldl_invalidatesOne_off (c : Nat) (s : State) (l : List Nat) : OffFeeders s (l.foldl (invalidatesOne c) s) :=
  List.foldlRecOn (motive := OffFeeders s) l _ ⟨rfl, rfl⟩ fun t ht f _ => ht.trans (invalidatesOne_off c t f)

theorem invalidatesOne_feeder {c f g : Nat} {s : State} {y : FeederSt} (hy : s.mtr.feeders[f]? = some y) :
    (invalidatesOne c s g).mtr.feeders[f]? = some (if f = g ∧ c ∈ feederChans s f then openInvalid y else y) := by
  unfold invalidatesOne
  by_cases hfg : f = g
  · subst hfg
    by_cases hc : c ∈ feederChans s f
    · rw [if_pos (by simpa using hc), if_pos ⟨rfl, hc⟩]
      exact setFeeder_same hy openInvalid
    · rw [if_neg (by simpa using hc), if_neg (by simp [hc])]
      exact hy
  · rw [if_neg (c := f = g ∧ c ∈ feederChans s f) fun h => hfg h.1]
    split
    · exact (upd_get_other _ _ _ _ hfg).trans hy
    · exact hy

theorem foldl_invalidatesOne_feeder {c f : Nat} {s : State} {y : FeederSt} {l : List Nat} (hl : l.Nodup) (hy : s.mtr.feeders[f]? = some y) :
    (l.foldl (invalidatesOne c) s).mtr.feeders[f]? = some (if f ∈ l ∧ c ∈ feederChans s f then openInvalid y else y) := by
  induction l generalizing s y with
  | nil => exact hy
  | cons g l ih =>
    obtain ⟨hg, hl⟩ := List.nodup_cons.mp hl
    have hchans : feederChans (invalidatesOne c s g) f = feederChans s f := feederChans_congr (invalidatesOne_off c s g).cfg f
    rw [List.foldl_cons, ih hl (invalidatesOne_feeder hy), hchans]
    by_cases hc : c ∈ feederChans s f
    · by_cases hfg : f = g
      · simp [hfg, hg, hfg ▸ hc]
      · simp [hfg, hc]
    · simp [hc]

theorem usedFeeders_nodup (s : State) : (usedFeeders s).Nodup := List.nodup_range.filter _

theorem openInvalid_if (p : Prop) [Decidable p] (y : FeederSt) :
    (if p then openInvalid y else y) =
      { y with open_ := if p then y.open_.map fun o => { o with flags := o.flags ||| fInvalid } else y.open_ } := by
  split <;> rfl

/-- A fault that changes a channel's record: no other channel changes, and the open intervals of the feeders that use it are INVALID. -/
theorem faulted_channel {s : State} {c : Nat} {x : MtrChan} (g : MtrChan → MtrChan) (hx : s.mtr.chans[c]? = some x) :
    (invalidates (setMtrChan s c g) c).mtr.chans[c]? = some (g x) ∧
      (∀ j, j ≠ c → (invalidates (setMtrChan s c g) c).mtr.chans[j]? = s.mtr.chans[j]?) ∧
      ∀ (f : Nat) (y : FeederSt), s.mtr.feeders[f]? = some y → (invalidates (setMtrChan s c g) c).mtr.feeders[f]? =
        some { y with open_ := if f ∈ usedFeeders s ∧ c ∈ feederChans s f then y.open_.map fun o => { o with flags := o.flags ||| fInvalid }
                               else y.open_ } := by
  have hchans := (foldl_invalidatesOne_off c (setMtrChan s c g) (usedFeeders (setMtrChan s c g))).chans
  rw [invalidates_eq, hchans]
  refine ⟨(upd_get_same _ _ _).trans (by rw [hx]; rfl), fun j hj => upd_get_other _ _ _ _ hj, fun f y hy => ?_⟩
  have hfeeder := foldl_invalidatesOne_feeder (c := c) (usedFeeders_nodup (setMtrChan s c g)) (s := setMtrChan s c g) hy
  rw [hfeeder, usedFeeders_congr (s := s) rfl, feederChans_congr (s := s) rfl]
  exact congrArg some (openInvalid_if _ y)

theorem event_offEvq (s : State) (w : Stn) (code subject data0 data1 : Nat) : KeepsAllBut { evq := true } s (event s w code subject data0 data1) :=
  event_keeps _ rfl s w code subject data0 data1

theorem channelPersist_said {s : State} {c : Nat} {x : MtrChan} (hrun : isRunning s .mtr = true) (hx : s.mtr.chans[c]? = some x)
    (hfault : x.stuck = true ∨ x.overload = true) : channelPersist s c = event s .mtr 0x0801 c (chanStat s c).toNat 0 := by
  have hget : nth s.mtr.chans c {} = x := nth_of_get hx _
  unfold channelPersist
  rw [hget]
  exact if_pos (by simpa [hrun] using hfault)

/-- Settles O48: a fault of a channel by the feeders that use it, and each of the other rows. -/
theorem channelFaultsInvalidateIntervals : Obligations.ChannelFaultsInvalidateIntervals := by
  refine ⟨fun s c x hrun hused hx => ⟨?_, ?_, fun hfault => ?_, ?_, ?_⟩, fun s k x hrun hk hx => ?_⟩
  · have hran : exec (.channelStuck c) s = ran s (channelStuck s c) := rfl
    rw [channelStuck, if_pos (by simp [hrun, hused])] at hran
    exact done_ran hran (faulted_channel _ hx)
  · have hran : exec (.channelOverload c) s = ran s (channelOverload s c) := rfl
    rw [channelOverload, if_pos (by simp [hrun, hused])] at hran
    exact done_ran hran (faulted_channel _ hx)
  · have hran : exec (.channelFaultPersist c) s = ran s (channelPersist s c) := rfl
    rw [channelPersist_said hrun hx hfault] at hran
    exact done_ran hran ⟨event_said .mtr _ _ _ _ rfl rfl, (event_offEvq s .mtr 0x0801 c (chanStat s c).toNat 0).mtr rfl⟩
  · have hran : exec (.channelFaultClear c true) s = ran s (channelClear s c true) := rfl
    rw [channelClear, if_pos hrun] at hran
    exact done_ran hran ⟨(upd_get_same _ _ _).trans (by rw [hx]; rfl), rfl⟩
  · have hran : exec (.channelFaultClear c false) s = ran s (channelClear s c false) := rfl
    rw [channelClear, if_pos hrun] at hran
    exact done_ran hran ⟨(upd_get_same _ _ _).trans (by rw [hx]; rfl), rfl⟩
  · have hran : exec (.sensorStale k) s = ran s (sensorStale s k) := rfl
    rw [sensorStale, if_pos (by simp [hrun, hk])] at hran
    exact done_ran hran ⟨(upd_get_same _ _ _).trans (by rw [hx]; rfl), fun j hj => upd_get_other _ _ _ _ hj, rfl, rfl⟩

/-! RMS windows (R378). -/

/-- What the residual channels leave of MTR: the feeders, and what a window publishes. -/
structure OffResidual (s t : State) : Prop where
  cfg : t.cfg = s.cfg
  feeders : t.mtr.feeders = s.mtr.feeders
  rmsNext : t.mtr.rmsNext = s.mtr.rmsNext

theorem residualWindow_off (s : State) (r rms : Nat) : OffResidual s (residualWindow s r rms) := by
  unfold residualWindow
  extract_lets k x above below alarm y set
  split
  · exact ⟨rfl, rfl, rfl⟩
  · split
    · exact ⟨rfl, rfl, rfl⟩
    · have hkeeps := event_offEvq set .mtr 0x0803 r (pack [(31, b2n y.alarm), (0, y.alarms)]).toNat rms
      exact ⟨hkeeps.cfg rfl, by rw [hkeeps.mtr rfl]; rfl, by rw [hkeeps.mtr rfl]; rfl⟩

theorem OffResidual.trans {s t u : State} (h : OffResidual s t) (k : OffResidual t u) : OffResidual s u :=
  ⟨k.cfg.trans h.cfg, k.feeders.trans h.feeders, k.rmsNext.trans h.rmsNext⟩

/-- The RMS values of a window. -/
def windowRms (s : State) (sums : List (Nat × Nat)) : List Nat :=
  (List.range 40).map fun c => rmsOf s c (nth sums c (0, 0)).1 (nth sums c (0, 0)).2

theorem windowEnds_off (s : State) (sums : List (Nat × Nat)) :
    OffResidual (setMtr s fun m => { m with rmsNext := some (windowRms s sums) }) (windowEnds s sums) :=
  List.foldlRecOn (motive := OffResidual (setMtr s fun m => { m with rmsNext := some (windowRms s sums) })) _ _ ⟨rfl, rfl, rfl⟩
    fun t ht r _ => ht.trans (residualWindow_off t r _)

/-- The frequency of a window in mHz, and whether it is in range. -/
def windowFreq (s : State) (us : Nat) : Nat := (rdiv ((if (cMeter s).net60 then 12 else 10) * 1000000000) us).toNat
def windowOk (s : State) (us : Nat) : Bool :=
  if (cMeter s).net60 then 55000 ≤ windowFreq s us && windowFreq s us ≤ 65000 else 45000 ≤ windowFreq s us && windowFreq s us ≤ 55000

theorem windowOk_range {s : State} {us : Nat} (h : windowOk s us = true) :
    windowFreq s us < 2 ^ 17 ∧ ((cMeter s).net60 = false → 45000 ≤ windowFreq s us ∧ windowFreq s us ≤ 55000) ∧
      ((cMeter s).net60 = true → 55000 ≤ windowFreq s us ∧ windowFreq s us ≤ 65000) := by
  unfold windowOk at h
  cases hnet : (cMeter s).net60 <;> simp only [hnet, if_true, Bool.false_eq_true, if_false, Bool.and_eq_true, decide_eq_true_eq] at h
  · exact ⟨by omega, fun _ => h, nofun⟩
  · exact ⟨by omega, nofun, fun _ => h⟩

/-- The state in which a window's frequency is published: with the window's RMS, unless a fixed window stands. -/
def windowTaken (s : State) (us : Nat) (x : StrokeSamples) : State := if windowOk s us || !s.mtr.fixed then windowEnds s (sumsOf s x 0) else s

theorem rmsWindowEnd_eq {s : State} {us : Nat} (x : StrokeSamples) (hrun : s.mtr.running = true) (hus : 0 < us) :
    rmsWindowEnd s us x = setMtr (windowTaken s us x) fun m =>
      { m with freqNext := some (windowFreq s us % 2 ^ 17, windowOk s us), fixed := !windowOk s us
               fixSums := if m.fixed && !windowOk s us then m.fixSums else none } := by
  unfold rmsWindowEnd
  exact if_neg (by simp [hrun]; omega)

theorem windowTaken_rms {s : State} {us : Nat} (x : StrokeSamples) (h : s.mtr.fixed = false ∨ windowOk s us = true) :
    (windowTaken s us x).mtr.rmsNext = some (windowRms s (sumsOf s x 0)) := by
  unfold windowTaken
  rw [if_pos (by rcases h with h | h <;> simp [h])]
  exact (windowEnds_off s (sumsOf s x 0)).rmsNext

theorem windowTaken_kept {s : State} {us : Nat} (x : StrokeSamples) (hfixed : s.mtr.fixed = true) (hok : windowOk s us = false) :
    windowTaken s us x = s := if_neg (by simp [hfixed, hok])

theorem windowTaken_feeders (s : State) (us : Nat) (x : StrokeSamples) : (windowTaken s us x).mtr.feeders = s.mtr.feeders := by
  unfold windowTaken
  split
  · exact (windowEnds_off s (sumsOf s x 0)).feeders
  · rfl

theorem rmsWindowEnd_publishes {s : State} {us : Nat} (x : StrokeSamples) (hrun : s.mtr.running = true) (hus : 0 < us) :
    let t := rmsWindowEnd s us x
    ((s.mtr.fixed = false ∨ t.mtr.fixed = false) →
      t.mtr.rmsNext = some ((List.range 40).map fun c => rmsOf s c (nth (sumsOf s x 0) c (0, 0)).1 (nth (sumsOf s x 0) c (0, 0)).2)) ∧
    (s.mtr.fixed = true → t.mtr.fixed = true → t.mtr.rmsNext = s.mtr.rmsNext) ∧
    (∀ f ok, t.mtr.freqNext = some (f, ok) → t.mtr.fixed = !ok ∧
      (ok = true → (cMeter s).net60 = false → 45000 ≤ f ∧ f ≤ 55000) ∧ (ok = true → (cMeter s).net60 = true → 55000 ≤ f ∧ f ≤ 65000)) ∧
    t.mtr.freqNext.isSome ∧ t.mtr.feeders = s.mtr.feeders := by
  rw [rmsWindowEnd_eq x hrun hus]
  refine ⟨fun h => windowTaken_rms x ?_, fun hfixed hbad => ?_, fun f ok hf => ?_, rfl, windowTaken_feeders s us x⟩
  · exact h.imp id fun hok => by simpa [setMtr] using hok
  · show (windowTaken s us x).mtr.rmsNext = _
    rw [windowTaken_kept x hfixed (by simpa [setMtr] using hbad)]
  · obtain ⟨rfl, rfl⟩ := Prod.mk.inj (Option.some.inj hf)
    have hrange := fun h => windowOk_range (s := s) (us := us) h
    exact ⟨rfl, fun hok hnet => by rw [Nat.mod_eq_of_lt (hrange hok).1]; exact (hrange hok).2.1 hnet,
      fun hok hnet => by rw [Nat.mod_eq_of_lt (hrange hok).1]; exact (hrange hok).2.2 hnet⟩

/-! Power failures (R86, R388). -/

/-- PFI below its threshold. -/
def pfiFell (s : State) : State :=
  { s with pins := { s.pins with pfi := true, pfiRise := s.ahead.pfiRise.map fun us => s.tim.cyc + us * 250 } }

/-- A trip's count in the ledger. -/
def tripCounted (s : State) : State := (ledgerWrite s .mtr fun s => { s with led := { s.led with pfCnt := inc32 s.led.pfCnt } }).1

theorem pfiTrip_again {s : State} (hagain : pfiTripped s = true) : pfiTrip s = pfiFell s := by
  unfold pfiTrip
  exact if_pos (by simp [hagain])

theorem pfiTrip_first {s : State} (hrun : s.modp = .running) (hfirst : pfiTripped s = false) :
    pfiTrip s = event (setMtr (tripCounted (pfiFell s)) fun m => { m with pfMode := true }) .mtr 0x0802 0 1 (tripCounted (pfiFell s)).led.pfCnt := by
  unfold pfiTrip
  exact if_neg (by simp [hrun, hfirst])

/-- What the count of a trip leaves, but for the count. -/
theorem tripCounted_keeps (s : State) : KeepsAllBut { led := true, ledBad := true } s (tripCounted s) :=
  ledgerWrite_keeps _ rfl s .mtr _ fun _ => rfl

theorem tripCounted_ok {s : State} (h : .mtr ∉ s.ledBad) : (tripCounted s).led = { s.led with pfCnt := inc32 s.led.pfCnt } := by
  unfold tripCounted
  rw [ledgerWrite_ok h]

theorem tripCounted_failed {s : State} (h : .mtr ∈ s.ledBad) : (tripCounted s).led = s.led := by
  unfold tripCounted ledgerWrite
  rw [if_pos (by simpa using h)]

theorem evqDown_congr {s t : State} (hstns : t.stns = s.stns) (hcox : t.cox = s.cox) : evqDown t = evqDown s := by
  unfold evqDown
  rw [stn_of_stns hstns, hcox]

/-- The event of a state that differs in neither the queues nor EVQ's reset. -/
theorem event_said_of {s u : State} (w : Stn) (code subject data0 data1 : Nat) (hevq : u.evq = s.evq) (hstns : u.stns = s.stns) (hcox : u.cox = s.cox) :
    Said s (event u w code subject data0 data1) w code subject data0 data1 :=
  event_said w code subject data0 data1 (by rw [hevq]) (evqDown_congr hstns hcox)

/-- PF_MODE in a state, with its event. -/
def pfModeSet (s : State) : State := setMtr s fun m => { m with pfMode := true }

theorem pfiTrip_trips {s u : State} (hkeeps : KeepsAllBut { led := true, ledBad := true } (pfiFell s) u)
    (hok : .mtr ∉ s.ledBad → u.led = { s.led with pfCnt := inc32 s.led.pfCnt }) (hbad : .mtr ∈ s.ledBad → u.led = s.led) :
    let t := event (pfModeSet u) .mtr 0x0802 0 1 u.led.pfCnt
    t.pins = { s.pins with pfi := true, pfiRise := s.ahead.pfiRise.map fun us => s.tim.cyc + us * 250 } ∧ t.mtr = { s.mtr with pfMode := true } ∧
      (.mtr ∉ s.ledBad → t.led = { s.led with pfCnt := inc32 s.led.pfCnt } ∧ Said s t .mtr 0x0802 0 1 (inc32 s.led.pfCnt)) ∧
      (.mtr ∈ s.ledBad → t.led = s.led) := by
  have hevent := event_offEvq (pfModeSet u) .mtr 0x0802 0 1 u.led.pfCnt
  have hsaid : Said s (event (pfModeSet u) .mtr 0x0802 0 1 u.led.pfCnt) .mtr 0x0802 0 1 u.led.pfCnt :=
    event_said_of .mtr 0x0802 0 1 u.led.pfCnt (hkeeps.evq rfl) (hkeeps.stns rfl) (hkeeps.cox rfl)
  have hled : (event (pfModeSet u) .mtr 0x0802 0 1 u.led.pfCnt).led = u.led := hevent.led rfl
  refine ⟨(hevent.pins rfl).trans (hkeeps.pins rfl), (hevent.mtr rfl).trans ?_, fun h => ⟨hled.trans (hok h), ?_⟩, fun h => hled.trans (hbad h)⟩
  · exact congrArg (fun m : MtrState => { m with pfMode := true }) (hkeeps.mtr rfl)
  · rw [hok h] at hsaid
    rw [hok h]
    exact hsaid

/-- The state in which PF_MODE ends: once PFI has stayed up long enough. -/
def pfiRose (s : State) : State :=
  match s.pins.pfiRise with
  | some t => advanceCyc s (t + msCyc 100)
  | none => s

theorem pfiRose_keeps (s : State) : KeepsAllBut offTim s (pfiRose s) := by
  unfold pfiRose
  split
  · exact advanceCyc_keeps _ rfl _ _
  · rfl

theorem pfiRose_waits {s : State} {r : Nat} (h : s.pins.pfiRise = some r) : r + msCyc 100 ≤ (pfiRose s).tim.cyc := by
  unfold pfiRose
  rw [h]
  exact advanceCyc_reaches s _

/-- PFI above its threshold, and PF_MODE at its end. -/
def pfModeOver (s : State) : State := setMtr { s with pins := { s.pins with pfi := false, pfiRise := none } } fun m => { m with pfMode := false }

theorem pfModeEnd_eq {s : State} (h : s.mtr.pfMode = true) :
    pfModeEnd s = event (pfModeOver (pfiRose s)) .mtr 0x0802 0 0 (pfModeOver (pfiRose s)).led.pfCnt := by
  have hmode : (pfiRose s).mtr.pfMode = true := by
    rw [(pfiRose_keeps s).mtr rfl]
    exact h
  exact if_pos hmode

theorem pfModeOver_ends {s u : State} (hkeeps : KeepsAllBut offTim s u) (hlate : ∀ r, s.pins.pfiRise = some r → r + msCyc 100 ≤ u.tim.cyc) :
    let t := event (pfModeOver u) .mtr 0x0802 0 0 (pfModeOver u).led.pfCnt
    t.pins = { s.pins with pfi := false, pfiRise := none } ∧ t.mtr = { s.mtr with pfMode := false } ∧ Said s t .mtr 0x0802 0 0 s.led.pfCnt ∧
      ∀ r, s.pins.pfiRise = some r → r + msCyc 100 ≤ t.tim.cyc := by
  have hled : (pfModeOver u).led.pfCnt = s.led.pfCnt := congrArg LedgerSys.pfCnt (hkeeps.led rfl)
  have hevent := event_offEvq (pfModeOver u) .mtr 0x0802 0 0 s.led.pfCnt
  have hsaid : Said s (event (pfModeOver u) .mtr 0x0802 0 0 s.led.pfCnt) .mtr 0x0802 0 0 s.led.pfCnt :=
    event_said_of .mtr 0x0802 0 0 s.led.pfCnt (hkeeps.evq rfl) (hkeeps.stns rfl) (hkeeps.cox rfl)
  rw [hled]
  refine ⟨(hevent.pins rfl).trans ?_, (hevent.mtr rfl).trans ?_, hsaid, fun r hr => ?_⟩
  · exact congrArg (fun p : Pins => { p with pfi := false, pfiRise := none }) (hkeeps.pins rfl)
  · exact congrArg (fun m : MtrState => { m with pfMode := false }) (hkeeps.mtr rfl)
  · exact Nat.le_trans (hlate r hr) (Nat.le_of_eq (congrArg TimState.cyc (hevent.tim rfl)).symm)

/-- Every part but the pins, MTR, TIM and the event queues. -/
abbrev offPfi : Parts := { evq := true, mtr := true, pins := true, tim := true }

/-- Settles O49: the window, its fallback, a trip by what its ledger write does, and the end of PF_MODE. -/
theorem windowsAndPowerFailuresAreTaken : Obligations.WindowsAndPowerFailuresAreTaken := by
  refine ⟨fun s us x hrun hus => done_ran rfl (rmsWindowEnd_publishes x hrun hus), fun s hrun => ?_, fun s hrun => ?_, fun s hmode => ?_⟩
  · have hran : exec .fixedWindowFallback s = ran s (fixedFallback s) := rfl
    rw [fixedFallback, if_pos hrun] at hran
    exact done_ran hran rfl
  · have hran : exec .pfiTrip s = ran s (pfiTrip s) := rfl
    cases hagain : pfiTripped s with
    | true =>
      rw [pfiTrip_again hagain] at hran
      exact done_ran hran ⟨rfl, fun _ => ⟨rfl, rfl⟩, nofun⟩
    | false =>
      rw [pfiTrip_first hrun hagain] at hran
      obtain ⟨hpins, hmtr, hok, hbad⟩ := pfiTrip_trips (tripCounted_keeps (pfiFell s)) (fun h => tripCounted_ok h) fun h => tripCounted_failed h
      exact done_ran hran ⟨hpins, nofun, fun _ => ⟨hmtr, hok, hbad⟩⟩
  · refine done_of (u := pfModeEnd s) rfl (KeepsAllBut.pending (pfModeEnd_keeps offPfi rfl rfl rfl rfl s) rfl) ?_
    rw [pfModeEnd_eq hmode]
    exact pfModeOver_ends (pfiRose_keeps s) fun r hr => pfiRose_waits hr

end Sys2Proof.Machine
end

section
/-! Keys that are renewed, switched and erased (R283, R284). -/
namespace Sys2Proof.Machine

/-! Network time waited for has come (R61). -/

theorem le_cdiv_mul (a : Nat) {b : Nat} (hb : 0 < b) : a ≤ cdiv a b * b := by
  have hdiv := Nat.div_add_mod (a + b - 1) b
  have hmod := Nat.mod_lt (a + b - 1) hb
  rw [Nat.mul_comm] at hdiv
  unfold cdiv
  omega

theorem advanceSub_reaches {s : State} (sub : Nat) (h : 0 < addend s) : sub ≤ (advanceSub s sub).tim.sub := by
  unfold advanceSub
  split
  · rw [passCycles_tim]
    have hsteps := le_cdiv_mul (sub - s.tim.sub) h
    dsimp only
    omega
  · omega

theorem advanceTo_reaches {s : State} (ns : Nat) (h : 0 < addend s) : ns ≤ nowNs (advanceTo s ns) :=
  (Nat.le_div_iff_mul_le (by decide)).mpr (advanceSub_reaches (ns * frac) h)

/-! A link key's successor (R283). -/

theorem queueUni_nat (s : State) (u : Unicast) : (queueUni s u).rad.nat = s.rad.nat := by
  unfold queueUni
  split <;> rfl

theorem queueCommand_nat (s : State) (i cmd : Nat) (data : List Byte) : (queueCommand s i cmd data).rad.nat = s.rad.nat := by
  unfold queueCommand
  split
  · rfl
  · exact queueUni_nat _ _

theorem queueRekey_nat (s : State) (i : Nat) : (queueRekey s i).rad.nat = s.rad.nat := by
  unfold queueRekey
  split
  · rfl
  · split
    · split
      · rfl
      · exact queueCommand_nat _ _ _ _
    · rfl

theorem startRekey_nat (s : State) (i : Nat) : (startRekey s i).rad.nat = s.rad.nat := by
  cases h : natEnt s i with
  | none => simp only [startRekey, h]
  | some e =>
    rw [startRekey_some h]
    exact queueRekey_nat (putLink (newKey s).1 i (1 - genOf e) (newKey s).2) i

/-- When a key is as old as it may become, in ns. -/
def oldNs (k : Key) : Nat := (k.born + 200 * 86400) * giga

theorem linkKeyAge_eq {s : State} {i : Nat} {e : NatEnt} {k : Key} (hup : moduleUp s = true) (hent : natEnt s i = some e)
    (hkey : linkKey s i (genOf e) = some k) (hidle : (nodeDyn s i).rekeying = false) :
    linkKeyAge s i = startRekey (advanceTo s (oldNs k)) i := by
  unfold linkKeyAge oldNs
  rw [hent]
  dsimp only
  rw [hkey]
  dsimp only
  rw [if_neg (by simp [hidle, hup])]

theorem startRekey_tim (s : State) (i : Nat) : (startRekey s i).tim = s.tim :=
  KeepsAllBut.tim (m := { rad := true, keys := true, free := true }) (startRekey_keeps _ rfl rfl rfl s i) rfl

theorem nowNs_congr {s t : State} (h : t.tim = s.tim) : nowNs t = nowNs s := by simp only [nowNs, h]

/-- What a rekey leaves in a state that differs from another in time alone. -/
theorem startRekey_after {s u : State} {i ns : Nat} {e : NatEnt} {k : Key} (hkeeps : KeepsAllBut offTim s u) (hlate : 0 < addend s → ns ≤ nowNs u)
    (hent : natEnt s i = some e) (hkey : linkKey s i (genOf e) = some k) :
    let t := startRekey u i
    (0 < addend s → ns ≤ nowNs t) ∧ (nodeDyn t i).rekeying = true ∧ linkKey t i (genOf e) = some k ∧ (linkKey t i (1 - genOf e)).isSome ∧
      natEnt t i = some e := by
  have hentU : natEnt u i = some e := by
    rw [natEnt, hkeeps.rad rfl]
    exact hent
  have hkeyU : linkKey u i (genOf e) = some k := by
    rw [linkKey, hkeeps.keys rfl]
    exact hkey
  obtain ⟨hmark, hnew, hold⟩ := startRekey_keys hentU
  refine ⟨fun h => ?_, hmark, hold.trans hkeyU, hnew, ?_⟩
  · rw [nowNs_congr (startRekey_tim u i)]
    exact hlate h
  · rw [natEnt, startRekey_nat]
    exact hentU

/-- Every part that a rekey or a renewal may change. -/
abbrev offRekey : Parts := { tim := true, rad := true, keys := true, free := true }

theorem linkKeyAge_done {s : State} {i : Nat} {e : NatEnt} {k : Key} (hup : moduleUp s = true) (hent : natEnt s i = some e)
    (hkey : linkKey s i (genOf e) = some k) (hidle : (nodeDyn s i).rekeying = false) :
    Done (.linkKeyAge i) s fun t => (0 < addend s → (k.born + 200 * 86400) * giga ≤ nowNs t) ∧ (nodeDyn t i).rekeying = true ∧
      linkKey t i (genOf e) = some k ∧ (linkKey t i (1 - genOf e)).isSome ∧ natEnt t i = some e := by
  refine done_of (u := linkKeyAge s i) rfl (KeepsAllBut.pending (linkKeyAge_keeps offRekey rfl rfl rfl rfl s i) rfl) ?_
  rw [linkKeyAge_eq hup hent hkey hidle]
  exact startRekey_after (advanceTo_keeps _ rfl s _) (advanceTo_reaches (oldNs k)) hent hkey

/-! The beacon key's successor (R284). -/

theorem renewShared_shared {s : State} {slot j : Nat} (h : j ≠ slot) : sharedKey (renewShared s slot) j = sharedKey s j := by
  unfold renewShared
  extract_lets k at_ put switched
  have hkeys : ((keyNodes switched slot).foldl (fun s i => queueKey s i slot at_) switched).keys = switched.keys :=
    KeepsAllBut.keys (m := { rad := true }) (foldl_keeps _ _ _ _ fun s i => queueKey_keeps _ rfl s i slot at_) rfl
  rw [sharedKey, hkeys]
  exact tget_tput_other _ _ _ _ h

theorem beaconKeyAge_eq {s : State} {k : Key} (hup : moduleUp s = true) (hkey : sharedKey s s.sec.beaconGen = some k)
    (hidle : renewing s (idleBeacon s) = false) : beaconKeyAge s = renewShared (advanceTo s (oldNs k)) (idleBeacon s) := by
  unfold beaconKeyAge oldNs
  rw [hkey]
  dsimp only
  rw [if_neg (by simp [hidle, hup])]

theorem not_renewing {s : State} {slot : Nat} (hslot : slot < 2) (h : ∀ x ∈ s.rad.switches, ¬(x.1 < 2 ∧ x.2.2 = 0)) : renewing s slot = false := by
  refine List.any_eq_false.mpr fun x hx hrenewing => h x hx ?_
  simp only [Bool.and_eq_true, decide_eq_true_eq] at hrenewing
  exact ⟨hrenewing.1 ▸ hslot, hrenewing.2⟩

theorem nowSec_congr {s t : State} (h : t.tim = s.tim) : nowSec t = nowSec s := by simp only [nowSec, nowNs_congr h]

theorem renewShared_keepsOff (s : State) (slot : Nat) : KeepsAllBut { rad := true, keys := true, free := true } s (renewShared s slot) :=
  renewShared_keeps _ rfl rfl rfl s slot

theorem renewShared_after {s u : State} {ns : Nat} {k : Key} (hkeeps : KeepsAllBut offTim s u) (hlate : 0 < addend s → ns ≤ nowNs u)
    (hgen : s.sec.beaconGen < 2) (hkey : sharedKey s s.sec.beaconGen = some k) :
    let t := renewShared u (1 - s.sec.beaconGen)
    (0 < addend s → ns ≤ nowNs t) ∧ t.rad.switches = s.rad.switches ++ [(1 - s.sec.beaconGen, nowSec t + 600, 0)] ∧
      (sharedKey t (1 - s.sec.beaconGen)).isSome ∧ sharedKey t s.sec.beaconGen = some k ∧ t.sec = s.sec := by
  have hoff := renewShared_keepsOff u (1 - s.sec.beaconGen)
  obtain ⟨hnew, hswitches⟩ := renewShared_renews u (1 - s.sec.beaconGen)
  refine ⟨fun h => ?_, ?_, hnew, ?_, (hoff.sec rfl).trans (hkeeps.sec rfl)⟩
  · rw [nowNs_congr (hoff.tim rfl)]
    exact hlate h
  · rw [hswitches, nowSec_congr (hoff.tim rfl), hkeeps.rad rfl]
  · rw [renewShared_shared (by omega), sharedKey, hkeeps.keys rfl]
    exact hkey

theorem beaconKeyAge_done {s : State} {k : Key} (hup : moduleUp s = true) (hkey : sharedKey s s.sec.beaconGen = some k) (hgen : s.sec.beaconGen < 2)
    (hidle : ∀ x ∈ s.rad.switches, ¬(x.1 < 2 ∧ x.2.2 = 0)) :
    Done .beaconKeyAge s fun t => (0 < addend s → (k.born + 200 * 86400) * giga ≤ nowNs t) ∧
      t.rad.switches = s.rad.switches ++ [(1 - s.sec.beaconGen, nowSec t + 600, 0)] ∧ (sharedKey t (1 - s.sec.beaconGen)).isSome ∧
      sharedKey t s.sec.beaconGen = some k ∧ t.sec = s.sec := by
  refine done_of (u := beaconKeyAge s) rfl (KeepsAllBut.pending (beaconKeyAge_keeps offRekey rfl rfl rfl rfl s) rfl) ?_
  rw [beaconKeyAge_eq hup hkey (not_renewing (slot := 1 - s.sec.beaconGen) (by omega) hidle)]
  exact renewShared_after (advanceTo_keeps _ rfl s _) (advanceTo_reaches (oldNs k)) hgen hkey

/-! SWITCH (R284). -/

/-- The renewals with one marked as switched. -/
def switchedOn (x : Nat × Nat × Nat) (r : RadState) : RadState := { r with switches := r.switches.map fun y => if y = x then (x.1, x.2.1, 1) else y }

theorem keySwitch_eq {s : State} {slot : Nat} {x : Nat × Nat × Nat} (hup : moduleUp s = true)
    (hfind : (s.rad.switches.find? fun x => x.1 = slot && x.2.2 = 0) = some x) :
    keySwitch s slot = switchTo (setRad (advanceTo s (x.2.1 * giga)) (switchedOn x)) slot := by
  unfold keySwitch
  rw [hfind]
  dsimp only
  rw [if_neg (by simp [hup])]
  rfl

/-- What a switch of generations leaves, and what it sets. -/
structure Switches (s t : State) (slot : Nat) : Prop where
  tim : t.tim = s.tim
  keys : t.keys = s.keys
  switches : t.rad.switches = s.rad.switches
  beacon : slot < 2 → t.sec.beaconGen = slot
  beaconKept : 2 ≤ slot → t.sec.beaconGen = s.sec.beaconGen
  group : 2 ≤ slot → ∀ g, t.sec.groupGen[(slot - 2) / 2]? = some g → g = slot % 2
  counter : 2 ≤ slot → ∀ c, t.rad.groupCtr[(slot - 2) / 2]? = some c → c = 1
  said : Said s t .sec 0x0503 (0x8000 + slot) (slot % 2) 0

theorem upd_get_const {α : Type} {l : List α} {i : Nat} {a b : α} (h : (upd l i fun _ => a)[i]? = some b) : b = a := by
  rw [upd_get_same] at h
  obtain ⟨-, -, rfl⟩ := Option.map_eq_some_iff.mp h
  rfl

theorem switchTo_switches (s : State) (slot : Nat) : Switches s (switchTo s slot) slot := by
  unfold switchTo
  extract_lets set counted
  have hcounted : KeepsAllBut { rad := true, ledr := true } set counted := by
    simp only [counted]
    split
    · rfl
    · exact (setLedr_keeps _ rfl _ _).trans (setRad_keeps _ rfl _ _)
  have hset : KeepsAllBut { sec := true } s set := (setSec_keeps _ rfl _ _).trans (secCount_keeps _ rfl _ _)
  have hevent := event_offEvq counted .sec 0x0503 (0x8000 + slot) (slot % 2) 0
  have hsec : (event counted .sec 0x0503 (0x8000 + slot) (slot % 2) 0).sec = set.sec := (hevent.sec rfl).trans (hcounted.sec rfl)
  have hrad : (event counted .sec 0x0503 (0x8000 + slot) (slot % 2) 0).rad = counted.rad := hevent.rad rfl
  have hswitches : counted.rad.switches = s.rad.switches := by
    simp only [counted]
    split <;> rfl
  refine ⟨(hevent.tim rfl).trans ((hcounted.tim rfl).trans (hset.tim rfl)), (hevent.keys rfl).trans ((hcounted.keys rfl).trans (hset.keys rfl)),
    (congrArg RadState.switches hrad).trans hswitches, fun h => ?_, fun h => ?_, fun h g hg => ?_, fun h c hc => ?_, ?_⟩
  · rw [hsec]
    exact if_pos h
  · rw [hsec]
    exact if_neg (Nat.not_lt.mpr h)
  · have hgroup : set.sec.groupGen = upd (secCount s 4).sec.groupGen ((slot - 2) / 2) fun _ => slot % 2 := if_neg (Nat.not_lt.mpr h)
    rw [hsec, hgroup] at hg
    exact upd_get_const hg
  · rw [hrad, show counted.rad.groupCtr = upd s.rad.groupCtr ((slot - 2) / 2) fun _ => 1 by simp only [counted, if_neg (Nat.not_lt.mpr h)]; rfl] at hc
    exact upd_get_const hc
  · exact event_said_of .sec _ _ _ _ ((hcounted.evq rfl).trans (hset.evq rfl)) ((hcounted.stns rfl).trans (hset.stns rfl))
      ((hcounted.cox rfl).trans (hset.cox rfl))

/-- Every part that a switch may change. -/
abbrev offSwitch : Parts := { tim := true, evq := true, rad := true, sec := true, ledr := true }

theorem Said.of_queues {s u t : State} {w : Stn} {code subject data0 data1 : Nat} (h : Said u t w code subject data0 data1) (hevq : u.evq = s.evq)
    (hstns : u.stns = s.stns) (hcox : u.cox = s.cox) : Said s t w code subject data0 data1 := by
  unfold Said Wrote at h ⊢
  rw [← hevq, ← evqDown_congr hstns hcox]
  exact h

theorem switchTo_after {s u : State} {slot ns : Nat} (x : Nat × Nat × Nat) (hkeeps : KeepsAllBut offTim s u) (hlate : 0 < addend s → ns ≤ nowNs u) :
    let t := switchTo (setRad u (switchedOn x)) slot
    (0 < addend s → ns ≤ nowNs t) ∧ t.rad.switches = s.rad.switches.map (fun y => if y = x then (x.1, x.2.1, 1) else y) ∧ t.keys = s.keys ∧
      (slot < 2 → t.sec.beaconGen = slot) ∧
      (2 ≤ slot → t.sec.beaconGen = s.sec.beaconGen ∧ (∀ g, t.sec.groupGen[(slot - 2) / 2]? = some g → g = slot % 2) ∧
        (∀ c, t.rad.groupCtr[(slot - 2) / 2]? = some c → c = 1)) ∧ Said s t .sec 0x0503 (0x8000 + slot) (slot % 2) 0 := by
  have h := switchTo_switches (setRad u (switchedOn x)) slot
  refine ⟨fun hadd => ?_, ?_, h.keys.trans (hkeeps.keys rfl), h.beacon, fun hslot => ⟨?_, h.group hslot, h.counter hslot⟩, ?_⟩
  · rw [nowNs_congr h.tim]
    exact hlate hadd
  · rw [h.switches, ← hkeeps.rad rfl]
    rfl
  · exact (h.beaconKept hslot).trans (congrArg SecState.beaconGen (hkeeps.sec rfl))
  · exact h.said.of_queues (hkeeps.evq rfl) (hkeeps.stns rfl) (hkeeps.cox rfl)

theorem keySwitch_done {s : State} {slot : Nat} {x : Nat × Nat × Nat} (hup : moduleUp s = true)
    (hfind : (s.rad.switches.find? fun x => x.1 = slot && x.2.2 = 0) = some x) :
    Done (.keySwitch slot) s fun t => (0 < addend s → x.2.1 * giga ≤ nowNs t) ∧
      t.rad.switches = s.rad.switches.map (fun y => if y = x then (x.1, x.2.1, 1) else y) ∧ t.keys = s.keys ∧
      (slot < 2 → t.sec.beaconGen = slot) ∧
      (2 ≤ slot → t.sec.beaconGen = s.sec.beaconGen ∧ (∀ g, t.sec.groupGen[(slot - 2) / 2]? = some g → g = slot % 2) ∧
        (∀ c, t.rad.groupCtr[(slot - 2) / 2]? = some c → c = 1)) ∧ Said s t .sec 0x0503 (0x8000 + slot) (slot % 2) 0 := by
  refine done_of (u := keySwitch s slot) rfl (KeepsAllBut.pending (keySwitch_keeps offSwitch rfl rfl rfl rfl rfl s slot) rfl) ?_
  rw [keySwitch_eq hup hfind]
  exact switchTo_after x (advanceTo_keeps _ rfl s _) (advanceTo_reaches _)

/-! The old generation's erasure (R284). -/

/-- A renewal that is over: its old key is erased unless a later renewal has taken its slot. -/
def oldErased (s u : State) (slot : Nat) (x : Nat × Nat × Nat) : State :=
  setKeys (setRad u fun r => { r with switches := r.switches.filter fun y => y ≠ x }) fun k =>
    { k with shared := if renewing s (otherSlot slot) then k.shared else tdel k.shared (otherSlot slot) }

theorem oldKeyErase_eq {s : State} {slot : Nat} {x : Nat × Nat × Nat} (hup : moduleUp s = true)
    (hfind : (s.rad.switches.find? fun x => x.1 = slot && x.2.2 = 1) = some x) :
    oldKeyErase s slot = oldErased s (advanceTo s ((x.2.1 + 600) * giga)) slot x := by
  unfold oldKeyErase
  rw [hfind]
  dsimp only
  rw [if_neg (by simp [hup])]
  rfl

theorem oldErased_erases {s u : State} {slot ns : Nat} {x : Nat × Nat × Nat} (hkeeps : KeepsAllBut offTim s u) (hlate : 0 < addend s → ns ≤ nowNs u) :
    let t := oldErased s u slot x
    (0 < addend s → ns ≤ nowNs t) ∧
      sharedKey t (otherSlot slot) = (if renewing s (otherSlot slot) then sharedKey s (otherSlot slot) else none) ∧
      (∀ j, j ≠ otherSlot slot → sharedKey t j = sharedKey s j) ∧ t.rad.switches = s.rad.switches.filter fun y => y ≠ x := by
  have hkeys : u.keys = s.keys := hkeeps.keys rfl
  have hrad : u.rad = s.rad := hkeeps.rad rfl
  refine ⟨hlate, ?_, fun j hj => ?_, congrArg (fun r : RadState => r.switches.filter fun y => y ≠ x) hrad⟩
  · show tget (if renewing s (otherSlot slot) then u.keys.shared else tdel u.keys.shared (otherSlot slot)) (otherSlot slot) = _
    rw [hkeys]
    split
    · rfl
    · exact tget_tdel_same _ _
  · show tget (if renewing s (otherSlot slot) then u.keys.shared else tdel u.keys.shared (otherSlot slot)) j = _
    rw [hkeys]
    split
    · rfl
    · exact tget_tdel_other _ _ _ hj

/-- Every part that an erasure may change. -/
abbrev offErase : Parts := { tim := true, rad := true, keys := true }

/-- Settles O58: each row waits for its time, and then starts a rekey or a renewal, switches, or erases. -/
theorem keysAreRenewedAndErased : Obligations.KeysAreRenewedAndErased := by
  refine ⟨fun s i e k hup hent hkey _ hidle => linkKeyAge_done hup hent hkey hidle, fun s k hup hkey hgen hidle => beaconKeyAge_done hup hkey hgen hidle,
    fun s slot x hup hfind => keySwitch_done hup hfind, fun s slot x hup hfind => ?_⟩
  refine done_of (u := oldKeyErase s slot) rfl (KeepsAllBut.pending (oldKeyErase_keeps offErase rfl rfl rfl s slot) rfl) ?_
  rw [oldKeyErase_eq hup hfind]
  exact oldErased_erases (advanceTo_keeps _ rfl s _) (advanceTo_reaches _)

end Sys2Proof.Machine
end

section
/-! Transfers that advance, complete and expire (R428, R429). -/
namespace Sys2Proof.Machine

/-- The flash operation of a block that BLOCK_WRITE_DONE ends. -/
def blockPut (s : State) (sigs : ImageSigs) : State :=
  if s.upd.xfer.kind = 2 then slotBlock s sigs
  else { s with flash := { s.flash with staging := tput s.flash.staging s.upd.xfer.next (winWords s) } }

/-- The transfer after a block is taken. -/
def blockTaken (s : State) : Xfer :=
  { s.upd.xfer with busy := false, next := s.upd.xfer.next + 1, lastAt := s.tim.cyc, err := .ok,
                    state := if s.upd.xfer.next + 1 = xferBlocks s.upd.xfer then .complete else .open_ }

theorem blockPut_keeps (s : State) (sigs : ImageSigs) : KeepsAllBut { flash := true } s (blockPut s sigs) := by
  show masked _ (blockPut s sigs) = masked _ s
  unfold blockPut
  split
  · exact slotBlock_keeps _ rfl s sigs
  · rfl

theorem blockPut_staging {s : State} (sigs : ImageSigs) (h : s.upd.xfer.kind ≠ 2) :
    (blockPut s sigs).flash.staging = tput s.flash.staging s.upd.xfer.next (winWords s) := by
  rw [blockPut, if_neg h]

theorem imageInSlot_putImage (s : State) (k : Nat) (i : Option Image) : imageInSlot (putImage s k i) k = i := by
  unfold imageInSlot putImage
  by_cases h : k = 0 <;> simp [h]

theorem imageInSlot_congr {s t : State} (h : t.flash = s.flash) (k : Nat) : imageInSlot t k = imageInSlot s k := by
  rw [imageInSlot, h, imageInSlot]

theorem blockDone_saved {s : State} {sigs : ImageSigs} (hup : moduleUp s = true) (hbusy : s.upd.xfer.busy = true)
    (hflash : .upd ∉ s.flashBad) (hled : .upd ∉ s.ledBad) :
    blockDone s sigs = setUpd { blockPut s sigs with led := { (blockPut s sigs).led with xfer := some (blockTaken s) } }
      fun u => { u with xfer := blockTaken s } := by
  have hled' : .upd ∉ (blockPut s sigs).ledBad := by rwa [(blockPut_keeps s sigs).ledBad rfl]
  unfold blockDone
  rw [if_neg (by simp [hup, hbusy])]
  extract_lets last r y w
  have hr : r = (blockPut s sigs, true) := flashWrite_good _ hflash
  have hw : w = ({ blockPut s sigs with led := { (blockPut s sigs).led with xfer := some (blockTaken s) } }, true) := by
    show ledgerWrite r.1 _ _ = _
    rw [hr]
    exact ledgerWrite_ok hled' _
  rw [hw, hr]
  rfl

theorem blockDone_unsaved {s : State} {sigs : ImageSigs} (hup : moduleUp s = true) (hbusy : s.upd.xfer.busy = true)
    (hflash : .upd ∉ s.flashBad) (hled : .upd ∈ s.ledBad) :
    blockDone s sigs = setUpd { blockPut s sigs with ledBad := (blockPut s sigs).ledBad.erase .upd }
      fun u => { u with xfer := { u.xfer with busy := false, err := .ledgerFail } } := by
  have hled' : (blockPut s sigs).ledBad.contains .upd = true := by
    rw [(blockPut_keeps s sigs).ledBad rfl]
    exact List.contains_iff_mem.mpr hled
  unfold blockDone
  rw [if_neg (by simp [hup, hbusy])]
  extract_lets last r y w
  have hr : r = (blockPut s sigs, true) := flashWrite_good _ hflash
  have hw : w = ({ blockPut s sigs with ledBad := (blockPut s sigs).ledBad.erase .upd }, false) := by
    show ledgerWrite r.1 _ _ = _
    rw [hr]
    exact if_pos hled'
  rw [hw, hr]
  rfl

theorem blockDone_unwritten {s : State} {sigs : ImageSigs} (hup : moduleUp s = true) (hbusy : s.upd.xfer.busy = true)
    (hflash : .upd ∈ s.flashBad) :
    blockDone s sigs = setUpd { s with flashBad := s.flashBad.erase .upd }
      fun u => { u with xfer := { u.xfer with busy := false, err := .flashTmo } } := by
  unfold blockDone
  rw [if_neg (by simp [hup, hbusy])]
  extract_lets last r
  have hr : r = ({ s with flashBad := s.flashBad.erase .upd }, false) := if_pos (List.contains_iff_mem.mpr hflash)
  rw [hr]
  rfl

theorem blockDone_flash {s : State} {sigs : ImageSigs} (hup : moduleUp s = true) (hbusy : s.upd.xfer.busy = true) (hflash : .upd ∉ s.flashBad) :
    (blockDone s sigs).flash = (blockPut s sigs).flash := by
  by_cases hled : .upd ∈ s.ledBad
  · rw [blockDone_unsaved hup hbusy hflash hled]; rfl
  · rw [blockDone_saved hup hbusy hflash hled]; rfl

theorem xferTimeout_ends {s : State} (hup : moduleUp s = true) (hopen : s.upd.xfer.state = .open_) :
    xferTimeout s = xferAbort (advanceCyc s (s.upd.xfer.lastAt + secCyc 86400)) := by
  rw [xferTimeout, if_pos (by simp [hup, hopen])]

/-- Settles O59: by what becomes of the block's flash operation and of its save. -/
theorem transfersAdvanceAndExpire : Obligations.TransfersAdvanceAndExpire := by
  refine ⟨fun s hup hopen => ?timeout, fun s sigs hup hbusy hflash => ?written, fun s sigs hup hbusy hflash => ?failed⟩
  case timeout =>
    have haborts : ∀ (u : State) (cyc : Nat), KeepsAllBut offTim s u → cyc ≤ u.tim.cyc →
        (xferAbort u).upd = { s.upd with xfer := {} } ∧
          (xferAbort u).led = { s.led with xfer := if s.ledBad.contains .upd then s.led.xfer else none } ∧ cyc ≤ (xferAbort u).tim.cyc := by
      intro u cyc hu hcyc
      obtain ⟨hupd, hled⟩ := xferAbort_aborts u
      have htim : (xferAbort u).tim = u.tim := by
        unfold xferAbort ledgerWrite
        split <;> rfl
      exact ⟨by rw [hupd, hu.upd rfl], by rw [hled, hu.led rfl, hu.ledBad rfl], by rw [htim]; exact hcyc⟩
    have hran : exec .xferTimeout s = ran s (xferTimeout s) := rfl
    rw [xferTimeout_ends hup hopen] at hran
    refine done_of hran ?_ (haborts _ _ (advanceCyc_keeps _ rfl s _) (advanceCyc_reaches s _))
    have hpend : ∀ u : State, (xferAbort u).pending = u.pending := fun u => by
      unfold xferAbort ledgerWrite
      split <;> rfl
    exact (hpend _).trans (KeepsAllBut.pending (m := offTim) (advanceCyc_keeps offTim rfl s _) rfl)
  case written =>
    refine done_ran (u := blockDone s sigs) rfl ⟨fun hled => ?_, fun hled => ?_, fun hkind => ?_, fun hkind => ?_⟩
    · rw [blockDone_saved hup hbusy hflash hled, setUpd]
      exact ⟨rfl, by rw [(blockPut_keeps s sigs).led rfl]⟩
    · rw [blockDone_unsaved hup hbusy hflash hled, setUpd]
      dsimp only
      rw [(blockPut_keeps s sigs).upd rfl]
      exact ⟨rfl, (blockPut_keeps s sigs).led rfl⟩
    · dsimp only
      rw [blockDone_flash hup hbusy hflash, blockPut_staging sigs hkind]
      exact ⟨tget_tput_same _ _ _, fun j hj => tget_tput_other _ _ _ _ hj⟩
    · refine (imageInSlot_congr (blockDone_flash hup hbusy hflash) _).trans ?_
      rw [blockPut, if_pos hkind, slotBlock]
      exact imageInSlot_putImage _ _ _
  case failed =>
    refine done_ran (u := blockDone s sigs) rfl ?_
    rw [blockDone_unwritten hup hbusy hflash]
    exact ⟨rfl, rfl⟩
end Sys2Proof.Machine
end

section
/-! Ethernet links (R304, R305, R306, R318). -/
namespace Sys2Proof.Machine

theorem ethPort_of_get {s : State} {p : Nat} {e : EthPort} (h : s.eth.ports[p]? = some e) : ethPort s p = e := nth_of_get h {}

theorem setPort_get_other {s : State} {p j : Nat} (h : j ≠ p) (f : EthPort → EthPort) : (setPort s p f).eth.ports[j]? = s.eth.ports[j]? :=
  upd_get_other _ _ _ _ h

theorem ethCfg_congr {s t : State} (h : t.cfg = s.cfg) (p : Nat) : ethCfg t p = ethCfg s p := by
  rw [ethCfg, cBackhaul, h, ethCfg, cBackhaul]

/-- A port whose verification begins with its link (R318). -/
def verifying (c : EthPortCfg) (e : EthPort) : EthPort :=
  if !c.preemptEn || c.verifyDis then { e with verify := .disabled, attempts := 0 } else { e with verify := .verifying, attempts := 1, lastTx := some .verify }

/-- A port that has lost what it had queued or on the wire (R306). -/
def emptied (e : EthPort) : EthPort :=
  let n := (e.tq.map fun q => q.frames.length).foldl (· + ·) 0 + b2n e.sending.isSome + b2n e.suspended.isSome
  { e with cnt := upd e.cnt 10 (fun x => satAdd 32 x n), sending := none, suspended := none,
           tq := e.tq.map fun q => { q with drop := satAdd 32 q.drop q.frames.length, frames := [] } }

/-- A port whose link is judged anew. -/
def relinked (c : EthPortCfg) (e : EthPort) : EthPort :=
  if linkUp c e = e.up then e
  else if linkUp c e then verifying c { e with up := true }
  else emptied { e with up := false, cnt := bump e.cnt 13 }

theorem relinked_up (c : EthPortCfg) (e : EthPort) : (relinked c e).up = linkUp c e := by
  unfold relinked verifying emptied
  repeat' split
  all_goals simp_all

/-- What judging a link leaves of its conditions. -/
theorem relinked_conditions (c : EthPortCfg) (e : EthPort) :
    (relinked c e).los = e.los ∧ (relinked c e).sync = e.sync ∧ (relinked c e).an = e.an ∧ (relinked c e).phyLink = e.phyLink := by
  unfold relinked verifying emptied
  repeat' split
  all_goals exact ⟨rfl, rfl, rfl, rfl⟩

theorem relinked_same {c : EthPortCfg} {e : EthPort} (h : (relinked c e).up = e.up) : relinked c e = e := by
  rw [relinked_up] at h
  rw [relinked, if_pos h]

theorem relinked_down {c : EthPortCfg} {e : EthPort} (hup : e.up = true) (hdown : (relinked c e).up = false) :
    relinked c e = emptied { e with up := false, cnt := bump e.cnt 13 } := by
  rw [relinked_up] at hdown
  rw [relinked, if_neg (by simp [hup, hdown]), if_neg (by simp [hdown])]

theorem relinked_raised {c : EthPortCfg} {e : EthPort} (hdown : e.up = false) (hup : (relinked c e).up = true) :
    relinked c e = verifying c { e with up := true } := by
  rw [relinked_up] at hup
  rw [relinked, if_neg (by simp [hup, hdown]), if_pos hup]

theorem emptied_frames {e : EthPort} {q : TxQueue} (h : q ∈ (emptied e).tq) : q.frames = [] := by
  obtain ⟨q', -, rfl⟩ := List.mem_map.mp h
  rfl

theorem emptied_count {e : EthPort} {j : Nat} (h : j ≠ 10) : (emptied e).cnt[j]? = e.cnt[j]? := upd_get_other _ _ _ _ h

theorem forgetReplies_eth (s : State) (items : List TxItem) : (forgetReplies s items).eth = s.eth :=
  KeepsAllBut.eth (m := { vtp := true }) (forgetReplies_keeps _ rfl s items) rfl

theorem forgetReplies_cfg (s : State) (items : List TxItem) : (forgetReplies s items).cfg = s.cfg :=
  KeepsAllBut.cfg (m := { vtp := true }) (forgetReplies_keeps _ rfl s items) rfl

theorem event_eth (s : State) (w : Stn) (code subject d0 d1 : Nat) : (event s w code subject d0 d1).eth = s.eth :=
  KeepsAllBut.eth (m := { evq := true }) (event_offEvq s w code subject d0 d1) rfl

theorem verifyRestart_eq (s : State) (p : Nat) : verifyRestart s p = setPort s p (verifying (ethCfg s p)) := rfl

theorem dropQueued_eq (s : State) (p : Nat) : dropQueued s p = setPort s p emptied := rfl

/-- The state after a link has gone up or down, before its record. -/
def linkMoved (s : State) (p : Nat) : State :=
  if linkUp (ethCfg s p) (ethPort s p) then verifyRestart (setPort s p fun e => { e with up := true }) p
  else dropQueued (forgetReplies (ethCount (setPort s p fun e => { e with up := false }) p 13) (queuedItems (ethPort s p))) p

theorem relink_moved {s : State} {p : Nat} (h : linkUp (ethCfg s p) (ethPort s p) ≠ (ethPort s p).up) : (relink s p).eth = (linkMoved s p).eth := by
  unfold relink
  extract_lets c e up s1 s2
  rw [if_neg h, event_eth, linkMoved]
  show (if up = true then verifyRestart s1 p else dropQueued (forgetReplies (ethCount s1 p 13) (queuedItems e)) p).eth = State.eth (if up = true then _ else _)
  by_cases hup : up = true
  · rw [if_pos hup, if_pos hup, ← hup]
  · rw [if_neg hup, if_neg hup, ← Bool.eq_false_iff.mpr hup]

theorem relink_get {s : State} {p : Nat} {e : EthPort} (h : s.eth.ports[p]? = some e) :
    (relink s p).eth.ports[p]? = some (relinked (ethCfg s p) e) := by
  have he := ethPort_of_get h
  by_cases hsame : linkUp (ethCfg s p) e = e.up
  · rw [relinked, if_pos hsame]
    have hrelink : relink s p = s := by
      rw [← he] at hsame
      exact if_pos hsame
    rw [hrelink, h]
  · rw [relink_moved (by rw [he]; exact hsame), linkMoved, he, relinked, if_neg hsame]
    split
    · rw [verifyRestart_eq, setPort_get (setPort_get h _)]
      rfl
    · rw [dropQueued_eq]
      refine setPort_get ?_ _
      rw [forgetReplies_eth, ethCount]
      exact setPort_get (setPort_get h _) _

theorem relink_get_other (s : State) {p j : Nat} (h : j ≠ p) : (relink s p).eth.ports[j]? = s.eth.ports[j]? := by
  by_cases hsame : linkUp (ethCfg s p) (ethPort s p) = (ethPort s p).up
  · rw [show relink s p = s from if_pos hsame]
  · rw [relink_moved hsame, linkMoved]
    split
    · rw [verifyRestart_eq, setPort_get_other h, setPort_get_other h]
    · rw [dropQueued_eq, setPort_get_other h, forgetReplies_eth, ethCount, setPort_get_other h, setPort_get_other h]

/-- MDIO_POLL of one port. -/
def polled (links : List Bool) (s : State) (p : Nat) : State :=
  if (ethCfg s p).phy then relink (setPort s p fun e => { e with phyLink := links.getD p false }) p else s

theorem polled_cfg (links : List Bool) (s : State) (p : Nat) : (polled links s p).cfg = s.cfg := by
  unfold polled
  split
  · exact KeepsAllBut.cfg (m := { vtp := true, eth := true, evq := true }) (by unfold KeepsAllBut; simp) rfl
  · rfl

theorem polled_get_other (links : List Bool) (s : State) {p j : Nat} (h : j ≠ p) : (polled links s p).eth.ports[j]? = s.eth.ports[j]? := by
  unfold polled
  split
  · rw [relink_get_other _ h, setPort_get_other h]
  · rfl

theorem polled_get {s : State} {p : Nat} {e : EthPort} (links : List Bool) (h : s.eth.ports[p]? = some e) (hphy : (ethCfg s p).phy = true) :
    (polled links s p).eth.ports[p]? = some (relinked (ethCfg s p) { e with phyLink := links.getD p false }) := by
  rw [polled, if_pos hphy]
  exact relink_get (setPort_get h _)

theorem polled_undeclared {s : State} {p : Nat} (links : List Bool) (hphy : (ethCfg s p).phy = false) : polled links s p = s :=
  if_neg (by simp [hphy])

theorem mdioPoll_eq (s : State) (links : List Bool) : mdioPoll s links = polled links (polled links s 0) 1 := rfl

/-- The polls of the two ports are independent of each other. -/
theorem mdioPoll_get {s : State} {p : Nat} {e : EthPort} (links : List Bool) (hp : p < 2) (he : s.eth.ports[p]? = some e) :
    (mdioPoll s links).eth.ports[p]? = (polled links s p).eth.ports[p]? := by
  rw [mdioPoll_eq]
  obtain rfl | rfl : p = 0 ∨ p = 1 := by omega
  · exact polled_get_other _ _ (by decide)
  · have hcfg := ethCfg_congr (polled_cfg links s 0) 1
    have hother := polled_get_other links s (p := 0) (j := 1) (by decide)
    cases hphy : (ethCfg s 1).phy with
    | false => rw [polled_undeclared links hphy, polled_undeclared links (hcfg ▸ hphy), hother]
    | true => rw [polled_get links he hphy, polled_get links (hother.trans he) (hcfg ▸ hphy), hcfg]

theorem mdioTmo_fails {s : State} {p : Nat} (headEnd : Bool) (hphy : (ethCfg s p).phy = true) :
    mdioTmo s p headEnd = relink (setPort { s with eth := { s.eth with mdioErr := s.eth.mdioErr || headEnd } } p
      fun e => { e with phyLink := false }) p := by
  unfold mdioTmo
  cases headEnd
  · rw [Bool.or_false]
    exact if_pos hphy
  · rw [Bool.or_true]
    exact if_pos hphy

theorem relink_mdioErr (s : State) (p : Nat) : (relink s p).eth.mdioErr = s.eth.mdioErr := by
  by_cases hsame : linkUp (ethCfg s p) (ethPort s p) = (ethPort s p).up
  · rw [show relink s p = s from if_pos hsame]
  · rw [relink_moved hsame, linkMoved]
    split
    · rfl
    · rw [dropQueued_eq, setPort_eth, forgetReplies_eth]
      rfl

/-- Settles O40: a port after any of the commands is the port judged anew under its changed conditions. -/
theorem linksFollowTheirConditions : Obligations.LinksFollowTheirConditions := by
  refine ⟨fun s p los sync an phy e he => ?change, fun s links p e hp he => ?poll, fun s p headEnd e he hphy => ?timeout⟩
  case change =>
    have hport := relink_get (setPort_get he fun e => { e with los := los, sync := sync, an := an, phyLink := phy })
    refine done_ran (u := linkChange s p los sync an phy) rfl ⟨_, hport, ?_⟩
    generalize hc : ethCfg (setPort s p _) p = c
    have hcfg : ethCfg s p = c := hc
    rw [hcfg]
    obtain ⟨hlos, hsync, han, hphy⟩ := relinked_conditions c { e with los := los, sync := sync, an := an, phyLink := phy }
    refine ⟨hlos, hsync, han, hphy, relinked_up _ _, fun hsame => ?_, fun hup hdown => ?_, fun hdown hup hpre hver => ?_⟩
    · rw [relinked_same hsame]
      exact ⟨rfl, rfl, rfl⟩
    · rw [relinked_down (by exact hup) hdown]
      exact ⟨rfl, rfl, fun q hq => emptied_frames hq, (emptied_count (by decide)).trans (upd_get_same _ _ _)⟩
    · rw [relinked_raised (by exact hdown) hup, verifying, if_neg (by simp [hpre, hver])]
      exact ⟨rfl, rfl, rfl⟩
  case poll =>
    refine done_ran (u := mdioPoll s links) rfl ⟨fun hphy => ?_, fun hphy => ?_⟩
    · refine (mdioPoll_get links hp he).trans ?_
      rw [polled_undeclared links hphy, he]
    · refine ⟨_, (mdioPoll_get links hp he).trans (polled_get links he hphy), (relinked_conditions _ _).2.2.2, ?_⟩
      rw [relinked_up, linkUp, hphy]
      rfl
  case timeout =>
    refine done_ran (u := mdioTmo s p headEnd) rfl ?_
    rw [mdioTmo_fails headEnd hphy]
    refine ⟨fun hhead => (relink_mdioErr _ _).trans (by rw [hhead]; exact Bool.or_true _), _, relink_get (setPort_get he _),
      (relinked_conditions _ _).2.2.2, (relinked_up _ _).trans ?_⟩
    have hcfg : (ethCfg (setPort { s with eth := { s.eth with mdioErr := s.eth.mdioErr || headEnd } } p
      fun e => { e with phyLink := false }) p).phy = true := hphy
    simp [linkUp, hcfg]


/-- A module of which ETH runs and port 0 has its link. -/
def linkedModule : State :=
  { State.reset with stns := upd State.reset.stns Stn.eth.idx fun r => { r with state := .running }
                     eth := { State.reset.eth with ports := [{ up := true }] } }

/-- The first mPacket of a frame whose mCRC fails opens no reassembly. -/
theorem badStart_linkedModule : ((ethReceive linkedModule 0 (.mStart 0 [] false false)).eth.ports[0]?.map EthPort.assy) = some none := by decide

/-- Refutes O41: an mPacket that starts a frame but fails its mCRC is discarded and counted (R319), whereas the statement says of every verdict on the
mCRC that the reassembly is then open. -/
theorem not_framesAreReceived : ¬ Obligations.FramesAreReceived := by
  rintro ⟨hreceived, -⟩
  obtain ⟨-, -, hstart, -⟩ := hreceived linkedModule 0 { up := true } rfl rfl (by decide)
  obtain ⟨t, ht, hport⟩ := hstart 0 [] false rfl
  have hassy := badStart_linkedModule
  rw [show t = _ from ran_eq ht] at hport
  rw [show (ethReceive linkedModule 0 (.mStart 0 [] false false)).eth.ports[0]? = _ from hport] at hassy
  exact absurd hassy (by decide)

end Sys2Proof.Machine
end

section
/-! Ethernet frames sent (R315, R317, R318, R320). -/
namespace Sys2Proof.Machine

theorem le_advanceCyc (s : State) (cyc : Nat) : s.tim.cyc ≤ (advanceCyc s cyc).tim.cyc := by
  unfold advanceCyc
  split
  · rw [passCycles_tim]
    exact Nat.le_add_right _ _
  · exact Nat.le_refl _

theorem advanceCyc_eth (s : State) (cyc : Nat) : (advanceCyc s cyc).eth = s.eth :=
  KeepsAllBut.eth (m := offTim) (advanceCyc_keeps offTim rfl s cyc) rfl

theorem advanceCyc_passed (s : State) : advanceCyc s s.tim.cyc = s := if_neg (Nat.lt_irrefl _)

/-- What a frame does as it leaves changes nothing of the ports, nor the time. -/
theorem leaves_ports (s : State) (p : Nat) (i : TxItem) :
    (leaves s p i).1.eth.ports = s.eth.ports ∧ (leaves s p i).1.tim.cyc = s.tim.cyc := by
  unfold leaves
  split
  · exact ⟨congrArg EthState.ports (forgetReplies_eth _ _),
      congrArg TimState.cyc (KeepsAllBut.tim (m := { vtp := true }) (forgetReplies_keeps _ rfl s _) rfl)⟩
  all_goals exact ⟨rfl, rfl⟩

theorem writeTxDescs_offMem (s : State) (p tq : Nat) (f : TxFrame) : KeepsAllBut { mem := true } s (writeTxDescs s p tq f) :=
  writeTxDescs_keeps _ rfl s p tq f

/-- The state in which a frame that starts takes the wire. -/
def startingFrame (s : State) (p tq : Nat) (f : TxFrame) (at_ : Nat) : State × TxItem := leaves (writeTxDescs (advanceCyc s at_) p tq f) p f.item

theorem startingFrame_ports (s : State) (p tq : Nat) (f : TxFrame) (at_ : Nat) :
    (startingFrame s p tq f at_).1.eth.ports = s.eth.ports ∧ (startingFrame s p tq f at_).1.tim.cyc = (advanceCyc s at_).tim.cyc := by
  obtain ⟨hports, hcyc⟩ := leaves_ports (writeTxDescs (advanceCyc s at_) p tq f) p f.item
  have hdescs := writeTxDescs_offMem (advanceCyc s at_) p tq f
  exact ⟨by rw [startingFrame, hports, hdescs.eth rfl, advanceCyc_eth], by rw [startingFrame, hcyc, hdescs.tim rfl]⟩

/-- A port that sends frame `f` of queue `tq` from its beginning; the rest of what these commands speak of stays. -/
structure Sends (e x : EthPort) (y : Sending) (tq : Nat) (f : TxFrame) (at_ : Nat) : Prop where
  sending : x.sending = some y
  frame : y.frame = f
  queue : y.tq = tq
  fresh : y.done = 0
  data : y.dataCyc = at_ + 16
  suspended : x.suspended = e.suspended
  counts : x.cnt = e.cnt

theorem startFrame_sends {s : State} {p : Nat} {e : EthPort} (h : s.eth.ports[p]? = some e) (tq : Nat) (f : TxFrame) (at_ : Nat) :
    ∃ x y, (startFrame s p tq f at_).eth.ports[p]? = some x ∧ Sends e x y tq f at_ := by
  have hport : (startingFrame s p tq f at_).1.eth.ports[p]? = some e := by rw [(startingFrame_ports s p tq f at_).1, h]
  exact ⟨_, _, setPort_get hport _, ⟨rfl, rfl, rfl, rfl, rfl, rfl, rfl⟩⟩

theorem startFrame_cyc (s : State) (p tq : Nat) (f : TxFrame) (at_ : Nat) : (startFrame s p tq f at_).tim.cyc = (advanceCyc s at_).tim.cyc :=
  (startingFrame_ports s p tq f at_).2

/-- What starts when the wire is idle changes no counter of the port, and takes no time back. -/
theorem startNext_counts {s : State} {p : Nat} {e : EthPort} (h : s.eth.ports[p]? = some e) (at_ : Nat) :
    s.tim.cyc ≤ (startNext s p at_).tim.cyc ∧ ∃ x, (startNext s p at_).eth.ports[p]? = some x ∧ x.cnt = e.cnt := by
  unfold startNext
  extract_lets s1 e1
  have h1 : s1.eth.ports[p]? = some e := by rw [advanceCyc_eth, h]
  have hcyc : s.tim.cyc ≤ s1.tim.cyc := le_advanceCyc s at_
  have hstart : ∀ tq f, s.tim.cyc ≤ (startFrame s1 p tq f s1.tim.cyc).tim.cyc ∧
      ∃ x, (startFrame s1 p tq f s1.tim.cyc).eth.ports[p]? = some x ∧ x.cnt = e.cnt := by
    intro tq f
    obtain ⟨x, y, hx, hsends⟩ := startFrame_sends h1 tq f s1.tim.cyc
    exact ⟨by rw [startFrame_cyc]; exact Nat.le_trans hcyc (le_advanceCyc _ _), x, hx, hsends.counts⟩
  split
  · exact hstart _ _
  · split
    · exact ⟨hcyc, _, setPort_get h1 _, rfl⟩
    · split
      · exact hstart _ _
      · exact ⟨hcyc, e, h1, rfl⟩

theorem startNext_express {s : State} {p : Nat} {f : TxFrame} (h : expressReady s (ethPort s p) = some f) :
    startNext s p s.tim.cyc = startFrame s p 0 f s.tim.cyc := by
  unfold startNext
  rw [advanceCyc_passed]
  dsimp only
  rw [h]

theorem startNext_preemptable {s : State} {p q : Nat} {f : TxFrame} (hexpress : expressReady s (ethPort s p) = none)
    (hsuspended : (ethPort s p).suspended = none) (hnext : nextPreemptable (ethPort s p) = some (q, f)) :
    startNext s p s.tim.cyc = startFrame s p q f s.tim.cyc := by
  unfold startNext
  rw [advanceCyc_passed]
  dsimp only
  rw [hexpress, hsuspended, hnext]

theorem frameEnds_counts {s : State} {p : Nat} {e : EthPort} (h : s.eth.ports[p]? = some e) (x : Sending) :
    (frameEnds s p x).tim = s.tim ∧ ∃ y, (frameEnds s p x).eth.ports[p]? = some y ∧ y.cnt[7]? = e.cnt[7]?.map inc32 := by
  have h7 : (ethCount s p 7).eth.ports[p]? = some { e with cnt := bump e.cnt 7 } := setPort_get h _
  have hbump : (bump e.cnt 7)[7]? = e.cnt[7]?.map inc32 := upd_get_same _ _ _
  by_cases hq : x.tq = 0
  · rw [frameEnds, if_pos hq]
    refine ⟨rfl, _, setPort_get (setPort_get h7 _) _, ?_⟩
    exact (upd_get_other _ _ _ _ (by decide)).trans hbump
  · rw [frameEnds, if_neg hq]
    exact ⟨rfl, _, setPort_get h7 _, hbump⟩

section
variable {s : State} {p : Nat} {e : EthPort} (he : s.eth.ports[p]? = some e) (hup : e.up = true) (hrun : isRunning s .eth = true)
include he hup hrun

theorem ethTransmit_idle (hidle : e.sending = none) : ethTransmit s p = startNext s p s.tim.cyc := by
  rw [ethTransmit, ethPort_of_get he, if_neg (by simp [hup, hrun]), hidle]

theorem ethTransmit_preempts {w : Sending} {f : TxFrame} {a : Nat} (hw : e.sending = some w) (hf : expressReady s e = some f)
    (ha : preemptAt s (ethCfg s p) e w = some a) : ethTransmit s p = preempt s p w a f := by
  rw [ethTransmit, ethPort_of_get he, if_neg (by simp [hup, hrun]), hw]
  dsimp only
  rw [hf, ha]

theorem ethTransmit_waits {w : Sending} (hw : e.sending = some w) (h : expressReady s e = none ∨ preemptAt s (ethCfg s p) e w = none) :
    ethTransmit s p = startNext (frameEnds (advanceCyc s (endCyc w)) p w) p (endCyc w) := by
  rw [ethTransmit, ethPort_of_get he, if_neg (by simp [hup, hrun]), hw]
  dsimp only
  rcases h with h | h
  · rw [h]
  · rw [h]
    cases expressReady s e <;> rfl

theorem ethTransmit_express {f : TxFrame} (hidle : e.sending = none) (hf : expressReady s e = some f) :
    ∃ x y, (ethTransmit s p).eth.ports[p]? = some x ∧ Sends e x y 0 f s.tim.cyc := by
  rw [ethTransmit_idle he hup hrun hidle, startNext_express (by rw [ethPort_of_get he]; exact hf)]
  exact startFrame_sends he _ _ _

end

theorem preempt_sends {s : State} {p : Nat} {e : EthPort} (he : s.eth.ports[p]? = some e) (w : Sending) (a : Nat) (f : TxFrame) :
    ∃ x y z, (preempt s p w a f).eth.ports[p]? = some x ∧ x.sending = some y ∧ y.frame = f ∧ y.tq = 0 ∧
      x.suspended = some z ∧ z.frame = w.frame ∧ w.done ≤ z.done ∧ x.cnt[11]? = e.cnt[11]?.map inc32 := by
  have hadv : (advanceCyc s a).eth.ports[p]? = some e := by rw [advanceCyc_eth, he]
  obtain ⟨x, y, hx, hsends⟩ := startFrame_sends (setPort_get (setPort_get hadv fun e => { e with cnt := bump e.cnt 11 })
    fun e => { e with suspended := some { w with done := w.done + (a - w.dataCyc) * 4 / 8 }, sending := none }) 0 f (a + 32)
  refine ⟨x, y, _, hx, hsends.sending, hsends.frame, hsends.queue, hsends.suspended, rfl, Nat.le_add_right _ _, ?_⟩
  rw [hsends.counts]
  exact upd_get_same _ _ _

/-- Credit that has risen for long enough is above 0 (R320). -/
theorem creditNow_risen {s : State} {e : EthPort} {cyc : Nat} (h : s.tim.cyc + (1 - creditNow s e).toNat ≤ cyc) {u : State}
    (hu : u.tim.cyc = cyc) : 0 < creditNow u e := by
  unfold creditNow at *
  rw [hu]
  omega

/-- Settles O42: by what the port has on the wire and what may start. -/
theorem framesAreSent : Obligations.FramesAreSent := by
  refine ⟨fun s p e he hup hrun => ⟨fun f hidle hf => ?express, fun f q hidle hsusp hnone hnext => ?preemptable, fun f w a hw hf ha => ?preempts,
    fun w hw hwait => ?waits, fun f l hidle hl => ?credit⟩, fun s p e he hverify => ?verify⟩
  case express =>
    obtain ⟨x, y, hx, hsends⟩ := ethTransmit_express he hup hrun hidle hf
    exact done_ran (u := ethTransmit s p) rfl ⟨x, y, hx, hsends.sending, hsends.frame, hsends.queue, hsends.fresh, hsends.data⟩
  case preemptable =>
    obtain ⟨x, y, hx, hsends⟩ := startFrame_sends he q f s.tim.cyc
    have heq : ethTransmit s p = startFrame s p q f s.tim.cyc := by
      rw [ethTransmit_idle he hup hrun hidle]
      refine startNext_preemptable ?_ ?_ ?_ <;> rw [ethPort_of_get he] <;> assumption
    refine done_ran (u := ethTransmit s p) rfl ?_
    rw [heq]
    exact ⟨x, y, hx, hsends.sending, hsends.frame, hsends.queue, hsends.fresh⟩
  case preempts =>
    refine done_ran (u := ethTransmit s p) rfl ?_
    rw [ethTransmit_preempts he hup hrun hw hf ha]
    exact preempt_sends he w a f
  case waits =>
    have hadv : (advanceCyc s (endCyc w)).eth.ports[p]? = some e := by rw [advanceCyc_eth, he]
    obtain ⟨htim, y, hy, hcount⟩ := frameEnds_counts hadv w
    obtain ⟨hcyc, x, hx, hcnt⟩ := startNext_counts hy (endCyc w)
    refine done_ran (u := ethTransmit s p) rfl ?_
    rw [ethTransmit_waits he hup hrun hw hwait]
    exact ⟨Nat.le_trans (advanceCyc_reaches s _) (htim ▸ hcyc), x, hx, by rw [hcnt, hcount]⟩
  case credit =>
    have hreaches := advanceCyc_reaches s (s.tim.cyc + (1 - creditNow s e).toNat)
    have heth := advanceCyc_eth s (s.tim.cyc + (1 - creditNow s e).toNat)
    have hstns := advanceCyc_stns s (s.tim.cyc + (1 - creditNow s e).toNat)
    have heq : creditAboveZero s p = ethTransmit (advanceCyc s (s.tim.cyc + (1 - creditNow s e).toNat)) p := by
      rw [creditAboveZero, ethPort_of_get he]
      exact if_neg (by simp [hl])
    refine done_ran (u := creditAboveZero s p) rfl ?_
    rw [heq]
    generalize advanceCyc s _ = u at *
    have hready : expressReady u e = some f := by
      rw [expressReady, if_pos (creditNow_risen hreaches rfl), hl]
      rfl
    obtain ⟨x, y, hx, hsends⟩ := ethTransmit_express (heth ▸ he) hup (by rw [isRunning, stn_of_stns hstns]; exact hrun) hidle hready
    exact ⟨x, y, hx, hsends.sending, hsends.frame, hsends.queue⟩
  case verify =>
    refine done_ran (u := verifyTimeout s p) rfl ⟨fun hfew => ?_, fun hmany => ?_⟩
    · have heq : verifyTimeout s p = setPort s p fun e => { e with attempts := e.attempts + 1, lastTx := some .verify } := by
        rw [verifyTimeout, ethPort_of_get he, if_neg (by simp [hverify]), if_neg (by omega)]
      rw [heq]
      exact setPort_get he _
    · have heq : verifyTimeout s p = ethCount (setPort s p fun e => { e with verify := .failed }) p 12 := by
        rw [verifyTimeout, ethPort_of_get he, if_neg (by simp [hverify]), if_pos hmany]
      rw [heq]
      exact setPort_get (setPort_get he _) _

end Sys2Proof.Machine
end

section
/-! The stroke: its boundary, bridging, Drive and the first stroke (R19, R20, R30, R101). -/
namespace Sys2Proof.Machine

/-- Every part but the module's state. -/
abbrev offModp : Parts := { Parts.all with modp := false, pending := true }

theorem modp_of_keeps {s t : State} (h : masked offModp t = masked offModp s) : t.modp = s.modp := KeepsAllBut.modp (m := offModp) h rfl

theorem bootRetry_running {s : State} (h : s.modp = .running) : bootRetry s = s := if_neg (by simp [h])

/-- A stroke that begins has the clock that the Cox gives it at its boundary. -/
theorem beginStroke_clock (s : State) (prev : Option Nat) (b : Nat) (stepped fromHold : Bool) :
    strokeClock (beginStroke s prev b stepped fromHold) = strokeClock (coxBegin s prev b stepped) := by
  unfold beginStroke
  extract_lets s1 s2
  have h1 : strokeClock s2 = strokeClock s1 := clock_of_keeps (by simp [s2])
  rw [← h1, clock_of_keeps (startPrograms_keeps offCox rfl _),
    clock_of_keeps (catchWork_keeps offCox rfl rfl rfl rfl rfl rfl _), boundaryDues_clock, clock_of_keeps (joinStations_keeps offCox rfl rfl _ _)]

/-- A boundary at the end of a stroke's Recovery begins a stroke, at the new network time where a step is made there (R30). -/
theorem strokeBoundary_begins {s : State} (x : List (List (Int × Int))) (j : Int) (hmodp : s.modp = .running) (hphase : s.cox.phase = .recovery)
    (hwork : s.upd.work = none) : ∃ (t : State) (stepped : Bool), t.cox = s.cox ∧ t.modp = .running ∧
      (s.cox.ends / strokeNs % 100 ≠ 1 → stepped = false) ∧
      strokeBoundary s x j = mclkCheck (beginStroke t (some s.cox.abs) s.cox.ends stepped false) j := by
  have hheld : strokeHeld s = false := by simp [strokeHeld, hphase]
  rw [strokeBoundary, if_pos ⟨hmodp, .inl hphase⟩, boundaryAt, hheld, nextBoundary]
  have hcox : (closeMeters (advanceTo s s.cox.ends) false x).cox = s.cox := cox_of_keeps (by simp)
  have hrun : (closeMeters (advanceTo s s.cox.ends) false x).modp = .running := (modp_of_keeps (by simp)).trans hmodp
  have hidle : (closeMeters (advanceTo s s.cox.ends) false x).upd.work = none :=
    (congrArg UpdState.work (KeepsAllBut.upd (m := { Parts.all with upd := false }) (by unfold KeepsAllBut; simp) rfl)).trans hwork
  generalize closeMeters (advanceTo s s.cox.ends) false x = u at hcox hrun hidle
  have hdue : imageDue u = none := by rw [imageDue, hidle]
  have hreset : imageReset u = none := by rw [imageReset, hdue]
  have hseries : imageSeries u = u := by rw [imageSeries, hdue]
  rw [resetOrBegin, hreset, hseries, if_neg (by decide)]
  dsimp only
  unfold stepAndBegin
  extract_lets t stepped t'
  rw [Bool.false_and, if_neg (by decide)]
  refine ⟨t', stepped, ?_, ?_, fun hno => ?_, rfl⟩
  · exact (cox_of_keeps (by simp only [t', t]; split <;> simp)).trans hcox
  · exact (modp_of_keeps (by simp only [t', t]; split <;> simp)).trans hrun
  · simp only [stepped, t]
    rw [stepAt, if_neg hno, bne_self_eq_false]

theorem boundary_clock {s t : State} {prev : Option Nat} {b : Nat} {stepped : Bool} {j : Int} {x : List (List (Int × Int))}
    (h : strokeBoundary s x j = mclkCheck (beginStroke t prev b stepped false) j) (hrun : t.modp = .running) :
    strokeClock (bootRetry (strokeBoundary s x j)) = strokeClock (coxBegin t prev b stepped) ∧
      (bootRetry (strokeBoundary s x j)).modp = .running := by
  have hmodp : (strokeBoundary s x j).modp = .running := by
    rw [h]
    exact (modp_of_keeps (by simp)).trans hrun
  rw [bootRetry_running hmodp]
  refine ⟨?_, hmodp⟩
  rw [h, clock_of_keeps (mclkCheck_keeps offCox rfl _ _), beginStroke_clock]

/-- The Cox's clock read field by field. -/
theorem strokeClock_eq {s t : State} (h : strokeClock s = strokeClock t) :
    s.cox.phase = t.cox.phase ∧ s.cox.count = t.cox.count ∧ s.cox.abs = t.cox.abs ∧ s.cox.start = t.cox.start ∧ s.cox.ends = t.cox.ends ∧
      s.cox.bridging = t.cox.bridging ∧ s.cox.skipped = t.cox.skipped := by
  simp only [strokeClock, Prod.mk.injEq] at h
  obtain ⟨hphase, hcount, habs, hstart, hends, hbridging, hskipped, -⟩ := h
  exact ⟨hphase, hcount, habs, hstart, hends, hbridging, hskipped⟩

/-- An ordinary stroke begins at its boundary and lasts 10 ms. -/
theorem coxBegin_ordinary (s : State) (prev : Option Nat) (b : Nat) :
    (coxBegin s prev b false).cox = { s.cox with
      phase := .catch_, count := s.cox.count + 1, abs := (b + strokeNs) / strokeNs - 1, start := b, ends := b + strokeNs, bridging := false,
      skipped := satAdd 32 s.cox.skipped (match prev with | some a => (b + strokeNs) / strokeNs - 1 - (a + 1) | none => 0), sysHeldAt := none } := by
  cases prev <;> rfl


/-- A bridging stroke, or one at a boundary of the new time, ends at a boundary (R30). -/
theorem coxBegin_ends (s : State) (prev : Option Nat) {b : Nat} (stepped : Bool) (hb : b % strokeNs = 0) :
    (coxBegin s prev b stepped).cox.ends % strokeNs = 0 := by
  unfold coxBegin
  extract_lets on start ends
  by_cases hon : on = true
  · have hends : ends = start + strokeNs := if_pos hon
    have hstart : start % strokeNs = 0 := by
      cases hst : stepped
      · have h : start = b := by simp [start, hst]
        rw [h, hb]
      · have h : start = nowNs s / strokeNs * strokeNs := by simp [start, hst, hon]
        rw [h, Nat.mul_mod_left]
    show ends % strokeNs = 0
    rw [hends, Nat.add_mod_right, hstart]
  · have hends : ends = cdiv (start + 8500000) strokeNs * strokeNs := if_neg hon
    show ends % strokeNs = 0
    rw [hends, Nat.mul_mod_left]

theorem cdiv_mul_lt (a : Nat) {b : Nat} (hb : 0 < b) : cdiv a b * b < a + b := by
  have h : cdiv a b * b ≤ a + b - 1 := Nat.div_mul_le_self _ _
  omega

/-- The length of a stroke that begins (R30). -/
theorem coxBegin_length (s : State) (prev : Option Nat) (b : Nat) (stepped : Bool) :
    if (coxBegin s prev b stepped).cox.bridging then
      (coxBegin s prev b stepped).cox.start + 8500000 ≤ (coxBegin s prev b stepped).cox.ends ∧
        (coxBegin s prev b stepped).cox.ends < (coxBegin s prev b stepped).cox.start + 18500000
    else (coxBegin s prev b stepped).cox.ends = (coxBegin s prev b stepped).cox.start + strokeNs := by
  unfold coxBegin
  extract_lets on start ends
  show if !on then start + 8500000 ≤ ends ∧ ends < start + 18500000 else ends = start + strokeNs
  cases hon : on
  · have hends : ends = cdiv (start + 8500000) strokeNs * strokeNs := if_neg (by simp [hon])
    have hlow := le_cdiv_mul (start + 8500000) (b := strokeNs) (by decide)
    have hhigh := cdiv_mul_lt (start + 8500000) (b := strokeNs) (by decide)
    rw [if_pos (show (!false) = true from rfl), hends]
    have hstroke : strokeNs = 10000000 := rfl
    omega
  · exact if_pos hon

theorem coxBegin_numbers (s : State) (a b : Nat) (stepped : Bool) :
    (coxBegin s (some a) b stepped).cox.phase = .catch_ ∧
      (coxBegin s (some a) b stepped).cox.abs = (coxBegin s (some a) b stepped).cox.ends / strokeNs - 1 ∧
      (coxBegin s (some a) b stepped).cox.skipped = min (s.cox.skipped + ((coxBegin s (some a) b stepped).cox.abs - (a + 1))) (2 ^ 32 - 1) :=
  ⟨rfl, rfl, rfl⟩

/-- Settles O9: the clock after a boundary is that of `coxBegin`, whichever time the boundary has. -/
theorem bridgingStrokesAreBounded : Obligations.BridgingStrokesAreBounded := by
  intro s t x j hmodp hphase hwork hb ht
  obtain ⟨u, stepped, hcox, hrun, -, hbegins⟩ := strokeBoundary_begins x j hmodp hphase hwork
  have hclock := (boundary_clock hbegins hrun).1
  have ht' : t = { bootRetry (strokeBoundary s x j) with pending := s.pending } := ran_eq ht
  have hclock' : strokeClock t = strokeClock (coxBegin u (some s.cox.abs) s.cox.ends stepped) := by rw [ht']; exact hclock
  obtain ⟨h1, -, h3, h4, h5, h6, h7⟩ := strokeClock_eq hclock'
  obtain ⟨hphase', habs, hskipped⟩ := coxBegin_numbers u s.cox.abs s.cox.ends stepped
  rw [hcox] at hskipped
  have hends := coxBegin_ends u (some s.cox.abs) stepped hb
  have hlength := coxBegin_length u (some s.cox.abs) s.cox.ends stepped
  rw [h1, h3, h4, h5, h6, h7]
  exact ⟨hphase', hends, habs, hskipped, hlength⟩

/-! Drive (R20, R21). -/

theorem driveStart_cox (s : State) (n : Stn) : (driveStart s n).cox = s.cox := cox_of_keeps (driveStart_keeps offCox rfl rfl rfl s n)

theorem driveStart_stns (s : State) (n : Stn) : (driveStart s n).stns = (setStn s n fun r => { r with started := true }).stns := by
  unfold driveStart
  split
  · exact stns_of_keeps (lgtDrive_keeps offStns rfl _)
  · rfl
  · rfl

theorem driveWaiting_keeps_prog (s : State) (k n : Stn) :
    (stn (driveWaiting s k) n).prog = (stn s n).prog ∧ ((stn s n).started = true → (stn (driveWaiting s k) n).started = true) := by
  unfold driveWaiting
  split
  · rw [stn_of_stns (driveStart_stns s k)]
    by_cases hn : n = k
    · subst hn
      by_cases hidx : n.idx < s.stns.length
      · rw [stn_setStn_same _ _ _ hidx]
        exact ⟨rfl, fun _ => rfl⟩
      · have hlen : s.stns.length ≤ n.idx := Nat.not_lt.mp hidx
        simp [stn, setStn, nth, upd, List.getElem?_eq_none hlen]
    · rw [stn_setStn_other _ _ _ _ hn]
      exact ⟨rfl, id⟩
  · exact ⟨rfl, id⟩

/-- A station that waits for its Drive step has then started it. -/
theorem driveWaiting_starts {s : State} {n : Stn} (h : (stn s n).prog = [.drive]) : (stn (driveWaiting s n) n).started = true := by
  by_cases hst : (stn s n).started = true
  · exact (driveWaiting_keeps_prog s n n).2 hst
  · have hidx : n.idx < s.stns.length := idx_lt_of_stn s n fun hdefault => by simp [hdefault] at h
    rw [driveWaiting, if_pos (by simp [h, hst]), stn_of_stns (driveStart_stns s n), stn_setStn_same _ _ _ hidx]

theorem driveWaiting_foldl {n : Stn} (l : List Stn) (s : State) (hprog : (stn s n).prog = [.drive])
    (h : n ∈ l ∨ (stn s n).started = true) : (stn (l.foldl driveWaiting s) n).started = true := by
  induction l generalizing s with
  | nil => simpa using h
  | cons k l ih =>
    obtain ⟨hkeeps, hstays⟩ := driveWaiting_keeps_prog s k n
    refine ih _ (hkeeps.trans hprog) ?_
    rcases h with hmem | hstarted
    · rcases List.mem_cons.mp hmem with rfl | htail
      · exact .inr (driveWaiting_starts hprog)
      · exact .inl htail
    · exact .inr (hstays hstarted)

theorem driveWaiting_foldl_off (l : List Stn) (s : State) :
    (l.foldl driveWaiting s).cox = s.cox ∧ (l.foldl driveWaiting s).tim.sub = s.tim.sub := by
  refine List.foldlRecOn (motive := fun (t : State) => t.cox = s.cox ∧ t.tim.sub = s.tim.sub) _ _ ⟨rfl, rfl⟩ fun t ht n _ => ?_
  obtain ⟨hcox, hsub⟩ := ht
  unfold driveWaiting
  split
  · refine ⟨(driveStart_cox t n).trans hcox, ?_⟩
    unfold driveStart
    split
    · exact (congrArg TimState.sub (KeepsAllBut.tim (m := { lgt := true }) (lgtDrive_keeps _ rfl _) rfl)).trans hsub
    · exact hsub
    · exact hsub
  · exact ⟨hcox, hsub⟩

/-- DRIVE at whatever time it comes. -/
theorem drive_starts (s u : State) (hu : KeepsAllBut offTim s u) :
    (finishDuty.foldl driveWaiting (setPhase u .drive)).cox = { s.cox with phase := .drive } ∧
      (finishDuty.foldl driveWaiting (setPhase u .drive)).tim.sub = u.tim.sub ∧
      ∀ n ∈ finishDuty, (stn s n).prog = [.drive] → (stn (finishDuty.foldl driveWaiting (setPhase u .drive)) n).started = true := by
  obtain ⟨hcox, hsub⟩ := driveWaiting_foldl_off finishDuty (setPhase u .drive)
  refine ⟨by rw [hcox, setPhase, hu.cox rfl], hsub, fun n hn hprog => driveWaiting_foldl _ _ ?_ (.inl hn)⟩
  rw [stn_of_stns (show (setPhase u .drive).stns = s.stns from hu.stns rfl), hprog]

theorem advanceTo_passed {s : State} {ns : Nat} (h : 0 < addend s) : ns * frac ≤ (advanceTo s ns).tim.sub := advanceSub_reaches (ns * frac) h

/-! The first stroke (R101). -/

/-- The state in which the first stroke begins. -/
def readyToRun (s : State) : State := sunUpdate (wakeReached (startRecord (startEnds (advanceTo s (firstBoundary s)))))

theorem readyToRun_modp (s : State) : (readyToRun s).modp = .running :=
  modp_of_keeps (s := startEnds (advanceTo s (firstBoundary s))) (by simp [readyToRun])

theorem firstStroke_begins {s : State} (hmodp : s.modp = .starting) (hset : s.tim.set = true) (hready : allStations s .ready = true) :
    firstStroke s = beginStroke (readyToRun s) none (firstBoundary s) false false := if_pos ⟨hmodp, hset, hready⟩

theorem firstBoundary_eq (s : State) : firstBoundary s = (if s.tim.sub % (giga * frac) < addend s then nowSec s else nowSec s + 1) * giga := by
  unfold firstBoundary
  split <;> rfl

theorem firstBoundary_second (s : State) : firstBoundary s % giga = 0 := by
  rw [firstBoundary_eq]
  exact Nat.mul_mod_left _ giga

/-- R19: strokes follow each other every 10 ms. -/
theorem strokeBoundary_follows {s : State} (x : List (List (Int × Int))) (j : Int) (hmodp : s.modp = .running) (hphase : s.cox.phase = .recovery)
    (hwork : s.upd.work = none) (hends : s.cox.ends = (s.cox.abs + 1) * strokeNs) (hstroke : s.cox.ends / strokeNs % 100 ≠ 1)
    (hskipped : s.cox.skipped < 2 ^ 32) : ∃ u, exec (.strokeBoundary x j) s = ran s u ∧
      u.cox.phase = .catch_ ∧ u.cox.start = s.cox.ends ∧ u.cox.ends = s.cox.ends + strokeNs ∧ u.cox.bridging = false ∧
      u.cox.count = s.cox.count + 1 ∧ u.cox.abs = s.cox.abs + 1 ∧ u.cox.skipped = s.cox.skipped ∧ u.modp = .running := by
  obtain ⟨u, stepped, hcox, hrun, hstep, hbegins⟩ := strokeBoundary_begins x j hmodp hphase hwork
  obtain ⟨hclock, hmodp'⟩ := boundary_clock hbegins hrun
  rw [hstep hstroke] at hclock
  refine ⟨bootRetry (strokeBoundary s x j), rfl, ?_⟩
  generalize bootRetry (strokeBoundary s x j) = v at hclock hmodp'
  obtain ⟨h1, h2, h3, h4, h5, h6, h7⟩ := strokeClock_eq hclock
  rw [coxBegin_ordinary, hcox] at h1 h2 h3 h4 h5 h6 h7
  have habs : (s.cox.ends + strokeNs) / strokeNs - 1 = s.cox.abs + 1 := by
    rw [hends, ← Nat.succ_mul, Nat.mul_div_cancel _ (by decide), Nat.succ_sub_one]
  dsimp only at h1 h2 h3 h4 h5 h6 h7
  rw [habs, Nat.sub_self, satAdd_zero hskipped] at h7
  exact ⟨h1, h4, h5, h6, h2, h3.trans habs, h7, hmodp'⟩

/-- R101: the first stroke is stroke 0 of a second. -/
theorem firstStroke_starts {s : State} (hmodp : s.modp = .starting) (hset : s.tim.set = true) (hready : allStations s .ready = true) :
    ∃ u, exec .firstStroke s = ran s u ∧ u.modp = .running ∧ u.cox.phase = .catch_ ∧ u.cox.start = firstBoundary s ∧
      u.cox.ends = firstBoundary s + strokeNs := by
  have hexec : exec .firstStroke s = ran s (firstStroke s) := rfl
  rw [firstStroke_begins hmodp hset hready] at hexec
  refine ⟨_, hexec, ?_⟩
  obtain ⟨h1, -, -, h4, h5, -, -⟩ := strokeClock_eq (beginStroke_clock (readyToRun s) none (firstBoundary s) false false)
  rw [coxBegin_ordinary] at h1 h4 h5
  exact ⟨(modp_of_keeps (by simp)).trans (readyToRun_modp s), h1, h4, h5⟩

/-- Settles O8: by the clock that `coxBegin` sets at each boundary, and by the stations that DRIVE passes over. -/
theorem strokesFollowTheTimeline : Obligations.StrokesFollowTheTimeline := by
  refine ⟨fun s x j hmodp hphase hwork hends hstroke hskipped => ?boundary, fun s hmodp hphase => ?drive, fun s hmodp hset hready => ?first⟩
  case boundary =>
    obtain ⟨u, hexec, hnext⟩ := strokeBoundary_follows x j hmodp hphase hwork hends hstroke hskipped
    exact done_ran hexec hnext
  case drive =>
    obtain ⟨hcox, hsub, hstarts⟩ := drive_starts s (advanceTo s (driveNs s)) (advanceTo_keeps _ rfl s _)
    refine done_of (u := drive s) rfl (KeepsAllBut.pending (m := { cox := true, stns := true, tim := true, lgt := true }) (drive_keeps _ rfl rfl rfl rfl s) rfl) ?_
    rw [drive, if_pos ⟨hmodp, hphase⟩]
    exact ⟨hcox, fun hadd => Nat.le_trans (advanceTo_passed hadd) (Nat.le_of_eq hsub.symm), hstarts⟩
  case first =>
    obtain ⟨u, hexec, hrun, hphase, hstart, hends⟩ := firstStroke_starts hmodp hset hready
    refine done_ran hexec ⟨hrun, hphase, hstart.trans (firstBoundary_eq s), hends.trans (by rw [← hstart]), ?_⟩
    exact (congrArg (· % giga) hstart).trans (firstBoundary_second s)

end Sys2Proof.Machine
end

section
/-! FINISH: the judgement of the stations and the scrub (R24, R27, R65). -/
namespace Sys2Proof.Machine

/-! The judgement of one station. -/

/-- The record of a station that took part, after it is judged. -/
def judgedRec (late : Bool) (r : StnRec) : StnRec :=
  { r with hist := (late :: r.hist).take 100, crabs := if late then inc32 r.crabs else r.crabs, prog := [], started := false }

theorem judged_took {s : State} {n : Stn} (h : inStroke s n = true) :
    judged s n = setStn s n (judgedRec (decide ((stn s n).prog ≠ []))) := by
  have hcrabs : crabs s n = decide ((stn s n).prog ≠ []) := by rw [crabs, h, Bool.true_and]
  rw [judged, if_neg (by simp [h]), hcrabs]
  rfl

theorem judged_other {s : State} {n k : Stn} (h : k ≠ n) : stn (judged s n) k = stn s k := by
  unfold judged
  split
  · rfl
  · exact stn_setStn_other _ _ _ _ h

theorem idx_lt_of_inStroke {s : State} {n : Stn} (h : inStroke s n = true) : n.idx < s.stns.length :=
  idx_lt_of_stn s n fun hdefault => by simp [inStroke, hdefault] at h

theorem inStroke_congr {s t : State} {n : Stn} (h : stn t n = stn s n) : inStroke t n = inStroke s n := by
  rw [inStroke, inStroke, isRunning, isRunning, h]

/-- Each station that took part is judged once; the others keep their records. -/
theorem judged_foldl {n : Stn} (l : List Stn) (s : State) (hl : l.Nodup) :
    (n ∉ l → stn (l.foldl judged s) n = stn s n) ∧
      (n ∈ l → inStroke s n = true → stn (l.foldl judged s) n = judgedRec (decide ((stn s n).prog ≠ [])) (stn s n)) := by
  induction l generalizing s with
  | nil => exact ⟨fun _ => rfl, nofun⟩
  | cons k l ih =>
    obtain ⟨hk, hl⟩ := List.nodup_cons.mp hl
    obtain ⟨hout, hin⟩ := ih (judged s k) hl
    refine ⟨fun hn => ?_, fun hn htook => ?_⟩
    · obtain ⟨hne, hnl⟩ := not_or.mp (mt List.mem_cons.mpr hn)
      rw [List.foldl_cons, hout hnl, judged_other hne]
    · by_cases hne : n = k
      · subst hne
        rw [List.foldl_cons, hout hk, judged_took htook, stn_setStn_same _ _ _ (idx_lt_of_inStroke htook)]
      · have hsame := judged_other (s := s) hne
        rw [List.foldl_cons, hin ((List.mem_cons.mp hn).resolve_left hne) (by rw [inStroke_congr hsame]; exact htook), hsame]

/-! What the faults of a Finish leave of a judgement. -/

/-- The result of a station's stroke stands, whatever becomes of the station. -/
def Recorded (n : Stn) (r : StnRec) (s : State) : Prop := (stn s n).crabs = r.crabs ∧ (stn s n).hist = r.hist ∧ (stn s n).prog = []

theorem Recorded.of_stn {n : Stn} {r : StnRec} {s t : State} (h : Recorded n r s) (hstn : stn t n = stn s n) : Recorded n r t := by
  unfold Recorded at *
  rwa [hstn]

theorem Recorded.stationFault {n : Stn} {r : StnRec} {s : State} (h : Recorded n r s) (k : Stn) (c : StnCause) : Recorded n r (stationFault s k c) := by
  by_cases hk : stationsUp s = true ∧ Faultable s k
  · obtain ⟨-, hstns, -⟩ := stationFault_parts c hk.1 hk.2
    by_cases hne : n = k
    · subst hne
      have hstn := stn_upd_same hstns (idx_lt_of_fresh hk.2.1)
      unfold Recorded
      rw [hstn]
      exact ⟨h.1, h.2.1, rfl⟩
    · exact h.of_stn (stn_upd_other hstns hne)
  · rwa [stationFault_ignored c hk]

theorem Recorded.takeFault {n : Stn} {r : StnRec} {s : State} (h : Recorded n r s) (k : Stn) (c : StnCause) : Recorded n r (takeFault s k c) := by
  unfold Sys2Proof.Machine.takeFault
  split
  · exact h
  · exact seriesFault_keeps_of (P := Recorded n r) (fun h hparts => h.of_stn (stn_of_stns hparts.2.1 n)) (fun _ k h => h.stationFault k .microcode)
      (fun _ _ h => h) (h.stationFault k c) k c

theorem Recorded.crabLimit {n : Stn} {r : StnRec} {s : State} (h : Recorded n r s) (k : Stn) : Recorded n r (crabLimit s k) := by
  unfold Sys2Proof.Machine.crabLimit
  split
  · exact h.takeFault k .crab
  · exact h

/-- With no update under way the crab limit is a fault of that station alone. -/
theorem crabLimit_idle {s : State} {k : Stn} (hwork : s.upd.work = none) :
    (crabLimit s k).upd = s.upd ∧ (crabLimit s k).modp = s.modp ∧ (∀ n, n ≠ k → stn (crabLimit s k) n = stn s n) ∧
      (∀ x, x ∈ s.cox.faults → x ∈ (crabLimit s k).cox.faults) ∧ (crabLimit s k).sys.pos = s.sys.pos := by
  have hstays : s.upd = s.upd ∧ s.modp = s.modp ∧ (∀ n, n ≠ k → stn s n = stn s n) ∧ (∀ x, x ∈ s.cox.faults → x ∈ s.cox.faults) ∧
      s.sys.pos = s.sys.pos := ⟨rfl, rfl, fun _ _ => rfl, fun _ => id, rfl⟩
  unfold crabLimit takeFault
  split
  · split
    · exact hstays
    · have hupd : (stationFault s k .crab).upd = s.upd :=
        KeepsAllBut.upd (m := { Parts.all with upd := false }) (stationFault_keeps _ rfl rfl rfl rfl rfl rfl s k .crab) rfl
      have hmodp : (stationFault s k .crab).modp = s.modp := modp_of_keeps (stationFault_keeps _ rfl rfl rfl rfl rfl rfl s k .crab)
      have hseries : seriesFault (stationFault s k .crab) k .crab = stationFault s k .crab := by
        unfold seriesFault
        rw [hupd, hwork]
      rw [hseries]
      by_cases hk : stationsUp s = true ∧ Faultable s k
      · obtain ⟨hcox, hstns, hsys⟩ := stationFault_parts .crab hk.1 hk.2
        exact ⟨hupd, hmodp, fun n hn => stn_upd_other hstns hn, fun x hx => hcox ▸ List.mem_append_left _ hx, by rw [hsys]⟩
      · rw [stationFault_ignored .crab hk]
        exact hstays
  · exact hstays

/-- A station that is in FAULT for its crabs. -/
def CrabFault (n : Stn) (s : State) : Prop := (stn s n).state = .fault ∧ (n, .crab) ∈ s.cox.faults

theorem CrabFault.of_parts {n : Stn} {s t : State} (h : CrabFault n s) (hstns : t.stns = s.stns) (hcox : t.cox = s.cox) : CrabFault n t := by
  unfold CrabFault at *
  rwa [stn_of_stns hstns, hcox]

theorem crabLimit_faults {s : State} {n : Stn} (hup : stationsUp s = true) (htook : inStroke s n = true) (hcount : 8 ≤ (stn s n).hist.count true) :
    CrabFault n (crabLimit s n) := by
  have hrun : (stn s n).state = .running := by
    rw [inStroke, isRunning, Bool.and_eq_true] at htook
    exact of_decide_eq_true htook.1
  have hfault := takeFault_faulted .crab hup (n := n) ⟨by simp [inReset, hrun], by simp [hrun]⟩
  rw [crabLimit, if_pos (by simp [htook, hcount])]
  exact ⟨hfault.1, hfault.2.1⟩

/-- A station in FAULT takes part in nothing, so its own limit changes nothing more. -/
theorem CrabFault.crabLimit {n : Stn} {s : State} (h : CrabFault n s) (hwork : s.upd.work = none) (k : Stn) : CrabFault n (crabLimit s k) := by
  obtain ⟨-, -, hother, hfaults, -⟩ := crabLimit_idle (k := k) hwork
  by_cases hk : n = k
  · subst hk
    have hstays : Sys2Proof.Machine.crabLimit s n = s := if_neg (by simp [inStroke, isRunning, h.1])
    rwa [hstays]
  · exact ⟨by rw [hother n hk]; exact h.1, hfaults _ h.2⟩

/-- With no update under way every station over the limit faults (R27). -/
theorem crabLimit_foldl {n : Stn} (l : List Stn) (s : State) (hwork : s.upd.work = none) (hup : stationsUp s = true)
    (h : CrabFault n s ∨ n ∈ l ∧ inStroke s n = true ∧ 8 ≤ (stn s n).hist.count true) : CrabFault n (l.foldl crabLimit s) := by
  induction l generalizing s with
  | nil => simpa using h
  | cons k l ih =>
    obtain ⟨hupd, hmodp, hother, -, -⟩ := crabLimit_idle (k := k) hwork
    refine ih _ (hupd ▸ hwork) (stationsUp_of_modp hmodp ▸ hup) ?_
    rcases h with hfault | ⟨hmem, htook, hcount⟩
    · exact .inl (hfault.crabLimit hwork k)
    · by_cases hk : n = k
      · subst hk
        exact .inl (crabLimit_faults hup htook hcount)
      · have hsame := hother n hk
        exact .inr ⟨(List.mem_cons.mp hmem).resolve_left hk, by rw [inStroke_congr hsame]; exact htook, by rw [hsame]; exact hcount⟩

theorem crabLimit_foldl_sys {l : List Stn} (s : State) (hwork : s.upd.work = none) (hl : Stn.sys ∉ l) :
    stn (l.foldl crabLimit s) .sys = stn s .sys ∧ (l.foldl crabLimit s).sys.pos = s.sys.pos := by
  induction l generalizing s with
  | nil => exact ⟨rfl, rfl⟩
  | cons k l ih =>
    obtain ⟨hk, hl⟩ := not_or.mp (mt List.mem_cons.mpr hl)
    obtain ⟨hupd, -, hother, -, hpos⟩ := crabLimit_idle (k := k) hwork
    obtain ⟨hstn, hpos'⟩ := ih _ (hupd ▸ hwork) hl
    exact ⟨hstn.trans (hother _ hk), hpos'.trans hpos⟩

/-! The judgement as a whole. -/

/-- The state whose stations meet the crab limit. -/
def crabsCounted (s : State) : State :=
  seriesStroke ((finishDuty.filter (crabs s)).foldl crabEffect (finishDuty.foldl judged s)) fun n => (finishDuty.filter (crabs s)).contains n

/-- Every part but those that a crab changes. -/
theorem crabsCounted_parts (s : State) : (crabsCounted s).stns = (finishDuty.foldl judged s).stns ∧ (crabsCounted s).cox = s.cox ∧
    (crabsCounted s).sys = s.sys ∧ (crabsCounted s).modp = s.modp := by
  have hlate : ∀ t : State, KeepsAllBut { tim := true, lgt := true, crs := true, rad := true, mtr := true, evq := true, upd := true } t
      (seriesStroke ((finishDuty.filter (crabs s)).foldl crabEffect t) fun n => (finishDuty.filter (crabs s)).contains n) := fun t =>
    (seriesStroke_keeps _ rfl _ _).trans (foldl_keeps _ _ _ _ fun s n => crabEffect_keeps _ rfl rfl rfl rfl rfl rfl s n)
  have hjudged : KeepsAllBut { stns := true } s (finishDuty.foldl judged s) := foldl_keeps _ _ _ _ fun s n => judged_keeps _ rfl s n
  have hcounted : KeepsAllBut _ _ (crabsCounted s) := hlate (finishDuty.foldl judged s)
  exact ⟨hcounted.stns rfl, (hcounted.cox rfl).trans (hjudged.cox rfl), (hcounted.sys rfl).trans (hjudged.sys rfl),
    (hcounted.modp rfl).trans (hjudged.modp rfl)⟩

theorem crabsCounted_idle {s : State} (h : s.upd.work = none) : (crabsCounted s).upd.work = none := by
  have hbefore : ((finishDuty.filter (crabs s)).foldl crabEffect (finishDuty.foldl judged s)).upd = s.upd :=
    (KeepsAllBut.upd (m := { Parts.all with upd := false })
      (foldl_keeps _ _ _ _ fun s n => crabEffect_keeps _ rfl rfl rfl rfl rfl rfl s n) rfl).trans
    (KeepsAllBut.upd (m := { stns := true }) (foldl_keeps _ _ _ _ fun s n => judged_keeps _ rfl s n) rfl)
  unfold crabsCounted seriesStroke
  rw [hbefore, h]
  exact hbefore ▸ h

theorem judge_parts (s : State) : (judge s).stns = (finishDuty.foldl crabLimit (crabsCounted s)).stns ∧
    (judge s).cox = (finishDuty.foldl crabLimit (crabsCounted s)).cox ∧
    (judge s).sys.pos = (finishDuty.foldl crabLimit (crabsCounted s)).sys.pos := by
  unfold judge
  extract_lets late effects series limits clean
  have hlimits : limits = finishDuty.foldl crabLimit (crabsCounted s) := rfl
  rw [← hlimits]
  clear_value limits
  exact ⟨rfl, rfl, rfl⟩

theorem crabsCounted_stn {s : State} {n : Stn} (hn : n ∈ finishDuty) (htook : inStroke s n = true) :
    stn (crabsCounted s) n = judgedRec (decide ((stn s n).prog ≠ [])) (stn s n) :=
  (stn_of_stns (crabsCounted_parts s).1 n).trans ((judged_foldl finishDuty s (by decide)).2 hn htook)

/-- Each station that took part has the result of the stroke (R24, R27). -/
theorem judge_records {s : State} {n : Stn} (hn : n ∈ finishDuty) (htook : inStroke s n = true) :
    Recorded n (judgedRec (decide ((stn s n).prog ≠ [])) (stn s n)) (judge s) := by
  have hcounted : Recorded n (judgedRec (decide ((stn s n).prog ≠ [])) (stn s n)) (crabsCounted s) := by
    unfold Recorded
    rw [crabsCounted_stn hn htook]
    exact ⟨rfl, rfl, rfl⟩
  have hlimits : Recorded n _ (finishDuty.foldl crabLimit (crabsCounted s)) :=
    List.foldlRecOn (motive := Recorded n _) _ _ hcounted fun t ht k _ => ht.crabLimit k
  exact hlimits.of_stn (stn_of_stns (judge_parts s).1 n)

/-- With no update under way a station over the limit is in FAULT (R27). -/
theorem judge_faults {s : State} {n : Stn} (hup : stationsUp s = true) (hwork : s.upd.work = none) (hn : n ∈ finishDuty) (htook : inStroke s n = true)
    (hcount : 8 ≤ ((decide ((stn s n).prog ≠ []) :: (stn s n).hist).take 100).count true) : CrabFault n (judge s) := by
  have hstn := crabsCounted_stn hn htook
  have hstill : inStroke (crabsCounted s) n = true := by
    rw [inStroke, isRunning, hstn]
    exact htook
  have hmany : 8 ≤ (stn (crabsCounted s) n).hist.count true := by rw [hstn]; exact hcount
  have hfault := crabLimit_foldl finishDuty (crabsCounted s) (crabsCounted_idle hwork)
    ((stationsUp_of_modp (crabsCounted_parts s).2.2.2).trans hup) (.inr ⟨hn, hstill, hmany⟩)
  obtain ⟨hstns, hcox, -⟩ := judge_parts s
  exact hfault.of_parts hstns hcox

/-- With no update under way SYS stands as it stood. -/
theorem judge_sys {s : State} (hwork : s.upd.work = none) : stn (judge s) .sys = stn s .sys ∧ (judge s).sys.pos = s.sys.pos := by
  obtain ⟨hstns, -, hsys, -⟩ := crabsCounted_parts s
  obtain ⟨hstn, hpos⟩ := crabLimit_foldl_sys (l := finishDuty) (crabsCounted s) (crabsCounted_idle hwork) (by decide)
  refine ⟨(stn_of_stns (judge_parts s).1 _).trans (hstn.trans ((stn_of_stns hstns _).trans ?_)), (judge_parts s).2.2.trans (hpos.trans (by rw [hsys]))⟩
  exact (judged_foldl finishDuty s (by decide)).1 (by decide)

/-! Finish. -/

/-- The housekeeping of a Recovery without errors in memory, up to its scrub. -/
def housekeeping (s : State) (temps : List (Option Int)) : State :=
  let s := if isRunning s .rad then rxFloorsSave (natRebuild s) else s
  let s := if isRunning s .crs then nbrFloorsSave s else s
  distStep (fallbackTrack (ringsServed (sunUpdate (peersAsked (reportsSend (evqDrain (mtrRecovery s temps)))))))

/-- Stations with complete work at Finish. -/
def complete (s : State) (n : Stn) : Bool := (finishDuty.filter fun n => inStroke s n && (stn s n).prog = []).contains n

/-- What becomes visible at Finish. -/
def published (s : State) : State :=
  let lgt := inStroke s .lgt
  let s := finishWork (judge s) (complete s)
  if lgt then lgtHours s else s

theorem stageHits_nil (s : State) : stageHits s [] = s := rfl

theorem guardHits_nil (s : State) : guardHits s [] = s := rfl

theorem recoveryWork_clean (s : State) (owner : Option Stn) (temps : List (Option Int)) :
    recoveryWork s [] [] owner temps = scrub (housekeeping s temps) [] owner := by
  unfold recoveryWork housekeeping
  simp only [stageHits_nil, guardHits_nil]

theorem finishNow_clean (s : State) (owner : Option Stn) (temps : List (Option Int)) :
    finishNow s [] [] owner temps = scrub (housekeeping (setPhase (published s) .recovery) temps) [] owner := by
  rw [← recoveryWork_clean]
  rfl

/-- The parts that judgement, publication and housekeeping leave alone. -/
abbrev offFinish : Parts := { Parts.all with cox := false, stns := false, sys := false, mem := false, modp := false, pending := true }

/-- What the housekeeping leaves as it was. -/
structure Housekept (s t : State) : Prop where
  cox : t.cox = s.cox
  stns : t.stns = s.stns
  sys : t.sys = s.sys
  mem : t.mem = s.mem
  modp : t.modp = s.modp
  ahead : t.ahead = s.ahead

theorem Housekept.of_keeps {s t : State} (h : masked offFinish t = masked offFinish s) : Housekept s t :=
  have h : KeepsAllBut offFinish s t := h
  ⟨h.cox rfl, h.stns rfl, h.sys rfl, h.mem rfl, h.modp rfl, h.ahead rfl⟩

theorem housekeeping_housekept (s : State) (temps : List (Option Int)) : Housekept s (housekeeping s temps) := by
  refine .of_keeps ?_
  unfold housekeeping
  extract_lets t u
  have ht : masked offFinish t = masked offFinish s := by simp only [t]; split <;> simp
  have hu : masked offFinish u = masked offFinish t := by simp only [u]; split <;> simp
  simp [hu, ht]

theorem published_housekept (s : State) : Housekept (judge s) (published s) := by
  refine .of_keeps ?_
  unfold published
  extract_lets lgt t
  have ht : masked offFinish t = masked offFinish (judge s) := by simp [t]
  split <;> simp [ht]

/-- A clean word moves the scrub on by one (R65). -/
def scrubbed (x : SysState) : SysState :=
  { x with pos := (x.pos + 1) % sramWords, passes := if x.pos + 1 = sramWords then inc32 x.passes else x.passes }

theorem scrub_clean (s : State) (owner : Option Stn) : scrub s [] owner = if isRunning s .sys then { s with sys := scrubbed s.sys } else s := by
  unfold scrub
  cases isRunning s .sys <;> rfl

/-- What FINISH leaves with main SRAM read clean. -/
structure Finishes (s t : State) : Prop where
  phase : t.cox.phase = .recovery
  mem : t.mem = s.mem
  modp : t.modp = s.modp
  ahead : t.ahead = s.ahead
  faults : t.cox.faults = (judge s).cox.faults
  stns : t.stns = (judge s).stns
  pos : isRunning (judge s) .sys = true → t.sys.pos = ((judge s).sys.pos + 1) % 262144

theorem finishNow_finishes (s : State) (owner : Option Stn) (temps : List (Option Int)) : Finishes s (finishNow s [] [] owner temps) := by
  have hjudge : KeepsAllBut { Parts.all with mem := false, modp := false } s (judge s) := by
    unfold KeepsAllBut
    simp
  have hpub := published_housekept s
  have hkept := housekeeping_housekept (setPhase (published s) .recovery) temps
  rw [finishNow_clean, scrub_clean]
  generalize housekeeping (setPhase (published s) .recovery) temps = w at hkept
  have hphase : w.cox.phase = .recovery := by rw [hkept.cox]; rfl
  have hfaults : w.cox.faults = (judge s).cox.faults := by rw [hkept.cox, ← hpub.cox]; rfl
  have hmem : w.mem = s.mem := hkept.mem.trans (hpub.mem.trans (hjudge.mem rfl))
  have hmodp : w.modp = s.modp := hkept.modp.trans (hpub.modp.trans (hjudge.modp rfl))
  have hahead : w.ahead = s.ahead := hkept.ahead.trans (hpub.ahead.trans (hjudge.ahead rfl))
  have hstns : w.stns = (judge s).stns := hkept.stns.trans hpub.stns
  have hsys : w.sys = (judge s).sys := hkept.sys.trans hpub.sys
  have hrun : isRunning w .sys = isRunning (judge s) .sys := by rw [isRunning, stn_of_stns hstns, isRunning]
  split
  · refine ⟨hphase, hmem, hmodp, hahead, hfaults, hstns, fun _ => ?_⟩
    show (scrubbed w.sys).pos = _
    rw [hsys, scrubbed, sramWords]
  · next hheld => exact ⟨hphase, hmem, hmodp, hahead, hfaults, hstns, fun hjudged => absurd (hrun.trans hjudged) hheld⟩

/-- Finish of a stroke with main SRAM read clean. -/
theorem finish_finishes {s : State} (owner : Option Stn) (temps : List (Option Int)) (ahead : Ahead) (hmodp : s.modp = .running)
    (hphase : s.cox.phase = .drive) : ∃ u v, exec (.finish [] ⟨[], owner⟩ temps ahead) s = ran s v ∧
      KeepsAllBut { tim := true, ahead := true } s u ∧ u.ahead = ahead ∧ Finishes u v := by
  have hexec : exec (.finish [] ⟨[], owner⟩ temps ahead) s = ran s (bootRetry (finish { s with ahead := ahead } [] [] owner temps)) := rfl
  rw [finish, if_pos ⟨hmodp, hphase⟩] at hexec
  have hu : KeepsAllBut { tim := true, ahead := true } s (advanceTo { s with ahead := ahead } (finishNs { s with ahead := ahead })) :=
    advanceTo_keeps _ rfl _ _
  have hahead : (advanceTo { s with ahead := ahead } (finishNs { s with ahead := ahead })).ahead = ahead :=
    KeepsAllBut.ahead (m := offTim) (advanceTo_keeps offTim rfl _ _) rfl
  have hfin := finishNow_finishes (advanceTo { s with ahead := ahead } (finishNs { s with ahead := ahead })) owner temps
  rw [bootRetry_running (hfin.modp.trans ((hu.modp rfl).trans hmodp))] at hexec
  exact ⟨_, _, hexec, hu, hahead, hfin⟩

/-- Settles O11: the stations are judged on the state of Finish, and what follows leaves their records alone. -/
theorem finishJudgesEveryStation : Obligations.FinishJudgesEveryStation := by
  intro s owner temps ahead hmodp hphase
  obtain ⟨u, v, hexec, hu, hahead, hfin⟩ := finish_finishes owner temps ahead hmodp hphase
  have hstns : u.stns = s.stns := hu.stns rfl
  have hstn : ∀ n, stn u n = stn s n := stn_of_stns hstns
  have hsys : u.sys = s.sys := hu.sys rfl
  have hup : stationsUp u = true := by simp [stationsUp, hu.modp rfl, hmodp]
  have hout : ∀ n, stn v n = stn (judge u) n := stn_of_stns hfin.stns
  have hafter : ∀ n, stn { v with pending := s.pending } n = stn (judge u) n := hout
  refine done_ran hexec ⟨hfin.phase, hfin.ahead.trans hahead, hfin.mem.trans (hu.mem rfl), fun n hn htook => ?_, fun hwork => ⟨fun n hn htook hcount => ?_, fun hrun => ?_⟩⟩
  · have hrec := judge_records hn ((inStroke_congr (hstn n)).trans htook)
    unfold Recorded judgedRec at hrec
    obtain ⟨hcrabs, hhist, hprog⟩ := hrec
    rw [hafter, ← hstn]
    exact ⟨by simpa using hcrabs, hhist, hprog⟩
  · rw [← hstn] at hcount
    obtain ⟨hstate, hfault⟩ := judge_faults hup ((congrArg UpdState.work (hu.upd rfl)).trans hwork) hn ((inStroke_congr (hstn n)).trans htook) hcount
    have hqueued : (n, StnCause.crab) ∈ v.cox.faults := by rw [hfin.faults]; exact hfault
    exact ⟨by rw [hafter]; exact hstate, hqueued⟩
  · obtain ⟨hsame, hpos⟩ := judge_sys (s := u) ((congrArg UpdState.work (hu.upd rfl)).trans hwork)
    have hjudged : isRunning (judge u) .sys = true := by rw [isRunning, hsame, hstn]; exact hrun
    exact (hfin.pos hjudged).trans (by rw [hpos, hsys])

end Sys2Proof.Machine
end

section
/-! CALLs that are admitted (R442, R443, R468 to R472). -/
namespace Sys2Proof.Machine

/-! What a CALL's record says while the CALL runs (R466, R467). -/

/-- What the record of CALL `h` says. -/
def CallSays (s : State) (h : Nat) (P : CallRec → Prop) : Prop := ∀ c, s.calls[h]? = some c → P c

theorem CallSays.of_calls {s t : State} {h : Nat} {P : CallRec → Prop} (hs : CallSays s h P) (hcalls : t.calls = s.calls) : CallSays t h P := by
  rw [CallSays, hcalls]
  exact hs

theorem CallSays.mono {s : State} {h : Nat} {P Q : CallRec → Prop} (hs : CallSays s h P) (hPQ : ∀ c, P c → Q c) : CallSays s h Q :=
  fun c hc => hPQ c (hs c hc)

theorem CallSays.setCall {s : State} {h : Nat} {P Q : CallRec → Prop} {f : CallRec → CallRec} (hs : CallSays s h P) (hf : ∀ c, P c → Q (f c)) :
    CallSays (setCall s h f) h Q := by
  intro c hc
  obtain ⟨c', hc', rfl⟩ := Option.map_eq_some_iff.mp ((upd_get_same s.calls h f).symm.trans hc)
  exact hf c' (hs c' hc')

theorem CallSays.callState {s : State} {h : Nat} {P Q : CallRec → Prop} {f : CallRec → CallRec} (hs : CallSays s h P) (hf : ∀ c, P c → Q (f c)) :
    CallSays (callState s h f) h Q := by
  have hset : CallSays (Sys2Proof.Machine.setCall s h f) h Q := hs.setCall hf
  unfold Sys2Proof.Machine.callState
  extract_lets old changed
  split
  · exact hset
  · exact hset.of_calls (callEvent_calls changed h)

/-- A CALL under way ends. -/
theorem CallSays.endCall {s : State} {h : Nat} {P Q : CallRec → Prop} (st : CallSt) (e : Err) (hs : CallSays s h P)
    (hlive : ∀ c, P c → callLive c = true)
    (hf : ∀ c, P c → Q { c with state := st, err := e, progress := if st = .done then 10000 else c.progress, finalAt := some s.tim.cyc,
                                cancelAt := none, todo := [] }) : CallSays (endCall s h st e) h Q := by
  unfold Sys2Proof.Machine.endCall
  split
  · next hdead =>
    intro c hc
    have hcall := hlive c (hs c hc)
    rw [call_of_get hc, hcall] at hdead
    exact absurd hdead (by decide)
  · exact hs.callState hf

/-- A CALL with room in its window takes an entry. -/
theorem CallSays.callEntry {s : State} {h : Nat} {P Q : CallRec → Prop} (b : List Byte) (hs : CallSays s h P)
    (hroom : ∀ c, P c → callLive c = true ∧ c.results - c.taken < winCapacity c)
    (hf : ∀ c, P c → Q { c with win := tput c.win (c.results % winCapacity c) b, results := c.results + 1, state := .partial_ }) :
    CallSays (callEntry s h b) h Q := by
  cases hget : s.calls[h]? with
  | none =>
    intro c hc
    have hsame := callEntry_taken s h b
    have hlen := congrArg (·[h]?) hsame
    simp [hget, hc] at hlen
  | some c =>
    obtain ⟨hlive, hwin⟩ := hroom c (hs c hget)
    have hcall := call_of_get hget
    unfold Sys2Proof.Machine.callEntry
    rw [hcall, if_neg (by simp [hlive]), if_neg (Nat.not_le.mpr hwin)]
    exact hs.callState hf

/-- The record that an admitted CALL begins with. -/
structure Fresh (p : CallPlan) (c : CallRec) : Prop where
  state : c.state = if p.queued then .queued else .running
  op : c.op = p.op
  size : c.size = p.size
  results : c.results = 0
  taken : c.taken = 0

theorem Fresh.live {p : CallPlan} {c : CallRec} (h : Fresh p c) : callLive c = true := by
  rw [callLive, h.state]
  cases p.queued <;> rfl

/-- A CALL whose window holds entries has room for its first. -/
theorem Fresh.room {p : CallPlan} {c : CallRec} (h : Fresh p c) (hsize : 0 < p.size ∧ p.size ≤ 65536) :
    callLive c = true ∧ c.results - c.taken < winCapacity c := by
  refine ⟨h.live, ?_⟩
  rw [h.results, h.taken, winCapacity, h.size, if_neg (by omega)]
  exact Nat.div_pos hsize.2 hsize.1

theorem takeCall_says (s : State) (h station : Nat) (p : CallPlan) : CallSays (takeCall s h station p) h (Fresh p) := by
  have hany : CallSays s h fun _ => True := fun _ _ => trivial
  exact hany.setCall fun c _ => ⟨rfl, rfl, rfl, rfl, rfl⟩

/-! The state in which an admitted CALL starts, and what its answer leaves. -/

/-- The state in which the CALL of a request starts its work. -/
def callStarts (s : State) (q : VtpReq) (p : State → CallPlan) (h : Nat) : State :=
  callEvent (takeCall (meets s q) h q.station (p (meets s q))) h

/-- The parts that the admission of a CALL changes. -/
abbrev offAdmitted : Parts := { vtp := true, stns := true, pwr := true, upd := true, calls := true, evq := true }

theorem callStarts_keeps (s : State) (q : VtpReq) (p : State → CallPlan) (h : Nat) : KeepsAllBut offAdmitted s (callStarts s q p h) := by
  have hmeets : KeepsAllBut offAdmitted s (meets s q) := by
    unfold KeepsAllBut meets
    rw [atServe_keeps offAdmitted rfl _ _ (fun _ => rfl) (fun _ => rfl) (fun _ => rfl)]
    exact received_keeps offAdmitted rfl s q
  exact (callEvent_keeps offAdmitted rfl _ h).trans ((takeCall_keeps offAdmitted rfl _ _ _ _).trans hmeets)

theorem callStarts_says (s : State) (q : VtpReq) (p : State → CallPlan) (h : Nat) : CallSays (callStarts s q p h) h (Fresh (p (meets s q))) :=
  (takeCall_says (meets s q) h q.station (p (meets s q))).of_calls (callEvent_calls _ h)

/-- The parts that a CALL's answer changes. -/
abbrev offAnswer : Parts := { vtp := true, eth := true, pending := true }

/-- An admitted CALL does its work, and is then answered. -/
theorem call_done {c : Instr} {s : State} {q : VtpReq} {err : State → Err} {p : State → CallPlan} {start : State → Nat → State}
    {bad : Err → State → State} {h : Nat} {P : State → Prop} (hexec : exec c s = ran s (vtpCall s q err p start bad)) (hc : CallOk s q err p h)
    (hP : ∀ t, KeepsAllBut offAnswer (start (callStarts s q p h) h) t → P t) : Done c s P := by
  rw [vtpCall_ok hc] at hexec
  refine done_ran hexec (hP _ ?_)
  exact answer_keeps offAnswer rfl rfl (start (callStarts s q p h) h) q _

theorem CallSays.of_answer {s t : State} {h : Nat} {P : CallRec → Prop} (hs : CallSays s h P) (ht : KeepsAllBut offAnswer s t) : CallSays t h P :=
  hs.of_calls (ht.calls rfl)

/-! The CALLs of SYS (R468). -/

theorem endCall_says {s : State} {h : Nat} {p : CallPlan} {Q : CallRec → Prop} (st : CallSt) (e : Err) (hs : CallSays s h (Fresh p))
    (hf : ∀ c, Fresh p c → Q { c with state := st, err := e, progress := if st = .done then 10000 else c.progress, finalAt := some s.tim.cyc,
                                      cancelAt := none, todo := [] }) : CallSays (endCall s h st e) h Q :=
  hs.endCall st e (fun _ hc => hc.live) hf

theorem endCall_offCalls (s : State) (h : Nat) (st : CallSt) (e : Err) : KeepsAllBut { calls := true, evq := true } s (endCall s h st e) :=
  endCall_keeps _ rfl rfl s h st e

theorem moduleResetCall_does {s : State} {m : CallMeta} {h : Nat} (hc : CallOk s (callReq m 0 2 []) (fun _ => .ok) moduleResetPlan h) :
    Done (.moduleResetCall m []) s fun t =>
      t.sys.resetAt = some (s.tim.cyc + msCyc 100) ∧ t.sys.resetCause = 8 ∧ t.modp = s.modp ∧ CallSays t h (·.state = .done) := by
  refine call_done rfl hc fun t ht => ?_
  have hstart := callStarts_keeps s (callReq m 0 2 []) moduleResetPlan h
  have hsays := callStarts_says s (callReq m 0 2 []) moduleResetPlan h
  generalize callStarts s (callReq m 0 2 []) moduleResetPlan h = u at ht hstart hsays
  have hend := endCall_offCalls u h .done .ok
  have htim : (endCall u h .done .ok).tim.cyc = s.tim.cyc := congrArg TimState.cyc ((hend.tim rfl).trans (hstart.tim rfl))
  refine ⟨?_, ?_, (ht.modp rfl).trans ((hend.modp rfl).trans (hstart.modp rfl)), ?_⟩
  · rw [ht.sys rfl, ← htim]
  · rw [ht.sys rfl]
  · exact (endCall_says .done .ok hsays (Q := (·.state = .done)) fun _ _ => rfl).of_calls (ht.calls rfl)

theorem meets_other {s : State} {q : VtpReq} (hq : q.station ≠ 11) : KeepsAllBut { vtp := true } s (meets s q) := by
  rw [meets_eq hq]
  rfl

theorem callStarts_stns {s : State} {q : VtpReq} (p : State → CallPlan) (h : Nat) (hq : q.station ≠ 11) :
    (callStarts s q p h).stns = s.stns := by
  have hevent : (callStarts s q p h).stns = (meets s q).stns :=
    KeepsAllBut.stns (m := { calls := true, evq := true }) ((callEvent_keeps _ rfl _ h).trans (takeCall_keeps _ rfl _ _ _ _)) rfl
  exact hevent.trans ((meets_other hq).stns rfl)

/-- A station that runs and is asked to reset faults, and waits for it (R35). -/
theorem stationResetAsked_faults {u : State} {n : Stn} (h : Nat) (hup : stationsUp u = true) (hrun : isRunning u n = true) (hn : n ≠ .upd) :
    Faulted n .call (stationResetAsked u h n) ∧ ∀ {P : CallRec → Prop}, CallSays u h P →
      CallSays (stationResetAsked u h n) h fun c => ∃ c', P c' ∧ c = { c' with arg := n.idx } := by
  have hstate : (stn u n).state = .running := of_decide_eq_true hrun
  have hfresh : inReset (setCall u h fun c => { c with arg := n.idx }) n = false := by
    have hstn : (stn (setCall u h fun c => { c with arg := n.idx }) n).state = .running := hstate
    simp [inReset, hstn]
  have heq : stationResetAsked u h n = stationFault (setCall u h fun c => { c with arg := n.idx }) n .call := by
    unfold stationResetAsked
    dsimp only
    rw [if_neg hn, if_neg (by simp [hfresh])]
  rw [heq]
  refine ⟨stationFault_faulted .call hup ⟨hfresh, ?_⟩, fun {P} hs => ?_⟩
  · show (stn u n).state ≠ .off
    rw [hstate]
    decide
  · have hset : CallSays (setCall u h fun c => { c with arg := n.idx }) h fun c => ∃ c', P c' ∧ c = { c' with arg := n.idx } :=
      hs.setCall fun c hc => ⟨c, hc, rfl⟩
    exact hset.of_calls (KeepsAllBut.calls (m := { Parts.all with calls := false }) (stationFault_keeps _ rfl rfl rfl rfl rfl rfl _ n .call) rfl)

theorem resetArg_single {b : Byte} {n : Stn} (h : Stn.ofIdx b.toNat = some n) : resetArg [b] = some n := by
  have harg : argAt [b] 0 1 = b.toNat := by simp [argAt, ofLe]
  rw [resetArg, harg, h]

theorem stationResetCall_does {s : State} {m : CallMeta} {b : Byte} {n : Stn} {h : Nat} (hb : Stn.ofIdx b.toNat = some n) (hup : stationsUp s = true)
    (hrun : isRunning s n = true) (hn : n ≠ .upd)
    (hc : CallOk s (callReq m 0 1 [b]) (stationResetErr · [b]) (stationResetPlan [b]) h) :
    Done (.stationResetCall m [b]) s fun t =>
      (stn t n).state = .fault ∧ (n, .call) ∈ t.cox.faults ∧
        CallSays t h fun c => c.state = (if s.cox.resetting = none ∧ s.cox.faults = [] then .running else .queued) ∧ c.arg = n.idx := by
  have harg : (resetArg [b]).getD .sys = n := by rw [resetArg_single hb]; rfl
  have hqueued : (stationResetPlan [b] (meets s (callReq m 0 1 [b]))).queued = (s.cox.resetting.isSome || s.cox.faults ≠ []) := by
    have hcox : (meets s (callReq m 0 1 [b])).cox = s.cox := (meets_keeps s _).cox rfl
    rw [stationResetPlan, hcox]
  refine call_done rfl hc fun t ht => ?_
  have hstart := callStarts_keeps s (callReq m 0 1 [b]) (stationResetPlan [b]) h
  have hsays := callStarts_says s (callReq m 0 1 [b]) (stationResetPlan [b]) h
  have hstns := callStarts_stns (s := s) (q := callReq m 0 1 [b]) (stationResetPlan [b]) h (show (0 : Nat) ≠ 11 by decide)
  generalize callStarts s (callReq m 0 1 [b]) (stationResetPlan [b]) h = u at ht hstart hsays hstns
  rw [harg] at ht
  obtain ⟨hfault, hrec⟩ := stationResetAsked_faults h ((stationsUp_of_modp (hstart.modp rfl)).trans hup)
    (by rw [isRunning, stn_of_stns hstns]; exact hrun) hn
  refine ⟨by rw [stn_of_stns (ht.stns rfl)]; exact hfault.1, by rw [ht.cox rfl]; exact hfault.2.1, ((hrec hsays).of_answer ht).mono ?_⟩
  rintro c ⟨c', hfresh, rfl⟩
  refine ⟨hfresh.state.trans ?_, rfl⟩
  rw [hqueued]
  cases s.cox.resetting <;> cases s.cox.faults <;> rfl

/-! The anchor and keys (R442, R443). -/

theorem anchor_does {s : State} {m : CallMeta} {a : List Byte} {b : Option Nat} {h : Nat}
    (hc : CallOk s (callReq m 11 6 a) (anchorErr · m.vtp.session a b) anchorPlan h) :
    Done (.anchor m.vtp m.deadline a b) s fun t =>
      (argAt a 0 1 = 0 → t.keys = { s.keys with anchor := some s.cfg.validated.certKey, coSign := argAt a 1 1 = 1 }) ∧
      (argAt a 0 1 ≠ 0 → t.keys = { s.keys with anchor := some (argAt a 2 64), coSign := argAt a 1 1 = 1, rollCtr := argAt a 66 4 }) := by
  refine call_done (h := h) rfl hc fun t ht => ?_
  have hstart := callStarts_keeps s (callReq m 11 6 a) anchorPlan h
  generalize callStarts s (callReq m 11 6 a) anchorPlan h = u at ht hstart
  have hkeys := ht.keys rfl
  rw [(endCall_offCalls _ h .done .ok).keys rfl] at hkeys
  refine ⟨fun hbind => ?_, fun hroll => ?_⟩
  · rw [hkeys, if_pos hbind, ← hstart.keys rfl, ← hstart.cfg rfl]
    rfl
  · rw [hkeys, if_neg hroll, ← hstart.keys rfl]
    rfl

/-- Meeting a request leaves the transfer but for its BUSY, which a power-up of UPD clears (R411). -/
theorem meets_xfer (s : State) (q : VtpReq) : ∃ busy, (meets s q).upd.xfer = { s.upd.xfer with busy := busy } := by
  have hreceived : (received s q).upd = s.upd := KeepsAllBut.upd (m := { vtp := true }) (received_keeps _ rfl s q) rfl
  unfold meets atServe updUse updPowered
  split
  · split
    · exact ⟨false, by rw [← hreceived]; rfl⟩
    · exact ⟨s.upd.xfer.busy, by rw [← hreceived]; rfl⟩
  · exact ⟨s.upd.xfer.busy, by rw [← hreceived]; rfl⟩

theorem callStarts_xfer (s : State) (q : VtpReq) (p : State → CallPlan) (h : Nat) :
    ∃ busy, (callStarts s q p h).upd.xfer = { s.upd.xfer with busy := busy } := by
  obtain ⟨busy, hbusy⟩ := meets_xfer s q
  have hevent : (callStarts s q p h).upd = (meets s q).upd :=
    KeepsAllBut.upd (m := { calls := true, evq := true }) ((callEvent_keeps _ rfl _ h).trans (takeCall_keeps _ rfl _ _ _ _)) rfl
  exact ⟨busy, by rw [hevent, hbusy]⟩

theorem xferReady_congr {s u : State} {busy : Bool} (h : u.upd.xfer = { s.upd.xfer with busy := busy }) (k : Nat) : xferReady u k = xferReady s k := by
  rw [xferReady, h, xferReady]

theorem keyBatch_congr {s u : State} {busy : Bool} (h : u.upd.xfer = { s.upd.xfer with busy := busy }) (hflash : u.flash = s.flash)
    (l : List KeySecret) : keyBatch u l = keyBatch s l := by
  have hstaged : stagedBytes u = stagedBytes s := by rw [stagedBytes, h, hflash, stagedBytes, xferBlocks, xferBlocks]
  rw [keyBatch, hstaged, keyBatch]

theorem keyEntryErr_congr {s u : State} (hkeys : u.keys = s.keys) (hrad : u.rad = s.rad) (e : KeyEntry) (x : KeySecret) :
    keyEntryErr u e x = keyEntryErr s e x := by
  rw [keyEntryErr, hkeys, natEnt, hrad, keyEntryErr, natEnt]

/-- An entry for a node's device key is imported. -/
theorem importKey_device {u : State} {h : Nat} {e : KeyEntry} {x : KeySecret} {k : BitVec 128} (hok : keyEntryErr u e x = .ok) (hslot : e.slot < 0x1000)
    (hk : unwrapped x.z e = some k) : importKey h u (e, x) =
      callWord (deviceKey (setKeys u fun y => { y with importCtr := e.ctr }) e.slot { key := k, born := nowSec u }) h
        (pack [(24, Err.ok.code), (0, e.slot)]) := by
  unfold importKey
  dsimp only
  rw [hok, hk]
  dsimp only
  rw [if_pos hslot]
  rfl

theorem callWord_says {s : State} {h : Nat} {p : CallPlan} (w : Word) (hs : CallSays s h (Fresh p)) (hsize : 0 < p.size ∧ p.size ≤ 65536) :
    CallSays (callWord s h w) h fun c => c.state = .partial_ ∧ c.results = 1 :=
  hs.callEntry _ (fun _ hc => hc.room hsize) fun _ hc => ⟨rfl, congrArg (· + 1) hc.results⟩

theorem partial_live {c : CallRec} (h : c.state = .partial_) : callLive c = true := by
  rw [callLive, h]
  rfl

/-- A CALL that has written its one entry is DONE with it. -/
theorem endCall_one {s : State} {h : Nat} (hs : CallSays s h fun c => c.state = .partial_ ∧ c.results = 1) :
    CallSays (endCall s h .done .ok) h fun c => c.state = .done ∧ c.results = 1 :=
  hs.endCall .done .ok (fun _ hc => partial_live hc.1) fun _ hc => ⟨rfl, hc.2⟩

theorem keyStart_one {u : State} (h : Nat) {e : KeyEntry} {x : KeySecret} {k : BitVec 128} (hready : xferReady u 6 = true)
    (hwhole : u.upd.xfer.length % 172 = 0) (hbatch : keyBatch u [x] = [(e, x)]) (hok : keyEntryErr u e x = .ok) (hslot : e.slot < 0x1000)
    (hk : unwrapped x.z e = some k) : keyStart u h [x] = endCall (callWord
      (deviceKey (setKeys u fun y => { y with importCtr := e.ctr }) e.slot { key := k, born := nowSec u }) h (pack [(24, Err.ok.code), (0, e.slot)])) h .done .ok := by
  rw [keyStart, if_neg (by simp [hready, hwhole]), hbatch, ← importKey_device hok hslot hk]
  rfl

theorem keyImport_does {s : State} {m : CallMeta} {e : KeyEntry} {x : KeySecret} {k : BitVec 128} {h : Nat} (hready : xferReady s 6 = true)
    (hwhole : s.upd.xfer.length % 172 = 0) (hbatch : keyBatch s [x] = [(e, x)]) (hok : keyEntryErr s e x = .ok) (hslot : e.slot < 0x1000)
    (hk : unwrapped x.z e = some k) (hc : CallOk s (callReq m 11 5 []) (plainErr · 5 []) keyPlan h) :
    Done (.keyImport m [] [x]) s fun t =>
      t.keys = { s.keys with importCtr := e.ctr, device := tput s.keys.device e.slot { key := k, born := nowSec s } } ∧
        CallSays t h fun c => c.state = .done ∧ c.results = 1 := by
  refine call_done rfl hc fun t ht => ?_
  have hstart := callStarts_keeps s (callReq m 11 5 []) keyPlan h
  have hsays := callStarts_says s (callReq m 11 5 []) keyPlan h
  obtain ⟨busy, hxfer⟩ := callStarts_xfer s (callReq m 11 5 []) keyPlan h
  generalize callStarts s (callReq m 11 5 []) keyPlan h = u at ht hstart hsays hxfer
  have hkeys : u.keys = s.keys := hstart.keys rfl
  have hsec : nowSec u = nowSec s := nowSec_congr (hstart.tim rfl)
  rw [keyStart_one h ((xferReady_congr hxfer 6).trans hready) (by rw [hxfer]; exact hwhole) ((keyBatch_congr hxfer (hstart.flash rfl) _).trans hbatch)
    ((keyEntryErr_congr hkeys (hstart.rad rfl) e x).trans hok) hslot hk] at ht
  refine ⟨?_, ?_⟩
  · have hword : KeepsAllBut { calls := true, evq := true } _ _ := callWord_keeps _ rfl rfl
      (deviceKey (setKeys u fun y => { y with importCtr := e.ctr }) e.slot { key := k, born := nowSec u }) h (pack [(24, Err.ok.code), (0, e.slot)])
    rw [ht.keys rfl, (endCall_offCalls _ h .done .ok).keys rfl, hword.keys rfl, ← hkeys, ← hsec]
    rfl
  · have hkey : CallSays (deviceKey (setKeys u fun y => { y with importCtr := e.ctr }) e.slot { key := k, born := nowSec u }) h (Fresh _) :=
      hsays.of_calls rfl
    exact (endCall_one (callWord_says _ hkey (show 0 < 4 ∧ 4 ≤ 65536 by decide))).of_answer ht

/-! The CALLs of RAD (R470 to R472). -/

theorem newIndex_congr {s u : State} (h : u.rad = s.rad) : newIndex u = newIndex s := by rw [newIndex, h, newIndex]

theorem enrolEnt_congr {s u : State} (h : u.rad = s.rad) (a : List Byte) : enrolEnt u a = enrolEnt s a := by rw [enrolEnt, h, enrolEnt]

theorem natAdd_taken (s : State) (i : Nat) (e : NatEnt) : (natAdd s i e).2 = (hashInsert (tput s.rad.nat i e) s.rad.hash i).isSome := by
  unfold natAdd
  dsimp only
  cases hashInsert (tput s.rad.nat i e) s.rad.hash i <;> rfl

/-- An insertion that the tables take places its entry. -/
theorem natAdd_places {s : State} {i : Nat} {e : NatEnt} (h : (natAdd s i e).2 = true) : natEnt (natAdd s i e).1 i = some e := by
  unfold natAdd at *
  dsimp only at *
  cases hins : hashInsert (tput s.rad.nat i e) s.rad.hash i with
  | none => simp [hins] at h
  | some table =>
    dsimp only
    have hrad : ∀ u : State, (natSaved u).rad = u.rad := fun u =>
      KeepsAllBut.rad (m := { ledr := true, ledBad := true }) (natSaved_keeps _ rfl rfl u) rfl
    rw [natEnt, hrad]
    exact tget_tput_same _ _ _

theorem enrolErr_inserts {s : State} {a : List Byte} (h : enrolErr s a = .ok) : (natAdd s (newIndex s) (enrolEnt s a)).2 = true := by
  unfold enrolErr at h
  dsimp only at h
  cases htaken : (natAdd s (newIndex s) (enrolEnt s a)).2 with
  | true => rfl
  | false =>
    rw [htaken, Bool.not_false, if_pos rfl] at h
    repeat' split at h
    all_goals cases h

theorem lanternEnrolment_does {s : State} {m : CallMeta} {a : List Byte} {h : Nat}
    (hc : CallOk s (callReq m 4 1 a) (enrolErr · a) enrolPlan h) :
    Done (.lanternEnrolment m a) s fun t =>
      natEnt t (newIndex s) = some (enrolEnt s a) ∧ CallSays t h fun c => c.state = .done ∧ c.results = 1 := by
  have hmeets : (meets s (callReq m 4 1 a)).rad = s.rad := (meets_keeps s _).rad rfl
  have htaken := enrolErr_inserts hc.2.1
  rw [natAdd_taken, newIndex_congr hmeets, enrolEnt_congr hmeets, hmeets] at htaken
  refine call_done rfl hc fun t ht => ?_
  have hstart := callStarts_keeps s (callReq m 4 1 a) enrolPlan h
  have hsays := callStarts_says s (callReq m 4 1 a) enrolPlan h
  generalize callStarts s (callReq m 4 1 a) enrolPlan h = u at ht hstart hsays
  have hrad : u.rad = s.rad := hstart.rad rfl
  dsimp only at ht
  rw [newIndex_congr hrad, enrolEnt_congr hrad] at ht
  have hplaced : natEnt (natAdd u (newIndex s) (enrolEnt s a)).1 (newIndex s) = some (enrolEnt s a) :=
    natAdd_places (by rw [natAdd_taken, hrad]; exact htaken)
  have hadd : KeepsAllBut { rad := true, ledr := true, ledBad := true } u (natAdd u (newIndex s) (enrolEnt s a)).1 := natAdd_keeps _ rfl rfl rfl u _ _
  generalize (natAdd u (newIndex s) (enrolEnt s a)).1 = v at ht hplaced hadd
  have hword : KeepsAllBut { calls := true, evq := true } v (callWord v h (w32 (newIndex s))) := callWord_keeps _ rfl rfl v h _
  refine ⟨?_, (endCall_one (callWord_says _ (hsays.of_calls (hadd.calls rfl)) (show 0 < 4 ∧ 4 ≤ 65536 by decide))).of_answer ht⟩
  rw [natEnt, ht.rad rfl, (endCall_offCalls _ h .done .ok).rad rfl, hword.rad rfl]
  exact hplaced

/-- A scan that begins stays the one that runs. -/
theorem scanStart_runs (s : State) (h ports : Nat) (test : Bool) (secs : Nat) : ∃ c, (scanStart s h ports test secs).rad.scan = some c ∧
    c.call = h ∧ c.ports = ports ∧ c.endNs = nowNs s + secs * giga := by
  unfold scanStart
  extract_lets held begun
  refine List.foldlRecOn (motive := fun (t : State) => ∃ c, t.rad.scan = some c ∧ c.call = h ∧ c.ports = ports ∧ c.endNs = nowNs s + secs * giga)
    _ _ ⟨_, rfl, rfl, rfl, rfl⟩ fun t ht i _ => ?_
  have hnat : ∀ (u : State) (i : Nat) (f : NatEnt → NatEnt), (setNat u i f).rad.scan = u.rad.scan := fun u i f => by
    unfold setNat
    split <;> rfl
  have huni : ∀ (u : State) (x : Unicast), (queueUni u x).rad.scan = u.rad.scan := fun u x => by
    unfold queueUni
    split <;> rfl
  have hout : ∀ (u : State), (sendOutcome u h i 3).rad = u.rad := fun u =>
    KeepsAllBut.rad (m := { calls := true, evq := true }) (sendOutcome_keeps _ rfl rfl u h i 3) rfl
  have hheld : (setDyn (setNat t i NatEnt.explicitNow) i fun d => { d with test := true }).rad.scan = t.rad.scan := hnat t i _
  dsimp only
  split
  · rw [huni, hheld]
    exact ht
  · rw [hout, hheld]
    exact ht

theorem commissioningScan_does {s : State} {m : CallMeta} {a : List Byte} {h : Nat}
    (hc : CallOk s (callReq m 4 2 a) (scanErr · a) (scanPlan a) h) :
    Done (.commissioningScan m a) s fun t =>
      (s.rad.scan = none → ∃ c, t.rad.scan = some c ∧ c.call = h ∧ c.ports = argAt a 0 1 ∧ c.endNs = nowNs s + argAt a 2 2 * giga) ∧
      (s.rad.scan.isSome = true → t.rad.scan = s.rad.scan ∧ CallSays t h (·.state = .queued)) := by
  have hqueued : (scanPlan a (meets s (callReq m 4 2 a))).queued = s.rad.scan.isSome := by
    have hmeets : (meets s (callReq m 4 2 a)).rad = s.rad := (meets_keeps s _).rad rfl
    rw [scanPlan, hmeets]
  refine call_done rfl hc fun t ht => ?_
  have hstart := callStarts_keeps s (callReq m 4 2 a) (scanPlan a) h
  have hsays := callStarts_says s (callReq m 4 2 a) (scanPlan a) h
  generalize callStarts s (callReq m 4 2 a) (scanPlan a) h = u at ht hstart hsays
  have hset : CallSays (setCall u h fun c => { c with arg := argAt a 0 4 }) h fun c => c.state = if s.rad.scan.isSome then .queued else .running :=
    hsays.setCall fun c hc => by rw [← hqueued]; exact hc.state
  have hrad : (setCall u h fun c => { c with arg := argAt a 0 4 }).rad = s.rad := hstart.rad rfl
  have hnow : nowNs (setCall u h fun c => { c with arg := argAt a 0 4 }) = nowNs s := nowNs_congr (hstart.tim rfl)
  dsimp only at ht
  generalize (setCall u h fun c => { c with arg := argAt a 0 4 }) = v at ht hset hrad hnow
  rw [hrad] at ht
  refine ⟨fun hnone => ?_, fun hsome => ?_⟩
  · rw [if_neg (by simp [hnone])] at ht
    rw [ht.rad rfl, ← hnow]
    exact scanStart_runs v h _ _ _
  · rw [if_pos hsome] at ht
    rw [if_pos hsome] at hset
    exact ⟨by rw [ht.rad rfl, hrad], hset.of_answer ht⟩

theorem inContact_congr {s u : State} (hrad : u.rad = s.rad) (htim : u.tim = s.tim) (i : Nat) : inContact u i = inContact s i := by
  rw [inContact, natEnt, nodeDyn, hrad, nowNs_congr htim, inContact, natEnt, nodeDyn]

/-- A node send's outcome ends its CALL with one entry. -/
theorem sendOutcome_ends {s : State} {h : Nat} {p : CallPlan} (i outcome : Nat) (hs : CallSays s h (Fresh p)) (hp : p.op = 3 ∧ p.size = 4) :
    CallSays (sendOutcome s h i outcome) h fun c => c.state = .done ∧ c.results = 1 := by
  unfold sendOutcome
  have hdone := endCall_one (callWord_says (pack [(28, outcome), (16, i)]) hs (by rw [hp.2]; decide))
  cases hget : s.calls[h]? with
  | none =>
    have hop : (call s h).op = 0 := by simp [call, nth, List.getD, hget]
    rw [if_neg (by rw [hop]; decide)]
    exact hdone
  | some c =>
    have hop : (call s h).op = 3 := by rw [call_of_get hget, (hs c hget).op, hp.1]
    rw [if_neg (by rw [hop]; decide)]
    exact hdone

theorem queueUni_calls (s : State) (x : Unicast) : (queueUni s x).calls = s.calls :=
  KeepsAllBut.calls (m := { rad := true }) (queueUni_keeps _ rfl s x) rfl

theorem nodeSend_does {s : State} {m : CallMeta} {a : List Byte} {h : Nat} (hc : CallOk s (callReq m 4 3 a) (nodeSendErr · a) sendPlan h) :
    Done (.nodeSend m a) s fun t => CallSays t h fun c =>
      c.state = (if inContact s (argAt a 0 2) then .running else .done) ∧ c.results = if inContact s (argAt a 0 2) then 0 else 1 := by
  refine call_done rfl hc fun t ht => ?_
  have hstart := callStarts_keeps s (callReq m 4 3 a) sendPlan h
  have hsays := callStarts_says s (callReq m 4 3 a) sendPlan h
  generalize callStarts s (callReq m 4 3 a) sendPlan h = u at ht hstart hsays
  dsimp only at ht
  rw [inContact_congr (hstart.rad rfl) (hstart.tim rfl)] at ht
  cases hcontact : inContact s (argAt a 0 2) with
  | false =>
    rw [hcontact, if_pos (by rfl)] at ht
    exact (sendOutcome_ends _ 3 hsays ⟨rfl, rfl⟩).of_answer ht
  | true =>
    rw [hcontact, if_neg (by decide)] at ht
    exact ((hsays.of_calls (queueUni_calls _ _)).of_answer ht).mono fun c hfresh => ⟨hfresh.state, hfresh.results⟩

/-! Exports (R469). -/

theorem callEntry_matched {s : State} {h n : Nat} (b : List Byte) (hs : CallSays s h (·.matched = n)) : CallSays (callEntry s h b) h (·.matched = n) := by
  have hend : ∀ (st : CallSt) (e : Err), CallSays (endCall s h st e) h (·.matched = n) := fun st e => by
    unfold endCall
    split
    · exact hs
    · exact hs.callState fun _ hc => hc
  unfold callEntry
  extract_lets c
  split
  · exact hs
  · split
    · exact hend _ _
    · exact hs.callState fun _ hc => hc

/-- CALLs that give out records keep the number they matched. -/
theorem exportRun_matched (h n k : Nat) (s : State) (hs : CallSays s h (·.matched = n)) : CallSays (exportRun s h k) h (·.matched = n) := by
  induction k generalizing s with
  | zero => exact hs
  | succ k ih =>
    unfold exportRun
    extract_lets c
    split
    · unfold endCall
      split
      · exact hs
      · exact hs.callState fun _ hc => hc
    · split
      · exact hs
      · exact ih _ ((callEntry_matched _ hs).setCall fun _ hc => hc)

theorem exportStart_matched {s : State} {h : Nat} {p : CallPlan} (l : List (List Byte)) (hs : CallSays s h (Fresh p)) :
    CallSays (exportStart s h l) h (·.matched = l.length) :=
  exportRun_matched h _ _ _ (hs.setCall fun _ _ => rfl)

theorem profileMatches_congr {s u : State} (hledm : u.ledm = s.ledm) (hflash : u.flash = s.flash) (a b c : Nat) :
    profileMatches u a b c = profileMatches s a b c := by rw [profileMatches, hledm, hflash, profileMatches]

theorem profileExport_does {s : State} {m : CallMeta} {a : List Byte} {h : Nat} (hgood : .cfg ∉ s.flashBad)
    (hc : CallOk s (callReq m 8 1 a) (fun _ => exportErr a) exportPlan h) :
    Done (.profileExport m a) s fun t =>
      CallSays t h (·.matched = (profileMatches s (argAt a 4 4) (argAt a 8 4) (argAt a 0 1)).length) := by
  refine call_done rfl hc fun t ht => ?_
  have hstart := callStarts_keeps s (callReq m 8 1 a) exportPlan h
  have hsays := callStarts_says s (callReq m 8 1 a) exportPlan h
  generalize callStarts s (callReq m 8 1 a) exportPlan h = u at ht hstart hsays
  dsimp only at ht
  rw [flashWrite_good id (by rw [hstart.flashBad rfl]; exact hgood), profileMatches_congr (hstart.ledm rfl) (hstart.flash rfl), if_pos rfl] at ht
  exact ((exportStart_matched _ hsays).mono fun c hm => hm.trans (List.length_map _)).of_answer ht

/-- A CALL that has no record to give out is DONE at once. -/
theorem exportStart_nil {s : State} {h : Nat} {p : CallPlan} (hs : CallSays s h (Fresh p)) :
    CallSays (exportStart s h []) h fun c => c.state = .done ∧ c.matched = 0 ∧ c.results = 0 := by
  have hset : CallSays (setCall s h fun c => { c with todo := [], matched := 0 }) h fun c => (callLive c = true ∧ c.todo = []) ∧ c.matched = 0 ∧ c.results = 0 :=
    hs.setCall fun c hc => ⟨⟨hc.live, rfl⟩, rfl, hc.results⟩
  have hrun : exportStart s h [] = endCall (setCall s h fun c => { c with todo := [], matched := 0 }) h .done .ok := by
    have htodo : (call (setCall s h fun c => { c with todo := [], matched := 0 }) h).todo = [] := by
      cases hget : s.calls[h]? with
      | some c => rw [call_of_get (setCall_same hget _)]
      | none =>
        have hnone : (setCall s h fun c => { c with todo := [], matched := 0 }).calls[h]? = none := (upd_get_same _ _ _).trans (by rw [hget]; rfl)
        simp [call, nth, List.getD, hnone]
    show exportRun (setCall s h fun c => { c with todo := [], matched := 0 }) h 1 = _
    rw [exportRun, htodo]
  rw [hrun]
  exact hset.endCall .done .ok (fun _ hc => hc.1.1) fun _ hc => ⟨rfl, hc.2⟩

theorem captureExport_does {s : State} {m : CallMeta} {a : List Byte} {h : Nat}
    (hc : CallOk s (callReq m 2 1 a) (fun _ => exportErr a) exportPlan h) :
    Done (.captureExport m a) s fun t => ∀ c, t.calls[h]? = some c → s.led.capLog = [] → c.state = .done ∧ c.matched = 0 ∧ c.results = 0 := by
  refine call_done rfl hc fun t ht c hget hlog => ?_
  have hstart := callStarts_keeps s (callReq m 2 1 a) exportPlan h
  have hsays := callStarts_says s (callReq m 2 1 a) exportPlan h
  generalize callStarts s (callReq m 2 1 a) exportPlan h = u at ht hstart hsays
  dsimp only at ht
  rw [hstart.led rfl, hlog] at ht
  exact ((exportStart_nil hsays).of_answer ht) c hget

/-- Settles O26: each CALL does its work on the state in which it is admitted, and its answer changes sessions and Ethernet alone. -/
theorem callsDoTheirWork : Obligations.CallsDoTheirWork := by
  exact ⟨fun s m h hc => moduleResetCall_does hc, fun s m b n h hb hup hrun hn hc => stationResetCall_does hb hup hrun hn hc,
    fun s m a b h hc => anchor_does hc,
    fun s m e x k h hready hwhole hbatch hok hslot hk hc => keyImport_does hready hwhole hbatch hok hslot hk hc,
    fun s m a h hc => lanternEnrolment_does hc, fun s m a h hc => commissioningScan_does hc, fun s m a h hc => nodeSend_does hc,
    fun s m a h hgood hc => profileExport_does hgood hc, fun s m a h hc => captureExport_does hc⟩

end Sys2Proof.Machine
end

section
/-! Handoffs that are repeated (R189, R315). -/
namespace Sys2Proof.Machine

/-- A handoff whose first attempt was 1 µs into network time. -/
def dueHandoff : Handoff := { nbr := 0, corr := 0, ident := 0, counter := 0, data := [], firstAt := some 1000 }

/-- A module of which every station runs, with a frame of 1500 octets that port 0 has just begun to send and that handoff to repeat. -/
def handoffModule : State :=
  { State.reset with
    stns := State.reset.stns.map fun r => { r with state := .running }
    eth := { State.reset.eth with ports := [{ up := true, sending := some { frame := { octets := 1500 }, tq := 1 } }] }
    crs := { State.reset.crs with handoffs := [dueHandoff] } }

/-- The greatest backlog of port 0 (R320). -/
def maxBacklogOf (x : EthState) : Option Nat := x.ports[0]?.map EthPort.maxBacklog

theorem repeat_handoffModule : maxBacklogOf (handoffRepeat handoffModule 0 0).eth = some 1493 := by decide +kernel

theorem transmit_handoffModule : maxBacklogOf (transmitHandoff handoffModule dueHandoff).eth = some 1618 := by decide +kernel

/-- Refutes O51: the repetition joins the queue when it is due, and by then part of the frame on the wire has been sent; the backlog that ETH notes
(R320) is smaller than that of the transmission in the state before, which the statement takes. -/
theorem not_handoffsAreCarriedThrough : ¬ Obligations.HandoffsAreCarriedThrough := by
  rintro ⟨hsent, -⟩
  obtain ⟨hrepeat, -⟩ := hsent handoffModule 0 0 1000 dueHandoff (by decide) (by decide) rfl rfl
  obtain ⟨t, ht, -, heth, -⟩ := hrepeat (Nat.zero_le _)
  have hran : t.eth = (handoffRepeat handoffModule 0 0).eth := by rw [ran_eq ht]
  have hbacklog := congrArg maxBacklogOf (hran.symm.trans heth)
  rw [repeat_handoffModule, transmit_handoffModule] at hbacklog
  exact absurd hbacklog (by decide)

end Sys2Proof.Machine
end

section
/-! What RAD knows of its nodes, through what it sends, acknowledges and accepts: entries outside their link's counters, and a node's working data
outside its contact (R213 to R222, R246). -/
namespace Sys2Proof.Machine

/-! ## The entries, the working data and the group counters -/

/-- What RAD knows of its nodes. -/
def book (s : State) : Tab NatEnt × Tab NodeDyn × List Nat := (s.rad.nat, s.rad.dyn, s.rad.groupCtr)

/-- Every part but RAD. -/
abbrev offRad : Parts := { Parts.all with rad := false, pending := true }

theorem rad_of_keeps {s t : State} (h : masked offRad t = masked offRad s) : t.rad = s.rad := KeepsAllBut.rad (m := offRad) h rfl

theorem book_of_rad {s t : State} (h : t.rad = s.rad) : book t = book s := by rw [book, h, book]

theorem natEnt_of_book {s t : State} (h : book t = book s) (i : Nat) : natEnt t i = natEnt s i :=
  congrArg (fun b : Tab NatEnt × Tab NodeDyn × List Nat => tget b.1 i) h

theorem nodeDyn_of_book {s t : State} (h : book t = book s) (i : Nat) : nodeDyn t i = nodeDyn s i :=
  congrArg (fun b : Tab NatEnt × Tab NodeDyn × List Nat => tgetD b.2.1 i {}) h

theorem nat_of_book {s t : State} (h : book t = book s) : t.rad.nat = s.rad.nat := congrArg Prod.fst h

theorem groupCtr_of_book {s t : State} (h : book t = book s) : t.rad.groupCtr = s.rad.groupCtr := congrArg (·.2.2) h

/-- RAD changed as far as runs of templates change it. -/
theorem book_of_runs {s t : State} {p : Nat} {f : RadPort → RadPort} (h : t.rad = { s.rad with ports := upd s.rad.ports p f }) : book t = book s := by
  rw [book, h, book]

section
variable (s : State)

@[simp] theorem book_setRadPort (p : Nat) (f : RadPort → RadPort) : book (setRadPort s p f) = book s := rfl

@[simp] theorem book_radCount (p j : Nat) : book (radCount s p j) = book s := rfl

@[simp] theorem book_snsCount (j : Nat) : book (snsCount s j) = book s := rfl

@[simp] theorem book_secCount (j : Nat) : book (secCount s j) = book s := rfl

@[simp] theorem book_setSec (f : SecState → SecState) : book (setSec s f) = book s := rfl

@[simp] theorem book_setLedr (f : LedgerRad → LedgerRad) : book (setLedr s f) = book s := rfl

@[simp] theorem book_rxFloor (i : Nat) : book (rxFloor s i) = book s := rfl

@[simp] theorem book_dropUni (p : Nat) (u : Unicast) : book (dropUni s p u) = book s := rfl

@[simp] theorem book_putLink (i gen : Nat) (k : Key) : book (putLink s i gen k) = book s := rfl

@[simp] theorem book_dropLink (i gen : Nat) : book (dropLink s i gen) = book s := rfl

@[simp] theorem book_newKey : book (newKey s).1 = book s := rfl

@[simp] theorem book_event (w : Stn) (code subject d0 d1 : Nat) : book (event s w code subject d0 d1) = book s :=
  book_of_rad (rad_of_keeps (event_keeps _ rfl s w code subject d0 d1))

@[simp] theorem book_sendOutcome (h i outcome : Nat) : book (sendOutcome s h i outcome) = book s :=
  book_of_rad (rad_of_keeps (sendOutcome_keeps _ rfl rfl s h i outcome))

@[simp] theorem book_natSaved : book (natSaved s) = book s := book_of_rad (rad_of_keeps (natSaved_keeps _ rfl rfl s))

@[simp] theorem book_advanceTo (ns : Nat) : book (advanceTo s ns) = book s := book_of_rad (advanceTo_rad s ns)

@[simp] theorem book_runOp (p op : Nat) (x : SpiArg) : book (runOp s p op x) = book s :=
  let ⟨_, h⟩ := runOp_rad s p op x
  book_of_runs h

@[simp] theorem book_trxRearm (p : Nat) : book (trxRearm s p) = book s := by simp [trxRearm]

@[simp] theorem book_trxRead (p n : Nat) : book (trxRead s p n) = book s := by simp [trxRead]

@[simp] theorem book_trxSend (p : Nat) (a : AirFrame) : book (trxSend s p a) = book s := by
  unfold trxSend trxIdleOwed
  split <;> simp

@[simp] theorem book_chargeGeneral (b : Nat) (c : ShedCls) (ms : Nat) : book (chargeGeneral s b c ms).1 = book s := by
  unfold chargeGeneral
  split <;> rfl

@[simp] theorem book_shed (b k : Nat) : book (shed s b k) = book s := rfl

@[simp] theorem book_chargeOrShed (p : Nat) (c : ShedCls) (ms : Nat) : book (chargeOrShed s p c ms).1 = book s := by
  unfold chargeOrShed
  extract_lets b r
  have hr : book r.1 = book s := book_chargeGeneral s b c ms
  split
  · exact hr
  · exact hr

@[simp] theorem book_armAck (f : RxFrame) (i : Option Nat) (nack : Bool) : book (armAck s f i nack) = book s := by
  unfold armAck
  extract_lets k node oct asn c key dest a
  split
  · rfl
  · have hc : book c.1 = book s := book_chargeOrShed s f.port .top (chargeMs k oct)
    split
    · exact hc
    · rw [book_trxSend, book_setRadPort, hc]

@[simp] theorem book_withdrawAck (p : Nat) : book (withdrawAck s p) = book s := by
  unfold withdrawAck
  dsimp only
  split <;> simp

@[simp] theorem book_rxEnds (f : RxFrame) : book (rxEnds s f) = book s := by rw [book, rxEnds_rad, book]

@[simp] theorem book_queueUni (u : Unicast) : book (queueUni s u) = book s := by
  unfold queueUni
  split <;> simp

@[simp] theorem book_queueCommand (i cmd : Nat) (data : List Byte) : book (queueCommand s i cmd data) = book s := by
  unfold queueCommand
  split <;> simp

@[simp] theorem book_queueRekey (i : Nat) : book (queueRekey s i) = book s := by
  unfold queueRekey
  split
  · rfl
  · split
    · split <;> simp
    · rfl

@[simp] theorem book_enrolAgain (i : Nat) (f : RxFrame) : book (enrolAgain s i f) = book s := by
  unfold enrolAgain
  dsimp only
  split <;> simp

@[simp] theorem book_queueParts (i n : Nat) (l : List (List Byte)) (start fuel : Nat) : book (queueParts s i n l start fuel) = book s := by
  induction fuel generalizing s l start with
  | zero => rfl
  | succ fuel ih =>
    unfold queueParts
    split
    · rfl
    · rw [ih, book_queueUni]

end

/-! ## An entry outside its link, a node's data outside its contact -/

/-- An entry without the state of its link. -/
def entShown (e : NatEnt) : NatEnt :=
  { e with enrolled := false, adrift := false, explicit_ := false, keyIndex := 0, rxSeq := 0, txSeq := 0, linkEpoch := 0, rxFc := 0, txFc := 0 }

/-- A node's working data without its contact, its keys and the codes it was sent. -/
def dynShown (d : NodeDyn) : NodeDyn :=
  { d with tref := none, trefStep := 0, contact := none, owed := none, rekeying := false, keyOwed := [], oldKey := false, served := 0, fbCodes := [] }

def shownEnt (s : State) (i : Nat) : Option NatEnt := (natEnt s i).map entShown

def shownDyn (s : State) (i : Nat) : NodeDyn := dynShown (nodeDyn s i)

theorem shownEnt_of_book {s t : State} (h : book t = book s) (i : Nat) : shownEnt t i = shownEnt s i := by rw [shownEnt, natEnt_of_book h, shownEnt]

theorem shownDyn_of_book {s t : State} (h : book t = book s) (i : Nat) : shownDyn t i = shownDyn s i := by rw [shownDyn, nodeDyn_of_book h, shownDyn]

theorem shownEnt_setNat (s : State) (i j : Nat) {f : NatEnt → NatEnt} (hf : ∀ e, entShown (f e) = entShown e) :
    shownEnt (setNat s i f) j = shownEnt s j := by
  by_cases h : j = i
  · subst h
    rw [shownEnt, natEnt_setNat_same, Option.map_map, shownEnt]
    exact congrArg (fun g => (natEnt s j).map g) (funext hf)
  · rw [shownEnt, natEnt_setNat_other s i j f h, shownEnt]

theorem nodeDyn_setDyn_other (s : State) {i j : Nat} (f : NodeDyn → NodeDyn) (h : j ≠ i) : nodeDyn (setDyn s i f) j = nodeDyn s j := by
  simp [nodeDyn, setDyn, tgetD, tget_tput_other _ _ _ _ h]

theorem nodeDyn_setNat (s : State) (i j : Nat) (f : NatEnt → NatEnt) : nodeDyn (setNat s i f) j = nodeDyn s j := by
  unfold setNat
  split <;> rfl

theorem shownDyn_setDyn (s : State) (i j : Nat) {f : NodeDyn → NodeDyn} (hf : ∀ d, dynShown (f d) = dynShown d) :
    shownDyn (setDyn s i f) j = shownDyn s j := by
  by_cases h : j = i
  · subst h
    rw [shownDyn, nodeDyn_setDyn_same, hf, shownDyn]
  · rw [shownDyn, nodeDyn_setDyn_other s f h, shownDyn]

@[simp] theorem shownEnt_setDyn (s : State) (i j : Nat) (f : NodeDyn → NodeDyn) : shownEnt (setDyn s i f) j = shownEnt s j := rfl

@[simp] theorem shownDyn_setNat (s : State) (i j : Nat) (f : NatEnt → NatEnt) : shownDyn (setNat s i f) j = shownDyn s j := by
  rw [shownDyn, nodeDyn_setNat, shownDyn]

/-- Nothing shown of any node changes, and no group counter. -/
structure ShowsSame (s t : State) : Prop where
  ent : ∀ i, shownEnt t i = shownEnt s i
  dyn : ∀ i, shownDyn t i = shownDyn s i
  ctr : t.rad.groupCtr = s.rad.groupCtr

theorem ShowsSame.refl (s : State) : ShowsSame s s := ⟨fun _ => rfl, fun _ => rfl, rfl⟩

theorem ShowsSame.trans {s t u : State} (h : ShowsSame s t) (k : ShowsSame t u) : ShowsSame s u :=
  ⟨fun i => (k.ent i).trans (h.ent i), fun i => (k.dyn i).trans (h.dyn i), k.ctr.trans h.ctr⟩

theorem ShowsSame.of_book {s t : State} (h : book t = book s) : ShowsSame s t := ⟨shownEnt_of_book h, shownDyn_of_book h, groupCtr_of_book h⟩

theorem setNat_groupCtr (s : State) (i : Nat) (f : NatEnt → NatEnt) : (setNat s i f).rad.groupCtr = s.rad.groupCtr := by
  unfold setNat
  split <;> rfl

theorem ShowsSame.setNat (s : State) (i : Nat) {f : NatEnt → NatEnt} (hf : ∀ e, entShown (f e) = entShown e) : ShowsSame s (setNat s i f) :=
  ⟨fun j => shownEnt_setNat s i j hf, fun j => shownDyn_setNat s i j f, setNat_groupCtr s i f⟩

theorem ShowsSame.setDyn (s : State) (i : Nat) {f : NodeDyn → NodeDyn} (hf : ∀ d, dynShown (f d) = dynShown d) : ShowsSame s (setDyn s i f) :=
  ⟨fun j => shownEnt_setDyn s i j f, fun j => shownDyn_setDyn s i j hf, rfl⟩

theorem ShowsSame.foldl {α : Type} {g : State → α → State} (h : ∀ s a, ShowsSame s (g s a)) (l : List α) (s : State) : ShowsSame s (l.foldl g s) := by
  induction l generalizing s with
  | nil => exact .refl s
  | cons a l ih => exact (h s a).trans (ih (g s a))

theorem startRekey_showsSame (s : State) (i : Nat) : ShowsSame s (startRekey s i) := by
  unfold startRekey
  split
  · exact .refl s
  · refine .trans (.of_book ?_) (.setDyn _ i fun _ => rfl)
    simp

theorem rekeyWorn_showsSame (s : State) (i c : Nat) : ShowsSame s (rekeyWorn s i c) := by
  unfold rekeyWorn
  split
  · exact startRekey_showsSame s i
  · exact .refl s

theorem oldKeyGone_showsSame (s : State) (i : Nat) : ShowsSame s (oldKeyGone s i) := by
  unfold oldKeyGone
  split
  · split
    · exact .trans (.of_book (book_dropLink s i _)) (.setDyn _ i fun _ => rfl)
    · exact .refl s
  · exact .refl s

theorem queueKey_showsSame (s : State) (i slot switch_ : Nat) : ShowsSame s (queueKey s i slot switch_) := by
  unfold queueKey
  split
  · dsimp only
    split
    · exact .refl s
    · exact .trans (.of_book (book_queueCommand s i 1 _)) (.setDyn _ i fun _ => rfl)
  · exact .refl s

theorem queueFallback_showsSame (s : State) (i : Nat) : ShowsSame s (queueFallback s i) := by
  unfold queueFallback
  split
  · exact .refl s
  · split
    · exact .trans (.of_book (book_queueCommand s i 3 _)) (.setDyn _ i fun _ => rfl)
    · exact .refl s

theorem ackOwes_showsSame (s : State) (f : RxFrame) (i : Nat) (pend : Bool) : ShowsSame s (ackOwes s f i pend) := by
  unfold ackOwes
  split
  · exact .setDyn s i fun _ => rfl
  · exact .refl s

theorem adriftEnds_showsSame (s : State) (f : RxFrame) (i : Nat) (e : NatEnt) : ShowsSame s (adriftEnds s f i e) := by
  unfold adriftEnds
  extract_lets u v
  have hu : ShowsSame s u :=
    (ShowsSame.setNat s i (f := fun e => { e with adrift := false }) fun _ => rfl).trans (.setDyn _ i fun _ => rfl)
  exact hu.trans (.of_book (by simp [v]))

theorem madeContact_showsSame (s : State) (i : Nat) : ShowsSame s (madeContact s i) := by
  unfold madeContact
  split
  · exact .refl s
  · extract_lets t u queued
    have hu : ShowsSame s u := by
      refine .of_book ?_
      unfold u
      split <;> simp [t]
    split
    · exact hu
    · exact hu.trans (.foldl (fun s slot => queueKey_showsSame s i slot _) _ u)

/-- What an accepted frame writes into its source's entry (R222). -/
def entHeard (sfd : Nat) (f : RxFrame) (e : NatEnt) : NatEnt :=
  { e with lastTs32 := ts32 sfd, lastSec := sfd / giga % frac, rssi := f.rssi, rxOk := satAdd 16 e.rxOk 1, missed := 0,
           lq := e.lq - e.lq / 8 + f.lqi / 8 }

theorem acceptFrame_shown (s : State) (f : RxFrame) (i : Nat) :
    ShowsSame (setNat s i (entHeard (sfdOf s f) f)) (acceptFrame s f i) := by
  unfold acceptFrame
  extract_lets sfd t u v
  have ht : ShowsSame (setNat s i (entHeard (sfdOf s f) f)) t := by
    refine .of_book ?_
    unfold t setNat
    cases h : natEnt s i with
    | none => rw [natEnt_of_book (book_radCount s f.port 0), h]; rfl
    | some e => rw [natEnt_of_book (book_radCount s f.port 0), h]; rfl
  have hu : ShowsSame t u := .setDyn t i fun _ => rfl
  have hv : ShowsSame u v := by
    unfold v
    split
    · split
      · exact adriftEnds_showsSame u f i _
      · exact .refl u
    · exact .refl u
  exact ht.trans (hu.trans (hv.trans (madeContact_showsSame v i)))

end Sys2Proof.Machine
end

section
/-! The record of a radio port through what receives a frame (R211 to R215). -/
namespace Sys2Proof.Machine

theorem radPort_of_get {s : State} {p : Nat} {x : RadPort} (h : s.rad.ports[p]? = some x) : radPort s p = x := nth_of_get h {}

theorem port_setRadPort {s : State} {p : Nat} {x : RadPort} (h : s.rad.ports[p]? = some x) (f : RadPort → RadPort) :
    (setRadPort s p f).rad.ports[p]? = some (f x) := by rw [setRadPort, setRad_rad, upd_get_same, h]; rfl

theorem port_of_rad {s t : State} (h : t.rad = s.rad) (p : Nat) : t.rad.ports[p]? = s.rad.ports[p]? := by rw [h]

/-- Runs of templates note themselves in their port. -/
theorem port_of_runs {s t : State} {p : Nat} {x : RadPort} (h : s.rad.ports[p]? = some x)
    (hruns : ∃ l, t.rad = { s.rad with ports := upd s.rad.ports p fun y => { y with spi := y.spi ++ l } }) :
    ∃ l, t.rad.ports[p]? = some { x with spi := x.spi ++ l } := by
  obtain ⟨l, hl⟩ := hruns
  exact ⟨l, by rw [hl, upd_get_same, h]; rfl⟩

theorem port_setNat (s : State) (i : Nat) (f : NatEnt → NatEnt) (p : Nat) : (setNat s i f).rad.ports[p]? = s.rad.ports[p]? := by
  unfold setNat
  split <;> rfl

theorem bump_get_same (l : List Nat) (j : Nat) : (bump l j)[j]? = l[j]?.map inc32 := upd_get_same l j inc32

theorem bump_get_other (l : List Nat) {j k : Nat} (h : k ≠ j) : (bump l j)[k]? = l[k]? := upd_get_other l j k inc32 h

/-! ## A frame that fails a check up to its source -/

/-- A frame dropped in its source's entry (R221). -/
def entDropped (e : NatEnt) : NatEnt := { e with rxDrop := satAdd 16 e.rxDrop 1 }

theorem natEnt_dropped (s : State) (i : Nat) : natEnt (dropped s i) i = (natEnt s i).map entDropped := natEnt_setNat_same s i _

theorem port_dropped (s : State) (i p : Nat) : (dropped s i).rad.ports[p]? = s.rad.ports[p]? := port_setNat s i _ p

/-- RAD changed but for a NAT entry. -/
theorem setNat_rad (s : State) (i : Nat) (f : NatEnt → NatEnt) : (setNat s i f).rad = { s.rad with nat := (setNat s i f).rad.nat } := by
  unfold setNat
  split <;> rfl

/-- A port counts the failed check, and its transceiver returns to receive. -/
def portFailed (v : RxFail) (l : List SpiRun) (x : RadPort) : RadPort := { x with cnt := bump x.cnt v.idx, spi := x.spi ++ l }

/-- The frame counted before the source's entry takes note. -/
def failCounted (s : State) (p : Nat) (v : RxFail) : State := radCount (trxRearm s p) p v.idx

theorem failCounted_rad (s : State) (p : Nat) (v : RxFail) :
    ∃ l, (failCounted s p v).rad = { s.rad with ports := upd s.rad.ports p (portFailed v l) } := by
  obtain ⟨l, hl⟩ := trxRearm_rad s p
  refine ⟨l, ?_⟩
  rw [failCounted, radCount, setRadPort, setRad_rad, hl]
  simp only [upd_upd]
  rfl

theorem failCounted_book (s : State) (p : Nat) (v : RxFail) : book (failCounted s p v) = book s := by simp [failCounted]

theorem rxFails_counted (s : State) (p : Nat) {v : RxFail} (h : ∀ i, v ≠ .barred i) : rxFails s p v = failCounted s p v := by
  cases v with
  | barred i => exact absurd rfl (h i)
  | win => rfl
  | filt => rfl
  | unknown => rfl

theorem rxFails_dropped (s : State) (p i : Nat) : rxFails s p (.barred i) = dropped (failCounted s p (.barred i)) i := rfl

theorem rxFails_rad (s : State) (p : Nat) (v : RxFail) :
    ∃ l, (rxFails s p v).rad = { s.rad with ports := upd s.rad.ports p (portFailed v l), nat := (rxFails s p v).rad.nat } := by
  obtain ⟨l, hl⟩ := failCounted_rad s p v
  refine ⟨l, ?_⟩
  by_cases hbarred : ∃ i, v = .barred i
  · obtain ⟨i, rfl⟩ := hbarred
    rw [rxFails_dropped, dropped, setNat_rad, hl]
  · rw [rxFails_counted s p fun i hi => hbarred ⟨i, hi⟩, hl]

theorem rxFails_nat (s : State) (p : Nat) {v : RxFail} (h : ∀ i, v ≠ .barred i) : (rxFails s p v).rad.nat = s.rad.nat := by
  rw [rxFails_counted s p h, nat_of_book (failCounted_book s p v)]

theorem rxFails_barred (s : State) (p i : Nat) : natEnt (rxFails s p (.barred i)) i = (natEnt s i).map entDropped := by
  rw [rxFails_dropped, natEnt_dropped, natEnt_of_book (failCounted_book s p _)]

theorem rxFails_port {s : State} {p : Nat} {x : RadPort} (h : s.rad.ports[p]? = some x) (v : RxFail) :
    ∃ l, (rxFails s p v).rad.ports[p]? = some (portFailed v l x) := by
  obtain ⟨l, hl⟩ := rxFails_rad s p v
  exact ⟨l, by rw [hl, upd_get_same, h]; rfl⟩

/-! ## Acks withdrawn, a bad FCS, a bad MIC -/

/-- What a frame that fails after its source was found leaves of a port: counter `j` counts it, no ack is armed and the unicasts stay. -/
def FailsPort (t : State) (p j : Nat) (x : RadPort) : Prop :=
  ∃ y, t.rad.ports[p]? = some y ∧ y.ack = none ∧ y.uni = x.uni ∧ y.cnt[j]? = x.cnt[j]?.map inc32

/-- A port whose ack is withdrawn. -/
structure Withdrawn (x y : RadPort) : Prop where
  ack : y.ack = none
  uni : y.uni = x.uni
  cnt : ∀ j, j ≠ 9 → y.cnt[j]? = x.cnt[j]?

theorem withdrawAck_eq {s : State} {p : Nat} {y : RadPort} (h : (trxRearm s p).rad.ports[p]? = some y) :
    withdrawAck s p =
      if y.ack.isSome then radCount (setRadPort (trxRearm s p) p fun x => { x with ack := none }) p 9 else trxRearm s p := by
  unfold withdrawAck
  dsimp only
  rw [radPort_of_get h]

theorem withdrawAck_port {s : State} {p : Nat} {x : RadPort} (h : s.rad.ports[p]? = some x) :
    ∃ y, (withdrawAck s p).rad.ports[p]? = some y ∧ Withdrawn x y := by
  obtain ⟨l, hl⟩ := port_of_runs h (trxRearm_rad s p)
  rw [withdrawAck_eq hl]
  generalize trxRearm s p = u at hl
  by_cases hack : x.ack.isSome = true
  · rw [if_pos hack]
    have hset := port_setRadPort (port_setRadPort hl fun y => { y with ack := none }) fun y => { y with cnt := bump y.cnt 9 }
    exact ⟨_, hset, rfl, rfl, fun j hj => bump_get_other x.cnt hj⟩
  · rw [if_neg hack]
    exact ⟨_, hl, Option.not_isSome_iff_eq_none.mp hack, rfl, fun _ _ => rfl⟩

/-- A count after an ack was withdrawn. -/
theorem withdrawn_counts {s : State} {p j : Nat} {x : RadPort} (h : s.rad.ports[p]? = some x) (hj : j ≠ 9) :
    FailsPort (radCount (withdrawAck s p) p j) p j x := by
  obtain ⟨y, hy, hw⟩ := withdrawAck_port h
  exact ⟨_, port_setRadPort hy _, hw.ack, hw.uni, (bump_get_same y.cnt j).trans (congrArg _ (hw.cnt j hj))⟩

theorem FailsPort.of_ports {s t : State} {p j : Nat} {x : RadPort} (h : FailsPort s p j x) (hport : t.rad.ports[p]? = s.rad.ports[p]?) :
    FailsPort t p j x := by
  rw [FailsPort, hport]
  exact h

theorem FailsPort.radCount {s : State} {p j : Nat} {x : RadPort} (h : FailsPort s p j x) {k : Nat} (hk : j ≠ k) : FailsPort (radCount s p k) p j x := by
  obtain ⟨y, hy, hack, huni, hcnt⟩ := h
  exact ⟨_, port_setRadPort hy _, hack, huni, (bump_get_other y.cnt hk).trans hcnt⟩

/-- The source's entry takes note of a frame that fails and is dropped. -/
theorem dropped_fails {s : State} {p j i : Nat} {x : RadPort} (h : s.rad.ports[p]? = some x) (hj : j ≠ 9) :
    FailsPort (dropped (radCount (withdrawAck s p) p j) i) p j x ∧
      natEnt (dropped (radCount (withdrawAck s p) p j) i) i = (natEnt s i).map entDropped := by
  have hbook : book (radCount (withdrawAck s p) p j) = book s := by simp
  exact ⟨(withdrawn_counts h hj).of_ports (port_dropped _ i p), by rw [natEnt_dropped, natEnt_of_book hbook]⟩

theorem fcsFail_fails {s : State} {f : RxFrame} {x : RadPort} {i : Nat} (h : s.rad.ports[f.port]? = some x) :
    FailsPort (fcsFail s f (some i)) f.port 3 x ∧ natEnt (fcsFail s f (some i)) i = (natEnt s i).map entDropped := by
  have hdrop := dropped_fails (i := i) h (j := 3) (by decide)
  unfold fcsFail
  dsimp only
  generalize dropped _ i = v at hdrop
  split
  · exact ⟨hdrop.1.radCount (by decide), hdrop.2⟩
  · exact hdrop

theorem micFail_fails {s : State} {f : RxFrame} {x : RadPort} {i : Nat} (h : s.rad.ports[f.port]? = some x) (cnt : Nat) :
    FailsPort (micFail s f i cnt) f.port 4 x ∧ natEnt (micFail s f i cnt) i = (natEnt s i).map entDropped := by
  have hdrop := dropped_fails (i := i) h (j := 4) (by decide)
  unfold micFail
  dsimp only
  generalize dropped _ i = v at hdrop
  split <;> exact hdrop

/-! ## The end of a frame -/

theorem rxEnds_ports (s : State) (f : RxFrame) :
    (rxEnds s f).rad.ports = upd s.rad.ports f.port fun x => { x with sfd := ts32 (sfdOf s f) } := congrArg RadState.ports (rxEnds_rad s f)

/-- A port that has received a frame notes its SFD. -/
theorem rxEnds_port {s : State} {f : RxFrame} {x : RadPort} (h : s.rad.ports[f.port]? = some x) :
    (rxEnds s f).rad.ports[f.port]? = some { x with sfd := ts32 (sfdOf s f) } := by
  rw [rxEnds_ports, upd_get_same, h]
  rfl

theorem radCfg_congr {s t : State} (h : t.cfg = s.cfg) (p : Nat) : radCfg t p = radCfg s p := by simp only [radCfg, cRadio, cGuar, h]

theorem sfdOf_congr {s t : State} (h : t.cfg = s.cfg) (f : RxFrame) : sfdOf t f = sfdOf s f := by rw [sfdOf, radCfg_congr h, sfdOf]

theorem setBoth_tim (u : State) (p : Nat) (g : RadPort → RadPort) (h : RadState → RadState) : (setRad (setRadPort u p g) h).tim = u.tim := rfl

theorem rxEnds_tim (s : State) (f : RxFrame) : (rxEnds s f).tim = (advanceTo s (frameEnd s f)).tim := by
  unfold rxEnds
  generalize advanceTo s (frameEnd s f) = u
  exact setBoth_tim u f.port _ _

theorem rxEnds_reaches {s : State} (f : RxFrame) (h : 0 < addend s) : frameEnd s f ≤ nowNs (rxEnds s f) :=
  Nat.le_trans (advanceTo_reaches _ h) (Nat.le_of_eq (nowNs_congr (rxEnds_tim s f)).symm)

end Sys2Proof.Machine
end

section
/-! Acks sent and acknowledgements taken (R212, R215, R219). -/
namespace Sys2Proof.Machine

/-! ## The CALL of a unicast -/

/-- A CALL under way with room in its window takes the outcome of its message and is DONE. -/
theorem sendOutcome_room {s : State} {h : Nat} (i outcome : Nat) (hop : (call s h).op ≠ 2) (hlive : callLive (call s h) = true)
    (hroom : (call s h).results - (call s h).taken < winCapacity (call s h)) :
    CallSays (sendOutcome s h i outcome) h fun c => c.state = .done ∧ c.results = (call s h).results + 1 := by
  have hsays : CallSays s h (· = call s h) := fun c hc => (call_of_get hc).symm
  have hentry : CallSays (callWord s h (pack [(28, outcome), (16, i)])) h fun c => c.state = .partial_ ∧ c.results = (call s h).results + 1 := by
    refine hsays.callEntry _ ?_ ?_
    · rintro c rfl
      exact ⟨hlive, hroom⟩
    · rintro c rfl
      exact ⟨rfl, rfl⟩
  unfold sendOutcome
  rw [if_neg hop]
  exact hentry.endCall .done .ok (fun c hc => partial_live hc.1) fun c hc => ⟨rfl, hc.2⟩

theorem SendEnds.of_sent {s v t : State} {u : Unicast} {outcome : Nat} (hv : v.calls = s.calls)
    (ht : ∀ h, u.call = some h → t.calls = (sendOutcome v h u.node outcome).calls) : SendEnds s t u := by
  intro h hcall hop hlive hroom
  have hsame : call v h = call s h := by rw [call, hv, call]
  rw [← hsame] at hop hlive hroom ⊢
  exact (sendOutcome_room u.node outcome hop hlive hroom).of_calls (ht h hcall)

/-! ## What the acknowledgement of a unicast completes -/

/-- What `g` reads of every port. -/
def portView {α : Type} (g : RadPort → α) (s : State) : List α := s.rad.ports.map g

section
variable {α : Type} {g : RadPort → α}

theorem portView_of_rad {s t : State} (h : t.rad = s.rad) : portView g t = portView g s := by rw [portView, h, portView]

theorem portView_setRadPort (s : State) (p : Nat) {f : RadPort → RadPort} (hf : ∀ x, g (f x) = g x) :
    portView g (setRadPort s p f) = portView g s := (upd_map _ s.rad.ports p f id hf).trans (upd_id _ p)

theorem portView_setNat (s : State) (i : Nat) (f : NatEnt → NatEnt) : portView g (setNat s i f) = portView g s := by
  unfold setNat
  split <;> rfl

theorem portView_setDyn (s : State) (i : Nat) (f : NodeDyn → NodeDyn) : portView g (setDyn s i f) = portView g s := rfl

theorem portView_setLedr (s : State) (f : LedgerRad → LedgerRad) : portView g (setLedr s f) = portView g s := rfl

theorem portView_setSec (s : State) (f : SecState → SecState) : portView g (setSec s f) = portView g s := rfl

theorem portView_foldl {β : Type} {op : State → β → State} (h : ∀ s b, portView g (op s b) = portView g s) (s : State) (l : List β) :
    portView g (l.foldl op s) = portView g s := by
  induction l generalizing s with
  | nil => rfl
  | cons b l ih => rw [List.foldl_cons, ih, h]

variable (huni : ∀ (x : RadPort) (l : List Unicast), g { x with uni := l } = g x)
include huni

theorem portView_queueUni (s : State) (u : Unicast) : portView g (queueUni s u) = portView g s := by
  unfold queueUni
  split
  · rfl
  · exact portView_setRadPort s _ fun x => huni x _

theorem portView_queueCommand (s : State) (i cmd : Nat) (data : List Byte) : portView g (queueCommand s i cmd data) = portView g s := by
  unfold queueCommand
  split
  · rfl
  · exact portView_queueUni huni s _

theorem portView_queueKey (s : State) (i slot switch_ : Nat) : portView g (queueKey s i slot switch_) = portView g s := by
  unfold queueKey
  split
  · dsimp only
    split
    · rfl
    · exact portView_queueCommand huni s i 1 _
  · rfl

theorem portView_queueFallback (s : State) (i : Nat) : portView g (queueFallback s i) = portView g s := by
  unfold queueFallback
  split
  · rfl
  · split
    · exact portView_queueCommand huni s i 3 _
    · rfl

theorem portView_enrolled (s : State) (i : Nat) : portView g (enrolled s i) = portView g s := by
  unfold enrolled
  split
  · rfl
  · extract_lets a b c ahead
    have hc : portView g c = portView g s :=
      (portView_queueKey huni b i _ _).trans ((portView_queueKey huni a i _ _).trans (portView_setNat s i _))
    rw [portView_queueFallback huni, portView_foldl fun s x => portView_queueKey huni s i _ _, hc]

omit huni in
theorem portView_rekeyDone (s : State) (i : Nat) : portView g (rekeyDone s i) = portView g s := by
  unfold rekeyDone
  split
  · rfl
  · extract_lets gen a b c d
    have ha : portView g a = portView g s := portView_setNat s i _
    rw [portView_of_rad (rad_of_keeps (event_keeps _ rfl _ _ _ _ _ _)), portView_of_rad (rad_of_keeps (natSaved_keeps _ rfl rfl d)),
      portView_setSec, secCount, portView_setSec, portView_setLedr, portView_setDyn, ha]

end

/-- The unicast leaves its queue, and its CALL learns the outcome. -/
def uniTold (s : State) (p : Nat) (u : Unicast) : State :=
  let s := dropUni s p u
  let s := if u.kind = .downlink then snsCount s 4 else s
  match u.call with
  | some h => sendOutcome s h u.node 1
  | none => s

/-- What an acknowledged unicast does for its node. -/
def uniCompletes (s : State) (u : Unicast) : State :=
  match u.kind with
  | .enrol =>
    let left := (nodeDyn s u.node).parts.filter fun x => !u.parts.contains x
    let s := setDyn s u.node fun d => { d with parts := left }
    if left = [] then enrolled s u.node else s
  | .rejoin => s
  | _ =>
    if u.cmd = 2 && (nodeDyn s u.node).rekeying then rekeyDone s u.node
    else if u.cmd = 1 then
      let slot := let x := (nth u.data 0 0).toNat; if x < 3 then x - 1 else x - 0x10 + 2
      setDyn s u.node fun d => { d with keyOwed := d.keyOwed.erase slot }
    else s

theorem uniConfirmed_eq (s : State) (p : Nat) (u : Unicast) : uniConfirmed s p u = uniCompletes (uniTold s p u) u := by
  unfold uniConfirmed uniTold uniCompletes
  rfl

/-- No entry shows a change. -/
def EntsSame (s t : State) : Prop := ∀ i, shownEnt t i = shownEnt s i

theorem EntsSame.of_shows {s t : State} (h : ShowsSame s t) : EntsSame s t := h.ent

theorem EntsSame.trans {s t u : State} (h : EntsSame s t) (k : EntsSame t u) : EntsSame s u := fun i => (k i).trans (h i)

theorem enrolled_showsSame (s : State) (i : Nat) : ShowsSame s (enrolled s i) := by
  unfold enrolled
  split
  · exact .refl s
  · extract_lets a b c ahead
    have ha : ShowsSame s a := .setNat s i fun _ => rfl
    have hc : ShowsSame a c := (queueKey_showsSame a i _ _).trans (queueKey_showsSame b i _ _)
    exact (ha.trans hc).trans ((ShowsSame.foldl (fun s x => queueKey_showsSame s i x.1 _) ahead c).trans (queueFallback_showsSame _ i))

theorem rekeyDone_entsSame (s : State) (i : Nat) : EntsSame s (rekeyDone s i) := by
  unfold rekeyDone
  split
  · exact fun _ => rfl
  · extract_lets gen a b c d
    intro j
    have hbook : book d = book b := by simp [d, c]
    have hent : shownEnt a j = shownEnt s j := shownEnt_setNat s i j fun _ => rfl
    rw [shownEnt_of_book (book_event (natSaved d) _ _ _ _ _), shownEnt_of_book (book_natSaved d), shownEnt_of_book hbook, shownEnt_setDyn, hent]

theorem uniCompletes_entsSame (s : State) (u : Unicast) : EntsSame s (uniCompletes s u) := by
  unfold uniCompletes
  split
  · extract_lets left a
    have ha : EntsSame s a := fun _ => rfl
    split
    · exact ha.trans (.of_shows (enrolled_showsSame a u.node))
    · exact ha
  · exact fun _ => rfl
  · split
    · exact rekeyDone_entsSame s u.node
    · split <;> exact fun _ => rfl

theorem uniCompletes_cnt (s : State) (u : Unicast) : portView RadPort.cnt (uniCompletes s u) = portView RadPort.cnt s := by
  unfold uniCompletes
  split
  · extract_lets left a
    split
    · exact portView_enrolled (fun _ _ => rfl) a u.node
    · rfl
  · rfl
  · split
    · exact portView_rekeyDone s u.node
    · split <;> rfl

theorem enrolled_calls (s : State) (i : Nat) : (enrolled s i).calls = s.calls :=
  KeepsAllBut.calls (m := { rad := true }) (enrolled_keeps _ rfl s i) rfl

theorem rekeyDone_calls (s : State) (i : Nat) : (rekeyDone s i).calls = s.calls :=
  KeepsAllBut.calls (m := { evq := true, rad := true, sec := true, ledr := true, ledBad := true })
    (rekeyDone_keeps _ rfl rfl rfl rfl rfl s i) rfl

theorem uniCompletes_calls (s : State) (u : Unicast) : (uniCompletes s u).calls = s.calls := by
  unfold uniCompletes
  split
  · extract_lets left a
    split
    · exact enrolled_calls a u.node
    · rfl
  · rfl
  · split
    · exact rekeyDone_calls s u.node
    · split <;> rfl

theorem uniTold_book (s : State) (p : Nat) (u : Unicast) : book (uniTold s p u) = book s := by
  unfold uniTold
  extract_lets a b
  have hb : book b = book s := by
    unfold b
    split <;> rfl
  split
  · rw [book_sendOutcome, hb]
  · exact hb

theorem uniTold_ports (s : State) (p : Nat) (u : Unicast) :
    (uniTold s p u).rad.ports = upd s.rad.ports p fun x => { x with uni := x.uni.erase u } := by
  unfold uniTold
  extract_lets a b
  have hb : b.rad.ports = upd s.rad.ports p fun x => { x with uni := x.uni.erase u } := by
    unfold b
    split <;> rfl
  split
  · rw [rad_of_keeps (sendOutcome_keeps _ rfl rfl b _ _ _), hb]
  · exact hb

/-- A unicast that is acknowledged ends its CALL. -/
theorem uniConfirmed_ends {s v : State} (hv : v.calls = s.calls) (p : Nat) (u : Unicast) : SendEnds s (uniConfirmed v p u) u := by
  rw [uniConfirmed_eq]
  refine .of_sent (v := if u.kind = .downlink then snsCount (dropUni v p u) 4 else dropUni v p u) (outcome := 1) ?_ ?_
  · split <;> exact hv
  · intro h hcall
    rw [uniCompletes_calls]
    unfold uniTold
    rw [hcall]


/-! ## The row of an acknowledgement -/

theorem ackRow_done {s u : State} {f : RxFrame} {P : State → Prop} (h : ackReceive s f = u) (hP : P u) : Done (ackRow f) s P := by
  refine done_of (u := ackReceive s f) rfl ?_ (h ▸ hP)
  exact KeepsAllBut.pending (m := { calls := true, tim := true, evq := true, rad := true, sec := true, ledr := true, ledBad := true, free := true })
    (ackReceive_keeps _ rfl rfl rfl rfl rfl rfl rfl rfl s f) rfl

section
variable {s : State} {f : RxFrame} {x : RadPort} {u : Unicast}

theorem ackReceive_closed (hx : s.rad.ports[f.port]? = some x) (hopen : rxOpen x = true) (hserves : radServes s = true) (hnone : awaited s f.port = none) :
    ackReceive s f = rxFails s f.port .win := by
  unfold ackReceive
  rw [hnone]
  exact both_open _ _ _ _ (by rw [radPort_of_get hx, hopen]) hserves

theorem ackReceive_awaited (hx : s.rad.ports[f.port]? = some x) (hopen : rxOpen x = true) (hserves : radServes s = true)
    (hsome : awaited s f.port = some u) : ackReceive s f = ackJudged (rxEnds s f) f u := by
  unfold ackReceive
  rw [hsome]
  exact both_open _ _ _ _ (by rw [radPort_of_get hx, hopen]) hserves

theorem uniEnd_rxEnds (hx : s.rad.ports[f.port]? = some x) : uniEnd (rxEnds s f) f.port = uniEnd s f.port := by
  rw [uniEnd, uniEnd, radPort_of_get (rxEnds_port hx), radPort_of_get hx, radCfg_congr (rxEnds_cfg s f)]

theorem ackOutside_rxEnds (hx : s.rad.ports[f.port]? = some x) : ackOutside (rxEnds s f) f = ackOutside s f := by
  rw [ackOutside, ackOutside, uniEnd_rxEnds hx, radCfg_congr (rxEnds_cfg s f), sfdOf_congr (rxEnds_cfg s f)]

theorem ackHeaderOk_rxEnds : ackHeaderOk (rxEnds s f) f = ackHeaderOk s f := by
  rw [ackHeaderOk, ackHeaderOk, radCfg_congr (rxEnds_cfg s f), cRadio, cRadio, rxEnds_cfg]

theorem rxSource_rxEnds : rxSource (rxEnds s f) f = rxSource s f := by
  rw [rxSource, rxSource, findNat, findNat, nat_of_book (book_rxEnds s f)]

theorem natEnt_rxEnds (i : Nat) : natEnt (rxEnds s f) i = natEnt s i := natEnt_of_book (book_rxEnds s f) i

/-- A frame that fails a check of an acknowledgement counts for its port. -/
theorem ackFails_port (hx : s.rad.ports[f.port]? = some x) (v : RxFail) :
    ∃ runs, (rxFails (rxEnds s f) f.port v).rad.ports[f.port]? =
      some { x with sfd := ts32 (sfdOf s f), cnt := bump x.cnt v.idx, spi := x.spi ++ runs } := rxFails_port (rxEnds_port hx) v

theorem closedFails_port (hx : s.rad.ports[f.port]? = some x) :
    ∃ runs, (rxFails s f.port .win).rad.ports[f.port]? = some { x with cnt := bump x.cnt 5, spi := x.spi ++ runs } := rxFails_port hx .win

theorem ackFails_nat {v : RxFail} (hv : ∀ i, v ≠ .barred i) : (rxFails (rxEnds s f) f.port v).rad.nat = s.rad.nat :=
  (rxFails_nat _ _ hv).trans (nat_of_book (book_rxEnds s f))

theorem ackJudged_outside (hx : s.rad.ports[f.port]? = some x) (hout : ackOutside s f = true) :
    ackJudged (rxEnds s f) f u = rxFails (rxEnds s f) f.port .win := by
  unfold ackJudged
  rw [ackOutside_rxEnds hx, hout]
  rfl

theorem ackJudged_filtered (hx : s.rad.ports[f.port]? = some x) (hout : ackOutside s f = false) (hhead : ackHeaderOk s f = false) :
    ackJudged (rxEnds s f) f u = rxFails (rxEnds s f) f.port .filt := by
  unfold ackJudged
  rw [ackOutside_rxEnds hx, hout, ackHeaderOk_rxEnds, hhead]
  rfl

theorem ackJudged_unknown (hx : s.rad.ports[f.port]? = some x) (hout : ackOutside s f = false) (hhead : ackHeaderOk s f = true)
    (hsource : rxSource s f = none) : ackJudged (rxEnds s f) f u = rxFails (rxEnds s f) f.port .unknown := by
  unfold ackJudged
  rw [ackOutside_rxEnds hx, hout, ackHeaderOk_rxEnds, hhead, rxSource_rxEnds, hsource]
  rfl

theorem ackJudged_other {i : Nat} (hx : s.rad.ports[f.port]? = some x) (hout : ackOutside s f = false) (hhead : ackHeaderOk s f = true)
    (hsource : rxSource s f = some i) (hi : i ≠ u.node) : ackJudged (rxEnds s f) f u = rxFails (rxEnds s f) f.port (.barred i) := by
  unfold ackJudged
  rw [ackOutside_rxEnds hx, hout, ackHeaderOk_rxEnds, hhead, rxSource_rxEnds, hsource]
  exact if_pos hi

/-- The acknowledgement read from its transceiver. -/
abbrev ackRead (s : State) (f : RxFrame) : State := trxRead (rxEnds s f) f.port f.psdu

theorem ackEchoOk_rxEnds : ackEchoOk (rxEnds s f) f u = ackEchoOk s f u := by rw [ackEchoOk, ackEchoOk, natEnt_rxEnds]

theorem ackJudged_addressed (hx : s.rad.ports[f.port]? = some x) (hout : ackOutside s f = false) (hhead : ackHeaderOk s f = true)
    (hsource : rxSource s f = some u.node) :
    ackJudged (rxEnds s f) f u =
      if !f.fcsOk then fcsFail (ackRead s f) f (some u.node)
      else if !f.micOk then micFail (ackRead s f) f u.node 0
      else if !ackEchoOk s f u then micFail (ackRead s f) f u.node 6
      else ackConfirms (ackRead s f) f u := by
  unfold ackJudged
  rw [ackOutside_rxEnds hx, hout, ackHeaderOk_rxEnds, hhead, rxSource_rxEnds, hsource]
  dsimp only
  rw [ackEchoOk_rxEnds, if_neg (by decide), if_neg (by decide), if_neg (fun h => h rfl)]

theorem ackJudged_fcs (hx : s.rad.ports[f.port]? = some x) (hout : ackOutside s f = false) (hhead : ackHeaderOk s f = true)
    (hsource : rxSource s f = some u.node) (hfcs : f.fcsOk = false) :
    ackJudged (rxEnds s f) f u = fcsFail (ackRead s f) f (some u.node) := by
  rw [ackJudged_addressed hx hout hhead hsource, if_pos (by simp [hfcs])]

theorem ackJudged_wrong (hx : s.rad.ports[f.port]? = some x) (hout : ackOutside s f = false) (hhead : ackHeaderOk s f = true)
    (hsource : rxSource s f = some u.node) (hfcs : f.fcsOk = true) (hwrong : (f.micOk && ackEchoOk s f u) = false) :
    ∃ cnt, ackJudged (rxEnds s f) f u = micFail (ackRead s f) f u.node cnt := by
  rw [ackJudged_addressed hx hout hhead hsource, if_neg (by simp [hfcs])]
  cases hmic : f.micOk with
  | false => exact ⟨0, if_pos rfl⟩
  | true =>
    rw [hmic, Bool.true_and] at hwrong
    exact ⟨6, by rw [if_neg (by decide), if_pos (by simp [hwrong])]⟩

theorem ackJudged_right (hx : s.rad.ports[f.port]? = some x) (hout : ackOutside s f = false) (hhead : ackHeaderOk s f = true)
    (hsource : rxSource s f = some u.node) (hfcs : f.fcsOk = true) (hmic : f.micOk = true) (hecho : ackEchoOk s f u = true) :
    ackJudged (rxEnds s f) f u = ackConfirms (ackRead s f) f u := by
  rw [ackJudged_addressed hx hout hhead hsource, if_neg (by simp [hfcs]), if_neg (by simp [hmic]), if_neg (by simp [hecho])]

theorem ackRead_port (hx : s.rad.ports[f.port]? = some x) :
    ∃ runs, (ackRead s f).rad.ports[f.port]? = some { x with sfd := ts32 (sfdOf s f), spi := x.spi ++ runs } :=
  port_of_runs (rxEnds_port hx) (trxRead_rad _ _ _)

theorem ackRead_book : book (ackRead s f) = book s := by simp

theorem ackRead_cfg : (ackRead s f).cfg = s.cfg :=
  (KeepsAllBut.cfg (m := { rad := true, free := true }) (trxRead_keeps _ rfl rfl (rxEnds s f) f.port f.psdu) rfl).trans (rxEnds_cfg s f)

theorem ackRead_calls : (ackRead s f).calls = s.calls :=
  (KeepsAllBut.calls (m := { rad := true, free := true }) (trxRead_keeps _ rfl rfl (rxEnds s f) f.port f.psdu) rfl).trans
    (KeepsAllBut.calls (m := { rad := true, tim := true }) (rxEnds_keeps _ rfl rfl s f) rfl)

/-- A frame read that then fails, as `FailsPort` tells of the port before it. -/
theorem FailsPort.of_read {t : State} {j : Nat} {runs : List SpiRun}
    (h : FailsPort t f.port j { x with sfd := ts32 (sfdOf s f), spi := x.spi ++ runs }) :
    ∃ y, t.rad.ports[f.port]? = some y ∧ y.cnt[j]? = x.cnt[j]?.map inc32 ∧ y.uni = x.uni := by
  obtain ⟨y, hy, -, huni, hcnt⟩ := h
  exact ⟨y, hy, hcnt, huni⟩

end

/-! ## The right acknowledgement -/

/-- What is shown of a node that has been heard. -/
theorem heard_of_shown {t : State} {i sfd : Nat} {f : RxFrame} {e : NatEnt} (h : shownEnt t i = some (entShown (entHeard sfd f e))) :
    ∃ y, natEnt t i = some y ∧ y.missed = 0 ∧ y.rxOk = satAdd 16 e.rxOk 1 ∧ y.lastTs32 = ts32 sfd ∧ y.rssi = f.rssi := by
  obtain ⟨y, hy, hshown⟩ := Option.map_eq_some_iff.mp h
  exact ⟨y, hy, congrArg NatEnt.missed hshown, congrArg NatEnt.rxOk hshown, congrArg NatEnt.lastTs32 hshown, congrArg NatEnt.rssi hshown⟩

/-- The addressed node as heard, before its unicast ends. -/
def ackHeard (s : State) (f : RxFrame) (u : Unicast) : State :=
  setDyn (setNat (radCount s f.port 0) u.node (entHeard (sfdOf s f) f)) u.node fun d =>
    { d with tref := some (frameEnd s f), trefStep := s.tim.stepSeq, contact := some (sfdOf s f) }

theorem frameEnd_congr {s t : State} (h : t.cfg = s.cfg) (f : RxFrame) : frameEnd t f = frameEnd s f := by
  rw [frameEnd, sfdOf_congr h, radCfg_congr h, frameEnd]

theorem setNat_keepsOffRad (s : State) (i : Nat) (f : NatEnt → NatEnt) : KeepsAllBut { rad := true } s (setNat s i f) := setNat_keeps _ rfl s i f

theorem ackConfirms_eq (s : State) (f : RxFrame) (u : Unicast) : ackConfirms s f u = uniConfirmed (ackHeard s f u) f.port u := by
  have hkeeps := setNat_keepsOffRad (radCount s f.port 0) u.node (entHeard (sfdOf s f) f)
  have htim : (setNat (radCount s f.port 0) u.node (entHeard (sfdOf s f) f)).tim = s.tim := hkeeps.tim rfl
  have hcfg : (setNat (radCount s f.port 0) u.node (entHeard (sfdOf s f) f)).cfg = s.cfg := hkeeps.cfg rfl
  rw [ackHeard, ← frameEnd_congr hcfg, ← htim]
  rfl

theorem ackHeard_ent (s : State) (f : RxFrame) (u : Unicast) : natEnt (ackHeard s f u) u.node = (natEnt s u.node).map (entHeard (sfdOf s f) f) :=
  natEnt_setNat_same (radCount s f.port 0) u.node _

theorem ackHeard_port {s : State} {f : RxFrame} {x : RadPort} (hx : s.rad.ports[f.port]? = some x) (u : Unicast) :
    (ackHeard s f u).rad.ports[f.port]? = some { x with cnt := bump x.cnt 0 } :=
  (port_setNat (radCount s f.port 0) u.node _ f.port).trans (port_setRadPort hx _)

theorem ackHeard_calls (s : State) (f : RxFrame) (u : Unicast) : (ackHeard s f u).calls = s.calls :=
  (setNat_keepsOffRad (radCount s f.port 0) u.node _).calls rfl

theorem uniConfirmed_ent (s : State) (p : Nat) (u : Unicast) (i : Nat) : shownEnt (uniConfirmed s p u) i = shownEnt s i := by
  rw [uniConfirmed_eq, uniCompletes_entsSame, shownEnt_of_book (uniTold_book s p u)]

theorem uniConfirmed_port {s : State} {p : Nat} {x : RadPort} (hx : s.rad.ports[p]? = some x) (u : Unicast) :
    ∃ y, (uniConfirmed s p u).rad.ports[p]? = some y ∧ y.cnt = x.cnt ∧ (u.kind = .rejoin → y.uni = x.uni.erase u) := by
  have htold : (uniTold s p u).rad.ports[p]? = some { x with uni := x.uni.erase u } := by
    rw [uniTold_ports, upd_get_same, hx, Option.map_some]
  have hcnt := congrArg (·[p]?) (uniCompletes_cnt (uniTold s p u) u)
  simp only [portView, List.getElem?_map, htold, Option.map_some] at hcnt
  obtain ⟨y, hy, hcnt⟩ := Option.map_eq_some_iff.mp hcnt
  rw [uniConfirmed_eq]
  refine ⟨y, hy, hcnt, fun hkind => ?_⟩
  have hsame : uniCompletes (uniTold s p u) u = uniTold s p u := by
    unfold uniCompletes
    rw [hkind]
  rw [hsame, htold] at hy
  rw [← Option.some.inj hy]

theorem ackConfirms_heard {s : State} {f : RxFrame} {u : Unicast} {e : NatEnt} (he : natEnt s u.node = some e) :
    ∃ y, natEnt (ackConfirms s f u) u.node = some y ∧ y.missed = 0 ∧ y.rxOk = satAdd 16 e.rxOk 1 ∧ y.lastTs32 = ts32 (sfdOf s f) ∧ y.rssi = f.rssi := by
  refine heard_of_shown ?_
  rw [ackConfirms_eq, uniConfirmed_ent, shownEnt, ackHeard_ent, he]
  rfl

theorem ackConfirms_port {s : State} {f : RxFrame} {x : RadPort} (hx : s.rad.ports[f.port]? = some x) (u : Unicast) :
    ∃ y, (ackConfirms s f u).rad.ports[f.port]? = some y ∧ y.cnt[0]? = x.cnt[0]?.map inc32 ∧ (u.kind = .rejoin → y.uni = x.uni.erase u) := by
  obtain ⟨y, hy, hcnt, huni⟩ := uniConfirmed_port (ackHeard_port hx u) u
  rw [ackConfirms_eq]
  exact ⟨y, hy, by rw [hcnt]; exact bump_get_same x.cnt 0, huni⟩

theorem ackConfirms_ends {s v : State} (hv : v.calls = s.calls) (f : RxFrame) (u : Unicast) : SendEnds s (ackConfirms v f u) u := by
  rw [ackConfirms_eq]
  exact uniConfirmed_ends ((ackHeard_calls v f u).trans hv) f.port u

/-! ## An armed ack goes out -/

/-- A port whose armed ack goes out. -/
def ackSent (k : PortCfg) (a : AirFrame) (x : RadPort) : RadPort :=
  { x with ack := none, maxAsn := max x.maxAsn a.counter, last := some a, cnt := bump x.cnt 8, txgo := a.start - k.profile.tTxLat }

theorem ackTxgo_eq {s : State} {p at_ : Nat} {x : RadPort} {a : AirFrame} (hx : s.rad.ports[p]? = some x) (hack : x.ack = some (a, at_))
    (hopen : rxOpen x = true) :
    ackTxgo s p = setRadPort (radCount (txGo (advanceTo s (at_ - (radCfg s p).profile.tTxLat)) p a) p 8) p fun x =>
      { x with ack := none, maxAsn := max x.maxAsn a.counter, last := some a } := by
  unfold ackTxgo
  rw [radPort_of_get hx, hack, hopen]
  rfl

theorem txGo_sends {s u : State} {p ns : Nat} {x : RadPort} {a : AirFrame} (hx : s.rad.ports[p]? = some x) (hkeeps : KeepsAllBut offTim s u)
    (hlate : 0 < addend s → ns ≤ nowNs u) :
    (0 < addend s → ns ≤ nowNs (setRadPort (radCount (txGo u p a) p 8) p fun x =>
      { x with ack := none, maxAsn := max x.maxAsn a.counter, last := some a })) ∧
    (setRadPort (radCount (txGo u p a) p 8) p fun x =>
      { x with ack := none, maxAsn := max x.maxAsn a.counter, last := some a }).rad.ports[p]? = some (ackSent (radCfg s p) a x) := by
  have hu : u.rad.ports[p]? = some x := by rw [hkeeps.rad rfl, hx]
  refine ⟨hlate, ?_⟩
  rw [ackSent, ← radCfg_congr (hkeeps.cfg rfl)]
  exact port_setRadPort (port_setRadPort (port_setRadPort hu _) _) _

theorem ackTxgo_done {s : State} {p at_ : Nat} {x : RadPort} {a : AirFrame} (hx : s.rad.ports[p]? = some x) (hack : x.ack = some (a, at_))
    (hopen : rxOpen x = true) :
    Done (.ackTxgo p) s fun t => (0 < addend s → at_ - (radCfg s p).profile.tTxLat ≤ nowNs t) ∧
      t.rad.ports[p]? = some (ackSent (radCfg s p) a x) := by
  refine done_of (u := ackTxgo s p) rfl (KeepsAllBut.pending (m := { tim := true, rad := true }) (ackTxgo_keeps _ rfl rfl s p) rfl) ?_
  rw [ackTxgo_eq hx hack hopen]
  exact txGo_sends hx (advanceTo_keeps _ rfl s _) fun h => advanceTo_reaches _ h

/-- Settles O53: an armed ack uses up its ASN when it goes out; each check of an acknowledgement is one branch of `ackJudged`, and the right one is
heard and ends its unicast and its CALL. -/
theorem acksAreSentAndTaken : Obligations.AcksAreSentAndTaken := by
  unfold Obligations.AcksAreSentAndTaken
  refine ⟨fun s p at_ x a hx hack hopen => ackTxgo_done hx hack hopen, fun s f x hx hopen hserves hnone => ?_,
    fun s f x u hx hopen hserves hsome => ?_⟩
  · refine ackRow_done (ackReceive_closed hx hopen hserves hnone) ⟨rxFails_nat s f.port fun i h => (nomatch h), ?_⟩
    exact closedFails_port hx
  · have hreceive := ackReceive_awaited hx hopen hserves hsome
    refine ⟨fun hout => ?_, fun hout hhead => ?_, fun hout hhead => ⟨fun hsource => ?_, fun i e hsource hi he => ?_, fun e hsource he => ?_⟩⟩
    · exact ackRow_done (hreceive.trans (ackJudged_outside hx hout)) ⟨ackFails_nat fun i h => (nomatch h), ackFails_port hx .win⟩
    · exact ackRow_done (hreceive.trans (ackJudged_filtered hx hout hhead)) ⟨ackFails_nat fun i h => (nomatch h), ackFails_port hx .filt⟩
    · exact ackRow_done (hreceive.trans (ackJudged_unknown hx hout hhead hsource)) ⟨ackFails_nat fun i h => (nomatch h), ackFails_port hx .unknown⟩
    · refine ackRow_done (hreceive.trans (ackJudged_other hx hout hhead hsource hi)) ⟨?_, ackFails_port hx (.barred i)⟩
      rw [rxFails_barred, natEnt_rxEnds, he]
      rfl
    · obtain ⟨runs, hread⟩ := ackRead_port (f := f) hx
      have hent : natEnt (ackRead s f) u.node = some e := (natEnt_of_book ackRead_book u.node).trans he
      refine ⟨fun hfcs => ?_, fun hfcs hwrong => ?_, fun hfcs hmic hecho => ?_⟩
      · have hfails := fcsFail_fails (f := f) (i := u.node) hread
        exact ackRow_done (hreceive.trans (ackJudged_fcs hx hout hhead hsource hfcs)) ⟨hfails.2.trans (by rw [hent]; rfl), hfails.1.of_read⟩
      · obtain ⟨cnt, hmicFail⟩ := ackJudged_wrong hx hout hhead hsource hfcs hwrong
        have hfails := micFail_fails (f := f) (i := u.node) hread cnt
        exact ackRow_done (hreceive.trans hmicFail) ⟨hfails.2.trans (by rw [hent]; rfl), hfails.1.of_read⟩
      · have hheard := ackConfirms_heard (f := f) hent
        rw [sfdOf_congr ackRead_cfg] at hheard
        exact ackRow_done (hreceive.trans (ackJudged_right hx hout hhead hsource hfcs hmic hecho))
          ⟨hheard, ackConfirms_port hread u, ackConfirms_ends ackRead_calls f u⟩

end Sys2Proof.Machine
end

section
/-! Unicasts that end without an acknowledgement, scans that end, and the bins of the duty accounts (R254, R261, R471, R472). -/
namespace Sys2Proof.Machine

/-! ## Unicasts that end unacknowledged -/

/-- A port that withdraws a unicast and counts it. -/
def uniWithdrawn (u : Unicast) (x : RadPort) : RadPort := { x with uni := x.uni.erase u, cnt := bump x.cnt 10 }

/-- A node whose unicast ends unacknowledged. -/
def entUnconfirmed (e : NatEnt) : NatEnt := { e with txUnconf := satAdd 16 e.txUnconf 1 }

/-- The unicast withdrawn and counted, before its CALL learns of it. -/
def uniLost (s : State) (p : Nat) (u : Unicast) : State :=
  let s := setNat (radCount (dropUni s p u) p 10) u.node entUnconfirmed
  if u.kind = .downlink then snsCount s 5 else s

theorem uniUnconfirmed_eq (s : State) (p : Nat) (u : Unicast) :
    uniUnconfirmed s p u = match u.call with
      | some h => sendOutcome (uniLost s p u) h u.node 2
      | none => uniLost s p u := by
  unfold uniUnconfirmed uniLost
  rfl

theorem uniUnconfirmed_rad (s : State) (p : Nat) (u : Unicast) : (uniUnconfirmed s p u).rad = (uniLost s p u).rad := by
  rw [uniUnconfirmed_eq]
  split
  · exact rad_of_keeps (sendOutcome_keeps _ rfl rfl _ _ _ _)
  · rfl

theorem uniLost_port {s : State} {p : Nat} {x : RadPort} (hx : s.rad.ports[p]? = some x) (u : Unicast) :
    (uniLost s p u).rad.ports[p]? = some (uniWithdrawn u x) := by
  have hset : (setNat (radCount (dropUni s p u) p 10) u.node entUnconfirmed).rad.ports[p]? = some (uniWithdrawn u x) :=
    (port_setNat _ u.node _ p).trans (port_setRadPort (port_setRadPort hx _) _)
  unfold uniLost
  split <;> exact hset

theorem uniLost_ent (s : State) (p : Nat) (u : Unicast) : natEnt (uniLost s p u) u.node = (natEnt s u.node).map entUnconfirmed := by
  have hset : natEnt (setNat (radCount (dropUni s p u) p 10) u.node entUnconfirmed) u.node = (natEnt s u.node).map entUnconfirmed :=
    natEnt_setNat_same (radCount (dropUni s p u) p 10) u.node _
  unfold uniLost
  split <;> exact hset

theorem uniLost_sns {u : Unicast} (h : u.kind = .downlink) (s : State) (p : Nat) : (uniLost s p u).rad.sns = bump s.rad.sns 5 := by
  have hset : (setNat (radCount (dropUni s p u) p 10) u.node entUnconfirmed).rad.sns = s.rad.sns := by
    rw [setNat_rad]
    rfl
  unfold uniLost
  rw [if_pos h]
  exact congrArg (bump · 5) hset

theorem uniLost_calls (s : State) (p : Nat) (u : Unicast) : (uniLost s p u).calls = s.calls := by
  have hset : (setNat (radCount (dropUni s p u) p 10) u.node entUnconfirmed).calls = s.calls := (setNat_keepsOffRad _ _ _).calls rfl
  unfold uniLost
  split <;> exact hset

/-- What a unicast that ends unacknowledged leaves. -/
structure UniLost (s t : State) (p : Nat) (x : RadPort) (e : NatEnt) (u : Unicast) : Prop where
  port : t.rad.ports[p]? = some { x with uni := x.uni.erase u, cnt := bump x.cnt 10 }
  sns : u.kind = .downlink → t.rad.sns = bump s.rad.sns 5
  ent : natEnt t u.node = some { e with txUnconf := satAdd 16 e.txUnconf 1 }
  ends : SendEnds s t u

theorem uniUnconfirmed_loses {s v : State} {p : Nat} {x : RadPort} {e : NatEnt} {u : Unicast} (hv : KeepsAllBut offTim s v)
    (hx : s.rad.ports[p]? = some x) (he : natEnt s u.node = some e) : UniLost s (uniUnconfirmed v p u) p x e u := by
  have hrad : v.rad = s.rad := hv.rad rfl
  have hnat : natEnt v u.node = some e := (natEnt_of_book (book_of_rad hrad) u.node).trans he
  refine ⟨?_, fun hkind => ?_, ?_, ?_⟩
  · rw [uniUnconfirmed_rad, uniLost_port (by rw [hrad, hx])]
    rfl
  · rw [uniUnconfirmed_rad, uniLost_sns hkind, hrad]
  · rw [natEnt_of_book (book_of_rad (uniUnconfirmed_rad v p u)), uniLost_ent, hnat]
    rfl
  · refine .of_sent (v := uniLost v p u) (outcome := 2) ((uniLost_calls v p u).trans (hv.calls rfl)) fun h hcall => ?_
    rw [uniUnconfirmed_eq, hcall]

theorem uniUnconfirmed_tim (s : State) (p : Nat) (u : Unicast) : (uniUnconfirmed s p u).tim = s.tim :=
  KeepsAllBut.tim (m := { calls := true, evq := true, rad := true }) (uniUnconfirmed_keeps _ rfl rfl rfl s p u) rfl

theorem downlinkUnconfirmed_does {s : State} {i : Nat} {e : NatEnt} {x : RadPort} {u : Unicast} (he : natEnt s i = some e)
    (hx : s.rad.ports[e.port]? = some x) (hfind : (x.uni.find? fun u => u.node = i && u.kind = .downlink && u.urgent) = some u) :
    downlinkUnconfirmed s i = uniUnconfirmed (advanceTo s (u.queuedNs + 60 * giga)) e.port u ∧ u.node = i ∧ u.kind = .downlink := by
  have hsome := List.find?_some hfind
  simp only [Bool.and_eq_true, decide_eq_true_eq] at hsome
  refine ⟨?_, hsome.1.1, hsome.1.2⟩
  unfold downlinkUnconfirmed
  rw [he]
  dsimp only
  rw [radPort_of_get hx, hfind]

theorem downlinkUnconfirmed_done {s : State} {i : Nat} {e : NatEnt} {x : RadPort} {u : Unicast} (he : natEnt s i = some e)
    (hx : s.rad.ports[e.port]? = some x) (hfind : (x.uni.find? fun u => u.node = i && u.kind = .downlink && u.urgent) = some u) :
    Done (.downlinkUnconfirmed i) s fun t => (0 < addend s → u.queuedNs + 60 * giga ≤ nowNs t) ∧
      t.rad.ports[e.port]? = some { x with uni := x.uni.erase u, cnt := bump x.cnt 10 } ∧ t.rad.sns = bump s.rad.sns 5 ∧
      natEnt t i = some { e with txUnconf := satAdd 16 e.txUnconf 1 } ∧ SendEnds s t u := by
  refine done_of (u := downlinkUnconfirmed s i) rfl
    (KeepsAllBut.pending (m := { calls := true, tim := true, evq := true, rad := true }) (downlinkUnconfirmed_keeps _ rfl rfl rfl rfl s i) rfl) ?_
  obtain ⟨heq, hnode, hkind⟩ := downlinkUnconfirmed_does he hx hfind
  rw [heq]
  subst hnode
  have hlost := uniUnconfirmed_loses (advanceTo_keeps offTim rfl s (u.queuedNs + 60 * giga)) hx he
  refine ⟨fun hadd => ?_, hlost.port, hlost.sns hkind, hlost.ent, hlost.ends⟩
  rw [nowNs_congr (uniUnconfirmed_tim _ e.port u)]
  exact advanceTo_reaches _ hadd

/-- The state in which a node send's time has run out. -/
def sendOver (s : State) (u : Unicast) (per : Nat) : State :=
  if u.kind = .downlink && !u.urgent then advanceTo s (u.queuedNs + (3 * per + 60) * giga)
  else if u.kind = .downlink then advanceTo s (u.queuedNs + 60 * giga) else s

theorem sendOver_keeps (s : State) (u : Unicast) (per : Nat) : KeepsAllBut offTim s (sendOver s u per) := by
  unfold sendOver
  split
  · exact advanceTo_keeps _ rfl s _
  · split
    · exact advanceTo_keeps _ rfl s _
    · rfl

theorem sendOver_reaches {s : State} {u : Unicast} (per : Nat) (hadd : 0 < addend s) (hkind : u.kind = .downlink) :
    u.queuedNs + (if u.urgent then 60 else 3 * per + 60) * giga ≤ nowNs (sendOver s u per) := by
  unfold sendOver
  cases hurgent : u.urgent with
  | false =>
    rw [if_neg Bool.false_ne_true, if_pos (by simp [hkind])]
    exact advanceTo_reaches _ hadd
  | true =>
    rw [if_pos rfl, if_neg (by simp), if_pos hkind]
    exact advanceTo_reaches _ hadd

theorem nodeSendTimeout_eq {s : State} {h p : Nat} {e : NatEnt} {u : Unicast}
    (hfind : ((List.range 4).findSome? fun p => ((radPort s p).uni.find? fun u => u.call = some h).map fun u => (p, u)) = some (p, u))
    (he : natEnt s u.node = some e) : nodeSendTimeout s h = uniUnconfirmed (sendOver s u e.upPeriod) p u := by
  unfold nodeSendTimeout
  rw [hfind]
  dsimp only
  rw [he]
  rfl

theorem nodeSendTimeout_done {s : State} {h p : Nat} {e : NatEnt} {x : RadPort} {u : Unicast}
    (hfind : ((List.range 4).findSome? fun p => ((radPort s p).uni.find? fun u => u.call = some h).map fun u => (p, u)) = some (p, u))
    (he : natEnt s u.node = some e) (hx : s.rad.ports[p]? = some x) :
    Done (.nodeSendTimeout h) s fun t =>
      (0 < addend s → u.kind = .downlink → u.queuedNs + (if u.urgent then 60 else 3 * e.upPeriod + 60) * giga ≤ nowNs t) ∧
      t.rad.ports[p]? = some { x with uni := x.uni.erase u, cnt := bump x.cnt 10 } ∧
      natEnt t u.node = some { e with txUnconf := satAdd 16 e.txUnconf 1 } ∧ SendEnds s t u := by
  refine done_of (u := nodeSendTimeout s h) rfl
    (KeepsAllBut.pending (m := { calls := true, tim := true, evq := true, rad := true }) (nodeSendTimeout_keeps _ rfl rfl rfl rfl s h) rfl) ?_
  rw [nodeSendTimeout_eq hfind he]
  have hlost := uniUnconfirmed_loses (sendOver_keeps s u e.upPeriod) hx he
  refine ⟨fun hadd hkind => ?_, hlost.port, hlost.ent, hlost.ends⟩
  rw [nowNs_congr (uniUnconfirmed_tim _ p u)]
  exact sendOver_reaches e.upPeriod hadd hkind

/-! ## A scan that is over -/

/-- Only CALL `h` of the records may change. -/
def OtherCalls (h : Nat) (s t : State) : Prop := ∀ j, j ≠ h → t.calls[j]? = s.calls[j]?

theorem OtherCalls.of_calls {h : Nat} {s t : State} (hcalls : t.calls = s.calls) : OtherCalls h s t := fun j _ => by rw [hcalls]

theorem OtherCalls.trans {h : Nat} {s t u : State} (h1 : OtherCalls h s t) (h2 : OtherCalls h t u) : OtherCalls h s u := fun j hj =>
  (h2 j hj).trans (h1 j hj)

theorem callState_others (s : State) (h : Nat) (f : CallRec → CallRec) : OtherCalls h s (callState s h f) := by
  have hset : OtherCalls h s (setCall s h f) := fun j hj => upd_get_other s.calls h j f hj
  unfold callState
  extract_lets old changed
  split
  · exact hset
  · exact hset.trans (.of_calls (callEvent_calls changed h))

theorem endCall_others (s : State) (h : Nat) (st : CallSt) (e : Err) : OtherCalls h s (endCall s h st e) := by
  unfold endCall
  split
  · exact .of_calls rfl
  · exact callState_others s h _

theorem callEntry_others (s : State) (h : Nat) (b : List Byte) : OtherCalls h s (callEntry s h b) := by
  unfold callEntry
  dsimp only
  split
  · exact .of_calls rfl
  · split
    · exact endCall_others s h _ _
    · exact callState_others s h _

theorem sendOutcome_others (s : State) (h i outcome : Nat) : OtherCalls h s (sendOutcome s h i outcome) := by
  unfold sendOutcome
  split
  · exact callEntry_others s h _
  · exact (callEntry_others s h _).trans (endCall_others _ h _ _)

theorem scanStart_others (s : State) (h ports : Nat) (test : Bool) (secs : Nat) : OtherCalls h s (scanStart s h ports test secs) := by
  unfold scanStart
  extract_lets held begun
  refine List.foldlRecOn (motive := fun (t : State) => OtherCalls h s t) _ _ (.of_calls rfl) fun t ht i _ => ?_
  have hheld : OtherCalls h s (setDyn (setNat t i NatEnt.explicitNow) i fun d => { d with test := true }) :=
    ht.trans (.of_calls ((setNat_keepsOffRad t i _).calls rfl))
  dsimp only
  split
  · exact hheld.trans (.of_calls (queueUni_calls _ _))
  · exact hheld.trans (sendOutcome_others _ h i 3)

/-- A CALL that has ended is not queued. -/
theorem endCall_dequeued (s : State) (h : Nat) : CallSays (endCall s h .done .ok) h fun c => c.state ≠ .queued := by
  by_cases hlive : callLive (call s h) = true
  · have hsays : CallSays s h (· = call s h) := fun c hc => (call_of_get hc).symm
    refine hsays.endCall .done .ok ?_ fun c _ => nofun
    rintro c rfl
    exact hlive
  · unfold endCall
    rw [if_pos (by simp [hlive])]
    intro c hc hqueued
    rw [call_of_get hc] at hlive
    exact hlive (by simp [callLive, hqueued])

theorem endCall_done {s : State} {h : Nat} (hlive : callLive (call s h) = true) : CallSays (endCall s h .done .ok) h fun c => c.state = .done := by
  have hsays : CallSays s h (· = call s h) := fun c hc => (call_of_get hc).symm
  refine hsays.endCall .done .ok ?_ fun c _ => rfl
  rintro c rfl
  exact hlive

theorem call_dequeued {s : State} {h : Nat} (hs : CallSays s h fun c => c.state ≠ .queued) : (call s h).state ≠ .queued := by
  cases hget : s.calls[h]? with
  | none => simp [call, nth, List.getD, hget]
  | some c => rw [call_of_get hget]; exact hs c hget

/-- The next scan is of another CALL, which alone changes. -/
theorem nextScan_starts {s : State} {h : Nat} (hnone : s.rad.scan = none) (hs : CallSays s h fun c => c.state ≠ .queued) :
    (nextScan s).calls[h]? = s.calls[h]? ∧ (∀ y, (nextScan s).rad.scan = some y → y.call ≠ h) ∧ ((nextScan s).rad.scan = none → nextScan s = s) := by
  unfold nextScan
  split
  · next k hfind =>
    have hqueued := List.find?_some hfind
    simp only [Bool.and_eq_true, decide_eq_true_eq] at hqueued
    have hother : h ≠ k := fun heq => call_dequeued hs (heq ▸ hqueued.2)
    obtain ⟨y, hy, hcall, -⟩ := scanStart_runs (callState s k fun c => { c with state := .running }) k ((call s k).arg % 256)
      ((call s k).arg / 256 % 2 = 1) ((call s k).arg / 65536 % 65536)
    refine ⟨((callState_others s k _).trans (scanStart_others _ k _ _ _)) h hother, fun z hz => ?_, fun hnot => ?_⟩
    · rw [← Option.some.inj (hy.symm.trans hz), hcall]
      exact Ne.symm hother
    · exact absurd (hy.symm.trans hnot) nofun
  · exact ⟨rfl, fun y hy => absurd (hnone.symm.trans hy) nofun, fun _ => rfl⟩

/-- Whether a scan holds a node's link. -/
def heldOf (s : State) (i : Nat) : Bool := (nodeDyn s i).test

theorem heldOf_of_shows {s t : State} (h : ShowsSame s t) (i : Nat) : heldOf t i = heldOf s i := by
  have hshown := congrArg NodeDyn.test (h.dyn i)
  exact hshown

theorem queueRejoin_held (s : State) (i reqCtr j : Nat) : heldOf (queueRejoin s i reqCtr) j = heldOf s j := by
  unfold queueRejoin
  split
  · rfl
  · dsimp only
    split
    · split
      · rfl
      · exact heldOf_of_shows (startRekey_showsSame s i) j
    · rw [heldOf, nodeDyn_of_book (book_queueUni _ _), nodeDyn_of_book (book_setRadPort _ _ _)]
      by_cases hj : j = i
      · subst hj
        rw [nodeDyn_setDyn_same]
        rfl
      · rw [nodeDyn_setDyn_other s _ hj]
        rfl

/-- One link returns to normal service. -/
def linkReleased (s : State) (i : Nat) : State := queueRejoin (setDyn s i fun d => { d with test := false }) i 0

theorem linkReleased_held (s : State) (i j : Nat) : heldOf (linkReleased s i) j = if j = i then false else heldOf s j := by
  rw [linkReleased, queueRejoin_held, heldOf]
  split
  · next hj => rw [hj, nodeDyn_setDyn_same]
  · next hj => rw [nodeDyn_setDyn_other s _ hj, heldOf]

theorem foldl_linkReleased (l : List Nat) (s : State) (j : Nat) (h : j ∈ l ∨ heldOf s j = false) : heldOf (l.foldl linkReleased s) j = false := by
  induction l generalizing s with
  | nil => exact h.resolve_left (by simp)
  | cons i l ih =>
    refine ih (linkReleased s i) ?_
    by_cases hj : j = i
    · exact .inr (by rw [linkReleased_held, if_pos hj])
    · refine h.imp (fun hmem => (List.mem_cons.mp hmem).resolve_left hj) fun hheld => ?_
      rw [linkReleased_held, if_neg hj, hheld]

theorem scanRelease_held (s : State) (c : Scan) {i : Nat} (hi : i ∈ c.held) : (nodeDyn (scanRelease s c) i).test = false :=
  foldl_linkReleased c.held s i (.inl hi)

theorem scanRelease_keepsOff (s : State) (c : Scan) : KeepsAllBut { rad := true, keys := true, free := true } s (scanRelease s c) :=
  scanRelease_keeps _ rfl rfl rfl s c

theorem scanEnd_eq {s : State} {c : Scan} (h : s.rad.scan = some c) :
    scanEnd s = nextScan (scanRelease (endCall (advanceTo s c.endNs) c.call .done .ok) c) := by
  unfold scanEnd
  rw [h]

/-- What the end of a scan leaves, its time come in `v`. -/
theorem scanOver {s v : State} (c : Scan) (hv : KeepsAllBut offTim s v) {t : State}
    (ht : t = nextScan (scanRelease (endCall v c.call .done .ok) c)) :
    nowNs t = nowNs v ∧ (∀ y, t.rad.scan = some y → y.call ≠ c.call) ∧
      (t.rad.scan = none → ∀ i ∈ c.held, (nodeDyn t i).test = false) ∧
      (callLive (call s c.call) = true → ∀ x, t.calls[c.call]? = some x → x.state = .done) := by
  have hrelease := scanRelease_keepsOff (endCall v c.call .done .ok) c
  have hheld := fun i => scanRelease_held (endCall v c.call .done .ok) c (i := i)
  have hnone : (scanRelease (endCall v c.call .done .ok) c).rad.scan = none := rfl
  have htim : t.tim = v.tim := by
    rw [ht]
    exact (KeepsAllBut.tim (m := { calls := true, evq := true, rad := true }) (nextScan_keeps _ rfl rfl rfl _) rfl).trans
      ((hrelease.tim rfl).trans ((endCall_offCalls v c.call .done .ok).tim rfl))
  generalize scanRelease (endCall v c.call .done .ok) c = w at ht hrelease hheld hnone
  have hdequeued := (endCall_dequeued v c.call).of_calls (hrelease.calls rfl)
  obtain ⟨hcalls, hother, hsame⟩ := nextScan_starts hnone hdequeued
  rw [← ht] at hcalls hother hsame
  refine ⟨nowNs_congr htim, hother, fun hend i hi => hsame hend ▸ hheld i hi, fun hlive x hx => ?_⟩
  have hlive' : callLive (call v c.call) = true := by rw [call, hv.calls rfl]; exact hlive
  exact ((endCall_done hlive').of_calls (hrelease.calls rfl)) x (hcalls ▸ hx)

theorem scanEnd_done {s : State} {c : Scan} (h : s.rad.scan = some c) :
    Done .scanEnd s fun t => (0 < addend s → c.endNs ≤ nowNs t) ∧ (∀ y, t.rad.scan = some y → y.call ≠ c.call) ∧
      (t.rad.scan = none → ∀ i ∈ c.held, (nodeDyn t i).test = false) ∧
      (callLive (call s c.call) = true → ∀ x, t.calls[c.call]? = some x → x.state = .done) := by
  refine done_of (u := scanEnd s) rfl
    (KeepsAllBut.pending (m := { calls := true, tim := true, evq := true, rad := true, keys := true, free := true })
      (scanEnd_keeps _ rfl rfl rfl rfl rfl rfl s) rfl) ?_
  obtain ⟨hnow, hother, hheld, hdone⟩ := scanOver c (advanceTo_keeps offTim rfl s c.endNs) (scanEnd_eq h)
  exact ⟨fun hadd => hnow ▸ advanceTo_reaches _ hadd, hother, hheld, hdone⟩

/-! ## The bins of the duty accounts -/

/-- The bin closed in the accounts and kept in the ledger. -/
def binRolled (v : State) : State :=
  setRad (setLedr v fun l => { l with duty := v.rad.duty }) fun r =>
    { r with binAt := r.binAt + secCyc 1, binNo := r.binNo + 1,
             duty := r.duty.map fun a => { a with bins := (0, 0, 0) :: a.bins.take 3599,
                                                  full := a.full.filter fun n => r.binNo + 1 < n + 3600 } }

theorem dutyRoll_eq {s : State} (hup : moduleUp s = true) (hled : .rad ∉ s.ledBad) :
    dutyRoll s = binRolled (advanceCyc s (s.rad.binAt + secCyc 1)) := by
  have hgood : .rad ∉ (advanceCyc s (s.rad.binAt + secCyc 1)).ledBad := by rw [advanceCyc_ledBad]; exact hled
  unfold dutyRoll
  rw [hup, if_neg (by decide)]
  dsimp only
  rw [ledgerWrite_ok hgood]
  rfl

theorem binRolled_rolls {s v : State} (hv : KeepsAllBut offTim s v) (hlate : s.rad.binAt + secCyc 1 ≤ v.tim.cyc) :
    (binRolled v).rad.binNo = s.rad.binNo + 1 ∧ (binRolled v).rad.binAt = s.rad.binAt + secCyc 1 ∧ (binRolled v).rad.binAt ≤ (binRolled v).tim.cyc ∧
      (binRolled v).rad.duty.map DutyAcc.bins = s.rad.duty.map (fun a => (0, 0, 0) :: a.bins.take 3599) ∧ (binRolled v).ledr.duty = s.rad.duty := by
  have hrad : v.rad = s.rad := hv.rad rfl
  have hbin : (binRolled v).rad.binAt = s.rad.binAt + secCyc 1 := congrArg (fun r : RadState => r.binAt + secCyc 1) hrad
  refine ⟨congrArg (fun r : RadState => r.binNo + 1) hrad, hbin, by rw [hbin]; exact hlate, ?_, congrArg RadState.duty hrad⟩
  rw [← hrad]
  exact List.map_map

theorem dutyBinRoll_done {s : State} (hup : moduleUp s = true) (hled : .rad ∉ s.ledBad) :
    Done .dutyBinRoll s fun t => t.rad.binNo = s.rad.binNo + 1 ∧ t.rad.binAt = s.rad.binAt + secCyc 1 ∧ t.rad.binAt ≤ t.tim.cyc ∧
      t.rad.duty.map DutyAcc.bins = s.rad.duty.map (fun a => (0, 0, 0) :: a.bins.take 3599) ∧ t.ledr.duty = s.rad.duty := by
  refine done_of (u := dutyRoll s) rfl
    (KeepsAllBut.pending (m := { tim := true, rad := true, ledr := true, ledBad := true }) (dutyRoll_keeps _ rfl rfl rfl rfl s) rfl) ?_
  rw [dutyRoll_eq hup hled]
  exact binRolled_rolls (advanceCyc_keeps offTim rfl s _) (advanceCyc_reaches s _)

/-- Settles O54: a unicast lost is withdrawn and counted before its CALL learns of it; a scan's end leaves its CALL not queued, so that the next scan is
another CALL's. -/
theorem unicastsAndScansEnd : Obligations.UnicastsAndScansEnd := by
  unfold Obligations.UnicastsAndScansEnd
  exact ⟨fun s i e x u he hx hfind => downlinkUnconfirmed_done he hx hfind, fun s h p e x u hfind he hx => nodeSendTimeout_done hfind he hx,
    fun s c hc => scanEnd_done hc, fun s hup hled => dutyBinRoll_done hup hled⟩

end Sys2Proof.Machine
end

section
/-! Radio frames that fail a check (R211, R212, R221). -/
namespace Sys2Proof.Machine

/-! ## A frame that fails a check up to its source -/

/-- A frame that fails a check of its header, counted at its end. -/
def failedAt (s : State) (f : RxFrame) (v : RxFail) : State := rxFails (rxEnds s f) f.port v

section
variable {s : State} {f : RxFrame} {v : RxFail}

theorem rxJudge_failed (typed b : Bool) (pkt : Option (Nat × Nat)) (hopen : rxOpen (radPort s f.port) = true) (hserves : radServes s = true)
    (herr : rxHeader s f = .error v) : rxJudge s f typed b pkt = (failedAt s f v, none) := by
  rw [judge_open s f typed b pkt hopen hserves, rxHeader_rxEnds, herr]
  rfl

theorem enrolJudge_failed (b : Bool) (hopen : rxOpen (radPort s f.port) = true) (hserves : radServes s = true) (herr : rxHeader s f = .error v) :
    enrolJudge s f b = failedAt s f v := by
  unfold enrolJudge
  extract_lets -underBinder p ended
  have hended : rxHeader ended f = .error v := (rxHeader_rxEnds s f).trans herr
  rw [if_neg (by rw [hopen, hserves]; decide), hended]
  rfl

/-- The rows of a frame received leave one that fails its checks to its count. -/
theorem exec_failed {b : LanternBody} {pl : List Byte} {flags batt mtype crc part : Nat} {d : List Byte} {c : Instr}
    (hopen : rxOpen (radPort s f.port) = true) (hserves : radServes s = true) (herr : rxHeader s f = .error v)
    (hc : c ∈ [Instr.rxFrameAborted f, .lanternReport f b, .detectorEvent f pl, .sensorHeartbeat f flags batt d, .enrolmentRequest f,
      .rejoinRequest f crc, .binningRecordPart f part d, .unlistedMtype f mtype]) : exec c s = ran s (failedAt s f v) := by
  have hjudge := fun typed pkt => rxJudge_failed typed true pkt hopen hserves herr
  simp only [List.mem_cons, List.not_mem_nil, or_false] at hc
  rcases hc with rfl | rfl | rfl | rfl | rfl | rfl | rfl | rfl
  · have hexec : exec (.rxFrameAborted f) s = ran s (rxAborted s f) := rfl
    rw [hexec, rxAborted, rxLink, hjudge]
  · have hexec : exec (.lanternReport f b) s = ran s (lanternReport s f b) := rfl
    rw [hexec, lanternReport, rxReport, hjudge]
  · have hexec : exec (.detectorEvent f pl) s = ran s (detectorEvent s f pl) := rfl
    rw [hexec, detectorEvent, rxLink, hjudge]
  · have hexec : exec (.sensorHeartbeat f flags batt d) s = ran s (sensorHeartbeat s f flags batt d) := rfl
    rw [hexec, sensorHeartbeat, rxReport, hjudge]
  · have hexec : exec (.enrolmentRequest f) s = ran s (enrolRequest s f) := rfl
    rw [hexec, enrolRequest, enrolJudge_failed true hopen hserves herr]
  · have hexec : exec (.rejoinRequest f crc) s = ran s (rejoinRequest s f crc) := rfl
    rw [hexec, rejoinRequest, rxLink, hjudge]
  · have hexec : exec (.binningRecordPart f part d) s = ran s (binningPart s f part d) := rfl
    rw [hexec, binningPart, recordPart, rxLink, hjudge]
  · have hexec : exec (.unlistedMtype f mtype) s = ran s (unlistedMtype s f mtype) := rfl
    rw [hexec, unlistedMtype, rxLink, hjudge]

theorem failedAt_keeps : KeepsAllBut { tim := true, rad := true, free := true } s (failedAt s f v) :=
  (rxFails_keeps _ rfl rfl _ _ _).trans (rxEnds_keeps _ rfl rfl s f)

theorem failedAt_reaches (h : 0 < addend s) : frameEnd s f ≤ nowNs (failedAt s f v) := by
  have htim : (failedAt s f v).tim = (rxEnds s f).tim := KeepsAllBut.tim (m := { rad := true, free := true }) (rxFails_keeps _ rfl rfl _ _ _) rfl
  rw [nowNs_congr htim]
  exact rxEnds_reaches f h

theorem failedAt_rad (s : State) (f : RxFrame) (v : RxFail) : ∃ runs, (failedAt s f v).rad = { s.rad with
    ports := upd s.rad.ports f.port fun x => { x with sfd := ts32 (sfdOf s f), cnt := bump x.cnt v.idx, spi := x.spi ++ runs },
    waits := s.rad.waits.filter fun w => w.1 ≠ .frame f, nat := (failedAt s f v).rad.nat } := by
  obtain ⟨l, hl⟩ := rxFails_rad (rxEnds s f) f.port v
  refine ⟨l, hl.trans ?_⟩
  rw [rxEnds_rad]
  simp only [upd_upd]
  rfl

theorem failedAt_nat (h : ∀ i, v ≠ .barred i) : (failedAt s f v).rad.nat = s.rad.nat :=
  (rxFails_nat _ _ h).trans (nat_of_book (book_rxEnds s f))

theorem failedAt_barred {i : Nat} {e : NatEnt} (hv : v = .barred i) (he : natEnt s i = some e) :
    natEnt (failedAt s f v) i = some { e with rxDrop := satAdd 16 e.rxDrop 1 } := by
  rw [hv, failedAt, rxFails_barred, natEnt_rxEnds, he]
  rfl

end

/-! ## Acks armed -/

theorem portView_runOp {α : Type} {g : RadPort → α} (hspi : ∀ (x : RadPort) (l : List SpiRun), g { x with spi := l } = g x) (s : State) (p op : Nat)
    (a : SpiArg) : portView g (runOp s p op a) = portView g s := by
  obtain ⟨l, hl⟩ := runOp_rad s p op a
  rw [portView, hl, portView]
  exact (upd_map _ s.rad.ports p _ id fun x => hspi x _).trans (upd_id _ p)

/-- The counters stay where a port's counters do. -/
theorem cnt_setRadPort (s : State) (p : Nat) {f : RadPort → RadPort} (hf : ∀ x, (f x).cnt = x.cnt) :
    portView RadPort.cnt (setRadPort s p f) = portView RadPort.cnt s := portView_setRadPort s p hf

theorem trxSend_cnt (s : State) (p : Nat) (a : AirFrame) : portView RadPort.cnt (trxSend s p a) = portView RadPort.cnt s := by
  have hrun := portView_runOp (g := RadPort.cnt) fun _ _ => rfl
  unfold trxSend trxIdleOwed
  dsimp only
  rw [hrun, hrun]
  split
  · rw [cnt_setRadPort _ _ (fun _ => by rfl), hrun]
  · rfl

theorem chargeGeneral_ports (s : State) (b : Nat) (c : ShedCls) (ms : Nat) : (chargeGeneral s b c ms).1.rad.ports = s.rad.ports := by
  unfold chargeGeneral
  split <;> rfl

theorem chargeOrShed_ports (s : State) (p : Nat) (c : ShedCls) (ms : Nat) : (chargeOrShed s p c ms).1.rad.ports = s.rad.ports := by
  unfold chargeOrShed
  extract_lets b r
  have hr : r.1.rad.ports = s.rad.ports := chargeGeneral_ports s b c ms
  split
  · exact hr
  · exact hr

theorem armAck_cnt (s : State) (f : RxFrame) (i : Option Nat) (nack : Bool) : portView RadPort.cnt (armAck s f i nack) = portView RadPort.cnt s := by
  unfold armAck
  extract_lets k node oct asn c key dest a
  have hc : portView RadPort.cnt c.1 = portView RadPort.cnt s := congrArg (List.map RadPort.cnt) (chargeOrShed_ports s f.port .top (chargeMs k oct))
  split
  · rfl
  · split
    · exact hc
    · rw [trxSend_cnt, cnt_setRadPort _ _ (fun _ => by rfl), hc]

/-- A port whose counters stay. -/
theorem port_of_cnt {s t : State} {p : Nat} {x : RadPort} (h : portView RadPort.cnt t = portView RadPort.cnt s) (hx : s.rad.ports[p]? = some x) :
    ∃ y, t.rad.ports[p]? = some y ∧ y.cnt = x.cnt := by
  have hget := congrArg (·[p]?) h
  simp only [portView, List.getElem?_map, hx, Option.map_some] at hget
  exact Option.map_eq_some_iff.mp hget

/-! ## A frame with a bad FCS, and one that is delivered -/

/-- The frame read, and its ack decided. -/
def ackDecided (s : State) (f : RxFrame) (i : Nat) : State := armAck (trxRead (rxEnds s f) f.port f.psdu) f (some i) false

theorem ackDecided_book (s : State) (f : RxFrame) (i : Nat) : book (ackDecided s f i) = book s := by simp [ackDecided]

theorem ackDecided_port {s : State} {f : RxFrame} {x : RadPort} (hx : s.rad.ports[f.port]? = some x) (i : Nat) :
    ∃ y, (ackDecided s f i).rad.ports[f.port]? = some y ∧ y.cnt = x.cnt := by
  obtain ⟨l, hl⟩ := ackRead_port (f := f) hx
  rw [ackDecided]
  obtain ⟨y, hy, hcnt⟩ := port_of_cnt (armAck_cnt (ackRead s f) f (some i) false) hl
  exact ⟨y, hy, hcnt⟩

theorem known_badFcs (w : State) {f : RxFrame} (i : Nat) (typed b : Bool) (pkt : Option (Nat × Nat)) (hfcs : f.fcsOk = false) :
    rxKnown w f i typed b pkt = (fcsFail (armAck (trxRead w f.port f.psdu) f (some i) false) f (some i), none) := by
  unfold rxKnown
  extract_lets -underBinder pend read
  rw [if_pos (by simp [hfcs])]

theorem rxAborted_badFcs {s : State} {f : RxFrame} {i : Nat} (hopen : rxOpen (radPort s f.port) = true) (hserves : radServes s = true)
    (hheader : rxHeader s f = .ok (some i)) (hfcs : f.fcsOk = false) : rxAborted s f = fcsFail (ackDecided s f i) f (some i) := by
  rw [rxAborted, rxLink, judge_link s f i false true none hopen hserves hheader, known_badFcs _ i false true none hfcs, ackDecided]

theorem rxAborted_pending (s : State) (f : RxFrame) : (rxAborted s f).pending = s.pending :=
  KeepsAllBut.pending (m := { tim := true, evq := true, rad := true, sec := true, keys := true, ledr := true, ledBad := true, free := true })
    (rxAborted_keeps _ rfl rfl rfl rfl rfl rfl rfl rfl s f) rfl

theorem badFcs_done {s : State} {f : RxFrame} {x : RadPort} {e : NatEnt} {i : Nat} (hx : s.rad.ports[f.port]? = some x) (hopen : rxOpen x = true)
    (hserves : radServes s = true) (hheader : rxHeader s f = .ok (some i)) (he : natEnt s i = some e) (hfcs : f.fcsOk = false) :
    Done (.rxFrameAborted f) s fun t => natEnt t i = some { e with rxDrop := satAdd 16 e.rxDrop 1 } ∧
      ∃ y, t.rad.ports[f.port]? = some y ∧ y.cnt[3]? = x.cnt[3]?.map inc32 ∧ y.ack = none := by
  refine done_of (u := rxAborted s f) rfl (rxAborted_pending s f) ?_
  rw [rxAborted_badFcs (by rw [radPort_of_get hx]; exact hopen) hserves hheader hfcs]
  obtain ⟨z, hz, hcnt⟩ := ackDecided_port hx i
  obtain ⟨⟨y, hy, hack, -, hbump⟩, hent⟩ := fcsFail_fails (f := f) (i := i) hz
  refine ⟨?_, y, hy, by rw [hbump, hcnt], hack⟩
  rw [hent, natEnt_of_book (ackDecided_book s f i), he]
  rfl

/-- A frame that passes every check is no aborted one. -/
theorem rxAborted_heard {s : State} {f : RxFrame} {i : Nat} {e : NatEnt} (h : Heard s f i e false) : rxAborted s f = s := by
  rw [rxAborted, rxLink, heard_judge h]

/-- Settles O55: every row of a frame goes through the checks of its header first, and one that fails them leaves it to its count. -/
theorem receivedFramesAreJudged : Obligations.ReceivedFramesAreJudged := by
  unfold Obligations.ReceivedFramesAreJudged
  refine ⟨fun s f x b pl flags batt mtype crc part d v c hx hopen hserves herr hc => ?_,
    fun s f x e i hx hopen hserves hheader he hfcs => badFcs_done hx hopen hserves hheader he hfcs, fun s f i e h => ?_⟩
  · have hkeeps := failedAt_keeps (s := s) (f := f) (v := v)
    exact done_of (exec_failed (by rw [radPort_of_get hx]; exact hopen) hserves herr hc) (hkeeps.pending rfl)
      ⟨failedAt_reaches, failedAt_rad s f v, failedAt_nat, fun i e hv he => failedAt_barred hv he, hkeeps.evq rfl, hkeeps.crs rfl, hkeeps.lgt rfl,
        hkeeps.keys rfl⟩
  · exact done_of (u := rxAborted s f) rfl (rxAborted_pending s f) (rxAborted_heard h)

end Sys2Proof.Machine
end

section
/-! A frame that is heard (R222, R246, R277, R280, R281): what it leaves of RAD, whatever its message is. -/
namespace Sys2Proof.Machine

/-! ## The state of a frame heard -/

/-- The counters of a frame heard taken over. -/
def heardCounted (s : State) (f : RxFrame) (i : Nat) : State := acceptCounterOf (restartSeen (heardAt s f i) i f) i f

/-- A frame heard and accepted. -/
def heardState (s : State) (f : RxFrame) (i : Nat) : State :=
  ackOwes (acceptFrame (heardCounted s f i) f i) f i (ackPend (rxEnds s f) (some i))

theorem rxJudge_heard {s : State} {f : RxFrame} {i : Nat} {e : NatEnt} {typed : Bool} (h : Heard s f i e typed) (pkt : Option (Nat × Nat)) :
    rxJudge s f typed true pkt = (heardState s f i, some i) := by rw [heard_judge h, heardState, heardCounted]

/-- The parts that a frame heard may change. -/
abbrev offHeard : Parts :=
  { tim := true, evq := true, rad := true, sec := true, keys := true, ledr := true, ledBad := true, free := true }

theorem heardState_keeps {s : State} {f : RxFrame} {i : Nat} {e : NatEnt} {typed : Bool} (h : Heard s f i e typed) :
    KeepsAllBut offHeard s (heardState s f i) := by
  have hkeeps := rxJudge_keeps offHeard rfl rfl rfl rfl rfl rfl rfl rfl s f typed true none
  rw [rxJudge_heard h] at hkeeps
  exact hkeeps

/-! ## The epoch of the node's link -/

/-- Of node `i` only the epoch offered changes, to `ep`. -/
structure Renews (s t : State) (i : Nat) (ep : Option Nat) : Prop where
  ent : ∀ j, shownEnt t j = shownEnt s j
  dyn : shownDyn t i = { shownDyn s i with newEpoch := ep }
  ctr : t.rad.groupCtr = s.rad.groupCtr

theorem Renews.of_shows {s t : State} (h : ShowsSame s t) (i : Nat) : Renews s t i (nodeDyn s i).newEpoch := ⟨h.ent, h.dyn i, h.ctr⟩

theorem Renews.after {s t u : State} {i : Nat} {ep : Option Nat} (h : ShowsSame s t) (k : Renews t u i ep) : Renews s u i ep :=
  ⟨fun j => (k.ent j).trans (h.ent j), by rw [k.dyn, h.dyn], k.ctr.trans h.ctr⟩

theorem Renews.before {s t u : State} {i : Nat} {ep : Option Nat} (h : Renews s t i ep) (k : ShowsSame t u) : Renews s u i ep :=
  ⟨fun j => (k.ent j).trans (h.ent j), by rw [k.dyn, h.dyn], k.ctr.trans h.ctr⟩

theorem epochEnds_renews (s : State) (i : Nat) : Renews s (setDyn s i fun d => { d with newEpoch := none }) i none :=
  ⟨fun _ => rfl, by rw [shownDyn, nodeDyn_setDyn_same]; rfl, rfl⟩

section
variable {s : State} {i : Nat} {e : NatEnt} {f : RxFrame}

theorem restartSeen_same (he : natEnt s i = some e) (h : ¬ (f.explicit_ = true ∧ e.explicit_ = false)) : restartSeen s i f = s := by
  unfold restartSeen
  rw [he]
  refine if_neg fun hall => h ?_
  simp only [Bool.and_eq_true, Bool.not_eq_true'] at hall
  exact hall.1

/-- A node that has restarted, in the explicit regime from a frame's counter on. -/
def restarted (s : State) (i c : Nat) : State := setNat (setNat s i NatEnt.explicitNow) i fun e => { e with rxFc := c }

theorem restarted_shows (s : State) (i c : Nat) : ShowsSame s (restarted s i c) := by
  have hnow : ShowsSame s (setNat s i NatEnt.explicitNow) := .setNat s i fun _ => rfl
  exact hnow.trans (.setNat _ i fun _ => rfl)

theorem restartSeen_renews (he : natEnt s i = some e) (hf : f.explicit_ = true) (hexpl : e.explicit_ = false) (hnew : rxTop e < f.counter) :
    Renews s (restartSeen s i f) i none := by
  have hseen : restartSeen s i f = rxFloor (setDyn (restarted s i f.counter) i fun d => { d with newEpoch := none }) i := by
    unfold restartSeen
    rw [he]
    exact if_pos (by simp [hf, hexpl, hnew])
  rw [hseen]
  exact (Renews.after (restarted_shows s i f.counter) (epochEnds_renews _ i)).before (.of_book (book_rxFloor _ i))

/-- The counters of a delivered frame in its source's entry. -/
def counterKept (s : State) (i : Nat) (e : NatEnt) (f : RxFrame) : State :=
  if f.explicit_ then setNat s i fun e => { e with rxFc := f.counter }
  else if e.explicit_ then
    let ep := (nodeDyn s i).newEpoch.getD (e.linkEpoch + 1)
    let s := setNat s i fun e => { e with explicit_ := false, linkEpoch := ep, rxSeq := f.counter, txSeq := 0 }
    setDyn s i fun d => { d with newEpoch := none }
  else setNat s i fun e => { e with rxSeq := f.counter }

theorem acceptCounterOf_eq (he : natEnt s i = some e) : ∃ c, acceptCounterOf s i f = rekeyWorn (rxFloor (counterKept s i e f) i) i c := by
  unfold acceptCounterOf
  rw [he]
  exact ⟨_, rfl⟩

/-- What follows of the link's key shows nothing. -/
theorem rekeyWorn_floor_shows (s : State) (i c : Nat) : ShowsSame s (rekeyWorn (rxFloor s i) i c) :=
  .trans (.of_book (book_rxFloor s i)) (rekeyWorn_showsSame _ i c)

theorem acceptCounterOf_same (he : natEnt s i = some e) (h : ¬ (f.explicit_ = false ∧ e.explicit_ = true)) : ShowsSame s (acceptCounterOf s i f) := by
  obtain ⟨c, hc⟩ := acceptCounterOf_eq (f := f) he
  have hkept : ShowsSame s (counterKept s i e f) := by
    unfold counterKept
    by_cases hf : f.explicit_ = true
    · rw [if_pos hf]
      exact .setNat s i fun _ => rfl
    · rw [if_neg hf, if_neg fun hexpl => h ⟨Bool.eq_false_iff.mpr hf, hexpl⟩]
      exact .setNat s i fun _ => rfl
  rw [hc]
  exact hkept.trans (rekeyWorn_floor_shows _ i c)

theorem acceptCounterOf_renews (he : natEnt s i = some e) (hf : f.explicit_ = false) (hexpl : e.explicit_ = true) :
    Renews s (acceptCounterOf s i f) i none := by
  obtain ⟨c, hc⟩ := acceptCounterOf_eq (f := f) he
  have hkept : Renews s (counterKept s i e f) i none := by
    unfold counterKept
    rw [if_neg (by simp [hf]), if_pos hexpl]
    extract_lets ep begun
    have hbegun : ShowsSame s begun := .setNat s i fun _ => rfl
    exact Renews.after hbegun (epochEnds_renews begun i)
  rw [hc]
  exact hkept.before (rekeyWorn_floor_shows _ i c)

end

/-- The epoch offered that a frame heard leaves (R281). -/
def epochKept (s : State) (f : RxFrame) (i : Nat) (e : NatEnt) : Option Nat :=
  if f.explicit_ = e.explicit_ then (nodeDyn s i).newEpoch else none

theorem natEnt_oldKeyGone (s : State) (i j : Nat) : natEnt (oldKeyGone s i) j = natEnt s j := by
  unfold oldKeyGone
  split
  · split <;> rfl
  · rfl

theorem natEnt_heardAt (s : State) (f : RxFrame) (i : Nat) : natEnt (heardAt s f i) i = natEnt s i := by
  rw [natEnt_oldKeyGone]
  exact natEnt_of_book (by simp) i

theorem heardAt_shows (s : State) (f : RxFrame) (i : Nat) : ShowsSame s (heardAt s f i) :=
  .trans (.of_book (by simp)) (oldKeyGone_showsSame _ i)

theorem newEpoch_of_shows {s t : State} (h : ShowsSame s t) (i : Nat) : (nodeDyn t i).newEpoch = (nodeDyn s i).newEpoch := by
  have hshown := congrArg NodeDyn.newEpoch (h.dyn i)
  exact hshown

/-- A frame in the explicit regime, of a node in the normal one, is newer than all before it. -/
theorem heard_restarts {s : State} {f : RxFrame} {i : Nat} {e : NatEnt} {typed : Bool} (h : Heard s f i e typed) (hf : f.explicit_ = true)
    (hexpl : e.explicit_ = false) : rxTop e < f.counter := by
  have hfresh := h.fresh
  unfold linkJudge at hfresh
  rw [if_pos hf, if_neg (by simp [hexpl])] at hfresh
  refine Decidable.byContradiction fun hold => ?_
  rw [if_neg hold] at hfresh
  exact absurd hfresh nofun

theorem counted_renews {s : State} {f : RxFrame} {i : Nat} {e : NatEnt} (hent : natEnt s i = some e)
    (hnew : f.explicit_ = true → e.explicit_ = false → rxTop e < f.counter) :
    Renews s (acceptCounterOf (restartSeen s i f) i f) i (epochKept s f i e) := by
  unfold epochKept
  cases hf : f.explicit_ with
  | false =>
    rw [restartSeen_same hent (by simp [hf])]
    cases hexpl : e.explicit_ with
    | false => exact .of_shows (acceptCounterOf_same hent (by simp [hexpl])) i
    | true => exact acceptCounterOf_renews hent hf hexpl
  | true =>
    cases hexpl : e.explicit_ with
    | false =>
      have hseen := restartSeen_renews hent hf hexpl (hnew hf hexpl)
      obtain ⟨e', he', -⟩ := Option.map_eq_some_iff.mp ((hseen.ent i).trans (congrArg (Option.map entShown) hent))
      exact hseen.before (acceptCounterOf_same he' (by simp [hf]))
    | true =>
      rw [restartSeen_same hent (by simp [hexpl])]
      exact .of_shows (acceptCounterOf_same hent (by simp [hf])) i

theorem heardCounted_renews {s : State} {f : RxFrame} {i : Nat} {e : NatEnt} {typed : Bool} (h : Heard s f i e typed) :
    Renews s (heardCounted s f i) i (epochKept s f i e) := by
  have hshows := heardAt_shows s f i
  have hkept : epochKept (heardAt s f i) f i e = epochKept s f i e := by rw [epochKept, newEpoch_of_shows hshows, epochKept]
  have hcounted := counted_renews ((natEnt_heardAt s f i).trans h.ent) (heard_restarts h)
  rw [hkept] at hcounted
  exact Renews.after hshows hcounted

/-! ## What a frame heard leaves -/

/-- What a frame heard of node `i` leaves: its entry as accepted, its data but for the epoch, the packets of EVQ's queues as many. -/
structure HeardLeaves (s t : State) (f : RxFrame) (i : Nat) (e : NatEnt) : Prop where
  ent : shownEnt t i = some (entShown (entHeard (sfdOf s f) f e))
  dyn : shownDyn t i = { dynShown (nodeDyn s i) with newEpoch := epochKept s f i e }
  ctr : t.rad.groupCtr = s.rad.groupCtr
  keeps : KeepsAllBut offHeard s t
  queues : t.evq.queues.length = s.evq.queues.length
  qual : t.tim.qual = s.tim.qual

theorem shownEnt_entHeard {s : State} {i sfd : Nat} {f : RxFrame} {e : NatEnt} (h : shownEnt s i = some (entShown e)) :
    shownEnt (setNat s i (entHeard sfd f)) i = some (entShown (entHeard sfd f e)) := by
  obtain ⟨y, hy, hshown⟩ := Option.map_eq_some_iff.mp h
  have hheard : entShown (entHeard sfd f y) = entHeard sfd f (entShown y) := rfl
  rw [shownEnt, natEnt_setNat_same, hy, Option.map_some, Option.map_some, hheard, hshown]
  rfl

theorem event_queues (s : State) (w : Stn) (code subject d0 d1 : Nat) : (event s w code subject d0 d1).evq.queues.length = s.evq.queues.length := by
  unfold event eventAt record putPacket
  split <;> exact upd_length _ _ _

theorem acceptFrame_queues (s : State) (f : RxFrame) (i : Nat) : (acceptFrame s f i).evq.queues.length = s.evq.queues.length := by
  unfold acceptFrame
  extract_lets sfd t u v
  have ht : t.evq = s.evq := (setNat_keepsOffRad (radCount s f.port 0) i _).evq rfl
  have hv : v.evq.queues.length = s.evq.queues.length := by
    rw [← ht]
    unfold v
    split
    · split
      · have hset : (setNat u i fun e => { e with adrift := false }).evq = u.evq := (setNat_keepsOffRad u i _).evq rfl
        unfold adriftEnds
        rw [event_queues]
        exact congrArg (·.queues.length) hset
      · rfl
    · rfl
  rw [← hv]
  exact congrArg (·.queues.length) (KeepsAllBut.evq (m := { rad := true }) (madeContact_keeps _ rfl v i) rfl)

/-- The parts that the counters of a frame may change. -/
abbrev offCounted : Parts := { rad := true, keys := true, free := true, sec := true, ledr := true, ledBad := true }

theorem heardCounted_keeps (s : State) (f : RxFrame) (i : Nat) : KeepsAllBut offCounted (rxEnds s f) (heardCounted s f i) := by
  unfold heardCounted KeepsAllBut
  simp

theorem advanceSub_qual (s : State) (sub : Nat) : (advanceSub s sub).tim.qual = s.tim.qual := by
  unfold advanceSub
  split
  · rw [passCycles_tim]
  · rfl

theorem advanceTo_qual (s : State) (ns : Nat) : (advanceTo s ns).tim.qual = s.tim.qual := advanceSub_qual s (ns * frac)

theorem rxEnds_qual (s : State) (f : RxFrame) : (rxEnds s f).tim.qual = s.tim.qual := by rw [rxEnds_tim, advanceTo_qual]

theorem heard_leaves {s : State} {f : RxFrame} {i : Nat} {e : NatEnt} {typed : Bool} (h : Heard s f i e typed) :
    HeardLeaves s (heardState s f i) f i e := by
  have hkeeps := heardState_keeps h
  have hrenews := heardCounted_renews h
  have hcounted := heardCounted_keeps s f i
  have hcfg : (heardCounted s f i).cfg = s.cfg := (hcounted.cfg rfl).trans (rxEnds_cfg s f)
  have hevq : (heardCounted s f i).evq = s.evq := (hcounted.evq rfl).trans (KeepsAllBut.evq (m := { tim := true, rad := true }) (rxEnds_keeps _ rfl rfl s f) rfl)
  have hqual : (heardCounted s f i).tim.qual = s.tim.qual := (congrArg (·.qual) (hcounted.tim rfl)).trans (rxEnds_qual s f)
  unfold heardState at hkeeps ⊢
  generalize heardCounted s f i = u at hkeeps hrenews hcfg hevq hqual
  have hshows := (acceptFrame_shown u f i).trans (ackOwes_showsSame (acceptFrame u f i) f i (ackPend (rxEnds s f) (some i)))
  have htail : KeepsAllBut { rad := true, evq := true } u (acceptFrame u f i) := acceptFrame_keeps _ rfl rfl u f i
  have howes : KeepsAllBut { rad := true } (acceptFrame u f i) (ackOwes (acceptFrame u f i) f i (ackPend (rxEnds s f) (some i))) :=
    ackOwes_keeps _ rfl _ f i _
  refine ⟨?_, ?_, ?_, hkeeps, ?_, ?_⟩
  · rw [hshows.ent, sfdOf_congr hcfg]
    exact shownEnt_entHeard (by rw [hrenews.ent, shownEnt, h.ent, Option.map_some])
  · rw [hshows.dyn, shownDyn_setNat, hrenews.dyn]
    rfl
  · rw [hshows.ctr, setNat_groupCtr, hrenews.ctr]
  · rw [howes.evq rfl, acceptFrame_queues, hevq]
  · rw [howes.tim rfl, htail.tim rfl, hqual]

section
variable {s t : State} {f : RxFrame} {i : Nat} {e : NatEnt}

/-- A frame heard is accepted. -/
theorem HeardLeaves.accepted (h : HeardLeaves s t f i e) {u : State} (hnat : u.rad.nat = t.rad.nat) (he : natEnt s i = some e) : Accepted s u f i := by
  intro e' he'
  obtain rfl : e = e' := Option.some.inj (he.symm.trans he')
  have hshown : shownEnt u i = shownEnt t i := by rw [shownEnt, natEnt, hnat, shownEnt, natEnt]
  obtain ⟨y, hy, hmissed, hok, hlast, hrssi⟩ := heard_of_shown (hshown.trans h.ent)
  exact ⟨y, hy, hok, hlast, hrssi, hmissed⟩

/-- The node's entry stays in its place. -/
theorem HeardLeaves.placed (h : HeardLeaves s t f i e) : ∃ y, natEnt t i = some y ∧ y.port = e.port ∧ y.channel = e.channel := by
  obtain ⟨y, hy, hshown⟩ := Option.map_eq_some_iff.mp h.ent
  have hport := congrArg NatEnt.port hshown
  have hchannel := congrArg NatEnt.channel hshown
  exact ⟨y, hy, hport, hchannel⟩

theorem HeardLeaves.evqDown (h : HeardLeaves s t f i e) : evqDown t = evqDown s := evqDown_congr (h.keeps.stns rfl) (h.keeps.cox rfl)

theorem HeardLeaves.records (h : HeardLeaves s t f i e) : (nodeDyn t i).recParts = (nodeDyn s i).recParts ∧ (nodeDyn t i).test = (nodeDyn s i).test ∧
    (nodeDyn t i).newEpoch = epochKept s f i e := by
  have hparts := congrArg NodeDyn.recParts h.dyn
  have htest := congrArg NodeDyn.test h.dyn
  have hepoch := congrArg NodeDyn.newEpoch h.dyn
  exact ⟨hparts, htest, hepoch⟩

end

end Sys2Proof.Machine
end

section
/-! Messages of nodes whose frames are heard (R210, R249, R281, R296, R299, R301). -/
namespace Sys2Proof.Machine

/-! ## The newest packet of a queue -/

theorem Wrote.of_queue {s t u : State} {q : Nat} {p : List Word64} (h : Wrote s t q p) (hsame : u.evq.queues[q]? = t.evq.queues[q]?) :
    Wrote s u q p := by
  unfold Wrote
  rw [hsame]
  exact h

theorem HeardLeaves.wrote {s t u : State} {f : RxFrame} {i : Nat} {e : NatEnt} (h : HeardLeaves s t f i e) (hu : KeepsAllBut { rad := true } t u)
    (q typ : Nat) (w : Stn) (result at_ qual : Nat) (p : List Word64) : Wrote s (record u q typ w result at_ qual p) q p :=
  record_wrote q typ w result at_ qual p ((congrArg (·.queues.length) (hu.evq rfl)).trans h.queues)
    ((evqDown_congr (hu.stns rfl) (hu.cox rfl)).trans h.evqDown)

/-- A queue of EVQ. -/
def queueAt (q : Nat) (s : State) : Option EvqQueue := s.evq.queues[q]?

theorem queueAt_of_evq (q : Nat) {s t : State} (h : t.evq = s.evq) : queueAt q t = queueAt q s := by rw [queueAt, h, queueAt]

theorem queueAt_record {j q : Nat} (hq : j ≠ q) (s : State) (typ : Nat) (w : Stn) (result at_ qual : Nat) (p : List Word64) :
    queueAt j (record s q typ w result at_ qual p) = queueAt j s := by
  unfold record putPacket
  split <;> exact setQueue_other s q _ hq

theorem queueAt_cmdOutcome {j : Nat} (hj : j ≠ 2) (s : State) (slot serial nat outcome : Nat) :
    queueAt j (cmdOutcome s slot serial nat outcome) = queueAt j s := by
  unfold cmdOutcome
  extract_lets c t
  have ht : queueAt j t = queueAt j s := by
    unfold t
    split <;> rfl
  rw [outcomeRecord, queueAt_record hj, ht]

theorem queueAt_reportOutcomes {j : Nat} (hj : j ≠ 2) (s : State) (c sfd lfCtr : Nat) : queueAt j (reportOutcomes s c sfd lfCtr) = queueAt j s := by
  unfold reportOutcomes
  refine List.foldlRecOn (motive := fun (t : State) => queueAt j t = queueAt j s) _ _ rfl fun t ht o _ => ?_
  rw [queueAt_cmdOutcome hj]
  exact ht

/-- CALLs report to the queue of SYS alone. -/
theorem queueAt_callEvent {j : Nat} (hj : j ≠ 0) (s : State) (h : Nat) : queueAt j (callEvent s h) = queueAt j s := by
  unfold callEvent
  dsimp only
  split
  · exact queueAt_record hj s _ _ _ _ _ _
  · rfl

theorem queueAt_callState {j : Nat} (hj : j ≠ 0) (s : State) (h : Nat) (f : CallRec → CallRec) : queueAt j (callState s h f) = queueAt j s := by
  unfold callState
  extract_lets old changed
  split
  · rfl
  · exact queueAt_callEvent hj changed h

theorem queueAt_callEntry {j : Nat} (hj : j ≠ 0) (s : State) (h : Nat) (b : List Byte) : queueAt j (callEntry s h b) = queueAt j s := by
  unfold callEntry
  dsimp only
  split
  · rfl
  · split
    · unfold endCall
      split
      · rfl
      · exact queueAt_callState hj s h _
    · exact queueAt_callState hj s h _

theorem queueAt_distOutcome {j : Nat} (h0 : j ≠ 0) (h2 : j ≠ 2) (s : State) (h i outcome : Nat) : queueAt j (distOutcome s h i outcome) = queueAt j s := by
  unfold distOutcome
  extract_lets t fw u v
  have hv : queueAt j v = queueAt j u := queueAt_record h2 u _ _ _ _ _ _
  exact hv.trans (queueAt_callEntry h0 t h _)

theorem queueAt_distReport {j : Nat} (h0 : j ≠ 0) (h2 : j ≠ 2) (s : State) (i sfd fw : Nat) : queueAt j (distReport s i sfd fw) = queueAt j s := by
  unfold distReport
  split
  · rfl
  · split
    · rfl
    · dsimp only
      split
      · exact queueAt_distOutcome h0 h2 _ _ i 1
      · rfl

/-! ## Lantern reports -/

theorem requeueChan_nat (s : State) (c : Nat) (codes : List Nat) : (requeueChan s c codes).rad.nat = s.rad.nat := by
  unfold requeueChan
  split
  · split <;> rfl
  · rfl

theorem reportOutcomes_nat (s : State) (c sfd lfCtr : Nat) : (reportOutcomes s c sfd lfCtr).rad.nat = s.rad.nat := by
  unfold reportOutcomes
  refine List.foldlRecOn (motive := fun (t : State) => t.rad.nat = s.rad.nat) _ _ rfl fun t ht o _ => ?_
  have hset : (cmdOutcome (setRad t fun r => { r with outs := r.outs.erase o }) o.slot o.serial o.nat (if o.counter ≤ lfCtr then 1 else 2)).rad =
      (setRad t fun r => { r with outs := r.outs.erase o }).rad := rad_of_keeps (cmdOutcome_keeps _ rfl rfl _ _ _ _ _)
  rw [hset]
  exact ht

/-- What a delivered report leaves of RAD's entries and of its record in EVQ. -/
theorem lanternReported_leaves {s : State} {i : Nat} {y : NatEnt} (hy : natEnt s i = some y) (f : RxFrame) (b : LanternBody) :
    (lanternReported s i f b).rad.nat = s.rad.nat ∧ queueAt 6 (lanternReported s i f b) = queueAt 6 (reportRecord s i f b) := by
  have hrecord : (reportRecord s i f b).rad = s.rad := rad_of_keeps (reportRecord_keeps _ rfl s i f b)
  unfold lanternReported
  rw [hy]
  dsimp only
  have htemp : KeepsAllBut { lgt := true } (reportRecord s i f b) (tempReport (reportRecord s i f b) y.channel b.temp (nowNs (reportRecord s i f b))) :=
    tempReport_keeps _ rfl _ _ _ _
  generalize tempReport (reportRecord s i f b) y.channel b.temp (nowNs (reportRecord s i f b)) = u at htemp
  refine ⟨?_, ?_⟩
  · rw [requeueChan_nat, reportOutcomes_nat, htemp.rad rfl, hrecord]
  · have hrequeue : (requeueChan (reportOutcomes u y.channel (sfdOf u f) b.lfCtr) y.channel b.codes).evq = (reportOutcomes u y.channel (sfdOf u f) b.lfCtr).evq :=
      KeepsAllBut.evq (m := { rad := true }) (requeueChan_keeps _ rfl _ _ _) rfl
    rw [queueAt_of_evq 6 hrequeue, queueAt_reportOutcomes (by decide), queueAt_of_evq 6 (htemp.evq rfl)]

theorem lanternReport_eq {s : State} {f : RxFrame} {i : Nat} {e : NatEnt} (h : Heard s f i e false) (b : LanternBody) :
    ∃ a c, lanternReport s f b = distReport (lanReport (lanternReported (heardState s f i) i f b) i a b.energy b.power) i c b.fw := by
  unfold lanternReport
  rw [rxReport, rxJudge_heard h]
  exact ⟨_, _, rfl⟩

theorem lanternReport_leaves {s : State} {f : RxFrame} {i : Nat} {e : NatEnt} (h : Heard s f i e false) (b : LanternBody) :
    Accepted s (lanternReport s f b) f i ∧
      Wrote s (lanternReport s f b) 6 (words64 4 (reportBytes b ++ leBytes 1 (sfield 8 f.rssi) ++ leBytes 2 i ++ leBytes 4 0)) := by
  have hleaves := heard_leaves h
  obtain ⟨a, c, heq⟩ := lanternReport_eq h b
  obtain ⟨y, hy, -⟩ := hleaves.placed
  rw [heq]
  generalize heardState s f i = u at hleaves hy
  obtain ⟨hnat, hqueue⟩ := lanternReported_leaves hy f b
  have hwrote : Wrote s (reportRecord u i f b) 6 (words64 4 (reportBytes b ++ leBytes 1 (sfield 8 f.rssi) ++ leBytes 2 i ++ leBytes 4 0)) :=
    hleaves.wrote (u := u) rfl 6 0x10 .rad 0 _ _ _
  have hdist : KeepsAllBut { calls := true, evq := true, upd := true } (lanReport (lanternReported u i f b) i a b.energy b.power)
      (distReport (lanReport (lanternReported u i f b) i a b.energy b.power) i c b.fw) := distReport_keeps _ rfl rfl rfl _ _ _ _
  refine ⟨hleaves.accepted ?_ h.ent, hwrote.of_queue ?_⟩
  · rw [hdist.rad rfl]
    exact hnat
  · exact (queueAt_distReport (by decide) (by decide) _ i c b.fw).trans hqueue

/-! ## Detector events, heartbeats and unlisted types -/

theorem detectorEvent_leaves {s : State} {f : RxFrame} {i : Nat} {e : NatEnt} (h : Heard s f i e false) (pl : List Byte) (hrun : isRunning s .crs = true) :
    Accepted s (detectorEvent s f pl) f i ∧ (detectorEvent s f pl).crs =
      { s.crs with events := s.crs.events ++ [{ accepted := s.cox.count, td := sfdOf s f - (payloadOf pl).2.2.2.2.2 * 100000, nat := i,
                                                payload := pl, sfd := sfdOf s f, qual := s.tim.qual.code }] } := by
  have hleaves := heard_leaves h
  have heq : detectorEvent s f pl = if !isRunning (heardState s f i) .crs then heardState s f i else setCrs (heardState s f i) fun c =>
      { c with events := c.events ++ [{ accepted := (heardState s f i).cox.count, td := sfdOf (heardState s f i) f - (payloadOf pl).2.2.2.2.2 * 100000,
                                        nat := i, payload := pl, sfd := sfdOf (heardState s f i) f, qual := (heardState s f i).tim.qual.code }] } := by
    unfold detectorEvent
    rw [rxLink, rxJudge_heard h]
  rw [heq]
  generalize heardState s f i = u at hleaves
  have hruns : isRunning u .crs = true := by rw [isRunning, stn_of_stns (hleaves.keeps.stns rfl)]; exact hrun
  rw [if_neg (by simp [hruns])]
  refine ⟨hleaves.accepted rfl h.ent, ?_⟩
  rw [sfdOf_congr (hleaves.keeps.cfg rfl), hleaves.qual, hleaves.keeps.cox rfl, ← hleaves.keeps.crs rfl]
  rfl

/-- The words of a heartbeat's record. -/
def heartbeatWords (f : RxFrame) (i flags batt : Nat) (d : List Byte) : List Word64 :=
  words64 (1 + cdiv (min 104 d.length) 8) (leBytes 2 i ++ leBytes 1 flags ++ leBytes 1 batt ++ leBytes 1 (min 104 d.length) ++
    leBytes 1 (sfield 8 f.rssi) ++ leBytes 2 0 ++ d.take (min 104 d.length))

theorem sensorHeartbeat_leaves {s : State} {f : RxFrame} {i : Nat} {e : NatEnt} (h : Heard s f i e false) (flags batt : Nat) (d : List Byte) :
    Accepted s (sensorHeartbeat s f flags batt d) f i ∧ Wrote s (sensorHeartbeat s f flags batt d) 7 (heartbeatWords f i flags batt d) := by
  have hleaves := heard_leaves h
  have heq : ∃ v a q, KeepsAllBut { rad := true } (heardState s f i) v ∧ v.rad.nat = (heardState s f i).rad.nat ∧
      sensorHeartbeat s f flags batt d = record v 7 0x11 .rad 0 a q (heartbeatWords f i flags batt d) := by
    unfold sensorHeartbeat
    dsimp only
    rw [rxReport, rxJudge_heard h]
    refine ⟨if flags / 2 % 2 = 1 then snsCount (heardState s f i) 6 else heardState s f i, _, _, ?_, ?_, rfl⟩
    · split <;> rfl
    · split <;> rfl
  obtain ⟨v, a, q, hv, hnat, heq⟩ := heq
  rw [heq]
  have hrecord : (record v 7 0x11 .rad 0 a q (heartbeatWords f i flags batt d)).rad = v.rad := rad_of_keeps (record_keeps _ rfl _ _ _ _ _ _ _ _)
  exact ⟨hleaves.accepted ((congrArg RadState.nat hrecord).trans hnat) h.ent, hleaves.wrote hv 7 0x11 .rad 0 a q _⟩

theorem unlistedMtype_leaves {s : State} {f : RxFrame} {i : Nat} {e : NatEnt} (h : Heard s f i e false) (mtype : Nat) :
    Accepted s (unlistedMtype s f mtype) f i ∧ Said s (unlistedMtype s f mtype) .rad 0x0405 i mtype 0 := by
  have hleaves := heard_leaves h
  have heq : ∃ a q, unlistedMtype s f mtype = eventAt (heardState s f i) .rad a q 0x0405 i mtype 0 := by
    unfold unlistedMtype
    rw [rxLink, rxJudge_heard h]
    exact ⟨_, _, rfl⟩
  obtain ⟨a, q, heq⟩ := heq
  rw [heq]
  have hrecord : (eventAt (heardState s f i) .rad a q 0x0405 i mtype 0).rad = (heardState s f i).rad := rad_of_keeps (eventAt_keeps _ rfl _ _ _ _ _ _ _ _)
  exact ⟨hleaves.accepted (congrArg RadState.nat hrecord) h.ent, hleaves.wrote rfl (eventQueue .rad) 0x40 .rad 0 a q _⟩


/-! ## Rejoin requests -/

/-- A port's queue holds a unicast as told. -/
def Queues (s : State) (p : Nat) (P : Unicast → Prop) : Prop := ∀ x, s.rad.ports[p]? = some x → ∃ u ∈ x.uni, P u

theorem Queues.of_ports {s t : State} {p : Nat} {P : Unicast → Prop} (h : Queues s p P) (hports : t.rad.ports = s.rad.ports) : Queues t p P := by
  unfold Queues
  rw [hports]
  exact h

theorem Queues.queueUni {s : State} {p : Nat} {P : Unicast → Prop} (h : Queues s p P) (v : Unicast) : Queues (queueUni s v) p P := by
  unfold Sys2Proof.Machine.queueUni
  split
  · exact h
  · next e _ =>
    intro x hx
    by_cases hp : p = e.port
    · subst hp
      obtain ⟨y, hy, rfl⟩ := Option.map_eq_some_iff.mp ((upd_get_same s.rad.ports e.port _).symm.trans hx)
      obtain ⟨u, hu, hP⟩ := h y hy
      exact ⟨u, List.mem_append_left _ hu, hP⟩
    · exact h x ((upd_get_other s.rad.ports e.port p _ hp).symm.trans hx)

theorem Queues.queueCommand {s : State} {p : Nat} {P : Unicast → Prop} (h : Queues s p P) (i cmd : Nat) (data : List Byte) :
    Queues (queueCommand s i cmd data) p P := by
  unfold Sys2Proof.Machine.queueCommand
  split
  · exact h
  · exact h.queueUni _

theorem Queues.queueFallback {s : State} {p : Nat} {P : Unicast → Prop} (h : Queues s p P) (i : Nat) : Queues (queueFallback s i) p P := by
  unfold Sys2Proof.Machine.queueFallback
  split
  · exact h
  · split
    · exact (h.queueCommand i 3 _).of_ports rfl
    · exact h

/-- What a unicast that is queued is found by. -/
theorem queueUni_queues {s : State} {v : Unicast} {e : NatEnt} (he : natEnt s v.node = some e) :
    Queues (queueUni s v) e.port fun u => u.node = v.node ∧ u.kind = v.kind ∧ u.cmd = v.cmd ∧ u.data = v.data := by
  unfold queueUni
  rw [he]
  intro x hx
  obtain ⟨y, hy, rfl⟩ := Option.map_eq_some_iff.mp ((upd_get_same s.rad.ports e.port _).symm.trans hx)
  exact ⟨_, List.mem_append_right _ (List.mem_singleton_self _), rfl, rfl, rfl, rfl⟩

/-- The epoch a rejoin response offers (R281). -/
def epochOffered (s : State) (i : Nat) (y : NatEnt) : Nat := (nodeDyn s i).newEpoch.getD (nextEpoch y)

/-- The octets of a rejoin response. -/
def rejoinData (s : State) (reqCtr ep port : Nat) : List Byte :=
  leBytes 1 0 ++ leBytes 4 reqCtr ++ leBytes 2 ep ++ leBytes 1 s.led.starts ++ leBytes 4 (nth s.rad.groupCtr port 1 - 1)

theorem queueRejoin_offers {s : State} {i : Nat} {y : NatEnt} (hy : natEnt s i = some y) (reqCtr : Nat) (h : epochOffered s i y ≤ 0xEFFF) :
    (nodeDyn (queueRejoin s i reqCtr) i).newEpoch = some (epochOffered s i y) ∧
      Queues (queueRejoin s i reqCtr) y.port fun u => u.node = i ∧ u.kind = .rejoin ∧ u.data = rejoinData s reqCtr (epochOffered s i y) y.port := by
  unfold queueRejoin
  rw [hy]
  dsimp only
  rw [if_neg (show ¬ (nodeDyn s i).newEpoch.getD (nextEpoch y) > 0xEFFF from Nat.not_lt.mpr h)]
  refine ⟨?_, ?_⟩
  · rw [nodeDyn_of_book (book_queueUni _ _), nodeDyn_of_book (book_setRadPort _ _ _), nodeDyn_setDyn_same]
    rfl
  · intro x hx
    obtain ⟨u, hu, hnode, hkind, -, hdata⟩ := queueUni_queues (e := y) hy x hx
    exact ⟨u, hu, hnode, hkind, hdata⟩

theorem queueRejoin_rekeys {s : State} {i : Nat} {y : NatEnt} (hy : natEnt s i = some y) (reqCtr : Nat) (h : 0xEFFF < epochOffered s i y) :
    (nodeDyn (queueRejoin s i reqCtr) i).rekeying = true := by
  unfold queueRejoin
  rw [hy]
  dsimp only
  rw [if_pos (show (nodeDyn s i).newEpoch.getD (nextEpoch y) > 0xEFFF from h)]
  split
  · next hrekeying => exact hrekeying
  · unfold startRekey
    rw [hy]
    dsimp only
    rw [nodeDyn_setDyn_same]

theorem queueRejoin_nat (s : State) (i reqCtr : Nat) : (queueRejoin s i reqCtr).rad.nat = s.rad.nat := by
  unfold queueRejoin
  split
  · rfl
  · dsimp only
    split
    · split
      · rfl
      · exact startRekey_nat s i
    · exact queueUni_nat _ _

/-- FALLBACK_SET changes of a node's data only the codes sent. -/
theorem queueFallback_dyn (s : State) (i : Nat) : ∃ l, nodeDyn (queueFallback s i) i = { nodeDyn s i with fbCodes := l } := by
  unfold queueFallback
  split
  · exact ⟨(nodeDyn s i).fbCodes, rfl⟩
  · split
    · exact ⟨_, by rw [nodeDyn_setDyn_same, nodeDyn_of_book (book_queueCommand _ _ _ _)]⟩
    · exact ⟨(nodeDyn s i).fbCodes, rfl⟩

theorem queueFallback_nat (s : State) (i : Nat) : (queueFallback s i).rad.nat = s.rad.nat := by
  unfold queueFallback
  split
  · rfl
  · split
    · exact queueCommand_nat s i 3 _
    · rfl

/-- What else a rejoin request makes RAD send, the response queued. -/
structure RejoinSends (s t : State) (i : Nat) : Prop where
  nat : t.rad.nat = s.rad.nat
  dyn : ∃ l, nodeDyn t i = { nodeDyn s i with fbCodes := l }
  queues : ∀ p P, Queues s p P → Queues t p P

theorem RejoinSends.refl (s : State) (i : Nat) : RejoinSends s s i := ⟨rfl, ⟨(nodeDyn s i).fbCodes, rfl⟩, fun _ _ => id⟩

theorem RejoinSends.command {s t : State} {i : Nat} (h : RejoinSends s t i) (cmd : Nat) (data : List Byte) : RejoinSends s (queueCommand t i cmd data) i :=
  ⟨(queueCommand_nat t i cmd data).trans h.nat, by rw [nodeDyn_of_book (book_queueCommand t i cmd data)]; exact h.dyn,
    fun p P hP => (h.queues p P hP).queueCommand i cmd data⟩

theorem queueFallback_sends (s : State) (i : Nat) : RejoinSends s (queueFallback s i) i :=
  ⟨queueFallback_nat s i, queueFallback_dyn s i, fun _ _ hP => hP.queueFallback i⟩

theorem rejoinRequest_sends {s : State} {f : RxFrame} {i : Nat} {e : NatEnt} (h : Heard s f i e true) (hfree : (nodeDyn (heardState s f i) i).test = false)
    (crc : Nat) : RejoinSends (queueRejoin (heardState s f i) i f.counter) (rejoinRequest s f crc) i := by
  unfold rejoinRequest
  rw [rxLink, rxJudge_heard h]
  dsimp only
  rw [if_neg (by simp [hfree])]
  generalize queueRejoin (heardState s f i) i f.counter = r
  have hupload : ∀ kept, RejoinSends r (if crc = kept then queueFallback r i else queueCommand (queueFallback r i) i 4 []) i := fun kept => by
    split
    · exact queueFallback_sends r i
    · exact (queueFallback_sends r i).command 4 []
  split
  · split
    · exact .refl r i
    · exact hupload _
  · exact .refl r i

theorem rejoinRequest_leaves {s : State} {f : RxFrame} {i : Nat} {e : NatEnt} (h : Heard s f i e true) (hfree : (nodeDyn s i).test = false) (crc : Nat) :
    Accepted s (rejoinRequest s f crc) f i ∧ ∃ y, natEnt (rejoinRequest s f crc) i = some y ∧ ∀ ep,
      ep = (epochKept s f i e).getD (nextEpoch y) →
      (ep ≤ 0xEFFF → (nodeDyn (rejoinRequest s f crc) i).newEpoch = some ep ∧
        Queues (rejoinRequest s f crc) e.port fun u => u.node = i ∧ u.kind = .rejoin ∧ u.data = rejoinData s f.counter ep e.port) ∧
      (0xEFFF < ep → (nodeDyn (rejoinRequest s f crc) i).rekeying = true) := by
  have hleaves := heard_leaves h
  obtain ⟨y, hy, hport, -⟩ := hleaves.placed
  obtain ⟨-, htest, hepoch⟩ := hleaves.records
  have hsends := rejoinRequest_sends h (htest.trans hfree) crc
  generalize rejoinRequest s f crc = t at hsends
  generalize heardState s f i = u at hleaves hy hepoch hsends
  have hnat : t.rad.nat = u.rad.nat := hsends.nat.trans (queueRejoin_nat u i f.counter)
  obtain ⟨l, hdyn⟩ := hsends.dyn
  have hoffered : epochOffered u i y = (epochKept s f i e).getD (nextEpoch y) := by rw [epochOffered, hepoch]
  refine ⟨hleaves.accepted hnat h.ent, y, (congrArg (tget · i) hnat).trans hy, fun ep hep => ?_⟩
  rw [← hoffered] at hep
  subst hep
  refine ⟨fun hlow => ?_, fun hhigh => ?_⟩
  · obtain ⟨hnew, hqueued⟩ := queueRejoin_offers hy f.counter hlow
    refine ⟨by rw [hdyn]; exact hnew, ?_⟩
    have hdata : rejoinData u f.counter (epochOffered u i y) y.port = rejoinData s f.counter (epochOffered u i y) e.port := by
      rw [rejoinData, hleaves.ctr, hleaves.keeps.led rfl, hport, rejoinData]
    rw [hdata, hport] at hqueued
    exact hsends.queues _ _ hqueued
  · rw [hdyn]
    exact queueRejoin_rekeys hy f.counter hhigh

/-! ## Records in parts -/

/-- A part kept (R299). -/
def partKept (now part : Nat) (d : List Byte) (n : NodeDyn) : NodeDyn :=
  { n with recAt := if n.recParts = [] then now else n.recAt, recParts := if part < 5 then tput n.recParts part (d.take (partOctets part)) else n.recParts }

/-- The state in which a part is kept. -/
def partHeard (s : State) (f : RxFrame) (i part : Nat) (d : List Byte) : State :=
  setDyn (heardState s f i) i (partKept (nowNs (heardState s f i)) part d)

theorem recordPart_heard {s : State} {f : RxFrame} {i : Nat} {e : NatEnt} (h : Heard s f i e true) (part : Nat) (d : List Byte) :
    recordPart s f part d =
      if (nodeDyn (partHeard s f i part d) i).recParts.length < 5 then (partHeard s f i part d, none)
      else if !(partsRecord (nodeDyn (partHeard s f i part d) i)).crcOk then (uploadAgain (partHeard s f i part d) i, none)
      else (setLgt (setDyn (partHeard s f i part d) i fun d => { d with recParts := [], recTries := 0 }) fun l =>
        { l with recq := l.recq ++ [(((natEnt (partHeard s f i part d) i).getD {}).channel, partsRecord (nodeDyn (partHeard s f i part d) i))] },
        some (i, partsRecord (nodeDyn (partHeard s f i part d) i))) := by
  unfold recordPart
  rw [rxLink, rxJudge_heard h]
  rfl

theorem uploadAgain_clears (s : State) (i : Nat) : (nodeDyn (uploadAgain s i) i).recParts = [] ∧ (uploadAgain s i).rad.nat = s.rad.nat ∧
    KeepsAllBut { evq := true, rad := true } s (uploadAgain s i) := by
  refine ⟨?_, ?_, by unfold KeepsAllBut; simp⟩
  · unfold uploadAgain
    dsimp only
    split
    · rw [nodeDyn_setDyn_same]
    · rw [nodeDyn_of_book (book_event _ _ _ _ _ _), nodeDyn_setDyn_same]
  · unfold uploadAgain
    dsimp only
    split
    · exact queueCommand_nat s i 4 []
    · rw [nat_of_book (book_event _ _ _ _ _ _)]
      rfl

theorem partsRecord_congr {m n : NodeDyn} (h : m.recParts = n.recParts) : partsRecord m = partsRecord n := by rw [partsRecord, h, partsRecord]

/-- What a record's part that is heard leaves of the parts kept. -/
theorem partHeard_leaves {s : State} {f : RxFrame} {i part : Nat} {e : NatEnt} {d : List Byte} {n : NodeDyn} (h : Heard s f i e true) (hpart : part < 5)
    (hn : n = { nodeDyn s i with recParts := tput (nodeDyn s i).recParts part (d.take (partOctets part)) }) :
    (nodeDyn (partHeard s f i part d) i).recParts = n.recParts ∧ (partHeard s f i part d).rad.nat = (heardState s f i).rad.nat ∧
      (partHeard s f i part d).lgt = s.lgt ∧ (partHeard s f i part d).upd = s.upd ∧ ((natEnt (partHeard s f i part d) i).getD {}).channel = e.channel := by
  have hleaves := heard_leaves h
  obtain ⟨y, hy, -, hchannel⟩ := hleaves.placed
  obtain ⟨hparts, -⟩ := hleaves.records
  unfold partHeard
  generalize heardState s f i = u at hleaves hy hparts
  have hent : natEnt (setDyn u i (partKept (nowNs u) part d)) i = some y := hy
  refine ⟨?_, rfl, hleaves.keeps.lgt rfl, hleaves.keeps.upd rfl, by rw [hent, Option.getD_some, hchannel]⟩
  rw [nodeDyn_setDyn_same, hn, partKept, if_pos hpart, hparts]

theorem binningPart_leaves {s : State} {f : RxFrame} {i part : Nat} {e : NatEnt} {d : List Byte} {n : NodeDyn} (h : Heard s f i e true) (hpart : part < 5)
    (hn : n = { nodeDyn s i with recParts := tput (nodeDyn s i).recParts part (d.take (partOctets part)) }) {t : State} (ht : t = binningPart s f part d) :
    (n.recParts.length < 5 → Accepted s t f i ∧ t.lgt = s.lgt ∧ t.upd = s.upd ∧ (nodeDyn t i).recParts = n.recParts) ∧
    (5 ≤ n.recParts.length → (partsRecord n).crcOk = true →
      Accepted s t f i ∧ t.lgt = { s.lgt with recq := s.lgt.recq ++ [(e.channel, partsRecord n)] } ∧ (nodeDyn t i).recParts = [] ∧
      tget t.upd.gather e.channel = some (partsRecord n) ∧ t.upd.gatherAt.isSome) ∧
    (5 ≤ n.recParts.length → (partsRecord n).crcOk = false → Accepted s t f i ∧ t.lgt = s.lgt ∧ t.upd = s.upd ∧ (nodeDyn t i).recParts = []) := by
  have hleaves := heard_leaves h
  obtain ⟨hparts, hnat, hlgt, hupd, hchannel⟩ := partHeard_leaves h hpart hn
  have hrecord := recordPart_heard h part d
  unfold binningPart at ht
  generalize heardState s f i = u at hleaves hnat
  generalize partHeard s f i part d = v at hparts hnat hlgt hupd hchannel hrecord
  rw [hparts, partsRecord_congr hparts] at hrecord
  refine ⟨fun hfew => ?_, fun hall hcrc => ?_, fun hall hcrc => ?_⟩
  · rw [if_pos hfew] at hrecord
    rw [hrecord] at ht
    subst ht
    exact ⟨hleaves.accepted hnat h.ent, hlgt, hupd, hparts⟩
  · rw [if_neg (Nat.not_lt.mpr hall), if_neg (by simp [hcrc]), hchannel] at hrecord
    rw [hrecord] at ht
    dsimp only at ht
    have hsame : natEnt (setLgt (setDyn v i fun d => { d with recParts := [], recTries := 0 }) fun l =>
        { l with recq := l.recq ++ [(e.channel, partsRecord n)] }) i = natEnt v i := rfl
    rw [hsame, hchannel] at ht
    subst ht
    refine ⟨hleaves.accepted hnat h.ent, ?_, ?_, tget_tput_same _ _ _, rfl⟩
    · rw [← hlgt]
      rfl
    · have hclear : (nodeDyn (setDyn v i fun d => { d with recParts := [], recTries := 0 }) i).recParts = [] := by rw [nodeDyn_setDyn_same]
      exact hclear
  · obtain ⟨hclear, hkept, hkeeps⟩ := uploadAgain_clears v i
    rw [if_neg (Nat.not_lt.mpr hall), if_pos (by simp [hcrc])] at hrecord
    rw [hrecord] at ht
    subst ht
    exact ⟨hleaves.accepted (hkept.trans hnat) h.ent, (hkeeps.lgt rfl).trans hlgt, (hkeeps.upd rfl).trans hupd, hclear⟩

/-! ## The rows -/

theorem lanternReport_pending (s : State) (f : RxFrame) (b : LanternBody) : (lanternReport s f b).pending = s.pending :=
  KeepsAllBut.pending (m := { offHeard with calls := true, lgt := true, mtr := true, upd := true })
    (lanternReport_keeps _ rfl rfl rfl rfl rfl rfl rfl rfl rfl rfl rfl rfl s f b) rfl

theorem detectorEvent_pending (s : State) (f : RxFrame) (pl : List Byte) : (detectorEvent s f pl).pending = s.pending :=
  KeepsAllBut.pending (m := { offHeard with crs := true }) (detectorEvent_keeps _ rfl rfl rfl rfl rfl rfl rfl rfl rfl s f pl) rfl

theorem sensorHeartbeat_pending (s : State) (f : RxFrame) (flags batt : Nat) (d : List Byte) : (sensorHeartbeat s f flags batt d).pending = s.pending :=
  KeepsAllBut.pending (m := offHeard) (sensorHeartbeat_keeps _ rfl rfl rfl rfl rfl rfl rfl rfl s f flags batt d) rfl

theorem unlistedMtype_pending (s : State) (f : RxFrame) (mtype : Nat) : (unlistedMtype s f mtype).pending = s.pending :=
  KeepsAllBut.pending (m := offHeard) (unlistedMtype_keeps _ rfl rfl rfl rfl rfl rfl rfl rfl s f mtype) rfl

theorem rejoinRequest_pending (s : State) (f : RxFrame) (crc : Nat) : (rejoinRequest s f crc).pending = s.pending :=
  KeepsAllBut.pending (m := offHeard) (rejoinRequest_keeps _ rfl rfl rfl rfl rfl rfl rfl rfl s f crc) rfl

theorem binningPart_pending (s : State) (f : RxFrame) (part : Nat) (d : List Byte) : (binningPart s f part d).pending = s.pending :=
  KeepsAllBut.pending (m := { offHeard with lgt := true, upd := true })
    (binningPart_keeps _ rfl rfl rfl rfl rfl rfl rfl rfl rfl rfl s f part d) rfl

/-- Settles O56: whatever its message is, a frame heard is accepted first (`heard_leaves`), and the message is dealt with in the state that leaves. -/
theorem messagesAreDelivered : Obligations.MessagesAreDelivered := by
  unfold Obligations.MessagesAreDelivered
  refine ⟨fun s f i e h => ⟨fun b => ?_, fun pl hrun => ?_, fun flags batt d => ?_, fun mtype => ?_⟩, fun s f i crc e h hfree => ?_,
    fun s f i part e d n h hpart hn => ?_⟩
  · exact done_of (u := lanternReport s f b) rfl (lanternReport_pending s f b) (lanternReport_leaves h b)
  · exact done_of (u := detectorEvent s f pl) rfl (detectorEvent_pending s f pl) (detectorEvent_leaves h pl hrun)
  · exact done_of (u := sensorHeartbeat s f flags batt d) rfl (sensorHeartbeat_pending s f flags batt d) (sensorHeartbeat_leaves h flags batt d)
  · exact done_of (u := unlistedMtype s f mtype) rfl (unlistedMtype_pending s f mtype) (unlistedMtype_leaves h mtype)
  · exact done_of (u := rejoinRequest s f crc) rfl (rejoinRequest_pending s f crc) (rejoinRequest_leaves h hfree crc)
  · obtain ⟨hfew, hright, hwrong⟩ := binningPart_leaves h hpart hn rfl
    have hdone := fun (P : State → Prop) (hP : P (binningPart s f part d)) =>
      done_of (c := .binningRecordPart f part d) (u := binningPart s f part d) rfl (binningPart_pending s f part d) hP
    exact ⟨fun hlen => hdone _ (hfew hlen), fun hlen hcrc => hdone _ (hright hlen hcrc), fun hlen hcrc => hdone _ (hwrong hlen hcrc)⟩

end Sys2Proof.Machine
end

section
/-! Enrolment by request, unknown joiners and record uploads (R297, R298, R299). -/
namespace Sys2Proof.Machine

/-! ## Unknown joiners -/

/-- An enrolment request whose header has passed its checks: `i` is its source, none where it is unknown. -/
def enrolRead (s : State) (f : RxFrame) (buffer : Bool) (i : Option Nat) : State :=
  let pend := ackPend s i
  let s := trxRead s f.port f.psdu
  if !f.fcsOk then fcsFail (armAck s f i false) f i
  else
    match i with
    | none =>
      let s := armAck s f none (!buffer)
      if buffer then unknownJoiner (radCount s f.port 0) f else s
    | some i => enrolKnown s f i pend buffer

theorem enrolJudge_read {s : State} {f : RxFrame} {i : Option Nat} (b : Bool) (hopen : rxOpen (radPort s f.port) = true) (hserves : radServes s = true)
    (hheader : rxHeader s f = .ok i) : enrolJudge s f b = enrolRead (rxEnds s f) f b i := by
  unfold enrolJudge
  extract_lets -underBinder p ended
  have hended : rxHeader ended f = .ok i := (rxHeader_rxEnds s f).trans hheader
  rw [if_neg (by rw [hopen, hserves]; decide), hended]
  rfl

theorem enrolRead_unknown (u : State) {f : RxFrame} (hfcs : f.fcsOk = true) :
    enrolRead u f true none = unknownJoiner (radCount (armAck (trxRead u f.port f.psdu) f none false) f.port 0) f := by
  unfold enrolRead
  dsimp only
  rw [if_neg (by simp [hfcs]), if_pos rfl]
  rfl

theorem enrolRead_known (u : State) {f : RxFrame} (i : Nat) (hfcs : f.fcsOk = true) :
    enrolRead u f true (some i) = enrolKnown (trxRead u f.port f.psdu) f i (ackPend u (some i)) true := by
  unfold enrolRead
  dsimp only
  rw [if_neg (by simp [hfcs])]

/-- A request of an unknown source, read and acknowledged. -/
def joinerRead (s : State) (f : RxFrame) : State :=
  radCount (armAck (trxRead (rxEnds s f) f.port f.psdu) f none false) f.port 0

section
variable {s : State} {f : RxFrame}

theorem enrolRequest_unknown (hopen : rxOpen (radPort s f.port) = true) (hserves : radServes s = true) (hfcs : f.fcsOk = true)
    (hheader : rxHeader s f = .ok none) : enrolRequest s f = unknownJoiner (joinerRead s f) f := by
  rw [enrolRequest, enrolJudge_read true hopen hserves hheader, enrolRead_unknown _ hfcs, joinerRead]

theorem joinerRead_keeps : KeepsAllBut { tim := true, rad := true, free := true } s (joinerRead s f) :=
  (radCount_keeps _ rfl _ f.port 0).trans ((armAck_keeps _ rfl rfl _ f none false).trans
    ((trxRead_keeps _ rfl rfl (rxEnds s f) f.port f.psdu).trans (rxEnds_keeps _ rfl rfl s f)))

theorem joinerRead_nat : (joinerRead s f).rad.nat = s.rad.nat :=
  nat_of_book ((book_radCount _ f.port 0).trans ((book_armAck _ f none false).trans
    ((book_trxRead (rxEnds s f) f.port f.psdu).trans (book_rxEnds s f))))

/-- An unknown joiner is reported, whatever a scan makes of it. -/
theorem unknownJoiner_reports (s : State) (f : RxFrame) : queueAt 1 (unknownJoiner s f) =
      queueAt 1 (eventAt s .sec (sfdOf s f) s.tim.qual.code 0x0501 f.port 0 f.src) ∧ (unknownJoiner s f).rad.nat = s.rad.nat := by
  have hevent : (eventAt s .sec (sfdOf s f) s.tim.qual.code 0x0501 f.port 0 f.src).rad = s.rad := rad_of_keeps (eventAt_keeps _ rfl _ _ _ _ _ _ _ _)
  unfold unknownJoiner
  dsimp only
  generalize eventAt s .sec (sfdOf s f) s.tim.qual.code 0x0501 f.port 0 f.src = u at hevent
  split
  · exact ⟨rfl, congrArg RadState.nat hevent⟩
  · split
    · exact ⟨rfl, congrArg RadState.nat hevent⟩
    · refine ⟨queueAt_callEntry (by decide) _ _ _, ?_⟩
      rw [rad_of_keeps (callEntry_keeps _ rfl rfl _ _ _)]
      have hnat : u.rad.nat = s.rad.nat := congrArg RadState.nat hevent
      exact hnat

theorem enrolRequest_unknown_leaves (hopen : rxOpen (radPort s f.port) = true) (hserves : radServes s = true) (hfcs : f.fcsOk = true)
    (hheader : rxHeader s f = .ok none) :
    Said s (enrolRequest s f) .sec 0x0501 f.port 0 f.src ∧ (enrolRequest s f).rad.nat = s.rad.nat ∧ (enrolRequest s f).keys = s.keys := by
  have hread := joinerRead_keeps (s := s) (f := f)
  have hnat := joinerRead_nat (s := s) (f := f)
  rw [enrolRequest_unknown hopen hserves hfcs hheader]
  generalize joinerRead s f = u at hread hnat
  obtain ⟨hqueue, hjoin⟩ := unknownJoiner_reports u f
  have hwrote : Wrote s (eventAt u .sec (sfdOf u f) u.tim.qual.code 0x0501 f.port 0 f.src) 1
      [BitVec.ofNat 64 (0x0501 * 2 ^ 48 + f.port % 65536 * 2 ^ 32 + 0 % 2 ^ 32), BitVec.ofNat 64 f.src] :=
    record_wrote 1 0x40 .sec 0 _ _ _ (congrArg (·.queues.length) (hread.evq rfl)) (evqDown_congr (hread.stns rfl) (hread.cox rfl))
  have hkeys : (unknownJoiner u f).keys = u.keys :=
    KeepsAllBut.keys (m := { calls := true, evq := true, rad := true }) (unknownJoiner_keeps _ rfl rfl rfl u f) rfl
  exact ⟨hwrote.of_queue hqueue, hjoin.trans hnat, hkeys.trans (hread.keys rfl)⟩

end

/-! ## The entry's key through acceptance -/

/-- The key index of a node's entry. -/
def keyIndexOf (s : State) (i : Nat) : Option Nat := (natEnt s i).map NatEnt.keyIndex

theorem keyIndexOf_of_nat {s t : State} (h : t.rad.nat = s.rad.nat) (i : Nat) : keyIndexOf t i = keyIndexOf s i := by
  rw [keyIndexOf, natEnt, h, keyIndexOf, natEnt]

theorem keyIndexOf_setNat (s : State) (i : Nat) {f : NatEnt → NatEnt} (hf : ∀ e, (f e).keyIndex = e.keyIndex) :
    keyIndexOf (setNat s i f) i = keyIndexOf s i := by
  rw [keyIndexOf, natEnt_setNat_same, Option.map_map, keyIndexOf]
  exact congrArg (fun g => (natEnt s i).map g) (funext hf)

theorem queueKey_nat (s : State) (i slot switch_ : Nat) : (queueKey s i slot switch_).rad.nat = s.rad.nat := by
  unfold queueKey
  split
  · dsimp only
    split
    · rfl
    · exact queueCommand_nat s i 1 _
  · rfl

theorem madeContact_nat (s : State) (i : Nat) : (madeContact s i).rad.nat = s.rad.nat := by
  unfold madeContact
  split
  · rfl
  · extract_lets t u queued
    have hu : u.rad.nat = s.rad.nat := by
      unfold u
      split
      · exact queueRekey_nat t i
      · rfl
    split
    · exact hu
    · exact List.foldlRecOn (motive := fun (v : State) => v.rad.nat = s.rad.nat) _ _ hu fun v hv slot _ => (queueKey_nat v i slot _).trans hv

theorem adriftEnds_keyIndex (s : State) (f : RxFrame) (i : Nat) (e : NatEnt) : keyIndexOf (adriftEnds s f i e) i = keyIndexOf s i := by
  unfold adriftEnds
  extract_lets t u
  have hadrift : keyIndexOf (setNat s i fun e => { e with adrift := false }) i = keyIndexOf s i := keyIndexOf_setNat s i fun _ => rfl
  rw [keyIndexOf_of_nat (nat_of_book (book_event _ _ _ _ _ _))]
  exact hadrift

theorem acceptFrame_keyIndex (s : State) (f : RxFrame) (i : Nat) : keyIndexOf (acceptFrame s f i) i = keyIndexOf s i := by
  unfold acceptFrame
  extract_lets sfd t u v
  have hu : keyIndexOf u i = keyIndexOf s i := keyIndexOf_setNat (radCount s f.port 0) i fun _ => rfl
  have hv : keyIndexOf v i = keyIndexOf s i := by
    rw [← hu]
    unfold v
    split
    · split
      · exact adriftEnds_keyIndex u f i _
      · rfl
    · rfl
  exact (keyIndexOf_of_nat (madeContact_nat v i) i).trans hv

/-! ## A request of a node of the NAT -/

/-- The state in which a request is answered: the frame accepted, its counter kept. -/
def enrolHeard (s : State) (f : RxFrame) (i : Nat) (nack pend : Bool) : State :=
  rxFloor (setDyn (ackOwes (acceptFrame (armAck s f (some i) nack) f i) f i pend) i fun d => { d with devRx := f.counter }) i

/-- Whether a request is under the device key that its node has. -/
def deviceKeyOk (s : State) (f : RxFrame) (i : Nat) : Bool := f.keyIndex = 0x30 && (tget s.keys.device i).isSome

theorem enrolKnown_heard {s : State} {f : RxFrame} {i : Nat} (pend : Bool) (hkey : deviceKeyOk s f i = true) (hmic : f.micOk = true)
    (hnew : (nodeDyn s i).devRx < f.counter) :
    enrolKnown s f i pend true =
      answerEnrol (enrolHeard s f i (deviceKeyOk s f i && (nodeDyn s i).devRx < f.counter && f.micOk && !true) pend) i f.counter := by
  unfold enrolKnown
  extract_lets -underBinder last keyOk t
  have hok : keyOk = true := hkey
  rw [if_neg (by simp [hok]), if_neg (Nat.not_lt.mpr (Nat.le_of_lt hnew)), if_neg (by simp [hmic]), if_neg (Nat.ne_of_gt hnew), if_neg (by decide)]
  rfl

/-- A request of a node of the NAT, read. -/
theorem enrolRequest_known {s : State} {f : RxFrame} {i : Nat} (hopen : rxOpen (radPort s f.port) = true) (hserves : radServes s = true)
    (hfcs : f.fcsOk = true) (hheader : rxHeader s f = .ok (some i)) :
    enrolRequest s f = enrolKnown (trxRead (rxEnds s f) f.port f.psdu) f i (ackPend (rxEnds s f) (some i)) true := by
  rw [enrolRequest, enrolJudge_read true hopen hserves hheader, enrolRead_known _ i hfcs]

/-- What is known of the node when its request is answered. -/
theorem enrolHeard_leaves {s : State} {f : RxFrame} {i : Nat} {e : NatEnt} (he : natEnt s i = some e) (nack pend : Bool) :
    (∃ y, natEnt (enrolHeard s f i nack pend) i = some y ∧ y.keyIndex = e.keyIndex) ∧ (nodeDyn (enrolHeard s f i nack pend) i).devRx = f.counter := by
  have hkey : keyIndexOf (enrolHeard s f i nack pend) i = some e.keyIndex := by
    have howes : (ackOwes (acceptFrame (armAck s f (some i) nack) f i) f i pend).rad.nat = (acceptFrame (armAck s f (some i) nack) f i).rad.nat := by
      unfold ackOwes
      split <;> rfl
    have hset : keyIndexOf (enrolHeard s f i nack pend) i = keyIndexOf (acceptFrame (armAck s f (some i) nack) f i) i := keyIndexOf_of_nat howes i
    rw [hset, acceptFrame_keyIndex, keyIndexOf, natEnt_of_book (book_armAck _ _ _ _), he]
    rfl
  refine ⟨Option.map_eq_some_iff.mp hkey, ?_⟩
  rw [enrolHeard, nodeDyn_of_book (book_rxFloor _ i), nodeDyn_setDyn_same]

/-- A node's entry when it is enrolled anew: its link starts again in the explicit regime (R279, R281). -/
def entAnew (e : NatEnt) : NatEnt :=
  { e with enrolled := false, explicit_ := true, txFc := 1, rxFc := 0, linkEpoch := 0, txSeq := 0, rxSeq := 0 }

/-- The data of a node that has parts of a response to acknowledge. -/
def dynAnew (d : NodeDyn) : NodeDyn := { d with parts := [0, 1, 2, 3, 4], newEpoch := some 1, rekeying := false }

theorem natEnt_setDyn (s : State) (i j : Nat) (f : NodeDyn → NodeDyn) : natEnt (setDyn s i f) j = natEnt s j := rfl

theorem answerEnrol_answers {s : State} {i : Nat} {y : NatEnt} (hy : natEnt s i = some y) (reqCtr : Nat) :
    natEnt (answerEnrol s i reqCtr) i = some (entAnew y) ∧ nodeDyn (answerEnrol s i reqCtr) i = dynAnew (nodeDyn s i) ∧
      (linkKey (answerEnrol s i reqCtr) i (genOf y)).isSome := by
  unfold answerEnrol
  rw [hy]
  dsimp -zeta only
  extract_lets t held k a b c d u
  have hk : book k.1 = book s := by
    unfold k
    generalize held = kept
    cases kept <;> rfl
  have hb : natEnt b i = some (entAnew y) := by
    have ha : natEnt a i = some y := (natEnt_of_book hk i).trans hy
    exact (natEnt_setNat_same a i _).trans (by rw [ha]; rfl)
  have hlink : linkKey b i (genOf y) = some k.2 := by
    have hkeys : b.keys = a.keys := (setNat_keepsOffRad a i _).keys rfl
    rw [linkKey, hkeys]
    exact linkKey_putLink_same k.1 i (genOf y) k.2
  have hdyn : nodeDyn u i = dynAnew (nodeDyn s i) := by
    have hd : nodeDyn d i = nodeDyn s i := (nodeDyn_setNat a i i _).trans (nodeDyn_of_book hk i)
    rw [← hd]
    exact nodeDyn_setDyn_same d i _
  have huKeys : u.keys = b.keys := by simp only [u, d, c, setDyn_keys, setSec_keys, setLedr_keys]
  have hparts := fun n l => book_queueParts u i n l 0 6
  have huNat : natEnt u i = some (entAnew y) :=
    ((natEnt_setDyn d i i _).trans (natEnt_of_book ((book_setSec c _).trans (book_setLedr b _)) i)).trans hb
  clear_value u
  refine ⟨(natEnt_of_book (hparts _ _) i).trans huNat, (nodeDyn_of_book (hparts _ _) i).trans hdyn, ?_⟩
  have hkeys : (queueParts u i (partsPerFrame u y) (enrolParts u y k.2 reqCtr) 0 6).keys = b.keys :=
    (KeepsAllBut.keys (m := { rad := true }) (queueParts_keeps _ rfl u i _ _ _ _) rfl).trans huKeys
  rw [linkKey, hkeys]
  exact Option.isSome_of_eq_some hlink

theorem enrolRequest_known_leaves {s : State} {f : RxFrame} {i : Nat} {e : NatEnt} (hopen : rxOpen (radPort s f.port) = true)
    (hserves : radServes s = true) (hfcs : f.fcsOk = true) (hheader : rxHeader s f = .ok (some i)) (he : natEnt s i = some e)
    (hkey : f.keyIndex = 0x30) (hdevice : (tget s.keys.device i).isSome) (hmic : f.micOk = true) (hnew : (nodeDyn s i).devRx < f.counter) :
    ∃ y d, natEnt (enrolRequest s f) i = some (entAnew y) ∧ nodeDyn (enrolRequest s f) i = dynAnew d ∧ d.devRx = f.counter ∧
      (linkKey (enrolRequest s f) i (genOf e)).isSome := by
  obtain ⟨hent, hdyn, hkeys⟩ := read_same s f i
  rw [enrolRequest_known hopen hserves hfcs hheader]
  generalize ackPend (rxEnds s f) (some i) = pend
  generalize trxRead (rxEnds s f) f.port f.psdu = u at hent hdyn hkeys
  have hdeviceOk : deviceKeyOk u f i = true := by
    rw [deviceKeyOk, hkeys, hkey, hdevice]
    rfl
  have hknown := enrolKnown_heard pend hdeviceOk hmic (by rw [hdyn]; exact hnew)
  generalize (deviceKeyOk u f i && decide ((nodeDyn u i).devRx < f.counter) && f.micOk && !true) = nack at hknown
  obtain ⟨⟨y, hy, hindex⟩, hdev⟩ := enrolHeard_leaves (f := f) (hent.trans he) nack pend
  obtain ⟨hnat, hafter, hlink⟩ := answerEnrol_answers hy f.counter
  rw [hknown]
  refine ⟨y, _, hnat, hafter, hdev, ?_⟩
  have hgen : genOf e = genOf y := by rw [genOf, genOf, hindex]
  rw [hgen]
  exact hlink

theorem enrolRequest_pending (s : State) (f : RxFrame) : (enrolRequest s f).pending = s.pending :=
  KeepsAllBut.pending (m := { offHeard with calls := true }) (enrolRequest_keeps _ rfl rfl rfl rfl rfl rfl rfl rfl s f) rfl

/-! ## Record uploads -/

/-- An upload asked for again. -/
theorem uploadAgain_asks {s : State} {i : Nat} {e : NatEnt} (he : natEnt s i = some e) (hfew : (nodeDyn s i).recTries < 3) :
    (nodeDyn (uploadAgain s i) i).recTries = (nodeDyn s i).recTries + 1 ∧ Queues (uploadAgain s i) e.port fun u => u.node = i ∧ u.cmd = 4 := by
  unfold uploadAgain
  dsimp only
  rw [if_pos hfew]
  refine ⟨by rw [nodeDyn_setDyn_same], ?_⟩
  unfold queueCommand
  rw [he]
  intro x hx
  obtain ⟨u, hu, hnode, -, hcmd, -⟩ := queueUni_queues (e := e) he x hx
  exact ⟨u, hu, hnode, hcmd⟩

/-- An upload given up is recorded. -/
theorem uploadAgain_ends {s v : State} {i : Nat} {e : NatEnt} (hv : KeepsAllBut offTim s v) (he : natEnt v i = some e) (hall : 3 ≤ (nodeDyn v i).recTries) :
    (nodeDyn (uploadAgain v i) i).recTries = 0 ∧ Said s (uploadAgain v i) .rad 0x0406 e.channel ((nodeDyn v i).recTries + 1) 0 := by
  unfold uploadAgain
  dsimp only
  rw [if_neg (Nat.not_lt.mpr hall), he]
  refine ⟨by rw [nodeDyn_of_book (book_event _ _ _ _ _ _), nodeDyn_setDyn_same], ?_⟩
  exact event_said .rad 0x0406 e.channel _ 0 (congrArg (·.queues.length) (hv.evq rfl)) (evqDown_congr (hv.stns rfl) (hv.cox rfl))

theorem recordTimeout_eq {s : State} {i : Nat} (h : (nodeDyn s i).recParts ≠ []) :
    recordTimeout s i = uploadAgain (advanceTo s ((nodeDyn s i).recAt + 60 * giga)) i := if_neg h

theorem uploadAgain_tim (s : State) (i : Nat) : (uploadAgain s i).tim = s.tim := (uploadAgain_clears s i).2.2.tim rfl

theorem recordTimeout_leaves {s v : State} {i : Nat} {e : NatEnt} (hv : KeepsAllBut offTim s v) (he : natEnt s i = some e) :
    (nodeDyn (uploadAgain v i) i).recParts = [] ∧
      ((nodeDyn s i).recTries < 3 → (nodeDyn (uploadAgain v i) i).recTries = (nodeDyn s i).recTries + 1 ∧
        Queues (uploadAgain v i) e.port fun u => u.node = i ∧ u.cmd = 4) ∧
      (3 ≤ (nodeDyn s i).recTries → (nodeDyn (uploadAgain v i) i).recTries = 0 ∧
        Said s (uploadAgain v i) .rad 0x0406 e.channel ((nodeDyn s i).recTries + 1) 0) := by
  have hbook : book v = book s := book_of_rad (hv.rad rfl)
  have hent : natEnt v i = some e := (natEnt_of_book hbook i).trans he
  rw [← nodeDyn_of_book hbook i]
  exact ⟨(uploadAgain_clears v i).1, fun hfew => uploadAgain_asks hent hfew, fun hall => uploadAgain_ends hv hent hall⟩

theorem recordUploadTimeout_done {s : State} {i : Nat} {e : NatEnt} (he : natEnt s i = some e) (h : (nodeDyn s i).recParts ≠ []) :
    Done (.recordUploadTimeout i) s fun t => (0 < addend s → (nodeDyn s i).recAt + 60 * giga ≤ nowNs t) ∧ (nodeDyn t i).recParts = [] ∧
      ((nodeDyn s i).recTries < 3 → (nodeDyn t i).recTries = (nodeDyn s i).recTries + 1 ∧
        ∀ x, t.rad.ports[e.port]? = some x → ∃ u ∈ x.uni, u.node = i ∧ u.cmd = 4) ∧
      (3 ≤ (nodeDyn s i).recTries → (nodeDyn t i).recTries = 0 ∧ Said s t .rad 0x0406 e.channel ((nodeDyn s i).recTries + 1) 0) := by
  refine done_of (u := recordTimeout s i) rfl
    (KeepsAllBut.pending (m := { tim := true, evq := true, rad := true }) (recordTimeout_keeps _ rfl rfl rfl s i) rfl) ?_
  rw [recordTimeout_eq h]
  refine ⟨fun hadd => ?_, recordTimeout_leaves (advanceTo_keeps offTim rfl s _) he⟩
  rw [nowNs_congr (uploadAgain_tim _ i)]
  exact advanceTo_reaches _ hadd

/-- Settles O57: an unknown source's request is reported before a scan sees it; a known one's is accepted and answered with a link started anew. -/
theorem nodesAreEnrolledAgain : Obligations.NodesAreEnrolledAgain := by
  unfold Obligations.NodesAreEnrolledAgain
  refine ⟨fun s f x hx hopen hserves hfcs => ?_, fun s i e he h => recordUploadTimeout_done he h⟩
  rw [← radPort_of_get hx] at hopen
  have hdone := fun (P : State → Prop) (hP : P (enrolRequest s f)) =>
    done_of (c := .enrolmentRequest f) (u := enrolRequest s f) rfl (enrolRequest_pending s f) hP
  refine ⟨fun hheader => hdone _ (enrolRequest_unknown_leaves hopen hserves hfcs hheader), fun i e hheader he hkey hdevice hmic hnew => hdone _ ?_⟩
  obtain ⟨y, d, hent, hdyn, hdev, hlink⟩ := enrolRequest_known_leaves hopen hserves hfcs hheader he hkey hdevice hmic hnew
  rw [hdyn]
  exact ⟨⟨_, hent, rfl, rfl, rfl, rfl, rfl, rfl, rfl⟩, rfl, rfl, hdev, hlink⟩

end Sys2Proof.Machine
end

section
/-! The slots of radio ports: what RAD does in a cell leaves the ASN of every port and its armed ack (R200, R215). -/
namespace Sys2Proof.Machine

/-! ## ASN and armed ack of every port, through all that RAD sends -/

/-- A port's ASN and its armed ack. -/
def heldSlot (x : RadPort) : Option Nat × Option (AirFrame × Nat) := (x.asn, x.ack)

/-- The ASN and the armed ack of every port. -/
abbrev slotView (s : State) : List (Option Nat × Option (AirFrame × Nat)) := portView heldSlot s

theorem slotView_of_rad {s t : State} (h : t.rad = s.rad) : slotView t = slotView s := portView_of_rad h

theorem slotView_of_ports {s t : State} (h : t.rad.ports = s.rad.ports) : slotView t = slotView s := congrArg (List.map heldSlot) h

theorem slotView_setRadPort (s : State) (p : Nat) {f : RadPort → RadPort} (hf : ∀ x, heldSlot (f x) = heldSlot x) :
    slotView (setRadPort s p f) = slotView s := portView_setRadPort s p hf

section
variable (s : State)

@[simp] theorem slotView_event (w : Stn) (c j a b : Nat) : slotView (event s w c j a b) = slotView s :=
  slotView_of_rad (rad_of_keeps (event_keeps _ rfl s w c j a b))

@[simp] theorem slotView_pairEvent (w : Stn) (a : Nat) : slotView (pairEvent s w a) = slotView s :=
  slotView_of_rad (rad_of_keeps (pairEvent_keeps _ rfl s w a))

@[simp] theorem slotView_cmdOutcome (slot serial nat outcome : Nat) : slotView (cmdOutcome s slot serial nat outcome) = slotView s :=
  slotView_of_rad (rad_of_keeps (cmdOutcome_keeps _ rfl rfl s slot serial nat outcome))

@[simp] theorem slotView_floorFor (f c : Nat) (put : Nat → LedgerRad → LedgerRad) : slotView (floorFor s f c put).1 = slotView s :=
  slotView_of_rad (rad_of_keeps (floorFor_keeps _ rfl rfl s f c put))

@[simp] theorem slotView_setKeys (f : KeyStore → KeyStore) : slotView (setKeys s f) = slotView s := rfl

@[simp] theorem slotView_newKey : slotView (newKey s).1 = slotView s := rfl

@[simp] theorem slotView_putLink (i gen : Nat) (k : Key) : slotView (putLink s i gen k) = slotView s := rfl

@[simp] theorem slotView_setDyn (i : Nat) (f : NodeDyn → NodeDyn) : slotView (setDyn s i f) = slotView s := rfl

@[simp] theorem slotView_snsCount (j : Nat) : slotView (snsCount s j) = slotView s := rfl

@[simp] theorem slotView_setDuty (b : Nat) (f : DutyAcc → DutyAcc) : slotView (setDuty s b f) = slotView s := rfl

@[simp] theorem slotView_shed (b k : Nat) : slotView (shed s b k) = slotView s := rfl

@[simp] theorem slotView_chargeBeacon (p : Nat) : slotView (chargeBeacon s p) = slotView s := rfl

@[simp] theorem slotView_setNat (i : Nat) (f : NatEnt → NatEnt) : slotView (setNat s i f) = slotView s := portView_setNat s i f

@[simp] theorem slotView_chargeGeneral (b : Nat) (c : ShedCls) (ms : Nat) : slotView (chargeGeneral s b c ms).1 = slotView s :=
  slotView_of_ports (chargeGeneral_ports s b c ms)

@[simp] theorem slotView_chargeOrShed (p : Nat) (c : ShedCls) (ms : Nat) : slotView (chargeOrShed s p c ms).1 = slotView s :=
  slotView_of_ports (chargeOrShed_ports s p c ms)

@[simp] theorem slotView_chargeReserve (p ms : Nat) : slotView (chargeReserve s p ms).1 = slotView s := by
  unfold chargeReserve
  extract_lets b r
  have hr : slotView r.1 = slotView s := slotView_chargeGeneral s b .top ms
  split
  · rfl
  · split
    · exact hr
    · exact (slotView_shed r.1 b 3).trans hr

@[simp] theorem slotView_chargeLight (p ms : Nat) (a b : Bool) : slotView (chargeLight s p ms a b).1 = slotView s := by
  unfold chargeLight
  split <;> simp

@[simp] theorem slotView_radCount (p j : Nat) : slotView (radCount s p j) = slotView s := slotView_setRadPort s _ fun _ => by rfl

@[simp] theorem slotView_dropUni (p : Nat) (u : Unicast) : slotView (dropUni s p u) = slotView s := slotView_setRadPort s _ fun _ => by rfl

@[simp] theorem slotView_setUni (p : Nat) (u v : Unicast) : slotView (setUni s p u v) = slotView s := slotView_setRadPort s _ fun _ => by rfl

@[simp] theorem slotView_txGo (p : Nat) (f : AirFrame) : slotView (txGo s p f) = slotView s := slotView_setRadPort s _ fun _ => by rfl

@[simp] theorem slotView_dequeue (p : Nat) (l : List LightEntry) : slotView (dequeue s p l) = slotView s := slotView_setRadPort s _ fun _ => by rfl

@[simp] theorem slotView_queueUni (u : Unicast) : slotView (queueUni s u) = slotView s := portView_queueUni (fun _ _ => rfl) s u

@[simp] theorem slotView_queueCommand (i cmd : Nat) (data : List Byte) : slotView (queueCommand s i cmd data) = slotView s :=
  portView_queueCommand (fun _ _ => rfl) s i cmd data

@[simp] theorem slotView_queueKey (i slot switch_ : Nat) : slotView (queueKey s i slot switch_) = slotView s :=
  portView_queueKey (fun _ _ => rfl) s i slot switch_

@[simp] theorem slotView_queueRekey (i : Nat) : slotView (queueRekey s i) = slotView s := by
  unfold queueRekey
  (repeat' split) <;> simp

@[simp] theorem slotView_startRekey (i : Nat) : slotView (startRekey s i) = slotView s := by
  unfold startRekey
  split
  · rfl
  · dsimp only
    rw [slotView_setDyn, slotView_queueRekey, slotView_putLink, slotView_newKey]

@[simp] theorem slotView_rekeyWorn (i c : Nat) : slotView (rekeyWorn s i c) = slotView s := by
  unfold rekeyWorn
  (repeat' split) <;> simp

@[simp] theorem slotView_queueRejoin (i reqCtr : Nat) : slotView (queueRejoin s i reqCtr) = slotView s := by
  unfold queueRejoin
  split
  · rfl
  · dsimp only
    split
    · split <;> simp
    · rw [slotView_queueUni, slotView_setRadPort _ _ (fun _ => by rfl), slotView_setDyn]

@[simp] theorem slotView_newEpochStart (i : Nat) : slotView (newEpochStart s i) = slotView s := by simp [newEpochStart]

@[simp] theorem slotView_renewShared (slot : Nat) : slotView (renewShared s slot) = slotView s := by
  unfold renewShared
  extract_lets k s1 s2 s3
  exact (portView_foldl (fun t (i : Nat) => slotView_queueKey t i _ _) _ _).trans rfl

@[simp] theorem slotView_linkCounter (i : Nat) : slotView (linkCounter s i).1 = slotView s := by
  unfold linkCounter
  split
  · rfl
  · extract_lets c w
    have hw : slotView w.1 = slotView s := slotView_floorFor s _ _ _
    split
    · rfl
    · split
      · exact slotView_newEpochStart s i
      · split
        · exact (slotView_rekeyWorn _ i c).trans ((slotView_setNat w.1 i _).trans hw)
        · exact hw

@[simp] theorem slotView_deviceCounter : slotView (deviceCounter s).1 = slotView s := by
  unfold deviceCounter
  split <;> simp

@[simp] theorem slotView_uniCounter (u : Unicast) : slotView (uniCounter s u).1 = slotView s := by
  unfold uniCounter
  split
  · exact slotView_deviceCounter s
  · exact slotView_linkCounter s u.node

@[simp] theorem slotView_groupCounter (p : Nat) : slotView (groupCounter s p).1 = slotView s := by
  unfold groupCounter
  extract_lets c w
  have hw : slotView w.1 = slotView s := slotView_floorFor s _ _ _
  split
  · rfl
  · split
    · dsimp only
      split
      · exact (slotView_renewShared _ _).trans hw
      · exact hw
    · exact hw

@[simp] theorem slotView_broadcast (p mtype : Nat) (body : List Byte) (octets start : Nat) :
    slotView (broadcast s p mtype body octets start).1 = slotView s := by
  unfold broadcast
  split
  · rfl
  · dsimp only
    split <;> exact slotView_groupCounter s p

@[simp] theorem slotView_runOp (p op : Nat) (x : SpiArg) : slotView (runOp s p op x) = slotView s := portView_runOp (fun _ _ => rfl) s p op x

@[simp] theorem slotView_trxIdleOwed (p : Nat) : slotView (trxIdleOwed s p) = slotView s := by
  unfold trxIdleOwed
  split
  · rw [slotView_setRadPort _ _ (fun _ => by rfl), slotView_runOp]
  · rfl

@[simp] theorem slotView_trxReceive (p : Nat) : slotView (trxReceive s p) = slotView s := by simp [trxReceive]

@[simp] theorem slotView_trxSend (p : Nat) (f : AirFrame) : slotView (trxSend s p f) = slotView s := by simp [trxSend]

@[simp] theorem slotView_onAir (p : Nat) (f : AirFrame) : slotView (onAir s p f) = slotView s := by
  rw [onAir, slotView_txGo, slotView_trxSend, slotView_setRadPort _ _ (fun _ => by rfl), slotView_radCount]

@[simp] theorem slotView_markSent (e : LightEntry) : slotView (markSent s e) = slotView s := by
  unfold markSent
  extract_lets t
  have ht : slotView t = slotView s := rfl
  split
  · exact (slotView_setDyn t _ _).trans ht
  · exact ht

@[simp] theorem slotView_awaitOutcome (counter : Nat) (last : Bool) (e : LightEntry) : slotView (awaitOutcome s counter last e) = slotView s := by
  unfold awaitOutcome
  split <;> rfl

@[simp] theorem slotView_classedUnsent (p : Nat) (l : List LightEntry) : slotView (classedUnsent s p l) = slotView s := by
  unfold classedUnsent
  refine portView_foldl (fun t e => ?_) s l
  extract_lets a b
  have hb : slotView b = slotView t := slotView_event a .rad _ _ _ _
  split
  · exact (slotView_cmdOutcome b _ _ _ _).trans hb
  · exact hb

@[simp] theorem slotView_classedLate (p : Nat) (l : List LightEntry) : slotView (classedLate s p l) = slotView s := by
  unfold classedLate
  refine portView_foldl (fun t e => ?_) s _
  exact (slotView_event _ .rad _ _ _ _).trans rfl

@[simp] theorem slotView_sendLight (p asn : Nat) (l : List LightEntry) (refresh : Bool) : slotView (sendLight s p asn l refresh).1 = slotView s := by
  unfold sendLight
  extract_lets k bad s1 l1 classed oct s2 b s3 left
  have h1 : slotView s1 = slotView s := portView_foldl (fun t _ => slotView_pairEvent t .rad 0) s bad
  have h2 : slotView s2 = slotView s := (slotView_chargeLight s1 p _ _ refresh).trans h1
  have hb : slotView b.1 = slotView s := (slotView_broadcast s1 p 1 _ oct _).trans h1
  have h3 : slotView s3 = slotView s := (slotView_chargeLight b.1 p _ _ refresh).trans hb
  split
  · exact h1
  · split
    · split
      · exact (slotView_classedUnsent s2 p l1).trans h2
      · exact h2
    · split
      · exact hb
      · extract_lets a c d
        have ha : slotView a = slotView s := (slotView_onAir _ p _).trans ((slotView_classedLate s3 p l1).trans h3)
        have hc : slotView c = slotView s :=
          (portView_foldl (fun t e => (slotView_awaitOutcome (markSent t e) _ _ e).trans (slotView_markSent t e)) a l1).trans ha
        unfold d
        split
        · exact hc
        · exact (slotView_setRadPort c p fun _ => by rfl).trans hc

@[simp] theorem slotView_downRepeat (p asn : Nat) : slotView (downRepeat s p asn).1 = slotView s := by
  unfold downRepeat
  extract_lets k
  split
  · rfl
  · extract_lets c frame a b
    have hc : slotView c.1 = slotView s := slotView_chargeReserve s p _
    split
    · rw [slotView_classedUnsent, slotView_setRadPort _ _ (fun _ => by rfl), hc]
    · have hb : slotView b = slotView s := (slotView_setRadPort a p fun _ => by rfl).trans ((slotView_onAir c.1 p _).trans hc)
      exact (portView_foldl (fun t e => slotView_awaitOutcome t _ _ e) b _).trans hb

@[simp] theorem slotView_downTimed (p asn : Nat) : slotView (downTimed s p asn).1 = slotView s := by
  unfold downTimed
  extract_lets k ok
  clear_value ok
  split
  · rfl
  · extract_lets t r
    have hr : slotView r.1 = slotView s := slotView_sendLight s p asn t.1 false
    split
    · exact (slotView_setRadPort r.1 p fun _ => by rfl).trans hr
    · exact hr

@[simp] theorem slotView_downUntimed (p asn lead : Nat) : slotView (downUntimed s p asn lead).1 = slotView s := by
  unfold downUntimed
  extract_lets x any t r
  have hr : slotView r.1 = slotView s := slotView_sendLight s p asn t.1 _
  split
  · rfl
  · split
    · exact (slotView_dequeue r.1 p t.1).trans hr
    · exact hr

@[simp] theorem slotView_sendUni (p asn : Nat) (u : Unicast) (cls : ShedCls) : slotView (sendUni s p asn u cls).1 = slotView s := by
  unfold sendUni
  extract_lets k body more oct c a
  have hc : slotView c.1 = slotView s := slotView_uniCounter s u
  have ha : slotView a = slotView s := (slotView_chargeOrShed c.1 p cls _).trans hc
  split
  · exact slotView_dropUni s p u
  · split
    · exact slotView_chargeOrShed s p cls _
    · split
      · rfl
      · split
        · exact hc
        · extract_lets b d
          have hd : slotView d = slotView s := by rw [slotView_setUni, slotView_trxReceive, slotView_onAir, ha]
          split
          · exact (slotView_setDyn d _ _).trans hd
          · exact hd

@[simp] theorem slotView_downOwed (p asn : Nat) : slotView (downOwed s p asn).1 = slotView s := by
  unfold downOwed
  split <;> simp

@[simp] theorem slotView_downListening (p asn : Nat) : slotView (downListening s p asn).1 = slotView s := by
  unfold downListening
  split <;> simp

@[simp] theorem slotView_downCommand (p asn : Nat) : slotView (downCommand s p asn).1 = slotView s := by
  unfold downCommand
  extract_lets due
  clear_value due
  split <;> simp

@[simp] theorem slotView_downRdv (p asn : Nat) : slotView (downRdv s p asn).1 = slotView s := by
  unfold downRdv
  split <;> simp

@[simp] theorem slotView_sendTrain (p asn i : Nat) (resync urgent : Bool) (ms start n period : Nat) :
    slotView (sendTrain s p asn i resync urgent ms start n period).1 = slotView s := by
  unfold sendTrain
  extract_lets k c a body
  have hc : slotView c.1 = slotView s := slotView_linkCounter s i
  have ha : slotView a = slotView s := (slotView_chargeOrShed c.1 p .d2 ms).trans hc
  split
  · exact slotView_chargeOrShed s p .d2 ms
  · split
    · rfl
    · split
      · exact hc
      · exact (slotView_onAir a p _).trans ha

@[simp] theorem slotView_trainBegun (p : Nat) (u : Unicast) (rdv : Nat) : slotView (trainBegun s p u rdv) = slotView s := by
  unfold trainBegun
  split <;> simp

@[simp] theorem slotView_trainSent (r : State × Option AirFrame) (p : Nat) (u : Unicast) (rdv : Nat) :
    slotView (trainSent r p u rdv).1 = slotView r.1 := by
  unfold trainSent
  split <;> simp

@[simp] theorem slotView_downTrain (p asn : Nat) : slotView (downTrain s p asn).1 = slotView s := by
  unfold downTrain
  extract_lets k due
  clear_value due
  split
  · rfl
  · rw [slotView_trainSent, guardTrain, slotView_sendTrain]

@[simp] theorem slotView_fullBegun (p i : Nat) (f : AirFrame) (last : Nat) : slotView (fullBegun s p i f last) = slotView s := by
  unfold fullBegun
  rw [slotView_setDyn, slotView_setRadPort _ _ (fun _ => by rfl), slotView_setDuty, slotView_snsCount]

@[simp] theorem slotView_fullGoesOn (p asn : Nat) : slotView (fullGoesOn s p asn).1 = slotView s := by
  unfold fullGoesOn
  split
  · split
    · exact slotView_setRadPort s p fun _ => by rfl
    · simp
  · rfl

@[simp] theorem slotView_fullSent (r : State × Option AirFrame) (p i last : Nat) : slotView (fullSent r p i last).1 = slotView r.1 := by
  unfold fullSent
  split <;> simp

@[simp] theorem slotView_fullTrain (p asn : Nat) : slotView (fullTrain s p asn).1 = slotView s := by
  unfold fullTrain
  split
  · rfl
  · rw [slotView_fullSent, fillTrain, slotView_sendTrain]

/-- A broadcast that is charged and goes on air. -/
theorem slotView_broadcastSent {u : State} (p ms : Nat) (cls : ShedCls) (f : AirFrame) {g : RadPort → RadPort} (hu : slotView u = slotView s)
    (hg : ∀ x, heldSlot (g x) = heldSlot x) : slotView (setRadPort (onAir (chargeOrShed u p cls ms).1 p f) p g) = slotView s :=
  (slotView_setRadPort _ p hg).trans ((slotView_onAir _ p f).trans ((slotView_chargeOrShed u p cls ms).trans hu))

@[simp] theorem slotView_sendBulk (p asn : Nat) : slotView (sendBulk s p asn).1 = slotView s := by
  unfold sendBulk
  extract_lets k half oct size
  split
  · split
    · rfl
    · extract_lets blk hdr b
      have hb : slotView b.1 = slotView s := slotView_broadcast s p 0x40 hdr oct _
      split
      · exact slotView_chargeOrShed s p .d1 _
      · split
        · exact hb
        · exact slotView_broadcastSent s p _ .d1 _ hb fun _ => by rfl
  · rfl

@[simp] theorem slotView_sendFallback (p asn : Nat) : slotView (sendFallback s p asn).1 = slotView s := by
  unfold sendFallback
  extract_lets k oct b
  have hb : slotView b.1 = slotView s := slotView_broadcast s p 2 _ oct _
  split
  · rfl
  · split
    · exact slotView_chargeOrShed s p .d3 _
    · split
      · exact hb
      · exact slotView_broadcastSent s p _ .d3 _ hb fun _ => by rfl

@[simp] theorem slotView_fbTrack (p : Nat) : slotView (fbTrack s p) = slotView s := by
  unfold fbTrack
  refine slotView_setRadPort s p fun x => ?_
  split <;> rfl

theorem slotView_firstItem (l : List (State → State × Bool)) (h : ∀ f ∈ l, ∀ t, slotView (f t).1 = slotView t) :
    slotView (firstItem s l) = slotView s := by
  induction l generalizing s with
  | nil => rfl
  | cons f l ih =>
    have hf : slotView (f s).1 = slotView s := h f List.mem_cons_self s
    unfold firstItem
    dsimp only
    split
    · exact hf
    · exact (ih (f s).1 fun g hg => h g (List.mem_cons_of_mem f hg)).trans hf

@[simp] theorem slotView_downCell (p asn : Nat) : slotView (downCell s p asn) = slotView s := by
  unfold downCell
  extract_lets light none_
  split
  · split <;> simp
  · refine slotView_firstItem s _ ?_
    by_cases hlight : light <;> simp [hlight, none_]

@[simp] theorem slotView_beacon (p asn : Nat) : slotView (beacon s p asn) = slotView s := by
  unfold beacon
  extract_lets k x a b
  split
  · exact slotView_radCount s p 12
  · have ha : slotView a = slotView s := slotView_chargeBeacon s p
    have hb : slotView b = slotView s := (slotView_setRadPort _ p fun _ => by rfl).trans ((slotView_radCount a p 11).trans ha)
    exact (slotView_onAir b p _).trans hb

theorem setNat_ports (i : Nat) (f : NatEnt → NatEnt) : (setNat s i f).rad.ports = s.rad.ports := by rw [setNat_rad]

/-- ADRIFT leaves the ports. -/
theorem setAdrift_ports (i : Nat) : (setAdrift s i).rad.ports = s.rad.ports := by
  unfold setAdrift
  split
  · split
    · rfl
    · exact (congrArg RadState.ports (rad_of_keeps (event_keeps _ rfl _ _ _ _ _ _))).trans (setNat_ports s i _)
  · rfl

theorem openWindow_ports (p asn i : Nat) : (openWindow s p asn i).rad.ports = s.rad.ports := by
  unfold openWindow
  split
  · rfl
  · extract_lets k g
    split
    · rfl
    · split
      · exact setAdrift_ports s i
      · exact setNat_ports s i _

theorem openWindows_ports (p asn : Nat) (l : List (Nat × NatEnt)) : (l.foldl (fun s x => openWindow s p asn x.1) s).rad.ports = s.rad.ports := by
  induction l generalizing s with
  | nil => rfl
  | cons x l ih => rw [List.foldl_cons, ih, openWindow_ports]

@[simp] theorem slotView_lostCell (p asn : Nat) : slotView (lostCell s p asn) = slotView s := by
  unfold lostCell
  (repeat' split) <;> simp

@[simp] theorem slotView_cellAct (p asn : Nat) : slotView (cellAct s p asn) = slotView s := by
  unfold cellAct
  extract_lets k a
  have ha : slotView a = slotView s := slotView_of_ports (openWindows_ports s p asn _)
  (repeat' split) <;> simp [ha]

end

/-! ## Unicasts retried -/

section
variable {α : Type} {g : RadPort → α} (huni : ∀ (x : RadPort) (l : List Unicast), g { x with uni := l } = g x)
  (hlost : ∀ x : RadPort, g { x with cnt := bump x.cnt 10 } = g x)
include huni hlost

/-- A unicast that ends unacknowledged leaves what `g` reads, which is neither the unicasts of a port nor its count of them. -/
theorem portView_uniUnconfirmed (s : State) (p : Nat) (u : Unicast) : portView g (uniUnconfirmed s p u) = portView g s := by
  have hset : portView g (setNat (radCount (dropUni s p u) p 10) u.node entUnconfirmed) = portView g s :=
    (portView_setNat _ _ _).trans ((portView_setRadPort (dropUni s p u) p hlost).trans (portView_setRadPort s p fun x => huni x _))
  rw [portView_of_rad (uniUnconfirmed_rad s p u), uniLost]
  split <;> exact hset

theorem portView_retries (s : State) (p asn : Nat) : portView g (retries s p asn) = portView g s := by
  unfold retries
  extract_lets a
  have ha : portView g a = portView g s := portView_setRadPort s p fun x => huni x _
  refine (portView_foldl (fun t u => ?_) a _).trans ha
  dsimp only
  split
  · exact portView_uniUnconfirmed huni hlost t p u
  · exact portView_setRadPort t p fun x => huni x _

end

/-! ## The slot that begins -/

/-- A port whose slot begins. -/
def slotTaken (asn : Nat) (x : RadPort) : RadPort := { x with asn := some asn, ack := none, spi := [] }

/-- The slot's number taken, and unicasts without an ack retried, before anything of the cell. -/
def slotEntered (s : State) (p asn : Nat) : State := retries (fbTrack (setRadPort s p (slotTaken asn)) p) p asn

theorem slotBegins_eq (s : State) (p asn : Nat) : slotBegins s p asn =
    if !radServes (slotEntered s p asn) then slotEntered s p asn
    else if !rxOpen (radPort (slotEntered s p asn) p) then lostCell (slotEntered s p asn) p asn
    else cellAct (slotEntered s p asn) p asn := rfl

theorem slotView_slotEntered (s : State) (p asn : Nat) : slotView (slotEntered s p asn) = upd (slotView s) p fun _ => (some asn, none) := by
  have htaken : slotView (setRadPort s p (slotTaken asn)) = upd (slotView s) p fun _ => (some asn, none) :=
    upd_map heldSlot s.rad.ports p (slotTaken asn) _ fun _ => rfl
  exact (portView_retries (g := heldSlot) (fun _ _ => rfl) (fun _ => rfl) _ p asn).trans ((slotView_fbTrack _ p).trans htaken)

/-- Of the ports' ASNs and armed acks a slot that begins changes its own port's. -/
theorem slotView_slotBegins (s : State) (p asn : Nat) : slotView (slotBegins s p asn) = upd (slotView s) p fun _ => (some asn, none) := by
  rw [slotBegins_eq, ← slotView_slotEntered]
  (repeat' split) <;> simp

theorem slotBegins_count (s : State) (p asn : Nat) : (slotBegins s p asn).rad.ports.length = s.rad.ports.length := by
  have h := congrArg List.length (slotView_slotBegins s p asn)
  simpa only [upd_length, portView, List.length_map] using h

end Sys2Proof.Machine
end

section
/-! Radio slots, beacons, port states and receive windows (R80, R195, R200, R205, R239, R240, R255). -/
namespace Sys2Proof.Machine

/-! ## A slot of a port begins -/

theorem slotBegins_port {s : State} {p : Nat} {x : RadPort} (hx : s.rad.ports[p]? = some x) (asn : Nat) :
    ∃ y, (slotBegins s p asn).rad.ports[p]? = some y ∧ y.asn = some asn ∧ y.ack = none := by
  have hget := congrArg (·[p]?) (slotView_slotBegins s p asn)
  simp only [portView, List.getElem?_map, upd_get_same, hx, Option.map_some] at hget
  obtain ⟨y, hy, hheld⟩ := Option.map_eq_some_iff.mp hget
  exact ⟨y, hy, congrArg Prod.fst hheld, congrArg Prod.snd hheld⟩

/-- What a slot that begins changes. -/
abbrev beginParts : Parts := { calls := true, evq := true, lgt := true, rad := true, keys := true, ledr := true, ledBad := true, free := true }

theorem slotBegins_tim (s : State) (p asn : Nat) : (slotBegins s p asn).tim = s.tim :=
  KeepsAllBut.tim (m := beginParts) (slotBegins_keeps _ rfl rfl rfl rfl rfl rfl rfl rfl s p asn) rfl

/-- The slots of the account's lower ports that begin at the same instant. -/
def lowerBegin (s : State) (l : List (Nat × Nat)) : State := l.foldl (fun s q => slotBegins s q.1 q.2) s

theorem lowerBegin_tim (s : State) (l : List (Nat × Nat)) : (lowerBegin s l).tim = s.tim := by
  induction l generalizing s with
  | nil => rfl
  | cons q l ih => exact (ih (slotBegins s q.1 q.2)).trans (slotBegins_tim s q.1 q.2)

theorem lowerBegin_count (s : State) (l : List (Nat × Nat)) : (lowerBegin s l).rad.ports.length = s.rad.ports.length := by
  induction l generalizing s with
  | nil => rfl
  | cons q l ih => exact (ih (slotBegins s q.1 q.2)).trans (slotBegins_count s q.1 q.2)

/-- The instant of a port's next slot. -/
def nextStart (s : State) (p : Nat) : Nat := slotStart (radCfg s p) (nextAsn s p)

/-- Before the port's own slot: time is at it, and the lower ports' slots have begun. -/
def slotReached (s : State) (p : Nat) : State :=
  lowerBegin (advanceTo s (nextStart s p)) ((portsBefore s p (nextStart s p)).map fun q => (q, nextAsn s q))

theorem portSlot_eq {s : State} {p : Nat} (h : hasSlots s p = true) : portSlot s p = slotBegins (slotReached s p) p (nextAsn s p) := by
  unfold portSlot
  rw [if_neg (by simp [h])]
  rfl

theorem exec_slotStart (s : State) (p : Nat) : exec (.slotStart p) s = ran s (portSlot s p) := rfl

theorem portSlot_pending (s : State) (p : Nat) : (portSlot s p).pending = s.pending :=
  KeepsAllBut.pending (m := Parts.all) (portSlot_keeps _ rfl rfl rfl rfl rfl rfl rfl rfl rfl s p) rfl

/-- The next slot begins at its start, and the ack that was armed is gone (R200, R215). -/
theorem slotStart_done {s : State} {p : Nat} {x : RadPort} (hslots : hasSlots s p = true) (hx : s.rad.ports[p]? = some x) :
    Done (.slotStart p) s fun t => (0 < addend s → slotStart (radCfg s p) (nextAsn s p) ≤ nowNs t) ∧
      ∃ y, t.rad.ports[p]? = some y ∧ y.asn = some (nextAsn s p) ∧ y.ack = none := by
  refine done_of (exec_slotStart s p) (portSlot_pending s p) ?_
  rw [portSlot_eq hslots]
  have hcount : (slotReached s p).rad.ports.length = s.rad.ports.length := (lowerBegin_count _ _).trans (by rw [advanceTo_rad])
  have hp : p < (slotReached s p).rad.ports.length := hcount ▸ (List.getElem?_eq_some_iff.mp hx).1
  refine ⟨fun hadd => ?_, slotBegins_port (List.getElem?_eq_getElem hp) _⟩
  rw [nowNs_congr (slotBegins_tim _ p _), slotReached, nowNs_congr (lowerBegin_tim _ _)]
  exact advanceTo_reaches _ hadd

/-! ## The beacon -/

theorem portView_trxSend {α : Type} {g : RadPort → α} (hspi : ∀ (x : RadPort) (l : List SpiRun), g { x with spi := l } = g x)
    (hidle : ∀ x : RadPort, g { x with idleOwed := false } = g x) (s : State) (p : Nat) (a : AirFrame) :
    portView g (trxSend s p a) = portView g s := by
  unfold trxSend trxIdleOwed
  dsimp only
  rw [portView_runOp hspi, portView_runOp hspi]
  split
  · exact (portView_setRadPort _ p hidle).trans (portView_runOp hspi s p _ _)
  · rfl

/-- What a port had of its beacons before a cell, and its state. -/
def beaconsOf (x : RadPort) : PortSt × Nat × Option AirFrame × Option Nat × Option Nat := (x.state, x.maxAsn, x.last, x.cnt[11]?, x.cnt[12]?)

theorem port_of_view {α : Type} {g : RadPort → α} {s t : State} {p : Nat} {x : RadPort} (h : portView g t = portView g s)
    (hx : s.rad.ports[p]? = some x) : ∃ y, t.rad.ports[p]? = some y ∧ g y = g x := by
  have hget := congrArg (·[p]?) h
  simp only [portView, List.getElem?_map, hx, Option.map_some] at hget
  exact Option.map_eq_some_iff.mp hget

theorem beaconsOf_slotEntered (s : State) (p asn : Nat) : portView beaconsOf (slotEntered s p asn) = portView beaconsOf s := by
  have hcnt : ∀ x : RadPort, beaconsOf { x with cnt := bump x.cnt 10 } = beaconsOf x := fun x => by
    simp only [beaconsOf, bump_get_other x.cnt (show 11 ≠ 10 by decide), bump_get_other x.cnt (show 12 ≠ 10 by decide)]
  have htrack : portView beaconsOf (fbTrack (setRadPort s p (slotTaken asn)) p) = portView beaconsOf (setRadPort s p (slotTaken asn)) := by
    unfold fbTrack
    refine portView_setRadPort _ p fun x => ?_
    split <;> rfl
  exact (portView_retries (g := beaconsOf) (fun _ _ => rfl) hcnt _ p asn).trans (htrack.trans (portView_setRadPort s p fun _ => rfl))

/-- What a slot changes before its cell. -/
abbrev slotParts : Parts := { calls := true, tim := true, evq := true, rad := true }

theorem slotEntered_keeps (s : State) (p asn : Nat) : KeepsAllBut slotParts s (slotEntered s p asn) := by
  rw [KeepsAllBut, slotEntered, retries_keeps _ rfl rfl rfl, fbTrack_keeps _ rfl, setRadPort_keeps _ rfl]

/-- The windows of a cell opened. -/
def windowsOpen (s : State) (p asn : Nat) : State := (upNodes s p asn).foldl (fun s x => openWindow s p asn x.1) s

theorem windowsOpen_keeps (s : State) (p asn : Nat) : KeepsAllBut slotParts s (windowsOpen s p asn) :=
  foldl_keeps _ _ _ _ fun t x => openWindow_keeps _ rfl rfl t p asn x.1

theorem windowsOpen_ports (s : State) (p asn : Nat) : (windowsOpen s p asn).rad.ports = s.rad.ports := openWindows_ports s p asn _

theorem cellAct_beacon {s : State} {p asn : Nat} (h : (cellAt (radCfg s p) (slotOf (radCfg s p) asn) 0).kind = 1) :
    cellAct s p asn = beacon (windowsOpen s p asn) p asn := by
  unfold cellAct windowsOpen
  extract_lets k a
  rw [show (cellAt k (slotOf k asn) 0).kind = 1 from h]
  rfl

theorem lostCell_beacon {s : State} {p asn : Nat} (h : (cellAt (radCfg s p) (slotOf (radCfg s p) asn) 0).kind = 1) :
    lostCell s p asn = radCount s p 12 := by
  unfold lostCell
  rw [h]
  rfl

/-- What a port notes of the frames that went on air. -/
def airOf (x : RadPort) : Nat × Option AirFrame × List Nat := (x.maxAsn, x.last, x.cnt)

/-- The port of a frame that goes on air: its frame is the last, and its count of beacons stays. -/
theorem onAir_beacons {s : State} {p : Nat} {x : RadPort} (hx : s.rad.ports[p]? = some x) (f : AirFrame) :
    ∃ y, (onAir s p f).rad.ports[p]? = some y ∧ y.maxAsn = x.maxAsn ∧ y.last = some f ∧ y.cnt[11]? = x.cnt[11]? := by
  have hloaded : (setRadPort (radCount s p 7) p fun x => { x with last := some f }).rad.ports[p]? =
      some { x with cnt := bump x.cnt 7, last := some f } := port_setRadPort (port_setRadPort hx _) _
  obtain ⟨y, hy, hview⟩ := port_of_view (portView_trxSend (g := airOf) (fun _ _ => rfl) (fun _ => rfl) _ p f) hloaded
  simp only [airOf, Prod.mk.injEq] at hview
  obtain ⟨hmax, hlast, hcnt⟩ := hview
  exact ⟨_, port_setRadPort hy _, hmax, hlast, by rw [hcnt]; exact bump_get_other x.cnt (by decide)⟩

/-- The beacon sent in its cell uses up the slot's ASN. -/
theorem beacon_sent {s : State} {p asn : Nat} {x : RadPort} (hx : s.rad.ports[p]? = some x) (htx : txBeacon x = true) (hnew : x.maxAsn < asn)
    (hkey : (sharedKey s s.sec.beaconGen).isSome) :
    ∃ y a, (beacon s p asn).rad.ports[p]? = some y ∧ y.maxAsn = asn ∧ y.last = some a ∧ a.mtype = 0 ∧ a.counter = asn ∧
      a.keyIndex = sharedIndex s.sec.beaconGen ∧ y.cnt[11]? = x.cnt[11]?.map inc32 := by
  unfold beacon
  extract_lets k x' a b
  have hx' : x' = x := radPort_of_get hx
  have hgoes : ¬(!txBeacon x' || decide (asn ≤ x'.maxAsn) || (sharedKey s s.sec.beaconGen).isNone) = true := by
    simp [hx', htx, hnew, Option.isSome_iff_ne_none.mp hkey]
  have hb : b.rad.ports[p]? = some { x with cnt := bump x.cnt 11, maxAsn := asn } := port_setRadPort (port_setRadPort hx _) _
  have hsec : b.sec = s.sec := rfl
  rw [if_neg hgoes]
  obtain ⟨y, hy, hmax, hlast, hcnt⟩ := onAir_beacons hb (beaconFrame b k asn)
  refine ⟨y, beaconFrame b k asn, hy, hmax, hlast, rfl, rfl, rfl, ?_⟩
  rw [hcnt, bump_get_same]

theorem beacon_withheld {s : State} {p asn : Nat} {x : RadPort} (hx : s.rad.ports[p]? = some x)
    (h : txBeacon x = false ∨ asn ≤ x.maxAsn ∨ sharedKey s s.sec.beaconGen = none) : beacon s p asn = radCount s p 12 := by
  unfold beacon
  extract_lets k y a b
  have hy : y = x := radPort_of_get hx
  rw [hy, if_pos]
  rcases h with h | h | h <;> simp [h]

/-- What a beacon's cell rests on. -/
theorem radServes_of_keeps {s u : State} (h : KeepsAllBut slotParts s u) : radServes u = radServes s := by
  simp only [radServes, stn_of_stns (h.stns rfl)]

theorem rxOpen_of_txBeacon {x : RadPort} (h : txBeacon x = true) : rxOpen x = true := by simp [rxOpen, h]

theorem txBeacon_congr {x y : RadPort} (h : y.state = x.state) : txBeacon y = txBeacon x := by simp only [txBeacon, txPlan, h]

/-- Just before a beacon's cell: the port as to its beacons, and all that a beacon rests on, are as they were. -/
structure BeaconCell (s u : State) (p : Nat) (x y : RadPort) : Prop where
  keeps : KeepsAllBut slotParts s u
  port : u.rad.ports[p]? = some y
  state : y.state = x.state
  maxAsn : y.maxAsn = x.maxAsn
  last : y.last = x.last
  sent : y.cnt[11]? = x.cnt[11]?
  withheld : y.cnt[12]? = x.cnt[12]?

theorem BeaconCell.windows {s u : State} {p : Nat} {x y : RadPort} (h : BeaconCell s u p x y) (asn : Nat) :
    BeaconCell s (windowsOpen u p asn) p x y where
  keeps := h.keeps.trans (windowsOpen_keeps u p asn)
  port := by rw [windowsOpen_ports, h.port]
  state := h.state
  maxAsn := h.maxAsn
  last := h.last
  sent := h.sent
  withheld := h.withheld

theorem slotReached_alone {s : State} {p : Nat} (h : portsBefore s p (nextStart s p) = []) : slotReached s p = advanceTo s (nextStart s p) := by
  rw [slotReached, h, List.map_nil, lowerBegin, List.foldl_nil]

theorem beaconCell_of_slot {s : State} {p : Nat} {x : RadPort} (hx : s.rad.ports[p]? = some x) (halone : portsBefore s p (nextStart s p) = [])
    (asn : Nat) : ∃ y, BeaconCell s (slotEntered (slotReached s p) p asn) p x y := by
  rw [slotReached_alone halone]
  have hx' : (advanceTo s (nextStart s p)).rad.ports[p]? = some x := by rw [advanceTo_rad, hx]
  obtain ⟨y, hy, hview⟩ := port_of_view (beaconsOf_slotEntered _ p asn) hx'
  simp only [beaconsOf, Prod.mk.injEq] at hview
  obtain ⟨hstate, hmax, hlast, hsent, hwithheld⟩ := hview
  exact ⟨y, .trans (advanceTo_keeps slotParts rfl s _) (slotEntered_keeps _ p asn), hy, hstate, hmax, hlast, hsent, hwithheld⟩

section
variable {s : State} {p : Nat} {x : RadPort} (hslots : hasSlots s p = true) (hx : s.rad.ports[p]? = some x) (hserves : radServes s = true)
  (halone : portsBefore s p (nextStart s p) = []) (hcell : (cellAt (radCfg s p) (slotOf (radCfg s p) (nextAsn s p)) 0).kind = 1)
include hslots hx hserves halone hcell

/-- In a beacon's cell the port sends its beacon, or counts it as withheld. -/
theorem portSlot_beacon : ∃ u y, BeaconCell s u p x y ∧
    portSlot s p = if rxOpen x then beacon u p (nextAsn s p) else radCount u p 12 := by
  obtain ⟨y, hy⟩ := beaconCell_of_slot hx halone (nextAsn s p)
  generalize hu : slotEntered (slotReached s p) p (nextAsn s p) = u at hy
  have hkind : (cellAt (radCfg u p) (slotOf (radCfg u p) (nextAsn s p)) 0).kind = 1 := by rw [radCfg_congr (hy.keeps.cfg rfl), hcell]
  have hopen : rxOpen (radPort u p) = rxOpen x := by rw [radPort_of_get hy.port, rxOpen, rxOpen, txBeacon_congr hy.state, hy.state]
  have hserved : radServes u = true := (radServes_of_keeps hy.keeps).trans hserves
  rw [portSlot_eq hslots, slotBegins_eq, hu, hserved, hopen]
  cases rxOpen x with
  | true => exact ⟨_, y, hy.windows (nextAsn s p), cellAct_beacon hkind⟩
  | false => exact ⟨u, y, hy, lostCell_beacon hkind⟩

/-- The beacon goes out under the slot's ASN (R205). -/
theorem slotBeacon_done (htx : txBeacon x = true) (hnew : x.maxAsn < nextAsn s p) (hkey : (sharedKey s s.sec.beaconGen).isSome) :
    Done (.slotStart p) s fun t => ∃ y a, t.rad.ports[p]? = some y ∧ y.maxAsn = nextAsn s p ∧ y.last = some a ∧ a.mtype = 0 ∧
      a.counter = nextAsn s p ∧ a.keyIndex = sharedIndex s.sec.beaconGen ∧ y.cnt[11]? = x.cnt[11]?.map inc32 := by
  refine done_of (exec_slotStart s p) (portSlot_pending s p) ?_
  obtain ⟨u, y, hy, hslot⟩ := portSlot_beacon hslots hx hserves halone hcell
  have hsec : u.sec.beaconGen = s.sec.beaconGen := congrArg SecState.beaconGen (hy.keeps.sec rfl)
  have hkey' : (sharedKey u u.sec.beaconGen).isSome := by rwa [hsec, sharedKey, hy.keeps.keys rfl]
  rw [hslot, if_pos (rxOpen_of_txBeacon htx), ← hsec, ← hy.sent]
  exact beacon_sent hy.port ((txBeacon_congr hy.state).trans htx) (hy.maxAsn ▸ hnew) hkey'

/-- A beacon that cannot go out is counted as withheld (R205). -/
theorem slotWithheld_done (h : txBeacon x = false ∨ nextAsn s p ≤ x.maxAsn ∨ sharedKey s s.sec.beaconGen = none) :
    Done (.slotStart p) s fun t =>
      ∃ y, t.rad.ports[p]? = some y ∧ y.maxAsn = x.maxAsn ∧ y.last = x.last ∧ y.cnt[12]? = x.cnt[12]?.map inc32 := by
  refine done_of (exec_slotStart s p) (portSlot_pending s p) ?_
  obtain ⟨u, y, hy, hslot⟩ := portSlot_beacon hslots hx hserves halone hcell
  have hkey : sharedKey u u.sec.beaconGen = sharedKey s s.sec.beaconGen := by rw [sharedKey, hy.keeps.sec rfl, hy.keeps.keys rfl, sharedKey]
  have hcount : portSlot s p = radCount u p 12 := by
    rw [hslot]
    split
    · exact beacon_withheld hy.port (by rwa [txBeacon_congr hy.state, hy.maxAsn, hkey])
    · rfl
  rw [hcount]
  exact ⟨_, port_setRadPort hy.port _, hy.maxAsn, hy.last, by rw [← hy.withheld]; exact bump_get_same y.cnt 12⟩

end

/-! ## Transceivers reset, faulted and brought up -/

theorem setPortState_port {s : State} {p : Nat} {x : RadPort} (hx : s.rad.ports[p]? = some x) (st : PortSt) (cause : Nat) :
    (setPortState s p st cause).rad.ports[p]? = some { x with state := st, cause := cause } := by
  unfold setPortState
  extract_lets old t
  have hold : old = x := radPort_of_get hx
  have ht : t.rad.ports[p]? = some { x with state := st, cause := cause } := port_setRadPort hx _
  rw [hold]
  split
  case isTrue hsame =>
    simp only [Bool.and_eq_true, decide_eq_true_eq] at hsame
    rw [hx, ← hsame.1, ← hsame.2]
  case isFalse =>
    split
    · exact ht
    · exact (port_of_rad (rad_of_keeps (event_keeps _ rfl t _ _ _ _ _)) p).trans ht

/-- A port whose transceiver is reset at a time base of `cyc` (R80). -/
def portReset (k : PortCfg) (cyc cause : Nat) (x : RadPort) : RadPort :=
  { x with state := .init, cause := cause, ack := none, cnt := bump x.cnt 13, rstUntil := cyc + 25000,
           readyAt := cyc + 25000 + k.profile.tRst * 250 }

theorem trxReset_port {s : State} {p : Nat} {x : RadPort} (hx : s.rad.ports[p]? = some x) (cause : Nat) :
    (trxReset s p cause).rad.ports[p]? = some (portReset (radCfg s p) s.tim.cyc cause x) :=
  setPortState_port (port_setRadPort (port_setRadPort hx _) _) .init cause

theorem initFails_entryEnds (s : State) (e : LightEntry) : portView RadPort.initFails (entryEnds s e) = portView RadPort.initFails s := by
  unfold entryEnds
  split
  · exact portView_of_rad (rad_of_keeps (cmdOutcome_keeps _ rfl rfl s _ _ _ _))
  · rfl

theorem initFails_awaitOutcome (s : State) (counter : Nat) (last : Bool) (e : LightEntry) :
    portView RadPort.initFails (awaitOutcome s counter last e) = portView RadPort.initFails s := by
  unfold awaitOutcome
  split <;> rfl

/-- A port that enters FAULT keeps its count of failed INITs (R240). -/
theorem portFaulted_port {s : State} {p : Nat} {x : RadPort} (hx : s.rad.ports[p]? = some x) :
    ∃ y, (portFaulted s p).rad.ports[p]? = some y ∧ y.initFails = x.initFails ∧ y.state = .fault ∧ y.cause = 6 := by
  unfold portFaulted
  extract_lets x' a b c d
  have ha : portView RadPort.initFails a = portView RadPort.initFails s := portView_foldl (fun t (e : Nat × NatEnt) => portView_setDyn t e.1 _) s _
  have hb : portView RadPort.initFails b = portView RadPort.initFails s := (portView_foldl initFails_entryEnds a _).trans ha
  have hc : portView RadPort.initFails c = portView RadPort.initFails s :=
    (portView_foldl (fun t (f : LightFrame) => portView_foldl (fun t e => initFails_awaitOutcome t _ true e) t f.entries) b _).trans hb
  have hd : portView RadPort.initFails d = portView RadPort.initFails s :=
    (portView_foldl (fun t u => portView_uniUnconfirmed (fun _ _ => rfl) (fun _ => rfl) t p u) c _).trans hc
  obtain ⟨y, hy, hfails⟩ := port_of_view hd hx
  exact ⟨_, port_setRadPort (setPortState_port hy .fault 6) _, hfails, rfl, rfl⟩

/-- A template that times out resets the transceiver; in INIT the third failure in a row is a FAULT (R58, R240). -/
theorem trxTmo_done {s : State} {p : Nat} {x : RadPort} (hx : s.rad.ports[p]? = some x) (hoff : x.state ≠ .off) (hreset : x.state ≠ .reset)
    (hfault : x.state ≠ .fault) : Done (.trxTmo p) s fun t => ∃ y, t.rad.ports[p]? = some y ∧
      (x.state ≠ .init → y.state = .init ∧ y.cause = 5 ∧ y.ack = none ∧ y.cnt = bump x.cnt 13 ∧ y.rstUntil = s.tim.cyc + 25000 ∧
        y.readyAt = y.rstUntil + (radCfg s p).profile.tRst * 250) ∧
      (x.state = .init → y.initFails = satAdd 8 x.initFails 1 ∧ y.cause = 6 ∧
        y.state = (if 3 ≤ satAdd 8 x.initFails 1 then .fault else .init)) := by
  refine done_of (u := trxTmo s p) rfl (KeepsAllBut.pending (m := Parts.all) (trxTmo_keeps _ rfl rfl rfl rfl s p) rfl) ?_
  unfold trxTmo
  extract_lets x' n a
  have hx' : x' = x := radPort_of_get hx
  have ha : a.rad.ports[p]? = some { x with initFails := n } := port_setRadPort hx _
  have hn : n = satAdd 8 x.initFails 1 := congrArg (satAdd 8 · 1) (congrArg RadPort.initFails hx')
  rw [hx', if_neg (by simp [hoff, hreset, hfault]), ← hn]
  by_cases hinit : x.state = .init
  · rw [if_pos hinit]
    by_cases hthird : n ≥ 3
    · rw [if_pos hthird]
      obtain ⟨y, hy, hfails, hstate, hcause⟩ := portFaulted_port ha
      exact ⟨y, hy, fun h => absurd hinit h, fun _ => ⟨hfails, hcause, hstate.trans (if_pos hthird).symm⟩⟩
    · rw [if_neg hthird]
      exact ⟨_, trxReset_port ha 6, fun h => absurd hinit h, fun _ => ⟨rfl, rfl, (if_neg hthird).symm⟩⟩
  · rw [if_neg hinit]
    exact ⟨_, trxReset_port hx 5, fun _ => ⟨rfl, rfl, rfl, rfl, rfl, rfl⟩, fun h => absurd h hinit⟩

/-- A port in FAULT tries INIT again 60 s after it (R240). -/
theorem portRetry_done {s : State} {p : Nat} {x : RadPort} (hx : s.rad.ports[p]? = some x) (hfault : x.state = .fault) :
    Done (.portInitRetry p) s fun t => x.faultAt + secCyc 60 ≤ t.tim.cyc ∧
      ∃ y, t.rad.ports[p]? = some y ∧ y.state = .init ∧ y.cause = 6 ∧ y.rstUntil = t.tim.cyc + 25000 := by
  refine done_of (u := portRetry s p) rfl (KeepsAllBut.pending (m := Parts.all) (portRetry_keeps _ rfl rfl rfl s p) rfl) ?_
  rw [portRetry, radPort_of_get hx, if_pos hfault]
  generalize hu : advanceCyc s (max s.tim.cyc (x.faultAt + secCyc 60)) = u
  have hreach : x.faultAt + secCyc 60 ≤ u.tim.cyc := hu ▸ Nat.le_trans (Nat.le_max_right _ _) (advanceCyc_reaches s _)
  have hport : u.rad.ports[p]? = some x := by rw [← hu, KeepsAllBut.rad (m := offTim) (advanceCyc_keeps _ rfl s _) rfl, hx]
  have htim : (trxReset u p 6).tim = u.tim := KeepsAllBut.tim (m := { evq := true, rad := true }) (trxReset_keeps _ rfl rfl u p 6) rfl
  rw [htim]
  exact ⟨hreach, _, trxReset_port hport 6, rfl, rfl, rfl⟩

/-- The target of a port that is up rests on the stations, the Cox and the start. -/
theorem portTarget_of_keeps {m : Parts} {s u : State} (h : KeepsAllBut m s u) (hstns : m.stns = false) (hcox : m.cox = false)
    (hsys : m.sys = false) : portTarget u (radCrabbed u) = portTarget s (radCrabbed s) := by
  have hstn : ∀ n, stn u n = stn s n := stn_of_stns (h.stns hstns)
  have hreset : ∀ n, inReset u n = inReset s n := fun n => by rw [inReset, hstn, inReset]
  have hcrab : radCrabbed u = radCrabbed s := by rw [radCrabbed, isRunning, hstn, radCrabbed, isRunning]
  simp only [portTarget, hreset, hcrab, h.cox hcox, h.sys hsys]

theorem trxIdleOwed_port {s : State} {p : Nat} {x : RadPort} (hx : s.rad.ports[p]? = some x) :
    ∃ l, (trxIdleOwed s p).rad.ports[p]? = some { x with idleOwed := false, spi := x.spi ++ l } := by
  unfold trxIdleOwed
  rw [radPort_of_get hx]
  split
  · obtain ⟨l, hl⟩ := port_of_runs hx (runOp_rad s p opIdle {})
    exact ⟨l, port_setRadPort hl _⟩
  case isFalse hidle =>
    exact ⟨[], by rw [hx, ← Bool.eq_false_iff.mpr hidle, List.append_nil]⟩

theorem trxInit_port {s : State} {p : Nat} {x : RadPort} (hx : s.rad.ports[p]? = some x) :
    ∃ l, (trxInit s p).rad.ports[p]? = some { x with spi := x.spi ++ l } := by
  obtain ⟨a, ha⟩ := port_of_runs hx (runOp_rad s p opInit (channelArg s p))
  obtain ⟨b, hb⟩ := port_of_runs ha (runOp_rad _ p opSetChannel (channelArg s p))
  exact ⟨a ++ b, by rw [trxInit, hb, List.append_assoc]⟩

/-- The transceiver idled where it owes it and initialised. -/
def broughtUp (s : State) (p : Nat) : State := setRadPort (trxInit (trxIdleOwed s p) p) p fun x => { x with initFails := 0 }

theorem broughtUp_port {s : State} {p : Nat} {x : RadPort} (hx : s.rad.ports[p]? = some x) :
    ∃ l, (broughtUp s p).rad.ports[p]? = some { x with idleOwed := false, initFails := 0, spi := x.spi ++ l } := by
  obtain ⟨a, ha⟩ := trxIdleOwed_port hx
  obtain ⟨b, hb⟩ := trxInit_port ha
  exact ⟨a ++ b, (port_setRadPort hb _).trans (by rw [List.append_assoc])⟩

theorem broughtUp_keeps (m : Parts) (hrad : m.rad = true) (hfree : m.free = true) (s : State) (p : Nat) : KeepsAllBut m s (broughtUp s p) := by
  rw [KeepsAllBut, broughtUp, setRadPort_keeps m hrad, trxInit_keeps m hrad hfree, trxIdleOwed_keeps m hrad hfree]

/-- The port's state set, time is as it was. -/
theorem setPortState_tim (s : State) (p : Nat) (st : PortSt) (cause : Nat) : (setPortState s p st cause).tim = s.tim :=
  KeepsAllBut.tim (m := { evq := true, rad := true }) (setPortState_keeps _ rfl rfl s p st cause) rfl

theorem trxDone_eq {s : State} {p : Nat} {x : RadPort} (hx : s.rad.ports[p]? = some x) (hinit : x.state = .init) :
    ∃ u, KeepsAllBut offTim s u ∧ x.readyAt ≤ u.tim.cyc ∧
      trxDone s p = setPortState (broughtUp u p) p (portTarget s (radCrabbed s)).1 (portTarget s (radCrabbed s)).2 := by
  rw [trxDone, radPort_of_get hx, if_neg (by simp [hinit])]
  generalize hu : advanceCyc s (max s.tim.cyc x.readyAt) = u
  refine ⟨u, hu ▸ advanceCyc_keeps offTim rfl s _, hu ▸ Nat.le_trans (Nat.le_max_right _ _) (advanceCyc_reaches s _), ?_⟩
  have htarget : portTarget (broughtUp u p) (radCrabbed (broughtUp u p)) = portTarget s (radCrabbed s) :=
    (portTarget_of_keeps (broughtUp_keeps { rad := true, free := true } rfl rfl u p) rfl rfl rfl).trans
      (portTarget_of_keeps (hu ▸ advanceCyc_keeps offTim rfl s _) rfl rfl rfl)
  rw [← htarget]
  rfl

/-- A transceiver brought up has the state of the most restrictive cause (R80, R195, R239). -/
theorem trxDone_done {s : State} {p : Nat} {x : RadPort} (hx : s.rad.ports[p]? = some x) (hinit : x.state = .init) :
    Done (.transceiverResetDone p) s fun t => x.readyAt ≤ t.tim.cyc ∧ ∃ runs, t.rad.ports[p]? =
      some { x with state := (portTarget s (radCrabbed s)).1, cause := (portTarget s (radCrabbed s)).2, initFails := 0, idleOwed := false,
                    spi := x.spi ++ runs } := by
  refine done_of (u := trxDone s p) rfl (KeepsAllBut.pending (m := Parts.all) (trxDone_keeps _ rfl rfl rfl rfl s p) rfl) ?_
  obtain ⟨u, hu, hreach, hdone⟩ := trxDone_eq hx hinit
  obtain ⟨l, hl⟩ := broughtUp_port (s := u) (by rw [hu.rad rfl, hx])
  rw [hdone, setPortState_tim, (broughtUp_keeps { rad := true, free := true } rfl rfl u p).tim rfl]
  exact ⟨hreach, l, setPortState_port hl _ _⟩

/-! ## Receive windows -/

/-- ADRIFT set in a node's entry. -/
theorem setAdrift_ent {s : State} {i : Nat} {e : NatEnt} (h : natEnt s i = some e) : natEnt (setAdrift s i) i = some { e with adrift := true } := by
  unfold setAdrift
  rw [h]
  dsimp only
  split
  case isTrue hset => rw [h, ← hset]
  case isFalse => rw [natEnt_of_book (book_event _ _ _ _ _ _), natEnt_of_book (book_snsCount _ _), natEnt_setNat_same, h]; rfl

theorem setAdrift_others (s : State) (i j : Nat) (h : j ≠ i) : natEnt (setAdrift s i) j = natEnt s j := by
  unfold setAdrift
  split
  · split
    · rfl
    · rw [natEnt_of_book (book_event _ _ _ _ _ _), natEnt_of_book (book_snsCount _ _), natEnt_setNat_other _ _ _ _ h]
  · rfl

/-- A window that closes without an accepted frame (R255). -/
def entMissed (e : NatEnt) : NatEnt := { e with missed := satAdd 8 e.missed 1 }

/-- Whether an empty window sets ADRIFT (R255). -/
def thirdMissed (e : NatEnt) : Bool := isSensor e && decide (3 ≤ e.missed + 1)

theorem windowClose_open {s : State} {i : Nat} {e : NatEnt} (he : natEnt s i = some e) (hserves : radServes s = true)
    (hserved : isSensor e = true → sensorServed s e.port ((radPort s e.port).asn.getD 0) i e = true) :
    windowClose s i = if thirdMissed e then setAdrift (setNat s i entMissed) i else setNat s i entMissed := by
  have hopen : ¬(!radServes s || (isSensor e && !sensorServed s e.port ((radPort s e.port).asn.getD 0) i e)) = true := by
    cases hsensor : isSensor e with
    | true => simp [hserves, hserved hsensor]
    | false => simp [hserves]
  unfold windowClose
  rw [he]
  exact if_neg hopen

/-- A window that closes empty is counted, and a sensor's third sets ADRIFT (R255). -/
theorem windowClose_counts {s : State} {i : Nat} {e : NatEnt} (he : natEnt s i = some e) (hserves : radServes s = true)
    (hserved : isSensor e = true → sensorServed s e.port ((radPort s e.port).asn.getD 0) i e = true) :
    natEnt (windowClose s i) i = some { e with missed := satAdd 8 e.missed 1, adrift := e.adrift || thirdMissed e } ∧
      ∀ j, j ≠ i → natEnt (windowClose s i) j = natEnt s j := by
  have hent : natEnt (setNat s i entMissed) i = some (entMissed e) := by rw [natEnt_setNat_same, he]; rfl
  have hothers : ∀ j, j ≠ i → natEnt (setNat s i entMissed) j = natEnt s j := fun j hj => natEnt_setNat_other s i j entMissed hj
  rw [windowClose_open he hserves hserved]
  cases hthird : thirdMissed e with
  | true =>
    rw [if_pos rfl, Bool.or_true]
    exact ⟨setAdrift_ent hent, fun j hj => (setAdrift_others _ i j hj).trans (hothers j hj)⟩
  | false =>
    rw [if_neg Bool.false_ne_true, Bool.or_false]
    exact ⟨hent, hothers⟩

theorem windowClose_pending (s : State) (i : Nat) : (windowClose s i).pending = s.pending :=
  KeepsAllBut.pending (m := Parts.all) (windowClose_keeps _ rfl rfl s i) rfl

theorem windowClose_unserved {s : State} {i : Nat} {e : NatEnt} (he : natEnt s i = some e) (hsensor : isSensor e = true)
    (hserved : sensorServed s e.port ((radPort s e.port).asn.getD 0) i e = false) : windowClose s i = s := by
  unfold windowClose
  rw [he]
  exact if_pos (by simp [hsensor, hserved])

/-- Settles O52: what RAD does in a cell leaves every port's ASN and armed ack, and what comes before a beacon leaves the record of
its beacons; the other rows follow what each sets in its port or entry. -/
theorem radioPortsFollowTheirStates : Obligations.RadioPortsFollowTheirStates := by
  unfold Obligations.RadioPortsFollowTheirStates
  refine ⟨fun s p x hslots hx => slotStart_done hslots hx, fun s p x hslots hx hserves halone hcell => ⟨?_, ?_⟩,
    fun s p x hx hoff hreset hfault => trxTmo_done hx hoff hreset hfault, fun s p x hx hfault => portRetry_done hx hfault,
    fun s p x hx hinit => trxDone_done hx hinit, fun s i e he hserves => ⟨fun hserved => ?_, fun hsensor hserved => ?_⟩⟩
  · exact slotBeacon_done hslots hx hserves halone hcell
  · exact slotWithheld_done hslots hx hserves halone hcell
  · exact done_of (u := windowClose s i) rfl (windowClose_pending s i) (windowClose_counts he hserves hserved)
  · exact done_of (u := windowClose s i) rfl (windowClose_pending s i) (windowClose_unserved he hsensor hserved)

end Sys2Proof.Machine
end
